-- ==== Sys2Proof/Word.lean ====
section
/-! DEFINITION. The word types of the module: bytes, the registers' bit patterns and the IEEE 754 bit patterns. -/

namespace Sys2Proof

/-- One byte of memory, of a frame or of a ZOA value. -/
abbrev Byte := BitVec 8

/-- A 16-bit half-word (lane and frame fields). -/
abbrev Half := BitVec 16

/-- A 32-bit word: one lane word, one core register, one CRC register. -/
abbrev Word := BitVec 32

/-- The bit pattern of an IEEE 754 binary32 value (type F32 of Table 15-1). -/
abbrev F32 := BitVec 32

/-- The bit pattern of an IEEE 754 binary64 value (type F64 of Table 15-1). -/
abbrev F64 := BitVec 64

end Sys2Proof
end

