-- ==== Sys2Proof/Syntax.lean ====
section
/-! DEFINITION. The commands of the module: one constructor for each row of spec/opcode_table.json, with the row's
operands (what the outside world brings: a writer and a value, received words or bytes, a measured quantity, or the
unit a timer belongs to). -/

namespace Sys2Proof

/-- The value of an object: a number (an F32 or F64 as its bit pattern, a TIME96 as seconds · 2⁴⁸ + nanoseconds · 2¹⁶
+ fraction), or the bytes of a STRING or DOMAIN. -/
inductive Val where
  | num (v : Int)
  | bytes (b : List Byte)
  deriving DecidableEq, Repr

/-- Who writes an object (R354): a ZOA session with the sequence number of its request, a task core, an instance of the
sequencer, or the pair partner under the role of the original writer. -/
inductive Writer where
  | session (slot : Fin 16) (seq : Nat)
  | core (c : Fin 8)
  | sequencer (inst : Nat)
  | mirror (role : Fin 5)
  deriving DecidableEq, Repr

/-- One entry of a write group: index, subindex, type code sent, value. -/
structure Entry where
  index : Nat
  sub   : Nat
  type  : Nat
  val   : Val
  deriving DecidableEq, Repr

/-- The CSRs of Table 11-3 that a core reads without stalling. -/
inductive TaskCsr where
  | ztpoll | ztarg | ztentry | zpref
  deriving DecidableEq, Repr

/-- What selects a PTP message for this module beside its type (R199): its domain number, and the VLAN identifier of its tag, 0
untagged. -/
structure PtpHdr where
  domain : Nat
  vlan   : Nat
  deriving DecidableEq, Repr

/-- Where and how a PTP message came in (R199). -/
structure PtpRx where
  port : Fin 4
  hdr  : PtpHdr
  deriving DecidableEq, Repr

/-- A part of a run that ends (R33, R167): how long after T_k, in ns, and the fabric clocks lost to corrected memory errors. -/
structure RunEnd where
  endNs  : Nat
  stalls : Nat
  deriving DecidableEq, Repr

/-- A cell and its own time of a happening there, in 125 ps (R79). -/
structure CellAt where
  cell : Fin 2048
  t    : Nat
  deriving DecidableEq, Repr

/-- A report of a phasor stream (R250): TAI second and number in it. -/
structure PhReport where
  stream : Fin 4
  sec    : Nat
  n      : Nat
  deriving DecidableEq, Repr

/-- Where a command frame went (R252, R253): the UDP port it came to and the IDCODE it names. -/
structure PhDest where
  udp    : Nat
  idcode : Nat
  deriving DecidableEq, Repr

/-- A read of `ztask` (R267, R268): whether an interrupt or a debug halt ends it, and whether it began in the core clock in which
the last one began. -/
structure TaskAsk where
  ended : Bool
  same  : Bool
  deriving DecidableEq, Repr

/-- A core's read of a CSR of Table 11-3. -/
structure CsrRead where
  core : Fin 8
  csr  : TaskCsr
  deriving DecidableEq, Repr

/-- How a safety frame came in (R316, R317): the port (0 A0, 1 A1, 2 B0, 3 B1), the receipt in 2⁻¹⁶ ns, and the bytes before the
PDU. -/
structure SafetyRx where
  port : Fin 4
  t    : Nat
  head : List Byte
  deriving DecidableEq, Repr

/-- What the MAC says of a raw frame (R206, R373): an FCS error, and an ingress timestamp lost as too late. -/
structure RawMarks where
  fcsError : Bool
  late     : Bool
  deriving DecidableEq, Repr

/-- The outcome of an arbitration (R412): whether the attempt wins, and its start of frame in 2⁻¹⁶ ns. -/
structure CanStart where
  won : Bool
  t   : Nat
  deriving DecidableEq, Repr

/-- A captured edge or level of a pin: 0 low, 1 high. -/
abbrev Level := Bool

/-- The identity a partner sends as a couple forms (R327): node, ordering code, `CYC_SPREAD_PPM`, `CYC_TC`, the PREF strap, the
hash of its firmware image, whether it is in CONFIG and in PAIR topology, and the cable delay measured. -/
structure PartnerId where
  node   : Nat
  order  : Nat
  spread : Nat
  tc     : Nat
  pref   : Bool
  hash   : List Byte
  config : Bool
  pair   : Bool
  delay  : F32
  deriving DecidableEq, Repr

/-- What the pair link brings in a cycle beside writes and checkpoints (R330, R332, R343): the partner's mode and readiness,
the run it last committed, its mean loopback delay of each strand in 125 ps, a new cable delay, frames that failed their
check, the command banks relayed for strands in split service, and the sequencer's instance data (instance, outputs with
their type, state, status). -/
structure PairStatus where
  mode    : Nat
  ready   : Bool
  lastRun : Nat
  loops   : List (Nat × Nat)
  delay   : Option F32
  errors  : Nat
  banks   : List (Nat × List (BitVec 48))
  seq     : List (Nat × List (Nat × Word) × List Int × Nat)
  deriving DecidableEq, Repr

/-- A checkpoint (R332): its run as second · C + cycle; of each instance states, outputs and flags; of each cell its position
in the ranked array and its dwell counter; of each repetitive channel the pointer and the slots written; of each arm group
state, carry and direction; of each supervision entry state, cause and hold cycles; the overrun counters and the epoch. -/
structure Checkpoint where
  run     : Nat
  insts   : List (Nat × List F64 × List F32 × Nat)
  cells   : List (Nat × Nat × Nat)
  reps    : List (Nat × Nat × List (Nat × F64))
  arms    : List (Nat × Nat × F32 × Int)
  svs     : List (Nat × Nat × Nat × Nat)
  ovrLoop : Nat
  ovrMod  : Nat
  ovrRow  : Nat
  epoch   : Nat
  deriving DecidableEq, Repr

/-- The commands. -/
inductive Instr where
  /-- CYCLE_BOUNDARY (R12). The time base reaches the next T_k; what the pair link brought in the cycle before. -/
  | cycleBoundary (partner : Option PairStatus)
  /-- STRAND_FRAME_RECEIVED (R48). The words received on a lane, from the sync word on, and the arrival of the sync
  word's first bit after T_k in 125 ps. -/
  | strandFrameReceived (lane : Fin 32) (words : List Word) (arrival : Nat)
  /-- LOOP_RUN_COMPLETE (R123). The end of the loop program. -/
  | loopRunComplete (run : RunEnd)
  /-- COMMIT_COMPLETE (R33). The modulation engine ends `modNs` after T_k; the end of the commit, with the clocks lost since the
  loop program. -/
  | commitComplete (modNs : Nat) (commit : RunEnd)
  /-- HEAL_WINDOW_EXPIRY (R91). -/
  | healWindowExpiry (strand : Fin 32)
  /-- LOS_ASSERT (R45). The amplitude seen, in mVppd. -/
  | losAssert (lane : Fin 32) (amplitude : Nat)
  /-- LOS_CLEAR (R45). The amplitude seen, in mVppd. -/
  | losClear (lane : Fin 32) (amplitude : Nat)
  /-- FREQUENCY_GATE_END (R46). The recovered word clocks counted over the gate. -/
  | frequencyGateEnd (lane : Fin 32) (count : Nat)
  /-- LANE_BITSLIP (R50). -/
  | laneBitslip (w : Writer) (lane : Fin 32) (v : Nat)
  /-- LANE_RX_INVERT (R50). -/
  | laneRxInvert (w : Writer) (lane : Fin 32) (v : Nat)
  /-- QUAD_PLL_UNLOCK (R61). -/
  | quadPllUnlock (quad : Fin 8)
  /-- QUAD_PLL_RELOCK (R61). -/
  | quadPllRelock (quad : Fin 8)
  /-- STR_ENUM_CMD (R89). -/
  | strEnumCmd (w : Writer) (v : Nat)
  /-- STR_MBX_REQ (R72). The 16 bytes p, OP, ADDR, DATA of the request. -/
  | strMbxReq (w : Writer) (strand : Fin 32) (bytes : List Byte)
  /-- JOIN_PROBE (R93). -/
  | joinProbe (strand : Fin 32)
  /-- CELL_JOIN (R93). -/
  | cellJoin (w : Writer) (cell : Fin 2048) (v : Nat)
  /-- CELL_FIRST_PASS (R73). A frame's words enter a cell on a port (`false` A, `true` B) at a local time in 125 ps;
  `vendor` is what a vendor register holds (R71). -/
  | cellFirstPass (cell : Fin 2048) (portB : Bool) (words : List Word) (tArr : Nat) (vendor : BitVec 64)
  /-- CELL_SECOND_PASS (R73). -/
  | cellSecondPass (cell : Fin 2048) (portB : Bool) (words : List Word) (tArr : Nat)
  /-- CELL_MBX_NOP (R70). Header and mailbox of the frame passing the cell. -/
  | cellMbxNop (cell : Fin 2048) (hdr mbx : BitVec 128)
  /-- CELL_MBX_READ (R70). Header and mailbox of the frame; `vendor` is what a vendor register holds (R71). -/
  | cellMbxRead (cell : Fin 2048) (hdr mbx : BitVec 128) (vendor : BitVec 64)
  /-- CELL_MBX_WRITE (R71). Header and mailbox of the frame. -/
  | cellMbxWrite (cell : Fin 2048) (hdr mbx : BitVec 128)
  /-- CELL_MBX_ASSIGN (R72). Header and mailbox of the frame. -/
  | cellMbxAssign (cell : Fin 2048) (hdr mbx : BitVec 128)
  /-- CELL_MBX_BAD_OP (R70). Header and mailbox of the frame, with a reserved operation code. -/
  | cellMbxBadOp (cell : Fin 2048) (hdr mbx : BitVec 128)
  /-- CELL_CMD_STEP (R78). The instant A_k at the cell; `detect` is the delay of the detected output transition. -/
  | cellCmdStep (cell : Fin 2048) (detect : Nat)
  /-- CELL_CMD_DELAYED (R78). The instant A_k + OFFSET at the cell. -/
  | cellCmdDelayed (cell : Fin 2048) (detect : Nat)
  /-- CELL_CMD_PULSE (R78). The instant A_k, or A_k + OFFSET when `atOffset`. -/
  | cellCmdPulse (cell : Fin 2048) (atOffset : Bool) (detect : Nat)
  /-- CELL_CMD_HOLD (R67). -/
  | cellCmdHold (cell : Fin 2048)
  /-- CLEAR_FAULT (R78). Whether the latched fault's cause is still present. -/
  | clearFault (cell : Fin 2048) (causePresent : Bool)
  /-- CLOSE_BYPASS (R78). The time at which it stands whether the bypass switch closes when fired. -/
  | closeBypass (fired : CellAt) (closes : Bool)
  /-- CELL_SAMPLE_INSTANT (R79). The capacitor voltage in 62.5 mV and the hottest temperature coded as TEMP. -/
  | cellSampleInstant (cell : Fin 2048) (vcap : Nat) (temp : Nat)
  /-- CELL_HOLD_TIMEOUT (R83). -/
  | cellHoldTimeout (seen : CellAt)
  /-- CELL_BLOCK_PATTERN_DETECT (R85). -/
  | cellBlockPatternDetect (seen : CellAt)
  /-- CELL_BLOCK_PATTERN_END (R85). -/
  | cellBlockPatternEnd (cell : Fin 2048)
  /-- CELL_PORT_DOWN (R76). `byDefect` when two defect words were the reason. -/
  | cellPortDown (cell : Fin 2048) (portB : Bool) (byDefect : Bool)
  /-- CELL_PORT_UP (R76). -/
  | cellPortUp (cell : Fin 2048) (portB : Bool)
  /-- TRAINING_PATTERN_RECEIVED (R49). The words received on a lane in TRAINING mode. -/
  | trainingPatternReceived (lane : Fin 32) (words : List Word)
  /-- CELL_FAULT_LATCH (R68). The fault code the cell detects. -/
  | cellFaultLatch (seen : CellAt) (code : Fin 256)
  /-- CELL_POWER_UP (R84). The registers the cell declares: UID, CAP0, CAP1, CAP2. -/
  | cellPowerUp (cell : Fin 2048) (uid cap0 cap1 cap2 : BitVec 64)
  /-- MOD_ARM_ENABLE (R101). -/
  | modArmEnable (w : Writer) (arm : Fin 2) (v : Nat)
  /-- LE_VALIDATE (R131). -/
  | leValidate (w : Writer) (v : Nat)
  /-- LE_RESET (R145). -/
  | leReset (w : Writer) (inst : Fin 512) (v : Nat)
  /-- LOCAL_GROUP_OPEN (R146). -/
  | localGroupOpen (core : Fin 8)
  /-- LOCAL_GROUP_SUBMIT (R146). -/
  | localGroupSubmit (core : Fin 8)
  /-- LOCAL_GROUP_DISCARD (R146). -/
  | localGroupDiscard (core : Fin 8)
  /-- LOCAL_WINDOW_STORE (R355). A store of a core at an address: its bytes (4 or 8 are allowed) and its data. -/
  | localWindowStore (core : Fin 8) (addr : Nat) (size : Nat) (v : BitVec 64)
  /-- LOCAL_WINDOW_DESCRIPTOR_LOAD (R356). A 64-bit load of a core at an address. -/
  | localWindowDescriptorLoad (core : Fin 8) (addr : Nat)
  /-- LE_LOCAL_STATUS_READ (R355). -/
  | leLocalStatusRead (core : Fin 8)
  /-- SV_HOLD_MAX_REACHED (R164). -/
  | svHoldMaxReached (entry : Fin 16)
  /-- SV_RECOVER (R164). -/
  | svRecover (entry : Fin 16)
  /-- REP_RELEASE (R160). -/
  | repRelease (ch : Fin 16)
  /-- REP_CLEAR (R161). -/
  | repClear (w : Writer) (ch : Fin 16) (v : Nat)
  /-- SUP_PEAK_CLEAR (R167). -/
  | supPeakClear (w : Writer) (v : Nat)
  /-- FILTER_OUTPUT (R175). The path, the grid index of the output, and the bits of its window, oldest first. -/
  | filterOutput (ch : Fin 32) (fine : Bool) (m : Nat) (bits : List Bool)
  /-- CLK_LOSS_ASSERT (R181). Clock 0–7 the own clock of a channel, 8–11 a group clock. -/
  | clkLossAssert (clk : Fin 12)
  /-- CLK_LOSS_CLEAR (R181). -/
  | clkLossClear (clk : Fin 12)
  /-- DATA_LOSS_ASSERT (R181). -/
  | dataLossAssert (ch : Fin 32)
  /-- DATA_LOSS_CLEAR (R181). -/
  | dataLossClear (ch : Fin 32)
  /-- PATH_SETTLED (R182). -/
  | pathSettled (ch : Fin 32)
  /-- DIAG_CONVERSION_END (R187). The unit and the value converted. -/
  | diagConversionEnd (unit : Fin 2) (v : F32)
  /-- DIAG_DELAY_EXPIRY (R188). -/
  | diagDelayExpiry (unit : Fin 2)
  /-- DIAG_RUN (R188). -/
  | diagRun (w : Writer) (v : Nat)
  /-- PTP_SYNC_RECEIVED (R202). Port, capture, one-step origin timestamp and correctionField, in 2⁻¹⁶ ns; a two-step
  Sync names its sequence and brings no origin. `log2` intervals are given as the Sync interval in ms. -/
  | ptpSyncReceived (rx : PtpRx) (gm : Nat) (twoStep : Bool) (seqId : Nat) (capture origin correction : Int)
      (intervalMs : Nat)
  /-- PTP_FOLLOW_UP_RECEIVED (R202). The precise origin timestamp and correctionField of a two-step Sync. -/
  | ptpFollowUpReceived (rx : PtpRx) (gm : Nat) (seqId : Nat) (origin correction : Int)
  /-- PTP_ANNOUNCE_RECEIVED (R201). The master's dataset, UTC offset and leap flags, traceability and inaccuracy. -/
  | ptpAnnounceReceived (rx : PtpRx) (gm : Nat) (priority1 clockClass accuracy variance priority2 stepsRemoved : Nat)
      (utcOffset : Int) (utcValid : Bool) (leap : Fin 3) (traceable : Bool) (inaccuracy : Nat)
  /-- PHASE_STEP (R196). A signed offset in 2⁻¹⁶ ns; `servo` names the cause, else TB_STEP or RTC_SET. -/
  | phaseStep (offset : Int) (servo : Bool)
  /-- PDELAY_REQ_SEND (R200). -/
  | pdelayReqSend (port : Fin 4)
  /-- PDELAY_REQ_RECEIVED (R200). Receive and transmit captures of request and answer, in 2⁻¹⁶ ns. -/
  | pdelayReqReceived (rx : PtpRx) (seqId : Nat) (t2 t3 : Int)
  /-- PDELAY_RESP_RECEIVED (R200). The captures t1 and t4 and the peer's times, in 2⁻¹⁶ ns; a one-step answer gives its
  turnaround in `correction`, a two-step answer gives t2 and t3. -/
  | pdelayRespReceived (rx : PtpRx) (twoStep : Bool) (t1 t2 t3 t4 correction : Int)
  /-- PDELAY_RESPONSE_TIMEOUT (R200). -/
  | pdelayResponseTimeout (port : Fin 4)
  /-- TRANSPARENT_CLOCK_FORWARD (R207). Message kind (0 Sync one-step, 1 Sync two-step, 2 Follow_Up, 3 other), ports, the
  captures and the correctionField, in 2⁻¹⁶ ns. -/
  | transparentClockForward (rx : PtpRx) (outPort : Fin 4) (kind : Fin 4) (seqId : Nat) (tRx tTx correction : Int)
  /-- TB_STEP (R196). -/
  | tbStep (w : Writer) (v : Int)
  /-- TB_ADDEND_SET (R195). -/
  | tbAddendSet (w : Writer) (v : Int)
  /-- RTC_SET (R212). -/
  | rtcSet (w : Writer) (v : Int)
  /-- RTC_DISCIPLINE (R212). The RTC's rate error over the preceding 64 s, in ppm as an F32. -/
  | rtcDiscipline (driftPpm : F32)
  /-- PG_PULSE (R208). -/
  | pgPulse (gen : Fin 4)
  /-- TSU_EDGE_CAPTURE (R210). An edge held for at least `width` ns, first seen at a time in 2⁻¹⁶ ns. -/
  | tsuEdgeCapture (unit : Fin 4) (rising : Bool) (width : Nat) (t : Nat)
  /-- TSU_FIFO_OUT (R210). A read by a session. -/
  | tsuFifoOut (slot : Fin 16) (seq : Nat) (unit : Fin 4)
  /-- TP_ARM (R222). -/
  | tpArm (w : Writer) (pool : Fin 4)
  /-- TP_STOP (R221). -/
  | tpStop (w : Writer) (pool : Fin 4)
  /-- TP_FORCE (R224). -/
  | tpForce (w : Writer) (pool : Fin 4)
  /-- TP_SAMPLE_WRITTEN (R221). The grid index of the sample, and whether the sample FIFO overflowed. -/
  | tpSampleWritten (pool : Fin 4) (m : Nat) (full : Bool)
  /-- TP_READY (R221). -/
  | tpReady (pool : Fin 4)
  /-- TP_AUTO_TIMEOUT (R223). -/
  | tpAutoTimeout (pool : Fin 4)
  /-- TP_RECORD_COMPLETE (R221). -/
  | tpRecordComplete (pool : Fin 4)
  /-- TP_RELEASE (R229). -/
  | tpRelease (w : Writer) (pool : Fin 4) (record : Nat)
  /-- TW_LOCAL_ARRIVAL (R232). The line and the record slot searched. -/
  | twLocalArrival (line : Fin 4) (record : Nat)
  /-- TW_REMOTE_IN (R233). -/
  | twRemoteIn (w : Writer) (line : Fin 4) (bytes : List Byte)
  /-- TW_SINGLE_ENDED_RESULT (R235). -/
  | twSingleEndedResult (line : Fin 4) (record : Nat)
  /-- TW_MATCH_TIMEOUT (R233). -/
  | twMatchTimeout (line : Fin 4) (isLocal : Bool)
  /-- PH_FRAME_READY (R250). The stream, the TAI second and the report instant n in it. -/
  | phFrameReady (stream : Fin 4) (sec n : Nat)
  /-- PH_FRAME_DROPPED (R250). -/
  | phFrameDropped (report : PhReport)
  /-- PH_CMD_DATA_OFF (R253). Where it went and the source address. -/
  | phCmdDataOff (dest : PhDest) (addr : List Byte)
  /-- PH_CMD_DATA_ON (R253). -/
  | phCmdDataOn (dest : PhDest) (addr : List Byte) (port : Nat)
  /-- PH_CMD_HEADER (R253). -/
  | phCmdHeader (dest : PhDest) (addr : List Byte) (port : Nat)
  /-- PH_CMD_CFG2 (R253). -/
  | phCmdCfg2 (dest : PhDest) (addr : List Byte) (port : Nat)
  /-- PH_CMD_CFG3 (R253). -/
  | phCmdCfg3 (dest : PhDest) (addr : List Byte) (port : Nat)
  /-- PH_CMD_IGNORED (R253). `chkOk` when the frame passes its checks but its CMD is not supported. -/
  | phCmdIgnored (dest : PhDest) (addr : List Byte) (chkOk : Bool)
  /-- TASK_ENABLE (R263). -/
  | taskEnable (w : Writer) (task : Fin 1024) (v : Nat)
  /-- TASK_TIME_RELEASE (R265). -/
  | taskTimeRelease (task : Fin 1024)
  /-- TASK_CYCLE_RELEASE (R265). -/
  | taskCycleRelease (task : Fin 1024)
  /-- ZTASK (R267). -/
  | ztask (core : Fin 8) (ask : TaskAsk)
  /-- TASK_GRANT (R267). The latency of the grant in ns. -/
  | taskGrant (latency : Nat)
  /-- PREFETCH_SLOT_FILL (R269). -/
  | prefetchSlotFill (core : Fin 8)
  /-- ZTPOLL (R269). -/
  | ztpoll (read : CsrRead)
  /-- ZPREF (R269). -/
  | zpref (core : Fin 8) (v : Word)
  /-- PREFETCH_RECLAIM (R269). -/
  | prefetchReclaim (core : Fin 8)
  /-- ZDONE (R271). -/
  | zdone (core : Fin 8) (status : Word)
  /-- ZTRACE (R268). -/
  | ztrace (core : Fin 8) (v : Word)
  /-- ZSEV (R268). -/
  | zsev (core : Fin 8) (v : Word)
  /-- TASK_DEADLINE_MISS (R272). -/
  | taskDeadlineMiss (task : Fin 1024)
  /-- TASK_OVER_BUDGET (R272). -/
  | taskOverBudget (task : Fin 1024)
  /-- CORE_WATCHDOG (R272). -/
  | coreWatchdog (core : Fin 8)
  /-- TL_DATA (R275). A read by a session. -/
  | tlData (slot : Fin 16) (seq : Nat)
  /-- SEQ_SCAN (R280). The duration of the scan in ns. -/
  | seqScan (durNs : Nat)
  /-- SEQ_VALIDATE (R290). -/
  | seqValidate (w : Writer)
  /-- SEQ_START (R294). -/
  | seqStart (w : Writer)
  /-- SEQ_STOP (R294). -/
  | seqStop (w : Writer)
  /-- SEQ_EXCHANGE (R295). -/
  | seqExchange (w : Writer)
  /-- STATION_TIMEOUT (R292). -/
  | stationTimeout (station : Fin 32)
  /-- BW_CAUSE_ACTIVE (R304). The cause of Table 13-1 and, for a trip input, its pins: bit 0 A, bit 1 B. -/
  | bwCauseActive (cause : Fin 16) (pins : Fin 4)
  /-- GLITCH_REJECTED (R302). The input (0–7 comparators, 8–11 trip inputs) and the width of the pulse in ns. -/
  | glitchRejected (input : Fin 12) (width : Nat)
  /-- TRIPIN_DISCREPANCY (R301). The input and the pins that are active. -/
  | tripinDiscrepancy (n : Fin 4) (pins : Fin 4)
  /-- BLOCK_PIN_READBACK_MISMATCH (R305). The levels read back: bit 0 A, bit 1 B. -/
  | blockPinReadbackMismatch (levels : Fin 4)
  /-- GUARD_CROSS_CHECK (R307). A lane that is not OFF misses the block pattern; a BLOCK pin reads high. -/
  | guardCrossCheck (laneMissing pinHigh : Bool)
  /-- GUARD_PARAM_CHECK (R307). Whether the Breakwater settings equal the active set. -/
  | guardParamCheck (same : Bool)
  /-- GUARD_RC_CLOCK_CHECK (R307). The oscillator's frequency in kHz. -/
  | guardRcClockCheck (khz : Nat)
  /-- BW_LOR (R309). -/
  | bwLor (w : Writer) (v : Nat)
  /-- LOR_N_PULSE (R310). How long LOR_N was low, and how long it was high before, in ms. -/
  | lorNPulse (lowMs highMs : Nat)
  /-- POWER_UP_RELEASE (R312). Whether the active set's CRC-32 holds. -/
  | powerUpRelease (crcOk : Bool)
  /-- BW_SET_ACTIVATE (R313). -/
  | bwSetActivate (w : Writer) (v : Nat)
  /-- BW_TEST (R314). -/
  | bwTest (w : Writer) (v : Nat)
  /-- SAFETY_HEARTBEAT_SEND (R316). How long after its instant the frame leaves, in ns. -/
  | safetyHeartbeatSend (lateNs : Nat)
  /-- SAFETY_FRAME_RECEIVED (R317). How it came in, and the 36 bytes of its PDU. -/
  | safetyFrameReceived (rx : SafetyRx) (pdu : List Byte)
  /-- SAFETY_WINDOW_EXPIRY (R318). -/
  | safetyWindowExpiry (sub : Fin 16)
  /-- SUBSCRIPTION_LOST (R319). -/
  | subscriptionLost (sub : Fin 16)
  /-- COUPLE_FORMATION (R327). The partner's identity as exchanged. -/
  | coupleFormation (partner : PartnerId)
  /-- CHECKPOINT_RECEIVED (R332). -/
  | checkpointReceived (cp : Checkpoint)
  /-- MIRRORED_WRITE (R334). The original writer's role, the entries, and the apply second and cycle reported. -/
  | mirroredWrite (role : Fin 5) (entries : List Entry) (sec cycle : Nat)
  /-- PAIR_LINK_LANE_CHANGE (R330). -/
  | pairLinkLaneChange (lane : Fin 2) (up : Bool)
  /-- SPLIT_SERVICE_START (R343). -/
  | splitServiceStart (strand : Fin 32)
  /-- SPLIT_SERVICE_END (R343). -/
  | splitServiceEnd (strand : Fin 32)
  /-- EXERCISE_DWELL_END (R346). `PR_LAST_GAP` of the partner's takeover. -/
  | exerciseDwellEnd (gap : Nat)
  /-- HELLO (R363). A request from an address (18 bytes) with its sequence number. -/
  | hello (addr : List Byte) (seq : Nat)
  /-- PEER_HELLO_RECEIVED (R363). The identity block (48 bytes) and the sender's address (16 bytes). -/
  | peerHelloReceived (block addr : List Byte)
  /-- PEER_AGE_OUT (R363). -/
  | peerAgeOut (node : Nat)
  /-- LOGIN_CHALLENGE (R365). The request's payload (36 bytes), the arrival port and the sender's address (18 bytes). -/
  | loginChallenge (payload : List Byte) (port : Fin 4) (addr : List Byte) (seq : Nat)
  /-- LOGIN_PROOF (R365). The 32-byte proof. -/
  | loginProof (slot : Fin 16) (seq : Nat) (proof : List Byte)
  /-- LOGIN_TIMEOUT (R366). -/
  | loginTimeout (slot : Fin 16)
  /-- READ (R360). The request's payload. -/
  | read (slot : Fin 16) (seq : Nat) (payload : List Byte)
  /-- WRITE (R368). The request's payload: one value entry. -/
  | write (slot : Fin 16) (seq : Nat) (payload : List Byte)
  /-- READ_LIST (R360). The request's payload. -/
  | readList (slot : Fin 16) (seq : Nat) (payload : List Byte)
  /-- WRITE_GROUP (R368). The request's payload. -/
  | writeGroup (slot : Fin 16) (seq : Nat) (payload : List Byte)
  /-- SUBSCRIBE (R372). The request's payload. -/
  | subscribe (slot : Fin 16) (seq : Nat) (payload : List Byte)
  /-- PUSH (R372). The period or comparison instant of a subscription. -/
  | push (slot : Fin 16) (sub : Nat)
  /-- EVENT (R372). The sending instant of an EVENTS subscription. -/
  | event (slot : Fin 16) (sub : Nat)
  /-- DOMAIN_OPEN (R371). The request's payload. -/
  | domainOpen (slot : Fin 16) (seq : Nat) (payload : List Byte)
  /-- DOMAIN_BLOCK (R371). The request's payload. -/
  | domainBlock (slot : Fin 16) (seq : Nat) (payload : List Byte)
  /-- DOMAIN_END (R371). The request's payload. -/
  | domainEnd (slot : Fin 16) (seq : Nat) (payload : List Byte)
  /-- DOMAIN_ABORT (R371). The request's payload. -/
  | domainAbort (slot : Fin 16) (seq : Nat) (payload : List Byte)
  /-- DOMAIN_TRANSFER_TIMEOUT (R371). -/
  | domainTransferTimeout (id : Nat)
  /-- CLOSE (R366). -/
  | close (slot : Fin 16) (seq : Nat)
  /-- SESSION_IDLE_TIMEOUT (R366). -/
  | sessionIdleTimeout (slot : Fin 16)
  /-- TAG_FAILURE (R359). -/
  | tagFailure (slot : Fin 16)
  /-- OBJECT_WRITE (R351). A write to one object. -/
  | objectWrite (w : Writer) (e : Entry)
  /-- RAW_FRAME_RECEIVED (R373). The arrival port, the frame's bytes and its ingress capture in 2⁻¹⁶ ns. -/
  | rawFrameReceived (port : Fin 4) (frame : List Byte) (capture : Int) (marks : RawMarks)
  /-- HOST_RAW_TX_TAIL (R373). -/
  | hostRawTxTail (w : Writer) (v : Nat)
  /-- FW_ACTIVATE (R374). -/
  | fwActivate (w : Writer) (v : Nat)
  /-- SEC_DEBUG_UNLOCK (R367). -/
  | secDebugUnlock (w : Writer) (v : Nat)
  /-- FIELD_DIE_FRAME (R383). The sampled levels, the readback, L+ in V and the channels in current limit. -/
  | fieldDieFrame (levels readback : BitVec 16) (lplus : F32) (limit : BitVec 16)
  /-- INPUT_DEBOUNCE_EXPIRY (R384). -/
  | inputDebounceExpiry (ch : Fin 16)
  /-- OUTPUT_DISAGREEMENT (R387). -/
  | outputDisagreement (ch : Fin 16)
  /-- OUTPUT_THERMAL_SHUTDOWN (R386). -/
  | outputThermalShutdown (ch : Fin 16)
  /-- OUTPUT_RETRY (R386). -/
  | outputRetry (ch : Fin 16)
  /-- FIO_SURVEY (R388). -/
  | fioSurvey (w : Writer) (v : Nat)
  /-- SURVEY_CHANNEL_DONE (R388). The voltages before and under the test current. -/
  | surveyChannelDone (before after : F32)
  /-- FIO_OUT_ENABLE (R389). -/
  | fioOutEnable (w : Writer) (v : Nat)
  /-- FIO_APP_KICK (R389). -/
  | fioAppKick (w : Writer) (v : Nat)
  /-- FIO_OUT (R385). -/
  | fioOut (w : Writer) (v : Nat)
  /-- PWM_PERIOD_START (R397). The timer, and for a centre timer whether this is the top of its count. -/
  | pwmPeriodStart (timer : Fin 10) (top : Bool)
  /-- PWM_COMPARE_EDGE (R394). `deadTimeEnd` when the edge is the end of a dead time. -/
  | pwmCompareEdge (timer : Fin 10) (deadTimeEnd : Bool)
  /-- PWM_TRIP (R399). A trip pin and its level. -/
  | pwmTrip (pin : Fin 2) (active : Bool)
  /-- PWM_TRIP_CLEAR (R400). -/
  | pwmTripClear (w : Writer) (v : Nat)
  /-- PWM_MASK_APPLY (R398). -/
  | pwmMaskApply (w : Writer) (set : Fin 4)
  /-- PWM_MASK_RELEASE (R398). -/
  | pwmMaskRelease (w : Writer) (set : Fin 4)
  /-- PWM_COMMIT (R397). -/
  | pwmCommit (w : Writer) (timer : Fin 10) (v : Nat)
  /-- PWM_ENABLE (R394). -/
  | pwmEnable (w : Writer) (v : Nat)
  /-- PWM_SPLIT (R397). -/
  | pwmSplit (w : Writer) (v : Nat)
  /-- CAN_BUS_INTEGRATION (R406). -/
  | canBusIntegration (ctl : Fin 2)
  /-- CAN_FRAME_RECEIVED (R410). The time of its start in 2⁻¹⁶ ns, its identifier word, flags and data. -/
  | canFrameReceived (ctl : Fin 2) (t id flags : Nat) (data : List Byte)
  /-- CAN_TX (R412). The 72 bytes of the request. -/
  | canTx (w : Writer) (ctl : Fin 2) (bytes : List Byte)
  /-- CAN_ARBITRATION (R412). -/
  | canArbitration (ctl : Fin 2) (start : CanStart)
  /-- CAN_ATTEMPT_END (R413). The error of Table 17-4, whether TEC stays, and the loop delay measured. -/
  | canAttemptEnd (ctl : Fin 2) (err : Fin 16) (exempt : Bool) (loop : Option Nat)
  /-- CAN_TX_TIMEOUT (R412). -/
  | canTxTimeout (ctl : Fin 2) (buf : Fin 32)
  /-- CAN_TX_ABORT (R412). -/
  | canTxAbort (w : Writer) (ctl : Fin 2) (v : Nat)
  /-- CAN_RECOVER (R415). -/
  | canRecover (w : Writer) (ctl : Fin 2) (v : Nat)
  /-- CAN_RECOVERY_COMPLETE (R415). -/
  | canRecoveryComplete (ctl : Fin 2)
  /-- CAN_TX_DONE (R413). A read by a session. -/
  | canTxDone (slot : Fin 16) (seq : Nat) (ctl : Fin 2)
  /-- CAN_RX_DATA (R411). A read by a session. -/
  | canRxData (slot : Fin 16) (seq : Nat) (ctl : Fin 2)
  /-- CAN_RECEIVE_ERROR (R414). A protocol exception, and whether REC rises by eight. -/
  | canReceiveError (ctl : Fin 2) (exception byEight : Bool)
  /-- ZIPEND_CLEAR (R423). A core writes a value to `zipend0` or `zipend1`. -/
  | zipendClear (core : Fin 8) (high : Bool) (v : Word)
  /-- MODE_REQ_CONFIG (R426). -/
  | modeReqConfig (w : Writer)
  /-- MODE_REQ_CHARGE (R426). -/
  | modeReqCharge (w : Writer)
  /-- MODE_REQ_READY (R426). -/
  | modeReqReady (w : Writer)
  /-- MODE_REQ_RUN (R426). -/
  | modeReqRun (w : Writer)
  /-- FM_ACK_ONE (R433). -/
  | fmAckOne (w : Writer) (number : Nat)
  /-- FM_ACK_ALL (R433). -/
  | fmAckAll (w : Writer)
  /-- FM_FIRST_CLEAR (R432). -/
  | fmFirstClear (w : Writer) (v : Nat)
  /-- SYS_RELEASE (R436). -/
  | sysRelease (w : Writer) (v : Nat)
  /-- SYS_RESET (R428). -/
  | sysReset (w : Writer) (v : Nat)
  /-- SYS_CONFIG_SAVE (R427). -/
  | sysConfigSave (w : Writer) (v : Nat)
  /-- RESET_RELEASE (R444). The levels of the strap balls PREF, LOR_STRAP and TEST. -/
  | resetRelease (pref lorStrap test : Level)
  /-- BOOT_COMPLETE (R427). The results of the boot sequence: the slot verified, the self-test bits, whether the stored
  configuration's CRC holds, the RTC's validity and value in 1/32,768 s, and the boot's duration in ms. -/
  | bootComplete (slotOk : Bool) (selfTest : BitVec 16) (rtcValid : Bool) (rtc : Nat) (ms : Nat)
  /-- DMA_TRANSFER_END (R270). -/
  | dmaTransferEnd (ch : Fin 2)
  /-- BW_CAUSE_INACTIVE (R303). -/
  | bwCauseInactive (cause : Fin 16)
  /-- ETH_LINK_CHANGE (R450). The port, the link, and whether the verify of IEEE 802.3br succeeded. -/
  | ethLinkChange (port : Fin 4) (up verified : Bool)
  /-- LOOP_ENGINE_START (R25). The instant t_in of the present cycle. -/
  | loopEngineStart
  /-- ENUMERATION_COMPLETE (R90). -/
  | enumerationComplete
  /-- PTP_SYNC_TIMEOUT (R197). -/
  | ptpSyncTimeout
  /-- HOLDOVER_LIMIT_EXCEEDED (R197). -/
  | holdoverLimitExceeded
  /-- RTC_OSC_STOP (R211). -/
  | rtcOscStop
  /-- VBAT_LOW (R211). -/
  | vbatLow
  /-- LEAP_APPLY (R214). -/
  | leapApply
  /-- PH_UNLOCK_STOP (R255). -/
  | phUnlockStop
  /-- COMPLETION_ACCEPTED (R270). -/
  | completionAccepted
  /-- INJECTION_END (R305). -/
  | injectionEnd
  /-- GUARD_HEARTBEAT_LOSS (R303). -/
  | guardHeartbeatLoss
  /-- LOR_N_TOO_LONG (R310). -/
  | lorNTooLong
  /-- LOR_WINDOW_EXPIRY (R310). -/
  | lorWindowExpiry
  /-- ARB_ACT_RISE (R335). -/
  | arbActRise
  /-- CHECKPOINT_LOAD_COMPLETE (R337). -/
  | checkpointLoadComplete
  /-- ARB_ACT_FALL (R328). -/
  | arbActFall
  /-- REVERT_REQUEST (R345). -/
  | revertRequest
  /-- EXERCISE_START (R346). -/
  | exerciseStart
  /-- EXERCISE_NOT_GRANTED (R346). -/
  | exerciseNotGranted
  /-- HELLO_PERIODIC (R363). -/
  | helloPeriodic
  /-- NODE_CONFLICT_CLEAR (R364). -/
  | nodeConflictClear
  /-- LOG_RECORD_PROGRAMMED (R377). -/
  | logRecordProgrammed
  /-- FW_ROLLBACK_RAISE (R374). -/
  | fwRollbackRaise
  /-- SURVEY_ABORT (R388). -/
  | surveyAbort
  /-- SAG (R389). -/
  | sag
  /-- FIELD_LINK_LOSS (R389). -/
  | fieldLinkLoss
  /-- APP_WDT_EXPIRY (R389). -/
  | appWdtExpiry
  /-- LPLUS_LOW_WARN (R390). -/
  | lplusLowWarn
  /-- LPLUS_RECOVER (R390). -/
  | lplusRecover
  /-- PRP_SUPERVISION_SEND (R357). -/
  | prpSupervisionSend
  /-- SOFTWARE_RESET_ACT (R428). -/
  | softwareResetAct
  /-- POWER_ON (R428). -/
  | powerOn
  /-- SUPPLY_RESET (R442). -/
  | supplyReset
  /-- PIN_RESET (R428). -/
  | pinReset
  /-- REFCLK_LOSS (R456). -/
  | refclkLoss
  /-- TIMECLK_LOSS (R456). -/
  | timeclkLoss
  /-- REFCLK_RETURN (R456). -/
  | refclkReturn
  /-- TIMECLK_RETURN (R456). -/
  | timeclkReturn
  deriving DecidableEq, Repr

end Sys2Proof
end

