-- ==== Sys2Proof/Decode.lean ====
section
/-! DEFINITION. The words of the opcode table. The table of this block gives its rows no bits: the rows are events, bus
requests and register accesses, so that no word spells a command. -/

namespace Sys2Proof

/-- The command that a word spells by the table's bits: none, since no row of the table gives bits. (DESIGN CHOICE: assumption
log 5) -/
def decodeTableWord (_nbits _w : Nat) : Option Instr := none

end Sys2Proof
end

