-- ==== Sys2Proof/Config.lean ====
section
/-! DEFINITION. The free values: constants without a body for what the manual leaves open. Nothing can be proved of a
value of one of them, so a statement about the model holds whatever they are (assumption log 1). -/

namespace Sys2Proof.Config

/-- A fresh free value for each count of the state's counter `free`: the launch offset λ of a frame (R70), the nonces of a
login (R365) and the others the log names. (DESIGN CHOICE: assumption log 1) -/
opaque freeValue : Nat → Nat

/-- The errors that the manual leaves open of the elementary functions, which the model computes but for them: the absolute
error of the engine's sine and cosine (R133), which it bounds by 2⁻²², and the last place of a coefficient computed in
binary64 (R124). (DESIGN CHOICE: assumption log 7) -/
opaque trigError : Nat → F64 → Int
opaque coefError : Nat → F64 → Int

/-- The engine's sine and cosine of an argument beyond 65,536 rad, whose error R133 does not bound, and the angle of a
phasor of magnitude 0 (R247). (DESIGN CHOICE: assumption log 7) -/
opaque farAngle : Nat → F64 → F64
opaque angleOfZero : F64 → F64 → F64

/-- Whether an ECDSA P-256 signature of a firmware image verifies against the fused key (R374). (DESIGN CHOICE: assumption log
63) -/
opaque signatureOk : List Byte → Bool

/-- The security version (0–63) and the version text a firmware image's header carries (R374: the manual does not lay the
header out). (DESIGN CHOICE: assumption log 63) -/
opaque imageVersion : List Byte → Nat
opaque imageText : List Byte → List Byte

/-- The source number of an event, or of a fault record by its code, for which the manual names no number to write: the
overruns, the re-anchored grids, what concerns the whole module (R323, R349, R379, R404, Table 18-1, Table 18-11). (DESIGN
CHOICE: assumption log 6) -/
opaque openSource : Nat → Nat

/-- Where the bytes of a DOMAIN that a core reads in place lie in DRAM, by the object's key (R356: the manual gives no address).
(DESIGN CHOICE: assumption log 82) -/
opaque domainAt : Nat → Nat

/-- What the vendor's range 0xC000–0xFFFF holds (R460): 0 no index, 1 no subindex, 2 an object. -/
opaque serviceObject : Nat → Nat → Nat

/-- The integral the PTP servo sets after a step from the offsets of the next two Syncs (2⁻¹⁶ ns) and the Sync interval in
ms, in ppb (R202: the manual does not state the formula). (DESIGN CHOICE: assumption log 87) -/
opaque servoIntegral : Int → Int → Nat → F64

end Sys2Proof.Config
end

