-- ==== Sys2Proof/Machine/Float.lean ====
section
/-! DEFINITION. IEEE 754 arithmetic of the module (R124): binary32 with results below 2⁻¹²⁶ flushed to zero,
subnormal inputs read as zero and the one quiet NaN 0x7FC0_0000; binary64 with subnormal values kept. Every operation
is computed exactly on integers and rounded once, to nearest with ties to even. (DESIGN CHOICE: assumption log 7, DEDUCED: assumption log 31) -/

namespace Sys2Proof

/-- What a bit pattern stands for: a NaN, a signed infinity, or the exact number (−1)^neg · m · 2^e. -/
inductive FVal where
  | nan
  | inf (neg : Bool)
  | fin (neg : Bool) (m : Nat) (e : Int)
  deriving DecidableEq, Repr

/-- An IEEE 754 binary format: exponent bits, fraction bits, and whether subnormal values read and write as zero. -/
structure FFmt where
  eb  : Nat
  mb  : Nat
  ftz : Bool
  deriving DecidableEq, Repr

/-- Signals, parameters and outputs of the loop engine (R124). -/
def FFmt.b32 : FFmt := { eb := 8, mb := 23, ftz := true }

/-- Binary32 outside the loop engine's flush rule: a stored value read as it stands. -/
def FFmt.b32s : FFmt := { eb := 8, mb := 23, ftz := false }

/-- Block state of the loop engine (R124). -/
def FFmt.b64 : FFmt := { eb := 11, mb := 52, ftz := false }

/-- The exponent bias. -/
def FFmt.bias (f : FFmt) : Int := 2 ^ (f.eb - 1) - 1

/-- The exponent of the least subnormal unit. -/
def FFmt.emin (f : FFmt) : Int := 1 - f.bias - f.mb

/-- Read a bit pattern. -/
def FFmt.unpack (f : FFmt) (w : Nat) : FVal :=
  let neg := (w / 2 ^ (f.eb + f.mb)) % 2 == 1
  let ex := (w / 2 ^ f.mb) % 2 ^ f.eb
  let fr := w % 2 ^ f.mb
  if ex = 2 ^ f.eb - 1 then (if fr = 0 then .inf neg else .nan)
  else if ex = 0 then .fin neg (if f.ftz then 0 else fr) f.emin
  else .fin neg (2 ^ f.mb + fr) (f.emin + ex - 1)

/-- The sign bit in place. -/
def FFmt.sgn (f : FFmt) (neg : Bool) : Nat := if neg then 2 ^ (f.eb + f.mb) else 0

/-- The quiet NaN. -/
def FFmt.qnan (f : FFmt) : Nat := (2 ^ (f.eb + 1) - 1) * 2 ^ (f.mb - 1)

/-- The infinity of a sign. -/
def FFmt.infinity (f : FFmt) (neg : Bool) : Nat := f.sgn neg + (2 ^ f.eb - 1) * 2 ^ f.mb

/-- Round half to even: m / 2^sh, where `sticky` says that the exact value lies above m. -/
def roundShift (m sh : Nat) (sticky : Bool) : Nat :=
  if sh = 0 then m else
    let q := m / 2 ^ sh
    let r := m % 2 ^ sh
    let h := 2 ^ (sh - 1)
    if r > h then q + 1
    else if r = h then (if sticky || q % 2 == 1 then q + 1 else q)
    else q

/-- Round (−1)^neg · (m plus a part of a unit when `sticky`) · 2^e into the format. -/
def FFmt.round (f : FFmt) (neg : Bool) (m : Nat) (e : Int) (sticky : Bool) : Nat :=
  if m = 0 then f.sgn neg else
    let bits : Int := Nat.log2 m + 1
    let q := max (e + bits - (f.mb + 1)) f.emin
    let m1 := if q ≤ e then m * 2 ^ (e - q).toNat else roundShift m (q - e).toNat sticky
    let carried := m1 == 2 ^ (f.mb + 1)
    let m2 := if carried then 2 ^ f.mb else m1
    let q2 := if carried then q + 1 else q
    if m2 < 2 ^ f.mb then (if f.ftz then f.sgn neg else f.sgn neg + m2)
    else
      let ex := q2 - f.emin + 1
      if ex ≥ 2 ^ f.eb - 1 then f.infinity neg
      else f.sgn neg + ex.toNat * 2 ^ f.mb + (m2 - 2 ^ f.mb)

/-- Write a value. -/
def FFmt.pack (f : FFmt) : FVal → Nat
  | .nan => f.qnan
  | .inf n => f.infinity n
  | .fin n m e => f.round n m e false

/-- The signed integer mantissa. -/
def signedMant (neg : Bool) (m : Nat) : Int := if neg then -(m : Int) else m

/-- Exact sum of two values (round to nearest: a zero sum of unlike signs is +0). -/
def FVal.add : FVal → FVal → FVal
  | .nan, _ => .nan
  | _, .nan => .nan
  | .inf a, .inf b => if a == b then .inf a else .nan
  | .inf a, _ => .inf a
  | _, .inf b => .inf b
  | .fin n1 m1 e1, .fin n2 m2 e2 =>
    let e := min e1 e2
    let s := signedMant n1 (m1 * 2 ^ (e1 - e).toNat) + signedMant n2 (m2 * 2 ^ (e2 - e).toNat)
    if s = 0 then .fin (n1 && n2) 0 e else .fin (s < 0) s.natAbs e

/-- The value with its sign changed. -/
def FVal.neg : FVal → FVal
  | .nan => .nan
  | .inf a => .inf (!a)
  | .fin n m e => .fin (!n) m e

/-- Exact product of two values. -/
def FVal.mul : FVal → FVal → FVal
  | .nan, _ => .nan
  | _, .nan => .nan
  | .inf a, .inf b => .inf (a != b)
  | .inf a, .fin n m _ => if m = 0 then .nan else .inf (a != n)
  | .fin n m _, .inf b => if m = 0 then .nan else .inf (n != b)
  | .fin n1 m1 e1, .fin n2 m2 e2 => .fin (n1 != n2) (m1 * m2) (e1 + e2)

/-- Order of two numbers; none when either is a NaN. -/
def FVal.cmp : FVal → FVal → Option Ordering
  | .nan, _ => none
  | _, .nan => none
  | .inf a, .inf b => some (compare (if a then (0 : Nat) else 1) (if b then 0 else 1))
  | .inf a, .fin _ _ _ => some (if a then .lt else .gt)
  | .fin _ _ _, .inf b => some (if b then .gt else .lt)
  | .fin n1 m1 e1, .fin n2 m2 e2 =>
    let e := min e1 e2
    some (compare (signedMant n1 (m1 * 2 ^ (e1 - e).toNat)) (signedMant n2 (m2 * 2 ^ (e2 - e).toNat)))

/-- Integer square root by bits from the top (`k` bits of root). -/
def isqrt : Nat → Nat → Nat → Nat
  | 0, _, r => r
  | k + 1, n, r => if (r + 2 ^ k) * (r + 2 ^ k) ≤ n then isqrt k n (r + 2 ^ k) else isqrt k n r

/-- Quotient, rounded once into a format. -/
def FFmt.divV (f : FFmt) : FVal → FVal → Nat
  | .nan, _ => f.qnan
  | _, .nan => f.qnan
  | .inf _, .inf _ => f.qnan
  | .inf a, .fin n _ _ => f.infinity (a != n)
  | .fin n _ _, .inf b => f.sgn (n != b)
  | .fin n1 m1 e1, .fin n2 m2 e2 =>
    if m2 = 0 then (if m1 = 0 then f.qnan else f.infinity (n1 != n2))
    else if m1 = 0 then f.sgn (n1 != n2)
    else
      let k := f.mb + 4 + Nat.log2 m2
      let a := m1 * 2 ^ k
      f.round (n1 != n2) (a / m2) (e1 - e2 - k) (a % m2 != 0)

/-- Square root, rounded once into a format; of a negative number, the quiet NaN. -/
def FFmt.sqrtV (f : FFmt) : FVal → Nat
  | .nan => f.qnan
  | .inf true => f.qnan
  | .inf false => f.infinity false
  | .fin n m e =>
    if m = 0 then f.sgn n
    else if n then f.qnan
    else
      let k0 := 2 * (f.mb + 4)
      let k := if (e - k0) % 2 = 0 then k0 else k0 + 1
      let a := m * 2 ^ k
      let r := isqrt (Nat.log2 a / 2 + 1) a 0
      f.round false r ((e - k) / 2) (r * r != a)

/-- The integer part of a number towards minus infinity; 0 for a NaN or infinity. -/
def FVal.floor : FVal → Int
  | .fin n m e => if 0 ≤ e then signedMant n (m * 2 ^ e.toNat) else Int.fdiv (signedMant n m) (2 ^ (-e).toNat)
  | _ => 0

/-- The nearest integer, ties to even; 0 for a NaN or infinity. -/
def FVal.nearest : FVal → Int
  | .fin n m e => if 0 ≤ e then signedMant n (m * 2 ^ e.toNat) else signedMant n (roundShift m (-e).toNat false)
  | _ => 0

/-- Whether the value is a number. -/
def FVal.isFinite : FVal → Bool
  | .fin _ _ _ => true
  | _ => false

/-- An exact integer. -/
def FVal.ofInt (i : Int) : FVal := .fin (i < 0) i.natAbs 0

/-- An exact scaled integer i · 2^e. -/
def FVal.ofScaled (i : Int) (e : Int) : FVal := .fin (i < 0) i.natAbs e

namespace F32

/-- The value of a binary32 pattern under R124 (subnormals read as zero). -/
def val (x : F32) : FVal := FFmt.b32.unpack x.toNat
/-- Round a value to binary32 under R124. -/
def ofVal (v : FVal) : F32 := BitVec.ofNat 32 (FFmt.b32.pack v)
def qnan : F32 := 0x7FC00000#32
def zero : F32 := 0#32
def one : F32 := 0x3F800000#32
def add (x y : F32) : F32 := ofVal ((val x).add (val y))
def neg (x : F32) : F32 := ofVal (val x).neg
def sub (x y : F32) : F32 := ofVal ((val x).add (val y).neg)
def mul (x y : F32) : F32 := ofVal ((val x).mul (val y))
/-- x·y + z, rounded once. -/
def fma (x y z : F32) : F32 := ofVal (((val x).mul (val y)).add (val z))
def div (x y : F32) : F32 := BitVec.ofNat 32 (FFmt.b32.divV (val x) (val y))
def sqrt (x : F32) : F32 := BitVec.ofNat 32 (FFmt.b32.sqrtV (val x))
def abs (x : F32) : F32 := match val x with
  | .nan => qnan
  | .inf _ => 0x7F800000#32
  | .fin _ m e => ofVal (.fin false m e)
def ofInt (i : Int) : F32 := ofVal (FVal.ofInt i)
def isFinite (x : F32) : Bool := (val x).isFinite
def lt (x y : F32) : Bool := (val x).cmp (val y) == some .lt
def le (x y : F32) : Bool := lt x y || (val x).cmp (val y) == some .eq
def gt (x y : F32) : Bool := lt y x
def ge (x y : F32) : Bool := le y x
def eq (x y : F32) : Bool := (val x).cmp (val y) == some .eq
/-- A pattern as the engine reads it (R124): a subnormal as a zero of its sign, a NaN as the one quiet NaN. -/
def canon (x : F32) : F32 := ofVal (val x)
def isNeg (x : F32) : Bool := lt x zero
def isZero (x : F32) : Bool := eq x zero
def max (x y : F32) : F32 := if lt x y then y else x
def min (x y : F32) : F32 := if lt y x then y else x
/-- x held between lo and hi; a NaN passes. -/
def clamp (x lo hi : F32) : F32 := if gt x hi then hi else if lt x lo then lo else x
def sumList : List F32 → F32
  | [] => zero
  | x :: t => t.foldl add x

end F32

namespace F64

/-- The value of a binary64 pattern (subnormals kept). -/
def val (x : F64) : FVal := FFmt.b64.unpack x.toNat
def ofVal (v : FVal) : F64 := BitVec.ofNat 64 (FFmt.b64.pack v)
def qnan : F64 := 0x7FF8000000000000#64
def zero : F64 := 0#64
def one : F64 := 0x3FF0000000000000#64
def add (x y : F64) : F64 := ofVal ((val x).add (val y))
def neg (x : F64) : F64 := ofVal (val x).neg
def sub (x y : F64) : F64 := ofVal ((val x).add (val y).neg)
def mul (x y : F64) : F64 := ofVal ((val x).mul (val y))
def fma (x y z : F64) : F64 := ofVal (((val x).mul (val y)).add (val z))
def div (x y : F64) : F64 := BitVec.ofNat 64 (FFmt.b64.divV (val x) (val y))
def sqrt (x : F64) : F64 := BitVec.ofNat 64 (FFmt.b64.sqrtV (val x))
def abs (x : F64) : F64 := match val x with
  | .nan => qnan
  | .inf _ => 0x7FF0000000000000#64
  | .fin _ m e => ofVal (.fin false m e)
def ofInt (i : Int) : F64 := ofVal (FVal.ofInt i)
/-- Binary32 inputs enter state arithmetic exactly (R124). -/
def of32 (x : F32) : F64 := ofVal (F32.val x)
/-- Outputs formed from state are rounded to binary32 once (R124). -/
def to32 (x : F64) : F32 := F32.ofVal (val x)
def isFinite (x : F64) : Bool := (val x).isFinite
def lt (x y : F64) : Bool := (val x).cmp (val y) == some .lt
def le (x y : F64) : Bool := lt x y || (val x).cmp (val y) == some .eq
def gt (x y : F64) : Bool := lt y x
def ge (x y : F64) : Bool := le y x
def eq (x y : F64) : Bool := (val x).cmp (val y) == some .eq
def isNeg (x : F64) : Bool := lt x zero
def max (x y : F64) : F64 := if lt x y then y else x
def min (x y : F64) : F64 := if lt y x then y else x
def clamp (x lo hi : F64) : F64 := if gt x hi then hi else if lt x lo then lo else x
/-- The binary64 nearest to the quotient of two integers. -/
def ofRatio (n d : Int) : F64 := BitVec.ofNat 64 (FFmt.b64.divV (FVal.ofInt n) (FVal.ofInt d))
/-- 2π, rounded to binary64. -/
def twoPi : F64 := 0x401921FB54442D18#64
/-- π, rounded to binary64. -/
def pi : F64 := 0x400921FB54442D18#64

end F64

/-- The binary32 nearest to the quotient of two integers. -/
def F32.ofRatio (n d : Int) : F32 := BitVec.ofNat 32 (FFmt.b32.divV (FVal.ofInt n) (FVal.ofInt d))

/-- A stored F32 that is neither a NaN nor an infinity (Table 15-1). -/
def F32.isNumber (x : F32) : Bool := (FFmt.b32s.unpack x.toNat).isFinite

end Sys2Proof
end

