-- ==== Sys2Proof/Machine/Dictionary.lean ====
section
/-! DEFINITION. The object dictionary (R350): the key of every object by the manual's name, the object rows of the
chapters' tables (type, access, apply class, range, write role) and the defaults. The key of index:sub is
index · 256 + sub. A name whose table row repeats over an index variable takes that variable as an argument; a name
whose row repeats over subindices takes the distance from the first subindex as its last argument. -/

namespace Sys2Proof

/-- The types of Table 15-1. -/
inductive OType where
  | bool | u8 | u16 | u32 | u64 | i8 | i16 | i32 | i64 | f32 | f64 | time96 | enum16 | string | domain
  deriving DecidableEq, Repr

/-- The type code of Table 15-1. -/
def OType.code : OType → Nat
  | .bool => 1 | .u8 => 2 | .u16 => 3 | .u32 => 4 | .u64 => 5 | .i8 => 6 | .i16 => 7 | .i32 => 8 | .i64 => 9
  | .f32 => 10 | .f64 => 11 | .time96 => 12 | .enum16 => 13 | .string => 14 | .domain => 15

/-- The bytes of a value of a scalar type (Table 15-1); 0 for STRING and DOMAIN. -/
def OType.bytes : OType → Nat
  | .bool => 1 | .u8 => 1 | .u16 => 2 | .u32 => 4 | .u64 => 8 | .i8 => 1 | .i16 => 2 | .i32 => 4 | .i64 => 8
  | .f32 => 4 | .f64 => 8 | .time96 => 12 | .enum16 => 2 | .string => 0 | .domain => 0

/-- Whether the type is two's complement. -/
def OType.signed : OType → Bool
  | .i8 | .i16 | .i32 | .i64 => true
  | _ => false

/-- Whether the value is a byte string. -/
def OType.isBlob : OType → Bool
  | .string | .domain => true
  | _ => false

/-- The accesses of R350. -/
inductive Acc where
  | ro | rw | wo
  deriving DecidableEq, Repr

/-- The apply classes of R352; `none` on read-only objects. -/
inductive Cls where
  | none | live | stopped | restart
  deriving DecidableEq, Repr

/-- The range column of an object table. F32 and F64 bounds are bit patterns. -/
inductive Rng where
  | any
  | int (lo hi : Int)
  | orInt (x lo hi : Int)
  | step (lo hi m : Int)
  | orStep (x lo hi m : Int)
  | oneOf (l : List Int)
  | f32 (lo hi : Nat)
  | orF32 (x lo hi : Nat)
  | f64 (lo hi : Nat)
  | fmin0
  | len (n : Nat)
  | upto (n : Nat)
  | lenIn (lo hi : Nat)
  | dyn
  deriving DecidableEq, Repr

/-- One row of an object table: first index, number of indices, first subindex, number of subindices. -/
structure ObjRow where
  base  : Nat
  count : Nat
  sub   : Nat
  nsub  : Nat
  type  : OType
  acc   : Acc
  cls   : Cls
  rng   : Rng
  role  : Nat
  deriving DecidableEq, Repr

/-- Whether a row holds index:sub. -/
def ObjRow.holds (r : ObjRow) (ix sub : Nat) : Bool :=
  r.base ≤ ix && ix < r.base + r.count && r.sub ≤ sub && sub < r.sub + r.nsub

namespace Obj

/-- `ID_PART` (Table 00-2, R4). -/
abbrev ID_PART : Nat := 0x100001
/-- `ID_ORDER_CODE` (Table 00-2, R4). -/
abbrev ID_ORDER_CODE : Nat := 0x100002
/-- `ID_SERIAL` (Table 00-2, R4). -/
abbrev ID_SERIAL : Nat := 0x100003
/-- `CYC_TC` (Table 01-5, R29). -/
abbrev CYC_TC : Nat := 0x182001
/-- `CYC_SAMPLE_LEAD` (Table 01-5, R29). -/
abbrev CYC_SAMPLE_LEAD : Nat := 0x182002
/-- `CYC_APPLY_DELAY_SET` (Table 01-5, R29). -/
abbrev CYC_APPLY_DELAY_SET : Nat := 0x182003
/-- `CYC_MARGIN` (Table 01-5, R29). -/
abbrev CYC_MARGIN : Nat := 0x182004
/-- `CYC_SPREAD_PPM` (Table 01-5, R29). -/
abbrev CYC_SPREAD_PPM : Nat := 0x182005
/-- `CYC_OVR_LIMIT` (Table 01-5, R29). -/
abbrev CYC_OVR_LIMIT : Nat := 0x182006
/-- `CYC_ADMIT_STATE` (Table 01-5, R29). -/
abbrev CYC_ADMIT_STATE : Nat := 0x182101
/-- `CYC_ADMIT_REASON` (Table 01-5, R29). -/
abbrev CYC_ADMIT_REASON : Nat := 0x182102
/-- `CYC_ADMIT_DETAIL` (Table 01-5, R29). -/
abbrev CYC_ADMIT_DETAIL : Nat := 0x182103
/-- `CYC_T_RET` (Table 01-5, R29). -/
abbrev CYC_T_RET : Nat := 0x182104
/-- `CYC_T_MEAS` (Table 01-5, R29). -/
abbrev CYC_T_MEAS : Nat := 0x182105
/-- `CYC_T_LOOP` (Table 01-5, R29). -/
abbrev CYC_T_LOOP : Nat := 0x182106
/-- `CYC_T_SORT` (Table 01-5, R29). -/
abbrev CYC_T_SORT : Nat := 0x182107
/-- `CYC_T_COMMIT` (Table 01-5, R29). -/
abbrev CYC_T_COMMIT : Nat := 0x182108
/-- `CYC_T_TOTAL` (Table 01-5, R29). -/
abbrev CYC_T_TOTAL : Nat := 0x182109
/-- `CYC_SLACK` (Table 01-5, R29). -/
abbrev CYC_SLACK : Nat := 0x18210A
/-- `CYC_APPLY_DELAY` (Table 01-5, R29). -/
abbrev CYC_APPLY_DELAY : Nat := 0x18210B
/-- `CYC_RING_CUT_OK` (Table 01-5, R29). -/
abbrev CYC_RING_CUT_OK : Nat := 0x18210C
/-- `CYC_CRIT_STRAND` (Table 01-5, R29). -/
abbrev CYC_CRIT_STRAND : Nat := 0x18210D
/-- `CYC_LAST_REFUSAL` (Table 01-5, R29). -/
abbrev CYC_LAST_REFUSAL : Nat := 0x18210E
/-- `CYC_LAST_REFUSAL_SLACK` (Table 01-5, R29). -/
abbrev CYC_LAST_REFUSAL_SLACK : Nat := 0x18210F
/-- `CYC_LAST_REFUSAL_DETAIL` (Table 01-5, R29). -/
abbrev CYC_LAST_REFUSAL_DETAIL : Nat := 0x182110
/-- `CYC_INDEX` (Table 01-5, R29). -/
abbrev CYC_INDEX : Nat := 0x182201
/-- `CYC_OVR_LOOP` (Table 01-5, R29). -/
abbrev CYC_OVR_LOOP : Nat := 0x182202
/-- `CYC_OVR_MOD` (Table 01-5, R29). -/
abbrev CYC_OVR_MOD : Nat := 0x182203
/-- `CYC_OVR_CONSEC` (Table 01-5, R29). -/
abbrev CYC_OVR_CONSEC : Nat := 0x182204
/-- `CYC_LATE_FRAMES` (Table 01-5, R29). -/
abbrev CYC_LATE_FRAMES : Nat := 0x182205
/-- `CYC_BROKEN` (Table 01-5, R29). -/
abbrev CYC_BROKEN (k : Nat) : Nat := 0x182301 + k
/-- `LANE_EQ_BOARD_ID` (Table 02-9, R62). -/
abbrev LANE_EQ_BOARD_ID : Nat := 0x201201
/-- `LANE_QUAD_LOCK` (Table 02-9, R62). -/
abbrev LANE_QUAD_LOCK : Nat := 0x201202
/-- `LANE_ENABLE` (Table 02-9, R62). -/
abbrev LANE_ENABLE (n : Nat) : Nat := 0x210001 + n * 256
/-- `LANE_TX_SWING` (Table 02-9, R62). -/
abbrev LANE_TX_SWING (n : Nat) : Nat := 0x210002 + n * 256
/-- `LANE_TX_PREEMPH` (Table 02-9, R62). -/
abbrev LANE_TX_PREEMPH (n : Nat) : Nat := 0x210003 + n * 256
/-- `LANE_RX_CTLE` (Table 02-9, R62). -/
abbrev LANE_RX_CTLE (n : Nat) : Nat := 0x210004 + n * 256
/-- `LANE_TX_INVERT` (Table 02-9, R62). -/
abbrev LANE_TX_INVERT (n : Nat) : Nat := 0x210005 + n * 256
/-- `LANE_RX_INVERT` (Table 02-9, R62). -/
abbrev LANE_RX_INVERT (n : Nat) : Nat := 0x210006 + n * 256
/-- `LANE_BITSLIP` (Table 02-9, R62). -/
abbrev LANE_BITSLIP (n : Nat) : Nat := 0x210007 + n * 256
/-- `LANE_TX_MODE` (Table 02-9, R62). -/
abbrev LANE_TX_MODE (n : Nat) : Nat := 0x210008 + n * 256
/-- `LANE_STATE` (Table 02-9, R62). -/
abbrev LANE_STATE (n : Nat) : Nat := 0x214001 + n * 256
/-- `LANE_SLIP_POS` (Table 02-9, R62). -/
abbrev LANE_SLIP_POS (n : Nat) : Nat := 0x214002 + n * 256
/-- `LANE_SYNC_SEEN` (Table 02-9, R62). -/
abbrev LANE_SYNC_SEEN (n : Nat) : Nat := 0x214003 + n * 256
/-- `LANE_FREQ_DIFF` (Table 02-9, R62). -/
abbrev LANE_FREQ_DIFF (n : Nat) : Nat := 0x214004 + n * 256
/-- `LANE_AMPLITUDE` (Table 02-9, R62). -/
abbrev LANE_AMPLITUDE (n : Nat) : Nat := 0x214005 + n * 256
/-- `LANE_LOS_COUNT` (Table 02-9, R62). -/
abbrev LANE_LOS_COUNT (n : Nat) : Nat := 0x214006 + n * 256
/-- `LANE_LOL_COUNT` (Table 02-9, R62). -/
abbrev LANE_LOL_COUNT (n : Nat) : Nat := 0x214007 + n * 256
/-- `LANE_LFA_COUNT` (Table 02-9, R62). -/
abbrev LANE_LFA_COUNT (n : Nat) : Nat := 0x214008 + n * 256
/-- `LANE_STUFF_ERR` (Table 02-9, R62). -/
abbrev LANE_STUFF_ERR (n : Nat) : Nat := 0x214009 + n * 256
/-- `LANE_HDR_ERR` (Table 02-9, R62). -/
abbrev LANE_HDR_ERR (n : Nat) : Nat := 0x21400A + n * 256
/-- `LANE_CRC_ERR` (Table 02-9, R62). -/
abbrev LANE_CRC_ERR (n : Nat) : Nat := 0x21400B + n * 256
/-- `LANE_PRBS_ERR` (Table 02-9, R62). -/
abbrev LANE_PRBS_ERR (n : Nat) : Nat := 0x21400C + n * 256
/-- `LANE_FIFO_PEAK` (Table 02-9, R62). -/
abbrev LANE_FIFO_PEAK (n : Nat) : Nat := 0x21400D + n * 256
/-- `LANE_LB_SLIPS` (Table 02-9, R62). -/
abbrev LANE_LB_SLIPS (n : Nat) : Nat := 0x21400E + n * 256
/-- `LANE_SLIP_DROPPED` (Table 02-9, R62). -/
abbrev LANE_SLIP_DROPPED (n : Nat) : Nat := 0x21400F + n * 256
/-- `STR_ENUM_CMD` (Table 03-15, R96). -/
abbrev STR_ENUM_CMD : Nat := 0x201001
/-- `STR_TOPOLOGY` (Table 03-15, R96). -/
abbrev STR_TOPOLOGY : Nat := 0x201002
/-- `STR_HOLD_CYCLES` (Table 03-15, R96). -/
abbrev STR_HOLD_CYCLES : Nat := 0x201003
/-- `STR_HEAL_WINDOW` (Table 03-15, R96). -/
abbrev STR_HEAL_WINDOW : Nat := 0x201004
/-- `STR_JOIN_POLICY` (Table 03-15, R96). -/
abbrev STR_JOIN_POLICY : Nat := 0x201005
/-- `STR_EPOCH_TX` (Table 03-15, R96). -/
abbrev STR_EPOCH_TX : Nat := 0x201006
/-- `STR_ENUM_STATE` (Table 03-15, R96). -/
abbrev STR_ENUM_STATE : Nat := 0x201007
/-- `STR_POSITIONS` (Table 03-15, R96). -/
abbrev STR_POSITIONS (n : Nat) : Nat := 0x220001 + n * 256
/-- `STR_FOUND` (Table 03-15, R96). -/
abbrev STR_FOUND (n : Nat) : Nat := 0x220002 + n * 256
/-- `STR_PRESENT` (Table 03-15, R96). -/
abbrev STR_PRESENT (n : Nat) : Nat := 0x220003 + n * 256
/-- `STR_FOLD_A` (Table 03-15, R96). -/
abbrev STR_FOLD_A (n : Nat) : Nat := 0x220004 + n * 256
/-- `STR_FOLD_B` (Table 03-15, R96). -/
abbrev STR_FOLD_B (n : Nat) : Nat := 0x220005 + n * 256
/-- `STR_FOLD_EN` (Table 03-15, R96). -/
abbrev STR_FOLD_EN (n : Nat) : Nat := 0x220006 + n * 256
/-- `STR_ROUND_TRIP` (Table 03-15, R96). -/
abbrev STR_ROUND_TRIP (n : Nat) : Nat := 0x220007 + n * 256
/-- `STR_DUP_FRAMES` (Table 03-15, R96). -/
abbrev STR_DUP_FRAMES (n : Nat) : Nat := 0x220008 + n * 256
/-- `STR_EPOCH_REJECTS` (Table 03-15, R96). -/
abbrev STR_EPOCH_REJECTS (n : Nat) : Nat := 0x220009 + n * 256
/-- `STR_MBX_REQ` (Table 03-15, R96). -/
abbrev STR_MBX_REQ (n : Nat) : Nat := 0x22000A + n * 256
/-- `STR_MBX_ANS` (Table 03-15, R96). -/
abbrev STR_MBX_ANS (n : Nat) : Nat := 0x22000B + n * 256
/-- `STR_JOINS` (Table 03-15, R96). -/
abbrev STR_JOINS (n : Nat) : Nat := 0x22000C + n * 256
/-- `STR_JOIN_REFUSED` (Table 03-15, R96). -/
abbrev STR_JOIN_REFUSED (n : Nat) : Nat := 0x22000D + n * 256
/-- `CELL_STATE` (Table 03-15, R96). -/
abbrev CELL_STATE (n : Nat) : Nat := 0x280001 + n * 256
/-- `CELL_TYPE` (Table 03-15, R96). -/
abbrev CELL_TYPE (n : Nat) : Nat := 0x280002 + n * 256
/-- `CELL_EXPECT_TYPE` (Table 03-15, R96). -/
abbrev CELL_EXPECT_TYPE (n : Nat) : Nat := 0x280003 + n * 256
/-- `CELL_UID` (Table 03-15, R96). -/
abbrev CELL_UID (n : Nat) : Nat := 0x280004 + n * 256
/-- `CELL_HOP` (Table 03-15, R96). -/
abbrev CELL_HOP (n : Nat) : Nat := 0x280005 + n * 256
/-- `CELL_DELAY_A` (Table 03-15, R96). -/
abbrev CELL_DELAY_A (n : Nat) : Nat := 0x280006 + n * 256
/-- `CELL_DELAY_B` (Table 03-15, R96). -/
abbrev CELL_DELAY_B (n : Nat) : Nat := 0x280007 + n * 256
/-- `CELL_FIBRE_LEN` (Table 03-15, R96). -/
abbrev CELL_FIBRE_LEN (n : Nat) : Nat := 0x280008 + n * 256
/-- `CELL_VCAP` (Table 03-15, R96). -/
abbrev CELL_VCAP (n : Nat) : Nat := 0x280009 + n * 256
/-- `CELL_TEMP` (Table 03-15, R96). -/
abbrev CELL_TEMP (n : Nat) : Nat := 0x28000A + n * 256
/-- `CELL_STATUS` (Table 03-15, R96). -/
abbrev CELL_STATUS (n : Nat) : Nat := 0x28000B + n * 256
/-- `CELL_FAULT` (Table 03-15, R96). -/
abbrev CELL_FAULT (n : Nat) : Nat := 0x28000C + n * 256
/-- `CELL_EDGE_DELAY` (Table 03-15, R96). -/
abbrev CELL_EDGE_DELAY (n : Nat) : Nat := 0x28000D + n * 256
/-- `CELL_CAPACITANCE` (Table 03-15, R96). -/
abbrev CELL_CAPACITANCE (n : Nat) : Nat := 0x28000E + n * 256
/-- `CELL_RATED_V` (Table 03-15, R96). -/
abbrev CELL_RATED_V (n : Nat) : Nat := 0x28000F + n * 256
/-- `CELL_MISSED` (Table 03-15, R96). -/
abbrev CELL_MISSED (n : Nat) : Nat := 0x280010 + n * 256
/-- `CELL_CMD_BAD` (Table 03-15, R96). -/
abbrev CELL_CMD_BAD (n : Nat) : Nat := 0x280011 + n * 256
/-- `CELL_RESP_CRC_ERR` (Table 03-15, R96). -/
abbrev CELL_RESP_CRC_ERR (n : Nat) : Nat := 0x280012 + n * 256
/-- `CELL_JOIN` (Table 03-15, R96). -/
abbrev CELL_JOIN (n : Nat) : Nat := 0x280013 + n * 256
/-- `CELL_REFUSAL` (Table 03-15, R96). -/
abbrev CELL_REFUSAL (n : Nat) : Nat := 0x280014 + n * 256
/-- `MOD_STRAND_ARM` (Table 04-11, R121). -/
abbrev MOD_STRAND_ARM (k : Nat) : Nat := 0x300001 + k
/-- `MOD_ARM_ENABLE` (Table 04-11, R121). -/
abbrev MOD_ARM_ENABLE (n : Nat) : Nat := 0x301001 + n * 256
/-- `MOD_N_RED` (Table 04-11, R121). -/
abbrev MOD_N_RED (n : Nat) : Nat := 0x301002 + n * 256
/-- `MOD_SORT_PASSES` (Table 04-11, R121). -/
abbrev MOD_SORT_PASSES (n : Nat) : Nat := 0x301003 + n * 256
/-- `MOD_KEY_MODE` (Table 04-11, R121). -/
abbrev MOD_KEY_MODE (n : Nat) : Nat := 0x301004 + n * 256
/-- `MOD_BAND` (Table 04-11, R121). -/
abbrev MOD_BAND (n : Nat) : Nat := 0x301005 + n * 256
/-- `MOD_DWELL` (Table 04-11, R121). -/
abbrev MOD_DWELL (n : Nat) : Nat := 0x301006 + n * 256
/-- `MOD_FRAC_MIN` (Table 04-11, R121). -/
abbrev MOD_FRAC_MIN (n : Nat) : Nat := 0x301007 + n * 256
/-- `MOD_FB_POSITIVE` (Table 04-11, R121). -/
abbrev MOD_FB_POSITIVE (n : Nat) : Nat := 0x301008 + n * 256
/-- `MOD_NEG_ENABLE` (Table 04-11, R121). -/
abbrev MOD_NEG_ENABLE (n : Nat) : Nat := 0x301009 + n * 256
/-- `MOD_CARRY_ENABLE` (Table 04-11, R121). -/
abbrev MOD_CARRY_ENABLE (n : Nat) : Nat := 0x30100A + n * 256
/-- `MOD_DISORDER_LIMIT` (Table 04-11, R121). -/
abbrev MOD_DISORDER_LIMIT (n : Nat) : Nat := 0x30100B + n * 256
/-- `MOD_I_DEADBAND` (Table 04-11, R121). -/
abbrev MOD_I_DEADBAND (n : Nat) : Nat := 0x30100C + n * 256
/-- `MOD_ORD_U_REF` (Table 04-11, R121). -/
abbrev MOD_ORD_U_REF (n : Nat) : Nat := 0x302001 + n * 256
/-- `MOD_ORD_U_CIRC` (Table 04-11, R121). -/
abbrev MOD_ORD_U_CIRC (n : Nat) : Nat := 0x302002 + n * 256
/-- `MOD_ORD_U_BAL` (Table 04-11, R121). -/
abbrev MOD_ORD_U_BAL (n : Nat) : Nat := 0x302003 + n * 256
/-- `MOD_ORD_I_PRED` (Table 04-11, R121). -/
abbrev MOD_ORD_I_PRED (n : Nat) : Nat := 0x302004 + n * 256
/-- `MOD_ARM_STATE` (Table 04-11, R121). -/
abbrev MOD_ARM_STATE (n : Nat) : Nat := 0x303001 + n * 256
/-- `MOD_BLOCK_REASON` (Table 04-11, R121). -/
abbrev MOD_BLOCK_REASON (n : Nat) : Nat := 0x303002 + n * 256
/-- `MOD_U_SEL` (Table 04-11, R121). -/
abbrev MOD_U_SEL (n : Nat) : Nat := 0x303003 + n * 256
/-- `MOD_LEVEL` (Table 04-11, R121). -/
abbrev MOD_LEVEL (n : Nat) : Nat := 0x303004 + n * 256
/-- `MOD_N_FULL` (Table 04-11, R121). -/
abbrev MOD_N_FULL (n : Nat) : Nat := 0x303005 + n * 256
/-- `MOD_FRAC_CELL` (Table 04-11, R121). -/
abbrev MOD_FRAC_CELL (n : Nat) : Nat := 0x303006 + n * 256
/-- `MOD_FRAC_OFFSET` (Table 04-11, R121). -/
abbrev MOD_FRAC_OFFSET (n : Nat) : Nat := 0x303007 + n * 256
/-- `MOD_CARRY` (Table 04-11, R121). -/
abbrev MOD_CARRY (n : Nat) : Nat := 0x303008 + n * 256
/-- `MOD_N_ELIG` (Table 04-11, R121). -/
abbrev MOD_N_ELIG (n : Nat) : Nat := 0x303009 + n * 256
/-- `MOD_DIRECTION` (Table 04-11, R121). -/
abbrev MOD_DIRECTION (n : Nat) : Nat := 0x30300A + n * 256
/-- `MOD_DISORDER` (Table 04-11, R121). -/
abbrev MOD_DISORDER (n : Nat) : Nat := 0x30300B + n * 256
/-- `MOD_DESCENTS` (Table 04-11, R121). -/
abbrev MOD_DESCENTS (n : Nat) : Nat := 0x30300C + n * 256
/-- `MOD_BOUNDARY_ERR` (Table 04-11, R121). -/
abbrev MOD_BOUNDARY_ERR (n : Nat) : Nat := 0x30300D + n * 256
/-- `MOD_PASSES_TOTAL` (Table 04-11, R121). -/
abbrev MOD_PASSES_TOTAL (n : Nat) : Nat := 0x30300E + n * 256
/-- `MOD_SAT_COUNT` (Table 04-11, R121). -/
abbrev MOD_SAT_COUNT (n : Nat) : Nat := 0x30300F + n * 256
/-- `MOD_LIM_OVERRIDES` (Table 04-11, R121). -/
abbrev MOD_LIM_OVERRIDES (n : Nat) : Nat := 0x303010 + n * 256
/-- `MOD_SWITCHES` (Table 04-11, R121). -/
abbrev MOD_SWITCHES (n : Nat) : Nat := 0x303011 + n * 256
/-- `MOD_ORDER_INVALID` (Table 04-11, R121). -/
abbrev MOD_ORDER_INVALID (n : Nat) : Nat := 0x303012 + n * 256
/-- `MOD_CARRY_CLAMPS` (Table 04-11, R121). -/
abbrev MOD_CARRY_CLAMPS (n : Nat) : Nat := 0x303013 + n * 256
/-- `MOD_FRAC_NONE` (Table 04-11, R121). -/
abbrev MOD_FRAC_NONE (n : Nat) : Nat := 0x303014 + n * 256
/-- `RED_N_COUNTED` (Table 04-11, R121). -/
abbrev RED_N_COUNTED (n : Nat) : Nat := 0x304001 + n * 256
/-- `RED_V_SUM` (Table 04-11, R121). -/
abbrev RED_V_SUM (n : Nat) : Nat := 0x304002 + n * 256
/-- `RED_V_MEAN` (Table 04-11, R121). -/
abbrev RED_V_MEAN (n : Nat) : Nat := 0x304003 + n * 256
/-- `RED_V_MIN` (Table 04-11, R121). -/
abbrev RED_V_MIN (n : Nat) : Nat := 0x304004 + n * 256
/-- `RED_V_MAX` (Table 04-11, R121). -/
abbrev RED_V_MAX (n : Nat) : Nat := 0x304005 + n * 256
/-- `RED_MIN_CELL` (Table 04-11, R121). -/
abbrev RED_MIN_CELL (n : Nat) : Nat := 0x304006 + n * 256
/-- `RED_MAX_CELL` (Table 04-11, R121). -/
abbrev RED_MAX_CELL (n : Nat) : Nat := 0x304007 + n * 256
/-- `RED_W_SUM` (Table 04-11, R121). -/
abbrev RED_W_SUM (n : Nat) : Nat := 0x304008 + n * 256
/-- `RED_W_HB` (Table 04-11, R121). -/
abbrev RED_W_HB (n : Nat) : Nat := 0x304009 + n * 256
/-- `RED_W_FB` (Table 04-11, R121). -/
abbrev RED_W_FB (n : Nat) : Nat := 0x30400A + n * 256
/-- `RED_V_INS` (Table 04-11, R121). -/
abbrev RED_V_INS (n : Nat) : Nat := 0x30400B + n * 256
/-- `RED_V_SUM_FB` (Table 04-11, R121). -/
abbrev RED_V_SUM_FB (n : Nat) : Nat := 0x30400C + n * 256
/-- `RED_N_FB` (Table 04-11, R121). -/
abbrev RED_N_FB (n : Nat) : Nat := 0x30400D + n * 256
/-- `CELL_KEY` (Table 04-11, R121). -/
abbrev CELL_KEY (n : Nat) : Nat := 0x280015 + n * 256
/-- `CELL_RANK` (Table 04-11, R121). -/
abbrev CELL_RANK (n : Nat) : Nat := 0x280016 + n * 256
/-- `CELL_DWELL` (Table 04-11, R121). -/
abbrev CELL_DWELL (n : Nat) : Nat := 0x280017 + n * 256
/-- `CELL_SWITCHES` (Table 04-11, R121). -/
abbrev CELL_SWITCHES (n : Nat) : Nat := 0x280018 + n * 256
/-- `LE_PROG_STATE` (Table 05-8, R150). -/
abbrev LE_PROG_STATE : Nat := 0x380001
/-- `LE_PROG_ERR` (Table 05-8, R150). -/
abbrev LE_PROG_ERR : Nat := 0x380002
/-- `LE_PROG_ERR_INST` (Table 05-8, R150). -/
abbrev LE_PROG_ERR_INST : Nat := 0x380003
/-- `LE_L_SCHED` (Table 05-8, R150). -/
abbrev LE_L_SCHED : Nat := 0x380004
/-- `LE_CRIT_INST` (Table 05-8, R150). -/
abbrev LE_CRIT_INST : Nat := 0x380005
/-- `LE_N_INSTANCES` (Table 05-8, R150). -/
abbrev LE_N_INSTANCES : Nat := 0x380006
/-- `LE_COMMIT_COUNT` (Table 05-8, R150). -/
abbrev LE_COMMIT_COUNT : Nat := 0x380007
/-- `LE_RUN_CYCLE` (Table 05-8, R150). -/
abbrev LE_RUN_CYCLE : Nat := 0x380008
/-- `LE_EVENT_INST` (Table 05-8, R150). -/
abbrev LE_EVENT_INST : Nat := 0x380009
/-- `LE_VALIDATE` (Table 05-8, R150). -/
abbrev LE_VALIDATE : Nat := 0x38000A
/-- `LE_LOCAL_GROUP` (Table 05-8, R150). -/
abbrev LE_LOCAL_GROUP : Nat := 0x380101
/-- `LE_LOCAL_STATUS` (Table 05-8, R150). -/
abbrev LE_LOCAL_STATUS : Nat := 0x380102
/-- `LE_VEC` (Table 05-8, R150). -/
abbrev LE_VEC (n k : Nat) : Nat := 0x381001 + n * 256 + k
/-- `LE_VEC_N` (Table 05-8, R150). -/
abbrev LE_VEC_N (n k : Nat) : Nat := 0x381004 + n * 256 + k
/-- `LE_TYPE` (Table 05-8, R150). -/
abbrev LE_TYPE (n : Nat) : Nat := 0x3A0001 + n * 256
/-- `LE_MODE` (Table 05-8, R150). -/
abbrev LE_MODE (n : Nat) : Nat := 0x3A0002 + n * 256
/-- `LE_IN` (Table 05-8, R150). -/
abbrev LE_IN (n k : Nat) : Nat := 0x3A0003 + n * 256 + k
/-- `LE_PAR` (Table 05-8, R150). -/
abbrev LE_PAR (n k : Nat) : Nat := 0x3A0009 + n * 256 + k
/-- `LE_OUT` (Table 05-8, R150). -/
abbrev LE_OUT (n k : Nat) : Nat := 0x3A0011 + n * 256 + k
/-- `LE_STATE` (Table 05-8, R150). -/
abbrev LE_STATE (n k : Nat) : Nat := 0x3A0019 + n * 256 + k
/-- `LE_INIT` (Table 05-8, R150). -/
abbrev LE_INIT (n k : Nat) : Nat := 0x3A001D + n * 256 + k
/-- `LE_RESET` (Table 05-8, R150). -/
abbrev LE_RESET (n : Nat) : Nat := 0x3A0021 + n * 256
/-- `LE_FLAGS` (Table 05-8, R150). -/
abbrev LE_FLAGS (n : Nat) : Nat := 0x3A0022 + n * 256
/-- `LE_START` (Table 05-8, R150). -/
abbrev LE_START (n : Nat) : Nat := 0x3A0023 + n * 256
/-- `LE_PIPE` (Table 05-8, R150). -/
abbrev LE_PIPE (n : Nat) : Nat := 0x3A0024 + n * 256
/-- `LE_NONFINITE` (Table 05-8, R150). -/
abbrev LE_NONFINITE (n : Nat) : Nat := 0x3A0025 + n * 256
/-- `LV` (Table 05-8, R150). -/
abbrev LV (n k : Nat) : Nat := 0x800001 + n * 256 + k
/-- `SUP_HANDOVERS` (Table 06-9, R170). -/
abbrev SUP_HANDOVERS : Nat := 0x400001
/-- `SUP_HANDOVER_INST` (Table 06-9, R170). -/
abbrev SUP_HANDOVER_INST : Nat := 0x400002
/-- `SUP_LOOP_END_MAX` (Table 06-9, R170). -/
abbrev SUP_LOOP_END_MAX : Nat := 0x400003
/-- `SUP_MOD_END_MAX` (Table 06-9, R170). -/
abbrev SUP_MOD_END_MAX : Nat := 0x400004
/-- `SUP_COMMIT_END_MAX` (Table 06-9, R170). -/
abbrev SUP_COMMIT_END_MAX : Nat := 0x400005
/-- `SUP_ECC_STALLS` (Table 06-9, R170). -/
abbrev SUP_ECC_STALLS : Nat := 0x400006
/-- `SUP_PEAK_CLEAR` (Table 06-9, R170). -/
abbrev SUP_PEAK_CLEAR : Nat := 0x400007
/-- `SUP_REP_BYTES` (Table 06-9, R170). -/
abbrev SUP_REP_BYTES : Nat := 0x400008
/-- `SUP_EVENT_SRC` (Table 06-9, R170). -/
abbrev SUP_EVENT_SRC : Nat := 0x400009
/-- `SV_ENABLE` (Table 06-9, R170). -/
abbrev SV_ENABLE (n : Nat) : Nat := 0x401001 + n * 256
/-- `SV_CHANNEL` (Table 06-9, R170). -/
abbrev SV_CHANNEL (n : Nat) : Nat := 0x401002 + n * 256
/-- `SV_ARM` (Table 06-9, R170). -/
abbrev SV_ARM (n : Nat) : Nat := 0x401003 + n * 256
/-- `SV_MODEL_INST` (Table 06-9, R170). -/
abbrev SV_MODEL_INST (n : Nat) : Nat := 0x401004 + n * 256
/-- `SV_REACTION` (Table 06-9, R170). -/
abbrev SV_REACTION (n : Nat) : Nat := 0x401005 + n * 256
/-- `SV_HOLD_MAX` (Table 06-9, R170). -/
abbrev SV_HOLD_MAX (n : Nat) : Nat := 0x401006 + n * 256
/-- `SV_RECOVER` (Table 06-9, R170). -/
abbrev SV_RECOVER (n : Nat) : Nat := 0x401007 + n * 256
/-- `SV_FREEZE_K` (Table 06-9, R170). -/
abbrev SV_FREEZE_K (n : Nat) : Nat := 0x401008 + n * 256
/-- `SV_CELL_MISS_MAX` (Table 06-9, R170). -/
abbrev SV_CELL_MISS_MAX (n : Nat) : Nat := 0x401009 + n * 256
/-- `SV_RES_TH` (Table 06-9, R170). -/
abbrev SV_RES_TH (n : Nat) : Nat := 0x40100A + n * 256
/-- `SV_RES_WINDOW` (Table 06-9, R170). -/
abbrev SV_RES_WINDOW (n : Nat) : Nat := 0x40100B + n * 256
/-- `SV_RES_COUNT` (Table 06-9, R170). -/
abbrev SV_RES_COUNT (n : Nat) : Nat := 0x40100C + n * 256
/-- `SV_RES_REACTION` (Table 06-9, R170). -/
abbrev SV_RES_REACTION (n : Nat) : Nat := 0x40100D + n * 256
/-- `SV_STATE` (Table 06-9, R170). -/
abbrev SV_STATE (n : Nat) : Nat := 0x40100E + n * 256
/-- `SV_CAUSE` (Table 06-9, R170). -/
abbrev SV_CAUSE (n : Nat) : Nat := 0x40100F + n * 256
/-- `SV_HOLD_CYCLES` (Table 06-9, R170). -/
abbrev SV_HOLD_CYCLES (n : Nat) : Nat := 0x401010 + n * 256
/-- `SV_HOLD_ENTRIES` (Table 06-9, R170). -/
abbrev SV_HOLD_ENTRIES (n : Nat) : Nat := 0x401011 + n * 256
/-- `SV_RES_EXCEED` (Table 06-9, R170). -/
abbrev SV_RES_EXCEED (n : Nat) : Nat := 0x401012 + n * 256
/-- `SV_SUBST` (Table 06-9, R170). -/
abbrev SV_SUBST (n : Nat) : Nat := 0x401013 + n * 256
/-- `SV_RES_LAST` (Table 06-9, R170). -/
abbrev SV_RES_LAST (n : Nat) : Nat := 0x401014 + n * 256
/-- `REP_F_MIN` (Table 06-9, R170). -/
abbrev REP_F_MIN (n : Nat) : Nat := 0x410001 + n * 256
/-- `REP_ARM` (Table 06-9, R170). -/
abbrev REP_ARM (n : Nat) : Nat := 0x410002 + n * 256
/-- `REP_SV_MASK` (Table 06-9, R170). -/
abbrev REP_SV_MASK (n : Nat) : Nat := 0x410003 + n * 256
/-- `REP_FREEZE_OUT` (Table 06-9, R170). -/
abbrev REP_FREEZE_OUT (n : Nat) : Nat := 0x410004 + n * 256
/-- `REP_CLEAR` (Table 06-9, R170). -/
abbrev REP_CLEAR (n : Nat) : Nat := 0x410005 + n * 256
/-- `REP_LEN` (Table 06-9, R170). -/
abbrev REP_LEN (n : Nat) : Nat := 0x410006 + n * 256
/-- `REP_N` (Table 06-9, R170). -/
abbrev REP_N (n : Nat) : Nat := 0x410007 + n * 256
/-- `REP_STATUS` (Table 06-9, R170). -/
abbrev REP_STATUS (n : Nat) : Nat := 0x410008 + n * 256
/-- `REP_FROZEN_CYCLES` (Table 06-9, R170). -/
abbrev REP_FROZEN_CYCLES (n : Nat) : Nat := 0x410009 + n * 256
/-- `REP_LEARN_CYCLES` (Table 06-9, R170). -/
abbrev REP_LEARN_CYCLES (n : Nat) : Nat := 0x41000A + n * 256
/-- `MEAS_GRP_DIV` (Table 07-8, R193). -/
abbrev MEAS_GRP_DIV (k : Nat) : Nat := 0x440001 + k
/-- `MEAS_GRP_CLK_SRC` (Table 07-8, R193). -/
abbrev MEAS_GRP_CLK_SRC (k : Nat) : Nat := 0x440005 + k
/-- `MEAS_GRP_CAPTURE` (Table 07-8, R193). -/
abbrev MEAS_GRP_CAPTURE (k : Nat) : Nat := 0x440009 + k
/-- `MEAS_EVENT_SRC` (Table 07-8, R193). -/
abbrev MEAS_EVENT_SRC : Nat := 0x44000D
/-- `MEAS_ENABLE` (Table 07-8, R193). -/
abbrev MEAS_ENABLE (n : Nat) : Nat := 0x441001 + n * 256
/-- `MEAS_FAST_ORDER` (Table 07-8, R193). -/
abbrev MEAS_FAST_ORDER (n : Nat) : Nat := 0x441002 + n * 256
/-- `MEAS_FAST_OSR` (Table 07-8, R193). -/
abbrev MEAS_FAST_OSR (n : Nat) : Nat := 0x441003 + n * 256
/-- `MEAS_FINE_ORDER` (Table 07-8, R193). -/
abbrev MEAS_FINE_ORDER (n : Nat) : Nat := 0x441004 + n * 256
/-- `MEAS_FINE_OSR` (Table 07-8, R193). -/
abbrev MEAS_FINE_OSR (n : Nat) : Nat := 0x441005 + n * 256
/-- `MEAS_FIR_DEC` (Table 07-8, R193). -/
abbrev MEAS_FIR_DEC (n : Nat) : Nat := 0x441006 + n * 256
/-- `MEAS_FIR_COEF` (Table 07-8, R193). -/
abbrev MEAS_FIR_COEF (n : Nat) : Nat := 0x441007 + n * 256
/-- `MEAS_NOTCH_M` (Table 07-8, R193). -/
abbrev MEAS_NOTCH_M (n : Nat) : Nat := 0x441008 + n * 256
/-- `MEAS_INVERT` (Table 07-8, R193). -/
abbrev MEAS_INVERT (n : Nat) : Nat := 0x441009 + n * 256
/-- `MEAS_SCALE` (Table 07-8, R193). -/
abbrev MEAS_SCALE (n : Nat) : Nat := 0x44100A + n * 256
/-- `MEAS_OFFSET` (Table 07-8, R193). -/
abbrev MEAS_OFFSET (n : Nat) : Nat := 0x44100B + n * 256
/-- `MEAS_OVR_TH` (Table 07-8, R193). -/
abbrev MEAS_OVR_TH (n : Nat) : Nat := 0x44100C + n * 256
/-- `MEAS_RUN_MAX` (Table 07-8, R193). -/
abbrev MEAS_RUN_MAX (n : Nat) : Nat := 0x44100D + n * 256
/-- `MEAS_SKEW` (Table 07-8, R193). -/
abbrev MEAS_SKEW (n : Nat) : Nat := 0x44100E + n * 256
/-- `MEAS_STATUS` (Table 07-8, R193). -/
abbrev MEAS_STATUS (n : Nat) : Nat := 0x444001 + n * 256
/-- `MEAS_FINE_CODE` (Table 07-8, R193). -/
abbrev MEAS_FINE_CODE (n : Nat) : Nat := 0x444002 + n * 256
/-- `MEAS_FAST_CODE` (Table 07-8, R193). -/
abbrev MEAS_FAST_CODE (n : Nat) : Nat := 0x444003 + n * 256
/-- `MEAS_CYCLE_FINE` (Table 07-8, R193). -/
abbrev MEAS_CYCLE_FINE (n : Nat) : Nat := 0x444004 + n * 256
/-- `MEAS_CYCLE_FAST` (Table 07-8, R193). -/
abbrev MEAS_CYCLE_FAST (n : Nat) : Nat := 0x444005 + n * 256
/-- `MEAS_ALIGN` (Table 07-8, R193). -/
abbrev MEAS_ALIGN (n : Nat) : Nat := 0x444006 + n * 256
/-- `MEAS_T_AVAIL` (Table 07-8, R193). -/
abbrev MEAS_T_AVAIL (n : Nat) : Nat := 0x444007 + n * 256
/-- `MEAS_T_SETTLE` (Table 07-8, R193). -/
abbrev MEAS_T_SETTLE (n : Nat) : Nat := 0x444008 + n * 256
/-- `MEAS_F_OUT` (Table 07-8, R193). -/
abbrev MEAS_F_OUT (n : Nat) : Nat := 0x444009 + n * 256
/-- `MEAS_SAME_COUNT` (Table 07-8, R193). -/
abbrev MEAS_SAME_COUNT (n : Nat) : Nat := 0x44400A + n * 256
/-- `MEAS_LOSS_COUNT` (Table 07-8, R193). -/
abbrev MEAS_LOSS_COUNT (n : Nat) : Nat := 0x44400B + n * 256
/-- `MEAS_OVR_COUNT` (Table 07-8, R193). -/
abbrev MEAS_OVR_COUNT (n : Nat) : Nat := 0x44400C + n * 256
/-- `PP_ENABLE` (Table 07-8, R193). -/
abbrev PP_ENABLE (n : Nat) : Nat := 0x448001 + n * 256
/-- `PP_CH_A` (Table 07-8, R193). -/
abbrev PP_CH_A (n : Nat) : Nat := 0x448002 + n * 256
/-- `PP_CH_B` (Table 07-8, R193). -/
abbrev PP_CH_B (n : Nat) : Nat := 0x448003 + n * 256
/-- `PP_GAIN` (Table 07-8, R193). -/
abbrev PP_GAIN (n : Nat) : Nat := 0x448004 + n * 256
/-- `PP_OFFSET` (Table 07-8, R193). -/
abbrev PP_OFFSET (n : Nat) : Nat := 0x448005 + n * 256
/-- `PP_FC` (Table 07-8, R193). -/
abbrev PP_FC (n : Nat) : Nat := 0x448006 + n * 256
/-- `PP_TH` (Table 07-8, R193). -/
abbrev PP_TH (n : Nat) : Nat := 0x448007 + n * 256
/-- `PP_WINDOW` (Table 07-8, R193). -/
abbrev PP_WINDOW (n : Nat) : Nat := 0x448008 + n * 256
/-- `PP_COUNT` (Table 07-8, R193). -/
abbrev PP_COUNT (n : Nat) : Nat := 0x448009 + n * 256
/-- `PP_REACTION` (Table 07-8, R193). -/
abbrev PP_REACTION (n : Nat) : Nat := 0x44800A + n * 256
/-- `PP_DIFF` (Table 07-8, R193). -/
abbrev PP_DIFF (n : Nat) : Nat := 0x44800B + n * 256
/-- `PP_STATE` (Table 07-8, R193). -/
abbrev PP_STATE (n : Nat) : Nat := 0x44800C + n * 256
/-- `PP_SKIPPED` (Table 07-8, R193). -/
abbrev PP_SKIPPED (n : Nat) : Nat := 0x44800D + n * 256
/-- `DIAG_UNIT` (Table 07-8, R193). -/
abbrev DIAG_UNIT (n : Nat) : Nat := 0x44C001 + n * 256
/-- `DIAG_SOURCE` (Table 07-8, R193). -/
abbrev DIAG_SOURCE (n : Nat) : Nat := 0x44C002 + n * 256
/-- `DIAG_REPEAT` (Table 07-8, R193). -/
abbrev DIAG_REPEAT (n : Nat) : Nat := 0x44C003 + n * 256
/-- `DIAG_DELAY` (Table 07-8, R193). -/
abbrev DIAG_DELAY (n : Nat) : Nat := 0x44C004 + n * 256
/-- `DIAG_LO` (Table 07-8, R193). -/
abbrev DIAG_LO (n : Nat) : Nat := 0x44C005 + n * 256
/-- `DIAG_HI` (Table 07-8, R193). -/
abbrev DIAG_HI (n : Nat) : Nat := 0x44C006 + n * 256
/-- `DIAG_REACTION` (Table 07-8, R193). -/
abbrev DIAG_REACTION (n : Nat) : Nat := 0x44C007 + n * 256
/-- `DIAG_MEAN` (Table 07-8, R193). -/
abbrev DIAG_MEAN (n : Nat) : Nat := 0x44C008 + n * 256
/-- `DIAG_MIN` (Table 07-8, R193). -/
abbrev DIAG_MIN (n : Nat) : Nat := 0x44C009 + n * 256
/-- `DIAG_MAX` (Table 07-8, R193). -/
abbrev DIAG_MAX (n : Nat) : Nat := 0x44C00A + n * 256
/-- `DIAG_TIME` (Table 07-8, R193). -/
abbrev DIAG_TIME (n : Nat) : Nat := 0x44C00B + n * 256
/-- `DIAG_OUT_COUNT` (Table 07-8, R193). -/
abbrev DIAG_OUT_COUNT (n : Nat) : Nat := 0x44C00C + n * 256
/-- `DIAG_RUN` (Table 07-8, R193). -/
abbrev DIAG_RUN : Nat := 0x450001
/-- `DIAG_POS_D0` (Table 07-8, R193). -/
abbrev DIAG_POS_D0 : Nat := 0x450002
/-- `DIAG_POS_D1` (Table 07-8, R193). -/
abbrev DIAG_POS_D1 : Nat := 0x450003
/-- `DIAG_LOOP_D0` (Table 07-8, R193). -/
abbrev DIAG_LOOP_D0 : Nat := 0x450004
/-- `DIAG_LOOP_D1` (Table 07-8, R193). -/
abbrev DIAG_LOOP_D1 : Nat := 0x450005
/-- `TB_NOW` (Table 08-8, R218). -/
abbrev TB_NOW : Nat := 0x480001
/-- `TB_STATE` (Table 08-8, R218). -/
abbrev TB_STATE : Nat := 0x480002
/-- `TB_QUALITY` (Table 08-8, R218). -/
abbrev TB_QUALITY : Nat := 0x480003
/-- `TB_ERR_EST` (Table 08-8, R218). -/
abbrev TB_ERR_EST : Nat := 0x480004
/-- `TB_ADDEND` (Table 08-8, R218). -/
abbrev TB_ADDEND : Nat := 0x480005
/-- `TB_ADDEND_SET` (Table 08-8, R218). -/
abbrev TB_ADDEND_SET : Nat := 0x480006
/-- `TB_STEP` (Table 08-8, R218). -/
abbrev TB_STEP : Nat := 0x480007
/-- `TB_STEP_COUNT` (Table 08-8, R218). -/
abbrev TB_STEP_COUNT : Nat := 0x480008
/-- `TB_LAST_STEP` (Table 08-8, R218). -/
abbrev TB_LAST_STEP : Nat := 0x480009
/-- `TB_HOLDOVER_DRIFT` (Table 08-8, R218). -/
abbrev TB_HOLDOVER_DRIFT : Nat := 0x48000A
/-- `TB_ERR_LIMIT` (Table 08-8, R218). -/
abbrev TB_ERR_LIMIT : Nat := 0x48000B
/-- `TB_EVENT_SRC` (Table 08-8, R218). -/
abbrev TB_EVENT_SRC : Nat := 0x48000C
/-- `PTP_ENABLE` (Table 08-8, R218). -/
abbrev PTP_ENABLE : Nat := 0x481001
/-- `PTP_PROFILE` (Table 08-8, R218). -/
abbrev PTP_PROFILE : Nat := 0x481002
/-- `PTP_DOMAIN` (Table 08-8, R218). -/
abbrev PTP_DOMAIN : Nat := 0x481003
/-- `PTP_VLAN` (Table 08-8, R218). -/
abbrev PTP_VLAN : Nat := 0x481004
/-- `PTP_KP` (Table 08-8, R218). -/
abbrev PTP_KP : Nat := 0x481005
/-- `PTP_KI` (Table 08-8, R218). -/
abbrev PTP_KI : Nat := 0x481006
/-- `PTP_RATE_MAX` (Table 08-8, R218). -/
abbrev PTP_RATE_MAX : Nat := 0x481007
/-- `PTP_SLEW_MAX` (Table 08-8, R218). -/
abbrev PTP_SLEW_MAX : Nat := 0x481008
/-- `PTP_STEP_TH` (Table 08-8, R218). -/
abbrev PTP_STEP_TH : Nat := 0x481009
/-- `PTP_LOCK_TH` (Table 08-8, R218). -/
abbrev PTP_LOCK_TH : Nat := 0x48100A
/-- `PTP_LOCK_COUNT` (Table 08-8, R218). -/
abbrev PTP_LOCK_COUNT : Nat := 0x48100B
/-- `PTP_UNLOCK_TH` (Table 08-8, R218). -/
abbrev PTP_UNLOCK_TH : Nat := 0x48100C
/-- `PTP_RUN_LIMIT` (Table 08-8, R218). -/
abbrev PTP_RUN_LIMIT : Nat := 0x48100D
/-- `PTP_PDELAY_TH` (Table 08-8, R218). -/
abbrev PTP_PDELAY_TH : Nat := 0x48100E
/-- `PTP_SLAVE_PORT` (Table 08-8, R218). -/
abbrev PTP_SLAVE_PORT : Nat := 0x482001
/-- `PTP_GM_ID` (Table 08-8, R218). -/
abbrev PTP_GM_ID : Nat := 0x482002
/-- `PTP_OFFSET` (Table 08-8, R218). -/
abbrev PTP_OFFSET : Nat := 0x482003
/-- `PTP_STEPS_REMOVED` (Table 08-8, R218). -/
abbrev PTP_STEPS_REMOVED : Nat := 0x482004
/-- `PTP_GM_INACCURACY` (Table 08-8, R218). -/
abbrev PTP_GM_INACCURACY : Nat := 0x482005
/-- `PTP_GM_CHANGES` (Table 08-8, R218). -/
abbrev PTP_GM_CHANGES : Nat := 0x482006
/-- `PTP_PORT_TX_CORR` (Table 08-8, R218). -/
abbrev PTP_PORT_TX_CORR (n : Nat) : Nat := 0x483001 + n * 256
/-- `PTP_PORT_RX_CORR` (Table 08-8, R218). -/
abbrev PTP_PORT_RX_CORR (n : Nat) : Nat := 0x483002 + n * 256
/-- `PTP_PORT_INT_TX` (Table 08-8, R218). -/
abbrev PTP_PORT_INT_TX (n : Nat) : Nat := 0x483003 + n * 256
/-- `PTP_PORT_INT_RX` (Table 08-8, R218). -/
abbrev PTP_PORT_INT_RX (n : Nat) : Nat := 0x483004 + n * 256
/-- `PTP_PORT_STATE` (Table 08-8, R218). -/
abbrev PTP_PORT_STATE (n : Nat) : Nat := 0x483005 + n * 256
/-- `PTP_PORT_LINK_DELAY` (Table 08-8, R218). -/
abbrev PTP_PORT_LINK_DELAY (n : Nat) : Nat := 0x483006 + n * 256
/-- `PTP_PORT_LINK_MIN` (Table 08-8, R218). -/
abbrev PTP_PORT_LINK_MIN (n : Nat) : Nat := 0x483007 + n * 256
/-- `PTP_PORT_LINK_MAX` (Table 08-8, R218). -/
abbrev PTP_PORT_LINK_MAX (n : Nat) : Nat := 0x483008 + n * 256
/-- `PTP_PORT_RATE_RATIO` (Table 08-8, R218). -/
abbrev PTP_PORT_RATE_RATIO (n : Nat) : Nat := 0x483009 + n * 256
/-- `PTP_PORT_AS_CAPABLE` (Table 08-8, R218). -/
abbrev PTP_PORT_AS_CAPABLE (n : Nat) : Nat := 0x48300A + n * 256
/-- `PTP_TC_FRAMES` (Table 08-8, R218). -/
abbrev PTP_TC_FRAMES (n : Nat) : Nat := 0x48300B + n * 256
/-- `PTP_TC_RES_MAX` (Table 08-8, R218). -/
abbrev PTP_TC_RES_MAX (n : Nat) : Nat := 0x48300C + n * 256
/-- `PTP_TC_NO_LINK` (Table 08-8, R218). -/
abbrev PTP_TC_NO_LINK (n : Nat) : Nat := 0x48300D + n * 256
/-- `PG_MODE` (Table 08-8, R218). -/
abbrev PG_MODE (n : Nat) : Nat := 0x484001 + n * 256
/-- `PG_START` (Table 08-8, R218). -/
abbrev PG_START (n : Nat) : Nat := 0x484002 + n * 256
/-- `PG_PERIOD` (Table 08-8, R218). -/
abbrev PG_PERIOD (n : Nat) : Nat := 0x484003 + n * 256
/-- `PG_WIDTH` (Table 08-8, R218). -/
abbrev PG_WIDTH (n : Nat) : Nat := 0x484004 + n * 256
/-- `PG_POLARITY` (Table 08-8, R218). -/
abbrev PG_POLARITY (n : Nat) : Nat := 0x484005 + n * 256
/-- `PG_FIRED` (Table 08-8, R218). -/
abbrev PG_FIRED (n : Nat) : Nat := 0x484006 + n * 256
/-- `PG_LATE` (Table 08-8, R218). -/
abbrev PG_LATE (n : Nat) : Nat := 0x484007 + n * 256
/-- `TSU_EDGE` (Table 08-8, R218). -/
abbrev TSU_EDGE (n : Nat) : Nat := 0x485001 + n * 256
/-- `TSU_MIN_WIDTH` (Table 08-8, R218). -/
abbrev TSU_MIN_WIDTH (n : Nat) : Nat := 0x485002 + n * 256
/-- `TSU_SKEW` (Table 08-8, R218). -/
abbrev TSU_SKEW (n : Nat) : Nat := 0x485003 + n * 256
/-- `TSU_FIFO_OUT` (Table 08-8, R218). -/
abbrev TSU_FIFO_OUT (n : Nat) : Nat := 0x485004 + n * 256
/-- `TSU_FIFO_LEVEL` (Table 08-8, R218). -/
abbrev TSU_FIFO_LEVEL (n : Nat) : Nat := 0x485005 + n * 256
/-- `TSU_OVERFLOW` (Table 08-8, R218). -/
abbrev TSU_OVERFLOW (n : Nat) : Nat := 0x485006 + n * 256
/-- `RTC_STATE` (Table 08-8, R218). -/
abbrev RTC_STATE : Nat := 0x486001
/-- `RTC_TAI` (Table 08-8, R218). -/
abbrev RTC_TAI : Nat := 0x486002
/-- `RTC_DRIFT` (Table 08-8, R218). -/
abbrev RTC_DRIFT : Nat := 0x486003
/-- `RTC_SET` (Table 08-8, R218). -/
abbrev RTC_SET : Nat := 0x486004
/-- `RTC_OSC_STOPS` (Table 08-8, R218). -/
abbrev RTC_OSC_STOPS : Nat := 0x486005
/-- `RTC_VBAT_LOW` (Table 08-8, R218). -/
abbrev RTC_VBAT_LOW : Nat := 0x486006
/-- `UTC_OFFSET` (Table 08-8, R218). -/
abbrev UTC_OFFSET : Nat := 0x487001
/-- `UTC_LEAP` (Table 08-8, R218). -/
abbrev UTC_LEAP : Nat := 0x487002
/-- `UTC_SOURCE` (Table 08-8, R218). -/
abbrev UTC_SOURCE : Nat := 0x487003
/-- `UTC_DATE` (Table 08-8, R218). -/
abbrev UTC_DATE : Nat := 0x487004
/-- `TP_SLOT_CH` (Table 09-9, R240). -/
abbrev TP_SLOT_CH (k : Nat) : Nat := 0x4C0001 + k
/-- `TP_TOTAL_MIB` (Table 09-9, R240). -/
abbrev TP_TOTAL_MIB : Nat := 0x4C0009
/-- `TP_EVENT_SRC` (Table 09-9, R240). -/
abbrev TP_EVENT_SRC : Nat := 0x4C000A
/-- `TP_POOL_MASK` (Table 09-9, R240). -/
abbrev TP_POOL_MASK (n : Nat) : Nat := 0x4C1001 + n * 256
/-- `TP_POOL_MIB` (Table 09-9, R240). -/
abbrev TP_POOL_MIB (n : Nat) : Nat := 0x4C1002 + n * 256
/-- `TP_SLOTS` (Table 09-9, R240). -/
abbrev TP_SLOTS (n : Nat) : Nat := 0x4C1003 + n * 256
/-- `TP_MODE` (Table 09-9, R240). -/
abbrev TP_MODE (n : Nat) : Nat := 0x4C1004 + n * 256
/-- `TP_PRE` (Table 09-9, R240). -/
abbrev TP_PRE (n : Nat) : Nat := 0x4C1005 + n * 256
/-- `TP_POST` (Table 09-9, R240). -/
abbrev TP_POST (n : Nat) : Nat := 0x4C1006 + n * 256
/-- `TP_AUTO_TIMEOUT` (Table 09-9, R240). -/
abbrev TP_AUTO_TIMEOUT (n : Nat) : Nat := 0x4C1007 + n * 256
/-- `TP_OVERWRITE` (Table 09-9, R240). -/
abbrev TP_OVERWRITE (n : Nat) : Nat := 0x4C1008 + n * 256
/-- `TP_EVENT_ENABLE` (Table 09-9, R240). -/
abbrev TP_EVENT_ENABLE (n : Nat) : Nat := 0x4C1009 + n * 256
/-- `TP_CMD` (Table 09-9, R240). -/
abbrev TP_CMD (n : Nat) : Nat := 0x4C100A + n * 256
/-- `TP_STATE` (Table 09-9, R240). -/
abbrev TP_STATE (n : Nat) : Nat := 0x4C100B + n * 256
/-- `TP_CAPACITY` (Table 09-9, R240). -/
abbrev TP_CAPACITY (n : Nat) : Nat := 0x4C100C + n * 256
/-- `TP_PRE_EFF` (Table 09-9, R240). -/
abbrev TP_PRE_EFF (n : Nat) : Nat := 0x4C100D + n * 256
/-- `TP_RECORDS` (Table 09-9, R240). -/
abbrev TP_RECORDS (n : Nat) : Nat := 0x4C100E + n * 256
/-- `TP_TRIG_IGNORED` (Table 09-9, R240). -/
abbrev TP_TRIG_IGNORED (n : Nat) : Nat := 0x4C100F + n * 256
/-- `TP_GAPS` (Table 09-9, R240). -/
abbrev TP_GAPS (n : Nat) : Nat := 0x4C1010 + n * 256
/-- `TP_LAST_SLOT` (Table 09-9, R240). -/
abbrev TP_LAST_SLOT (n : Nat) : Nat := 0x4C1011 + n * 256
/-- `TC_KIND` (Table 09-9, R240). -/
abbrev TC_KIND (n : Nat) : Nat := 0x4C2001 + n * 256
/-- `TC_SLOT` (Table 09-9, R240). -/
abbrev TC_SLOT (n : Nat) : Nat := 0x4C2002 + n * 256
/-- `TC_TH` (Table 09-9, R240). -/
abbrev TC_TH (n : Nat) : Nat := 0x4C2003 + n * 256
/-- `TC_TH_HI` (Table 09-9, R240). -/
abbrev TC_TH_HI (n : Nat) : Nat := 0x4C2004 + n * 256
/-- `TC_DELTA_D` (Table 09-9, R240). -/
abbrev TC_DELTA_D (n : Nat) : Nat := 0x4C2005 + n * 256
/-- `TC_HYST` (Table 09-9, R240). -/
abbrev TC_HYST (n : Nat) : Nat := 0x4C2006 + n * 256
/-- `TP_RECORD` (Table 09-9, R240). -/
abbrev TP_RECORD (n k : Nat) : Nat := 0x4C4001 + n * 256 + k
/-- `TP_RELEASE` (Table 09-9, R240). -/
abbrev TP_RELEASE (n : Nat) : Nat := 0x4C4401 + n * 256
/-- `TP_SLOT_FULL` (Table 09-9, R240). -/
abbrev TP_SLOT_FULL (n : Nat) : Nat := 0x4C4402 + n * 256
/-- `TW_ENABLE` (Table 09-9, R240). -/
abbrev TW_ENABLE (n : Nat) : Nat := 0x4E0001 + n * 256
/-- `TW_POOL` (Table 09-9, R240). -/
abbrev TW_POOL (n : Nat) : Nat := 0x4E0002 + n * 256
/-- `TW_COND` (Table 09-9, R240). -/
abbrev TW_COND (n : Nat) : Nat := 0x4E0003 + n * 256
/-- `TW_LINE_ID` (Table 09-9, R240). -/
abbrev TW_LINE_ID (n : Nat) : Nat := 0x4E0004 + n * 256
/-- `TW_END` (Table 09-9, R240). -/
abbrev TW_END (n : Nat) : Nat := 0x4E0005 + n * 256
/-- `TW_LENGTH` (Table 09-9, R240). -/
abbrev TW_LENGTH (n : Nat) : Nat := 0x4E0006 + n * 256
/-- `TW_VELOCITY` (Table 09-9, R240). -/
abbrev TW_VELOCITY (n : Nat) : Nat := 0x4E0007 + n * 256
/-- `TW_BLANK` (Table 09-9, R240). -/
abbrev TW_BLANK (n : Nat) : Nat := 0x4E0008 + n * 256
/-- `TW_SE_POLARITY` (Table 09-9, R240). -/
abbrev TW_SE_POLARITY (n : Nat) : Nat := 0x4E0009 + n * 256
/-- `TW_MATCH_MARGIN` (Table 09-9, R240). -/
abbrev TW_MATCH_MARGIN (n : Nat) : Nat := 0x4E000A + n * 256
/-- `TW_MATCH_TIMEOUT` (Table 09-9, R240). -/
abbrev TW_MATCH_TIMEOUT (n : Nat) : Nat := 0x4E000B + n * 256
/-- `TW_END_ZONE` (Table 09-9, R240). -/
abbrev TW_END_ZONE (n : Nat) : Nat := 0x4E000C + n * 256
/-- `TW_LOCAL_OUT` (Table 09-9, R240). -/
abbrev TW_LOCAL_OUT (n : Nat) : Nat := 0x4E000D + n * 256
/-- `TW_REMOTE_IN` (Table 09-9, R240). -/
abbrev TW_REMOTE_IN (n : Nat) : Nat := 0x4E000E + n * 256
/-- `TW_SE_STATUS` (Table 09-9, R240). -/
abbrev TW_SE_STATUS (n : Nat) : Nat := 0x4E000F + n * 256
/-- `TW_SE_X` (Table 09-9, R240). -/
abbrev TW_SE_X (n : Nat) : Nat := 0x4E0010 + n * 256
/-- `TW_SE_ALT` (Table 09-9, R240). -/
abbrev TW_SE_ALT (n : Nat) : Nat := 0x4E0011 + n * 256
/-- `TW_DE_STATUS` (Table 09-9, R240). -/
abbrev TW_DE_STATUS (n : Nat) : Nat := 0x4E0012 + n * 256
/-- `TW_DE_X_A` (Table 09-9, R240). -/
abbrev TW_DE_X_A (n : Nat) : Nat := 0x4E0013 + n * 256
/-- `TW_DE_X_OWN` (Table 09-9, R240). -/
abbrev TW_DE_X_OWN (n : Nat) : Nat := 0x4E0014 + n * 256
/-- `TW_DE_ERR` (Table 09-9, R240). -/
abbrev TW_DE_ERR (n : Nat) : Nat := 0x4E0015 + n * 256
/-- `TW_DE_FLAGS` (Table 09-9, R240). -/
abbrev TW_DE_FLAGS (n : Nat) : Nat := 0x4E0016 + n * 256
/-- `TW_REMOTE_REJECTS` (Table 09-9, R240). -/
abbrev TW_REMOTE_REJECTS (n : Nat) : Nat := 0x4E0017 + n * 256
/-- `TW_ARRIVALS` (Table 09-9, R240). -/
abbrev TW_ARRIVALS (n : Nat) : Nat := 0x4E0018 + n * 256
/-- `PH_ENABLE` (Table 10-8, R259). -/
abbrev PH_ENABLE : Nat := 0x500001
/-- `PH_F_NOM` (Table 10-8, R259). -/
abbrev PH_F_NOM : Nat := 0x500002
/-- `PH_UDP_PORT` (Table 10-8, R259). -/
abbrev PH_UDP_PORT : Nat := 0x500003
/-- `PH_UNLOCK_ACTION` (Table 10-8, R259). -/
abbrev PH_UNLOCK_ACTION : Nat := 0x500004
/-- `PH_UNLOCK_STOP` (Table 10-8, R259). -/
abbrev PH_UNLOCK_STOP : Nat := 0x500005
/-- `PH_HEADER` (Table 10-8, R259). -/
abbrev PH_HEADER : Nat := 0x500006
/-- `PH_LAT` (Table 10-8, R259). -/
abbrev PH_LAT : Nat := 0x500007
/-- `PH_LON` (Table 10-8, R259). -/
abbrev PH_LON : Nat := 0x500008
/-- `PH_ELEV` (Table 10-8, R259). -/
abbrev PH_ELEV : Nat := 0x500009
/-- `PH_CFG_CNT` (Table 10-8, R259). -/
abbrev PH_CFG_CNT : Nat := 0x50000A
/-- `PH_EVENT_SRC` (Table 10-8, R259). -/
abbrev PH_EVENT_SRC : Nat := 0x50000B
/-- `PH_SET_ENABLE` (Table 10-8, R259). -/
abbrev PH_SET_ENABLE (n : Nat) : Nat := 0x501001 + n * 256
/-- `PH_CH_A` (Table 10-8, R259). -/
abbrev PH_CH_A (n : Nat) : Nat := 0x501002 + n * 256
/-- `PH_CH_B` (Table 10-8, R259). -/
abbrev PH_CH_B (n : Nat) : Nat := 0x501003 + n * 256
/-- `PH_CH_C` (Table 10-8, R259). -/
abbrev PH_CH_C (n : Nat) : Nat := 0x501004 + n * 256
/-- `PH_CLASS` (Table 10-8, R259). -/
abbrev PH_CLASS (n : Nat) : Nat := 0x501005 + n * 256
/-- `PH_KIND` (Table 10-8, R259). -/
abbrev PH_KIND (n : Nat) : Nat := 0x501006 + n * 256
/-- `PH_IDCODE` (Table 10-8, R259). -/
abbrev PH_IDCODE (n : Nat) : Nat := 0x501007 + n * 256
/-- `PH_STN` (Table 10-8, R259). -/
abbrev PH_STN (n : Nat) : Nat := 0x501008 + n * 256
/-- `PH_GPMUID` (Table 10-8, R259). -/
abbrev PH_GPMUID (n : Nat) : Nat := 0x501009 + n * 256
/-- `PH_LAST` (Table 10-8, R259). -/
abbrev PH_LAST (n : Nat) : Nat := 0x50100A + n * 256
/-- `PH_INVALID_COUNT` (Table 10-8, R259). -/
abbrev PH_INVALID_COUNT (n : Nat) : Nat := 0x50100B + n * 256
/-- `PHS_ENABLE` (Table 10-8, R259). -/
abbrev PHS_ENABLE (n : Nat) : Nat := 0x502001 + n * 256
/-- `PHS_IDCODE` (Table 10-8, R259). -/
abbrev PHS_IDCODE (n : Nat) : Nat := 0x502002 + n * 256
/-- `PHS_RATE` (Table 10-8, R259). -/
abbrev PHS_RATE (n : Nat) : Nat := 0x502003 + n * 256
/-- `PHS_SETS` (Table 10-8, R259). -/
abbrev PHS_SETS (n : Nat) : Nat := 0x502004 + n * 256
/-- `PHS_POLAR` (Table 10-8, R259). -/
abbrev PHS_POLAR (n : Nat) : Nat := 0x502005 + n * 256
/-- `PHS_MODE` (Table 10-8, R259). -/
abbrev PHS_MODE (n : Nat) : Nat := 0x502006 + n * 256
/-- `PHS_DEST` (Table 10-8, R259). -/
abbrev PHS_DEST (n : Nat) : Nat := 0x502007 + n * 256
/-- `PHS_ALLOW` (Table 10-8, R259). -/
abbrev PHS_ALLOW (n : Nat) : Nat := 0x502008 + n * 256
/-- `PHS_STATE` (Table 10-8, R259). -/
abbrev PHS_STATE (n : Nat) : Nat := 0x502009 + n * 256
/-- `PHS_FRAMES` (Table 10-8, R259). -/
abbrev PHS_FRAMES (n : Nat) : Nat := 0x50200A + n * 256
/-- `PHS_LATE` (Table 10-8, R259). -/
abbrev PHS_LATE (n : Nat) : Nat := 0x50200B + n * 256
/-- `PHS_CMD_REJECT` (Table 10-8, R259). -/
abbrev PHS_CMD_REJECT (n : Nat) : Nat := 0x50200C + n * 256
/-- `TASK_ENABLE` (Table 11-9, R279). -/
abbrev TASK_ENABLE (n : Nat) : Nat := 0x540001 + n * 256
/-- `TASK_STATE` (Table 11-9, R279). -/
abbrev TASK_STATE (n : Nat) : Nat := 0x540002 + n * 256
/-- `TASK_ENTRY` (Table 11-9, R279). -/
abbrev TASK_ENTRY (n : Nat) : Nat := 0x540003 + n * 256
/-- `TASK_ARG` (Table 11-9, R279). -/
abbrev TASK_ARG (n : Nat) : Nat := 0x540004 + n * 256
/-- `TASK_STALL` (Table 11-9, R279). -/
abbrev TASK_STALL (n : Nat) : Nat := 0x540005 + n * 256
/-- `TASK_CORES` (Table 11-9, R279). -/
abbrev TASK_CORES (n : Nat) : Nat := 0x540006 + n * 256
/-- `TASK_MODES` (Table 11-9, R279). -/
abbrev TASK_MODES (n : Nat) : Nat := 0x540007 + n * 256
/-- `TASK_RELEASE` (Table 11-9, R279). -/
abbrev TASK_RELEASE (n : Nat) : Nat := 0x540008 + n * 256
/-- `TASK_START` (Table 11-9, R279). -/
abbrev TASK_START (n : Nat) : Nat := 0x540009 + n * 256
/-- `TASK_PERIOD` (Table 11-9, R279). -/
abbrev TASK_PERIOD (n : Nat) : Nat := 0x54000A + n * 256
/-- `TASK_CYC_N` (Table 11-9, R279). -/
abbrev TASK_CYC_N (n : Nat) : Nat := 0x54000B + n * 256
/-- `TASK_CYC_OFFSET` (Table 11-9, R279). -/
abbrev TASK_CYC_OFFSET (n : Nat) : Nat := 0x54000C + n * 256
/-- `TASK_EVENT` (Table 11-9, R279). -/
abbrev TASK_EVENT (n : Nat) : Nat := 0x54000D + n * 256
/-- `TASK_DEP_INIT` (Table 11-9, R279). -/
abbrev TASK_DEP_INIT (n : Nat) : Nat := 0x54000E + n * 256
/-- `TASK_DEP` (Table 11-9, R279). -/
abbrev TASK_DEP (n : Nat) : Nat := 0x54000F + n * 256
/-- `TASK_SUCC` (Table 11-9, R279). -/
abbrev TASK_SUCC (n k : Nat) : Nat := 0x540010 + n * 256 + k
/-- `TASK_DEADLINE` (Table 11-9, R279). -/
abbrev TASK_DEADLINE (n : Nat) : Nat := 0x540018 + n * 256
/-- `TASK_BUDGET` (Table 11-9, R279). -/
abbrev TASK_BUDGET (n : Nat) : Nat := 0x540019 + n * 256
/-- `TASK_RUNS` (Table 11-9, R279). -/
abbrev TASK_RUNS (n : Nat) : Nat := 0x54001A + n * 256
/-- `TASK_MISSES` (Table 11-9, R279). -/
abbrev TASK_MISSES (n : Nat) : Nat := 0x54001B + n * 256
/-- `TASK_OVER_BUDGET` (Table 11-9, R279). -/
abbrev TASK_OVER_BUDGET (n : Nat) : Nat := 0x54001C + n * 256
/-- `TASK_OVERLAPS` (Table 11-9, R279). -/
abbrev TASK_OVERLAPS (n : Nat) : Nat := 0x54001D + n * 256
/-- `TASK_RESP_LAST` (Table 11-9, R279). -/
abbrev TASK_RESP_LAST (n : Nat) : Nat := 0x54001E + n * 256
/-- `TASK_RESP_MAX` (Table 11-9, R279). -/
abbrev TASK_RESP_MAX (n : Nat) : Nat := 0x54001F + n * 256
/-- `TASK_STATUS_LAST` (Table 11-9, R279). -/
abbrev TASK_STATUS_LAST (n : Nat) : Nat := 0x540020 + n * 256
/-- `TASK_OWNER` (Table 11-9, R279). -/
abbrev TASK_OWNER (n : Nat) : Nat := 0x540021 + n * 256
/-- `STB_UTIL_MAX` (Table 11-9, R279). -/
abbrev STB_UTIL_MAX : Nat := 0x580001
/-- `STB_PREFETCH_RECLAIM` (Table 11-9, R279). -/
abbrev STB_PREFETCH_RECLAIM : Nat := 0x580002
/-- `STB_CORE_WDT` (Table 11-9, R279). -/
abbrev STB_CORE_WDT : Nat := 0x580003
/-- `STB_QUEUE_PEAK` (Table 11-9, R279). -/
abbrev STB_QUEUE_PEAK : Nat := 0x580004
/-- `STB_BAD_DONE` (Table 11-9, R279). -/
abbrev STB_BAD_DONE : Nat := 0x580005
/-- `STB_EVENT_SRC` (Table 11-9, R279). -/
abbrev STB_EVENT_SRC : Nat := 0x580006
/-- `STB_PROD_SUCC` (Table 11-9, R279). -/
abbrev STB_PROD_SUCC (n k : Nat) : Nat := 0x580801 + n * 256 + k
/-- `STB_PROD_COUNT` (Table 11-9, R279). -/
abbrev STB_PROD_COUNT (n : Nat) : Nat := 0x580809 + n * 256
/-- `STALL_WEIGHT` (Table 11-9, R279). -/
abbrev STALL_WEIGHT (n : Nat) : Nat := 0x581001 + n * 256
/-- `STALL_READY` (Table 11-9, R279). -/
abbrev STALL_READY (n : Nat) : Nat := 0x581002 + n * 256
/-- `STALL_GRANTS` (Table 11-9, R279). -/
abbrev STALL_GRANTS (n : Nat) : Nat := 0x581003 + n * 256
/-- `CORE_STATE` (Table 11-9, R279). -/
abbrev CORE_STATE (n : Nat) : Nat := 0x582001 + n * 256
/-- `CORE_TASK` (Table 11-9, R279). -/
abbrev CORE_TASK (n : Nat) : Nat := 0x582002 + n * 256
/-- `CORE_LOAD` (Table 11-9, R279). -/
abbrev CORE_LOAD (n : Nat) : Nat := 0x582003 + n * 256
/-- `CORE_GRANTS` (Table 11-9, R279). -/
abbrev CORE_GRANTS (n : Nat) : Nat := 0x582004 + n * 256
/-- `TL_ENABLE` (Table 11-9, R279). -/
abbrev TL_ENABLE : Nat := 0x583001
/-- `TL_BASE` (Table 11-9, R279). -/
abbrev TL_BASE : Nat := 0x583002
/-- `TL_SIZE` (Table 11-9, R279). -/
abbrev TL_SIZE : Nat := 0x583003
/-- `TL_MODE` (Table 11-9, R279). -/
abbrev TL_MODE : Nat := 0x583004
/-- `TL_KIND_MASK` (Table 11-9, R279). -/
abbrev TL_KIND_MASK : Nat := 0x583005
/-- `TL_STALL_MASK` (Table 11-9, R279). -/
abbrev TL_STALL_MASK : Nat := 0x583006
/-- `TL_SOURCE_MASK` (Table 11-9, R279). -/
abbrev TL_SOURCE_MASK : Nat := 0x583007
/-- `TL_WR_PTR` (Table 11-9, R279). -/
abbrev TL_WR_PTR : Nat := 0x583008
/-- `TL_RD_PTR` (Table 11-9, R279). -/
abbrev TL_RD_PTR : Nat := 0x583009
/-- `TL_DROPPED` (Table 11-9, R279). -/
abbrev TL_DROPPED : Nat := 0x58300A
/-- `TL_WATERMARK` (Table 11-9, R279). -/
abbrev TL_WATERMARK : Nat := 0x58300B
/-- `TL_DATA` (Table 11-9, R279). -/
abbrev TL_DATA : Nat := 0x58300C
/-- `SEQ_STATE` (Table 12-9, R297). -/
abbrev SEQ_STATE : Nat := 0x5C0001
/-- `SEQ_CMD` (Table 12-9, R297). -/
abbrev SEQ_CMD : Nat := 0x5C0002
/-- `SEQ_PERIOD` (Table 12-9, R297). -/
abbrev SEQ_PERIOD : Nat := 0x5C0003
/-- `SEQ_CORES` (Table 12-9, R297). -/
abbrev SEQ_CORES : Nat := 0x5C0004
/-- `SEQ_LOAD_MAX` (Table 12-9, R297). -/
abbrev SEQ_LOAD_MAX : Nat := 0x5C0005
/-- `SEQ_C_SCAN` (Table 12-9, R297). -/
abbrev SEQ_C_SCAN : Nat := 0x5C0006
/-- `SEQ_SCAN_COUNT` (Table 12-9, R297). -/
abbrev SEQ_SCAN_COUNT : Nat := 0x5C0007
/-- `SEQ_SCAN_LAST` (Table 12-9, R297). -/
abbrev SEQ_SCAN_LAST : Nat := 0x5C0008
/-- `SEQ_LATE` (Table 12-9, R297). -/
abbrev SEQ_LATE : Nat := 0x5C0009
/-- `SEQ_SKIPPED` (Table 12-9, R297). -/
abbrev SEQ_SKIPPED : Nat := 0x5C000A
/-- `SEQ_VERSION` (Table 12-9, R297). -/
abbrev SEQ_VERSION : Nat := 0x5C000B
/-- `SEQ_EXCH_SCAN` (Table 12-9, R297). -/
abbrev SEQ_EXCH_SCAN : Nat := 0x5C000C
/-- `SEQ_OBJ_REFUSED` (Table 12-9, R297). -/
abbrev SEQ_OBJ_REFUSED : Nat := 0x5C000D
/-- `SEQ_EVENT_SRC` (Table 12-9, R297). -/
abbrev SEQ_EVENT_SRC : Nat := 0x5C000E
/-- `SEQ_IMAGE` (Table 12-9, R297). -/
abbrev SEQ_IMAGE : Nat := 0x5C0101
/-- `SEQ_IMG_ERR` (Table 12-9, R297). -/
abbrev SEQ_IMG_ERR : Nat := 0x5C0102
/-- `SEQ_IMG_ERR_INST` (Table 12-9, R297). -/
abbrev SEQ_IMG_ERR_INST : Nat := 0x5C0103
/-- `STN_ENABLE` (Table 12-9, R297). -/
abbrev STN_ENABLE (n : Nat) : Nat := 0x5C1001 + n * 256
/-- `STN_BUS` (Table 12-9, R297). -/
abbrev STN_BUS (n : Nat) : Nat := 0x5C1002 + n * 256
/-- `STN_ID_IN` (Table 12-9, R297). -/
abbrev STN_ID_IN (n : Nat) : Nat := 0x5C1003 + n * 256
/-- `STN_ID_OUT` (Table 12-9, R297). -/
abbrev STN_ID_OUT (n : Nat) : Nat := 0x5C1004 + n * 256
/-- `STN_LEN_IN` (Table 12-9, R297). -/
abbrev STN_LEN_IN (n : Nat) : Nat := 0x5C1005 + n * 256
/-- `STN_LEN_OUT` (Table 12-9, R297). -/
abbrev STN_LEN_OUT (n : Nat) : Nat := 0x5C1006 + n * 256
/-- `STN_TIMEOUT` (Table 12-9, R297). -/
abbrev STN_TIMEOUT (n : Nat) : Nat := 0x5C1007 + n * 256
/-- `STN_QUALITY` (Table 12-9, R297). -/
abbrev STN_QUALITY (n : Nat) : Nat := 0x5C1008 + n * 256
/-- `STN_IN_IMAGE` (Table 12-9, R297). -/
abbrev STN_IN_IMAGE (n : Nat) : Nat := 0x5C1009 + n * 256
/-- `STN_OUT_IMAGE` (Table 12-9, R297). -/
abbrev STN_OUT_IMAGE (n : Nat) : Nat := 0x5C100A + n * 256
/-- `STN_OUT_DISCARDED` (Table 12-9, R297). -/
abbrev STN_OUT_DISCARDED (n : Nat) : Nat := 0x5C100B + n * 256
/-- `STN_TX_FAIL` (Table 12-9, R297). -/
abbrev STN_TX_FAIL (n : Nat) : Nat := 0x5C100C + n * 256
/-- `STN_DROPOUTS` (Table 12-9, R297). -/
abbrev STN_DROPOUTS (n : Nat) : Nat := 0x5C100D + n * 256
/-- `PV` (Table 12-9, R297). -/
abbrev PV (n k : Nat) : Nat := 0x810001 + n * 256 + k
/-- `BW_STATE` (Table 13-7, R325). -/
abbrev BW_STATE : Nat := 0x600001
/-- `BW_CAUSES` (Table 13-7, R325). -/
abbrev BW_CAUSES : Nat := 0x600002
/-- `BW_LATCHED` (Table 13-7, R325). -/
abbrev BW_LATCHED : Nat := 0x600003
/-- `BW_FIRST_CAUSE` (Table 13-7, R325). -/
abbrev BW_FIRST_CAUSE : Nat := 0x600004
/-- `BW_LATCH_TIME` (Table 13-7, R325). -/
abbrev BW_LATCH_TIME : Nat := 0x600005
/-- `BW_INJECTING` (Table 13-7, R325). -/
abbrev BW_INJECTING : Nat := 0x600006
/-- `BW_GUARD_BOUND` (Table 13-7, R325). -/
abbrev BW_GUARD_BOUND : Nat := 0x600007
/-- `BW_LATCH_COUNT` (Table 13-7, R325). -/
abbrev BW_LATCH_COUNT : Nat := 0x600008
/-- `BW_PIN_READBACK` (Table 13-7, R325). -/
abbrev BW_PIN_READBACK : Nat := 0x600009
/-- `BW_EVENT_SRC` (Table 13-7, R325). -/
abbrev BW_EVENT_SRC : Nat := 0x60000A
/-- `BW_LOR` (Table 13-7, R325). -/
abbrev BW_LOR : Nat := 0x601001
/-- `BW_LOR_SEQ` (Table 13-7, R325). -/
abbrev BW_LOR_SEQ : Nat := 0x601002
/-- `BW_LOR_ARMED` (Table 13-7, R325). -/
abbrev BW_LOR_ARMED : Nat := 0x601003
/-- `BW_LOR_STRAP` (Table 13-7, R325). -/
abbrev BW_LOR_STRAP : Nat := 0x601004
/-- `BW_LOR_WINDOW` (Table 13-7, R325). -/
abbrev BW_LOR_WINDOW : Nat := 0x601005
/-- `BW_LOR_REFUSED` (Table 13-7, R325). -/
abbrev BW_LOR_REFUSED : Nat := 0x601006
/-- `BWC_ENABLE` (Table 13-7, R325). -/
abbrev BWC_ENABLE (n : Nat) : Nat := 0x602001 + n * 256
/-- `BWC_LO` (Table 13-7, R325). -/
abbrev BWC_LO (n : Nat) : Nat := 0x602002 + n * 256
/-- `BWC_HI` (Table 13-7, R325). -/
abbrev BWC_HI (n : Nat) : Nat := 0x602003 + n * 256
/-- `BWC_FILTER` (Table 13-7, R325). -/
abbrev BWC_FILTER (n : Nat) : Nat := 0x602004 + n * 256
/-- `BWC_GLITCHES` (Table 13-7, R325). -/
abbrev BWC_GLITCHES (n : Nat) : Nat := 0x602005 + n * 256
/-- `TRIPIN_ENABLE` (Table 13-7, R325). -/
abbrev TRIPIN_ENABLE (n : Nat) : Nat := 0x603001 + n * 256
/-- `TRIPIN_FILTER` (Table 13-7, R325). -/
abbrev TRIPIN_FILTER (n : Nat) : Nat := 0x603002 + n * 256
/-- `TRIPIN_DISC_TIME` (Table 13-7, R325). -/
abbrev TRIPIN_DISC_TIME (n : Nat) : Nat := 0x603003 + n * 256
/-- `TRIPIN_STATE` (Table 13-7, R325). -/
abbrev TRIPIN_STATE (n : Nat) : Nat := 0x603004 + n * 256
/-- `TRIPIN_DISC_COUNT` (Table 13-7, R325). -/
abbrev TRIPIN_DISC_COUNT (n : Nat) : Nat := 0x603005 + n * 256
/-- `TRIPIN_GLITCHES` (Table 13-7, R325). -/
abbrev TRIPIN_GLITCHES (n : Nat) : Nat := 0x603006 + n * 256
/-- `BW_INJECT_MODE` (Table 13-7, R325). -/
abbrev BW_INJECT_MODE : Nat := 0x604001
/-- `BW_INJECT_MIN` (Table 13-7, R325). -/
abbrev BW_INJECT_MIN : Nat := 0x604002
/-- `BW_PAIR_LINK_TRIP` (Table 13-7, R325). -/
abbrev BW_PAIR_LINK_TRIP : Nat := 0x604003
/-- `BW_SET_ACTIVE` (Table 13-7, R325). -/
abbrev BW_SET_ACTIVE : Nat := 0x604801
/-- `BW_SET_CRC` (Table 13-7, R325). -/
abbrev BW_SET_CRC : Nat := 0x604802
/-- `BW_SET_ACTIVE_CRC` (Table 13-7, R325). -/
abbrev BW_SET_ACTIVE_CRC : Nat := 0x604803
/-- `BW_SET_ACTIVATE` (Table 13-7, R325). -/
abbrev BW_SET_ACTIVATE : Nat := 0x604804
/-- `GD_ENABLE` (Table 13-7, R325). -/
abbrev GD_ENABLE : Nat := 0x605001
/-- `GD_VCAP_MAX` (Table 13-7, R325). -/
abbrev GD_VCAP_MAX : Nat := 0x605002
/-- `GD_VCAP_MIN` (Table 13-7, R325). -/
abbrev GD_VCAP_MIN : Nat := 0x605003
/-- `GD_I_CH0` (Table 13-7, R325). -/
abbrev GD_I_CH0 : Nat := 0x605004
/-- `GD_I_CH1` (Table 13-7, R325). -/
abbrev GD_I_CH1 : Nat := 0x605005
/-- `GD_I_MAX` (Table 13-7, R325). -/
abbrev GD_I_MAX : Nat := 0x605006
/-- `GD_VDC_CH` (Table 13-7, R325). -/
abbrev GD_VDC_CH : Nat := 0x605007
/-- `GD_VDC_MAX` (Table 13-7, R325). -/
abbrev GD_VDC_MAX : Nat := 0x605008
/-- `GD_CAUSE` (Table 13-7, R325). -/
abbrev GD_CAUSE : Nat := 0x605009
/-- `GD_XCHECK_FAIL` (Table 13-7, R325). -/
abbrev GD_XCHECK_FAIL : Nat := 0x60500A
/-- `BW_TEST` (Table 13-7, R325). -/
abbrev BW_TEST : Nat := 0x605801
/-- `BW_TEST_RESULT` (Table 13-7, R325). -/
abbrev BW_TEST_RESULT : Nat := 0x605802
/-- `SL_ENABLE` (Table 13-7, R325). -/
abbrev SL_ENABLE : Nat := 0x610001
/-- `SL_ID` (Table 13-7, R325). -/
abbrev SL_ID : Nat := 0x610002
/-- `SL_DST_ID` (Table 13-7, R325). -/
abbrev SL_DST_ID : Nat := 0x610003
/-- `SL_PERIOD` (Table 13-7, R325). -/
abbrev SL_PERIOD : Nat := 0x610004
/-- `SL_VLAN` (Table 13-7, R325). -/
abbrev SL_VLAN : Nat := 0x610005
/-- `SL_TRIP_SEND` (Table 13-7, R325). -/
abbrev SL_TRIP_SEND : Nat := 0x610006
/-- `SL_AGE_MAX` (Table 13-7, R325). -/
abbrev SL_AGE_MAX : Nat := 0x610007
/-- `SL_TX_LATE` (Table 13-7, R325). -/
abbrev SL_TX_LATE : Nat := 0x610008
/-- `SL_PREEMPT_ACTIVE` (Table 13-7, R325). -/
abbrev SL_PREEMPT_ACTIVE : Nat := 0x610009
/-- `SLS_ENABLE` (Table 13-7, R325). -/
abbrev SLS_ENABLE (n : Nat) : Nat := 0x611001 + n * 256
/-- `SLS_SRC_ID` (Table 13-7, R325). -/
abbrev SLS_SRC_ID (n : Nat) : Nat := 0x611002 + n * 256
/-- `SLS_DST_ID` (Table 13-7, R325). -/
abbrev SLS_DST_ID (n : Nat) : Nat := 0x611003 + n * 256
/-- `SLS_TIMEOUT` (Table 13-7, R325). -/
abbrev SLS_TIMEOUT (n : Nat) : Nat := 0x611004 + n * 256
/-- `SLS_LOSS_REACTION` (Table 13-7, R325). -/
abbrev SLS_LOSS_REACTION (n : Nat) : Nat := 0x611005 + n * 256
/-- `SLS_TRIP_ACCEPT` (Table 13-7, R325). -/
abbrev SLS_TRIP_ACCEPT (n : Nat) : Nat := 0x611006 + n * 256
/-- `SLS_STATE` (Table 13-7, R325). -/
abbrev SLS_STATE (n : Nat) : Nat := 0x611007 + n * 256
/-- `SLS_REMOTE_TRIP` (Table 13-7, R325). -/
abbrev SLS_REMOTE_TRIP (n : Nat) : Nat := 0x611008 + n * 256
/-- `SLS_REJECTS` (Table 13-7, R325). -/
abbrev SLS_REJECTS (n : Nat) : Nat := 0x611009 + n * 256
/-- `SLS_MISMATCH` (Table 13-7, R325). -/
abbrev SLS_MISMATCH (n : Nat) : Nat := 0x61100A + n * 256
/-- `SLS_SINGLE` (Table 13-7, R325). -/
abbrev SLS_SINGLE (n : Nat) : Nat := 0x61100B + n * 256
/-- `PR_ROLE` (Table 14-8, R349). -/
abbrev PR_ROLE : Nat := 0x640001
/-- `PR_PREF` (Table 14-8, R349). -/
abbrev PR_PREF : Nat := 0x640002
/-- `PR_COUPLE` (Table 14-8, R349). -/
abbrev PR_COUPLE : Nat := 0x640003
/-- `PR_MISMATCH` (Table 14-8, R349). -/
abbrev PR_MISMATCH : Nat := 0x640004
/-- `PR_PARTNER_NODE` (Table 14-8, R349). -/
abbrev PR_PARTNER_NODE : Nat := 0x640005
/-- `PR_ARB_FILTER` (Table 14-8, R349). -/
abbrev PR_ARB_FILTER : Nat := 0x640006
/-- `PR_ARB_STATE` (Table 14-8, R349). -/
abbrev PR_ARB_STATE : Nat := 0x640007
/-- `PR_HEALTH` (Table 14-8, R349). -/
abbrev PR_HEALTH : Nat := 0x640008
/-- `PR_READY` (Table 14-8, R349). -/
abbrev PR_READY : Nat := 0x640009
/-- `PR_EVENT_SRC` (Table 14-8, R349). -/
abbrev PR_EVENT_SRC : Nat := 0x64000A
/-- `PR_CP_INTERVAL` (Table 14-8, R349). -/
abbrev PR_CP_INTERVAL : Nat := 0x641001
/-- `PR_CP_SIZE` (Table 14-8, R349). -/
abbrev PR_CP_SIZE : Nat := 0x641002
/-- `PR_CP_AGE` (Table 14-8, R349). -/
abbrev PR_CP_AGE : Nat := 0x641003
/-- `PR_CP_SKIPPED` (Table 14-8, R349). -/
abbrev PR_CP_SKIPPED : Nat := 0x641004
/-- `PR_GAP_BOUND` (Table 14-8, R349). -/
abbrev PR_GAP_BOUND : Nat := 0x641005
/-- `PR_LAST_GAP` (Table 14-8, R349). -/
abbrev PR_LAST_GAP : Nat := 0x641006
/-- `PR_TAKEOVERS` (Table 14-8, R349). -/
abbrev PR_TAKEOVERS : Nat := 0x641007
/-- `PR_COLD_TAKEOVERS` (Table 14-8, R349). -/
abbrev PR_COLD_TAKEOVERS : Nat := 0x641008
/-- `PR_LAST_TAKEOVER` (Table 14-8, R349). -/
abbrev PR_LAST_TAKEOVER : Nat := 0x641009
/-- `PR_BREAK_OK` (Table 14-8, R349). -/
abbrev PR_BREAK_OK : Nat := 0x64100A
/-- `PR_REVERT_ENABLE` (Table 14-8, R349). -/
abbrev PR_REVERT_ENABLE : Nat := 0x642001
/-- `PR_REVERT_HOLDOFF` (Table 14-8, R349). -/
abbrev PR_REVERT_HOLDOFF : Nat := 0x642002
/-- `PR_EXERCISE_PERIOD` (Table 14-8, R349). -/
abbrev PR_EXERCISE_PERIOD : Nat := 0x642003
/-- `PR_EXERCISE_START` (Table 14-8, R349). -/
abbrev PR_EXERCISE_START : Nat := 0x642004
/-- `PR_EXERCISE_DWELL` (Table 14-8, R349). -/
abbrev PR_EXERCISE_DWELL : Nat := 0x642005
/-- `PR_EXERCISE_MODES` (Table 14-8, R349). -/
abbrev PR_EXERCISE_MODES : Nat := 0x642006
/-- `PR_EXERCISE_RESULT` (Table 14-8, R349). -/
abbrev PR_EXERCISE_RESULT : Nat := 0x642007
/-- `PR_EXERCISE_NEXT` (Table 14-8, R349). -/
abbrev PR_EXERCISE_NEXT : Nat := 0x642008
/-- `PR_LINK_STATE` (Table 14-8, R349). -/
abbrev PR_LINK_STATE : Nat := 0x643001
/-- `PR_LINK_DELAY` (Table 14-8, R349). -/
abbrev PR_LINK_DELAY : Nat := 0x643002
/-- `PR_LINK_ERR` (Table 14-8, R349). -/
abbrev PR_LINK_ERR : Nat := 0x643003
/-- `PR_EPOCH_SEEN` (Table 14-8, R349). -/
abbrev PR_EPOCH_SEEN : Nat := 0x643004
/-- `PR_EPOCH_CONFLICTS` (Table 14-8, R349). -/
abbrev PR_EPOCH_CONFLICTS : Nat := 0x643005
/-- `PR_SPLIT_STRANDS` (Table 14-8, R349). -/
abbrev PR_SPLIT_STRANDS : Nat := 0x643006
/-- `PR_MIRRORED` (Table 14-8, R349). -/
abbrev PR_MIRRORED : Nat := 0x643007
/-- `PR_LB_DELAY` (Table 14-8, R349). -/
abbrev PR_LB_DELAY (n : Nat) : Nat := 0x644001 + n * 256
/-- `HOST_NODE_ID` (Table 15-12, R381). -/
abbrev HOST_NODE_ID : Nat := 0x101001
/-- `HOST_IPV4` (Table 15-12, R381). -/
abbrev HOST_IPV4 : Nat := 0x101002
/-- `HOST_IPV4_MASK` (Table 15-12, R381). -/
abbrev HOST_IPV4_MASK : Nat := 0x101003
/-- `HOST_IPV4_GW` (Table 15-12, R381). -/
abbrev HOST_IPV4_GW : Nat := 0x101004
/-- `HOST_IPV6` (Table 15-12, R381). -/
abbrev HOST_IPV6 : Nat := 0x101005
/-- `HOST_MAC` (Table 15-12, R381). -/
abbrev HOST_MAC : Nat := 0x101006
/-- `HOST_PRP` (Table 15-12, R381). -/
abbrev HOST_PRP : Nat := 0x101007
/-- `HOST_DISC_PERIOD` (Table 15-12, R381). -/
abbrev HOST_DISC_PERIOD : Nat := 0x101008
/-- `HOST_SES_TIMEOUT` (Table 15-12, R381). -/
abbrev HOST_SES_TIMEOUT : Nat := 0x101009
/-- `HOST_NODE_CONFLICT` (Table 15-12, R381). -/
abbrev HOST_NODE_CONFLICT : Nat := 0x10100A
/-- `HOST_DROPS` (Table 15-12, R381). -/
abbrev HOST_DROPS : Nat := 0x10100B
/-- `HOST_EVENT_SRC` (Table 15-12, R381). -/
abbrev HOST_EVENT_SRC : Nat := 0x10100C
/-- `HOST_PEER_COUNT` (Table 15-12, R381). -/
abbrev HOST_PEER_COUNT : Nat := 0x104001
/-- `HOST_PEER_TABLE` (Table 15-12, R381). -/
abbrev HOST_PEER_TABLE : Nat := 0x104002
/-- `HOST_RAW_ENABLE` (Table 15-12, R381). -/
abbrev HOST_RAW_ENABLE : Nat := 0x106001
/-- `HOST_RAW_ETYPE` (Table 15-12, R381). -/
abbrev HOST_RAW_ETYPE : Nat := 0x106002
/-- `HOST_RAW_RX_BASE` (Table 15-12, R381). -/
abbrev HOST_RAW_RX_BASE : Nat := 0x106003
/-- `HOST_RAW_TX_BASE` (Table 15-12, R381). -/
abbrev HOST_RAW_TX_BASE : Nat := 0x106004
/-- `HOST_RAW_RING_LEN` (Table 15-12, R381). -/
abbrev HOST_RAW_RING_LEN : Nat := 0x106005
/-- `HOST_RAW_TX_TAIL` (Table 15-12, R381). -/
abbrev HOST_RAW_TX_TAIL : Nat := 0x106006
/-- `SES_STATE` (Table 15-12, R381). -/
abbrev SES_STATE (n : Nat) : Nat := 0x110001 + n * 256
/-- `SES_ID` (Table 15-12, R381). -/
abbrev SES_ID (n : Nat) : Nat := 0x110002 + n * 256
/-- `SES_USER` (Table 15-12, R381). -/
abbrev SES_USER (n : Nat) : Nat := 0x110003 + n * 256
/-- `SES_ROLE` (Table 15-12, R381). -/
abbrev SES_ROLE (n : Nat) : Nat := 0x110004 + n * 256
/-- `SES_ADDR` (Table 15-12, R381). -/
abbrev SES_ADDR (n : Nat) : Nat := 0x110005 + n * 256
/-- `SES_ENCRYPTED` (Table 15-12, R381). -/
abbrev SES_ENCRYPTED (n : Nat) : Nat := 0x110006 + n * 256
/-- `SES_OPENED` (Table 15-12, R381). -/
abbrev SES_OPENED (n : Nat) : Nat := 0x110007 + n * 256
/-- `SES_AUTH_FAIL` (Table 15-12, R381). -/
abbrev SES_AUTH_FAIL (n : Nat) : Nat := 0x110008 + n * 256
/-- `SES_SEQ_DROPS` (Table 15-12, R381). -/
abbrev SES_SEQ_DROPS (n : Nat) : Nat := 0x110009 + n * 256
/-- `USR_ENABLE` (Table 15-12, R381). -/
abbrev USR_ENABLE (n : Nat) : Nat := 0x120001 + n * 256
/-- `USR_NAME` (Table 15-12, R381). -/
abbrev USR_NAME (n : Nat) : Nat := 0x120002 + n * 256
/-- `USR_ROLE` (Table 15-12, R381). -/
abbrev USR_ROLE (n : Nat) : Nat := 0x120003 + n * 256
/-- `USR_KEY` (Table 15-12, R381). -/
abbrev USR_KEY (n : Nat) : Nat := 0x120004 + n * 256
/-- `USR_FAILS` (Table 15-12, R381). -/
abbrev USR_FAILS (n : Nat) : Nat := 0x120005 + n * 256
/-- `USR_LOCKED_UNTIL` (Table 15-12, R381). -/
abbrev USR_LOCKED_UNTIL (n : Nat) : Nat := 0x120006 + n * 256
/-- `SEC_SERVICE_ENABLE` (Table 15-12, R381). -/
abbrev SEC_SERVICE_ENABLE : Nat := 0x128001
/-- `SEC_DEBUG_UNLOCK` (Table 15-12, R381). -/
abbrev SEC_DEBUG_UNLOCK : Nat := 0x128002
/-- `SEC_REQUIRE_ENC` (Table 15-12, R381). -/
abbrev SEC_REQUIRE_ENC : Nat := 0x128003
/-- `SEC_LOCK_FAILS` (Table 15-12, R381). -/
abbrev SEC_LOCK_FAILS : Nat := 0x128004
/-- `SEC_LOCK_TIME` (Table 15-12, R381). -/
abbrev SEC_LOCK_TIME : Nat := 0x128005
/-- `FW_IMAGE` (Table 15-12, R381). -/
abbrev FW_IMAGE : Nat := 0x12C001
/-- `FW_ACTIVATE` (Table 15-12, R381). -/
abbrev FW_ACTIVATE : Nat := 0x12C002
/-- `FW_STATUS` (Table 15-12, R381). -/
abbrev FW_STATUS : Nat := 0x12C003
/-- `FW_VERSION` (Table 15-12, R381). -/
abbrev FW_VERSION : Nat := 0x12C004
/-- `FW_HASH` (Table 15-12, R381). -/
abbrev FW_HASH : Nat := 0x12C005
/-- `FW_ROLLBACK` (Table 15-12, R381). -/
abbrev FW_ROLLBACK : Nat := 0x12C006
/-- `FW_SLOT` (Table 15-12, R381). -/
abbrev FW_SLOT : Nat := 0x12C007
/-- `LOG_FIRST` (Table 15-12, R381). -/
abbrev LOG_FIRST : Nat := 0x130001
/-- `LOG_NEXT` (Table 15-12, R381). -/
abbrev LOG_NEXT : Nat := 0x130002
/-- `LOG_HEAD_LINK` (Table 15-12, R381). -/
abbrev LOG_HEAD_LINK : Nat := 0x130003
/-- `LOG_PENDING` (Table 15-12, R381). -/
abbrev LOG_PENDING : Nat := 0x130004
/-- `LOG_LOST` (Table 15-12, R381). -/
abbrev LOG_LOST : Nat := 0x130005
/-- `LOG_READ` (Table 15-12, R381). -/
abbrev LOG_READ : Nat := 0x130006
/-- `FIO_DIR` (Table 16-9, R405). -/
abbrev FIO_DIR : Nat := 0x680001
/-- `FIO_OUT` (Table 16-9, R405). -/
abbrev FIO_OUT : Nat := 0x680002
/-- `FIO_IN` (Table 16-9, R405). -/
abbrev FIO_IN : Nat := 0x680003
/-- `FIO_STATUS` (Table 16-9, R405). -/
abbrev FIO_STATUS : Nat := 0x680004
/-- `FIO_OUT_ENABLE` (Table 16-9, R405). -/
abbrev FIO_OUT_ENABLE : Nat := 0x680005
/-- `FIO_SHUTDOWN_CAUSE` (Table 16-9, R405). -/
abbrev FIO_SHUTDOWN_CAUSE : Nat := 0x680006
/-- `FIO_LPLUS` (Table 16-9, R405). -/
abbrev FIO_LPLUS : Nat := 0x680007
/-- `FIO_APP_WDT` (Table 16-9, R405). -/
abbrev FIO_APP_WDT : Nat := 0x680008
/-- `FIO_APP_KICK` (Table 16-9, R405). -/
abbrev FIO_APP_KICK : Nat := 0x680009
/-- `FIO_FAULT_COUNT` (Table 16-9, R405). -/
abbrev FIO_FAULT_COUNT : Nat := 0x68000A
/-- `FIO_SURVEY` (Table 16-9, R405). -/
abbrev FIO_SURVEY : Nat := 0x68000B
/-- `FIO_SURVEY_STATE` (Table 16-9, R405). -/
abbrev FIO_SURVEY_STATE : Nat := 0x68000C
/-- `FIO_EVENT_SRC` (Table 16-9, R405). -/
abbrev FIO_EVENT_SRC : Nat := 0x68000D
/-- `FIO_DEBOUNCE` (Table 16-9, R405). -/
abbrev FIO_DEBOUNCE (n : Nat) : Nat := 0x681001 + n * 256
/-- `FIO_IN_TIME` (Table 16-9, R405). -/
abbrev FIO_IN_TIME (n : Nat) : Nat := 0x681002 + n * 256
/-- `FIO_LOAD` (Table 16-9, R405). -/
abbrev FIO_LOAD (n : Nat) : Nat := 0x681003 + n * 256
/-- `FIO_LOAD_CLASS` (Table 16-9, R405). -/
abbrev FIO_LOAD_CLASS (n : Nat) : Nat := 0x681004 + n * 256
/-- `PWM_ENABLE` (Table 16-9, R405). -/
abbrev PWM_ENABLE : Nat := 0x690001
/-- `PWM_TRIP_FLAG` (Table 16-9, R405). -/
abbrev PWM_TRIP_FLAG : Nat := 0x690002
/-- `PWM_TRIP_CLEAR` (Table 16-9, R405). -/
abbrev PWM_TRIP_CLEAR : Nat := 0x690003
/-- `PWM_SPLIT` (Table 16-9, R405). -/
abbrev PWM_SPLIT : Nat := 0x690004
/-- `PWM_TRIP_COUNT` (Table 16-9, R405). -/
abbrev PWM_TRIP_COUNT : Nat := 0x690005
/-- `PWM_EVENT_SRC` (Table 16-9, R405). -/
abbrev PWM_EVENT_SRC : Nat := 0x690006
/-- `PWM_MASK_DEF` (Table 16-9, R405). -/
abbrev PWM_MASK_DEF (n : Nat) : Nat := 0x690801 + n * 256
/-- `PWM_MASK_CTRL` (Table 16-9, R405). -/
abbrev PWM_MASK_CTRL (n : Nat) : Nat := 0x690802 + n * 256
/-- `PWM_MASK_ACTIVE` (Table 16-9, R405). -/
abbrev PWM_MASK_ACTIVE (n : Nat) : Nat := 0x690803 + n * 256
/-- `PWM_PERIOD` (Table 16-9, R405). -/
abbrev PWM_PERIOD (n : Nat) : Nat := 0x691001 + n * 256
/-- `PWM_CMP` (Table 16-9, R405). -/
abbrev PWM_CMP (n : Nat) : Nat := 0x691002 + n * 256
/-- `PWM_DT` (Table 16-9, R405). -/
abbrev PWM_DT (n : Nat) : Nat := 0x691003 + n * 256
/-- `PWM_LOAD_MODE` (Table 16-9, R405). -/
abbrev PWM_LOAD_MODE (n : Nat) : Nat := 0x691004 + n * 256
/-- `PWM_COMMIT` (Table 16-9, R405). -/
abbrev PWM_COMMIT (n : Nat) : Nat := 0x691005 + n * 256
/-- `PWM_START` (Table 16-9, R405). -/
abbrev PWM_START (n : Nat) : Nat := 0x691006 + n * 256
/-- `PWM_PRESCALE` (Table 16-9, R405). -/
abbrev PWM_PRESCALE (n : Nat) : Nat := 0x691007 + n * 256
/-- `PWM_EV_POINT` (Table 16-9, R405). -/
abbrev PWM_EV_POINT (n : Nat) : Nat := 0x691008 + n * 256
/-- `PWM_IDLE` (Table 16-9, R405). -/
abbrev PWM_IDLE (n : Nat) : Nat := 0x691009 + n * 256
/-- `PWM_TRIP_STATE` (Table 16-9, R405). -/
abbrev PWM_TRIP_STATE (n : Nat) : Nat := 0x69100A + n * 256
/-- `PWM_TRIP_SRC` (Table 16-9, R405). -/
abbrev PWM_TRIP_SRC (n : Nat) : Nat := 0x69100B + n * 256
/-- `PWM_CMP_ACT` (Table 16-9, R405). -/
abbrev PWM_CMP_ACT (n : Nat) : Nat := 0x69100C + n * 256
/-- `PWM_PER_ACT` (Table 16-9, R405). -/
abbrev PWM_PER_ACT (n : Nat) : Nat := 0x69100D + n * 256
/-- `PWM_PERIODS` (Table 16-9, R405). -/
abbrev PWM_PERIODS (n : Nat) : Nat := 0x69100E + n * 256
/-- `CAN_EVENT_SRC` (Table 17-6, R419). -/
abbrev CAN_EVENT_SRC : Nat := 0x6C0001
/-- `CAN_ENABLE` (Table 17-6, R419). -/
abbrev CAN_ENABLE (n : Nat) : Nat := 0x6C1001 + n * 256
/-- `CAN_MODE` (Table 17-6, R419). -/
abbrev CAN_MODE (n : Nat) : Nat := 0x6C1002 + n * 256
/-- `CAN_NBRP` (Table 17-6, R419). -/
abbrev CAN_NBRP (n : Nat) : Nat := 0x6C1003 + n * 256
/-- `CAN_NTSEG1` (Table 17-6, R419). -/
abbrev CAN_NTSEG1 (n : Nat) : Nat := 0x6C1004 + n * 256
/-- `CAN_NTSEG2` (Table 17-6, R419). -/
abbrev CAN_NTSEG2 (n : Nat) : Nat := 0x6C1005 + n * 256
/-- `CAN_NSJW` (Table 17-6, R419). -/
abbrev CAN_NSJW (n : Nat) : Nat := 0x6C1006 + n * 256
/-- `CAN_DBRP` (Table 17-6, R419). -/
abbrev CAN_DBRP (n : Nat) : Nat := 0x6C1007 + n * 256
/-- `CAN_DTSEG1` (Table 17-6, R419). -/
abbrev CAN_DTSEG1 (n : Nat) : Nat := 0x6C1008 + n * 256
/-- `CAN_DTSEG2` (Table 17-6, R419). -/
abbrev CAN_DTSEG2 (n : Nat) : Nat := 0x6C1009 + n * 256
/-- `CAN_DSJW` (Table 17-6, R419). -/
abbrev CAN_DSJW (n : Nat) : Nat := 0x6C100A + n * 256
/-- `CAN_TDC_ENABLE` (Table 17-6, R419). -/
abbrev CAN_TDC_ENABLE (n : Nat) : Nat := 0x6C100B + n * 256
/-- `CAN_TDC_OFFSET` (Table 17-6, R419). -/
abbrev CAN_TDC_OFFSET (n : Nat) : Nat := 0x6C100C + n * 256
/-- `CAN_RX_BASE` (Table 17-6, R419). -/
abbrev CAN_RX_BASE (n : Nat) : Nat := 0x6C100D + n * 256
/-- `CAN_RX_LEN` (Table 17-6, R419). -/
abbrev CAN_RX_LEN (n : Nat) : Nat := 0x6C100E + n * 256
/-- `CAN_RX_ECHO` (Table 17-6, R419). -/
abbrev CAN_RX_ECHO (n : Nat) : Nat := 0x6C100F + n * 256
/-- `CAN_RX_SKEW` (Table 17-6, R419). -/
abbrev CAN_RX_SKEW (n : Nat) : Nat := 0x6C1010 + n * 256
/-- `CAN_RX_WATERMARK` (Table 17-6, R419). -/
abbrev CAN_RX_WATERMARK (n : Nat) : Nat := 0x6C1011 + n * 256
/-- `CAN_TX_TIMEOUT` (Table 17-6, R419). -/
abbrev CAN_TX_TIMEOUT (n : Nat) : Nat := 0x6C1012 + n * 256
/-- `CAN_STATE` (Table 17-6, R419). -/
abbrev CAN_STATE (n : Nat) : Nat := 0x6C2001 + n * 256
/-- `CAN_TEC` (Table 17-6, R419). -/
abbrev CAN_TEC (n : Nat) : Nat := 0x6C2002 + n * 256
/-- `CAN_REC` (Table 17-6, R419). -/
abbrev CAN_REC (n : Nat) : Nat := 0x6C2003 + n * 256
/-- `CAN_RECOVER` (Table 17-6, R419). -/
abbrev CAN_RECOVER (n : Nat) : Nat := 0x6C2004 + n * 256
/-- `CAN_TDC_VALUE` (Table 17-6, R419). -/
abbrev CAN_TDC_VALUE (n : Nat) : Nat := 0x6C2005 + n * 256
/-- `CAN_TX` (Table 17-6, R419). -/
abbrev CAN_TX (n : Nat) : Nat := 0x6C2006 + n * 256
/-- `CAN_TX_ABORT` (Table 17-6, R419). -/
abbrev CAN_TX_ABORT (n : Nat) : Nat := 0x6C2007 + n * 256
/-- `CAN_TX_DONE` (Table 17-6, R419). -/
abbrev CAN_TX_DONE (n : Nat) : Nat := 0x6C2008 + n * 256
/-- `CAN_TX_PENDING` (Table 17-6, R419). -/
abbrev CAN_TX_PENDING (n : Nat) : Nat := 0x6C2009 + n * 256
/-- `CAN_RX_WR` (Table 17-6, R419). -/
abbrev CAN_RX_WR (n : Nat) : Nat := 0x6C200A + n * 256
/-- `CAN_RX_RD` (Table 17-6, R419). -/
abbrev CAN_RX_RD (n : Nat) : Nat := 0x6C200B + n * 256
/-- `CAN_RX_DATA` (Table 17-6, R419). -/
abbrev CAN_RX_DATA (n : Nat) : Nat := 0x6C200C + n * 256
/-- `CAN_RX_LOST` (Table 17-6, R419). -/
abbrev CAN_RX_LOST (n : Nat) : Nat := 0x6C200D + n * 256
/-- `CAN_DONE_LOST` (Table 17-6, R419). -/
abbrev CAN_DONE_LOST (n : Nat) : Nat := 0x6C200E + n * 256
/-- `CAN_BUS_OFFS` (Table 17-6, R419). -/
abbrev CAN_BUS_OFFS (n : Nat) : Nat := 0x6C200F + n * 256
/-- `SYS_MODE` (Table 18-15, R439). -/
abbrev SYS_MODE : Nat := 0x180001
/-- `SYS_MODE_REQ` (Table 18-15, R439). -/
abbrev SYS_MODE_REQ : Nat := 0x180002
/-- `SYS_LOCKOUT_SEQ` (Table 18-15, R439). -/
abbrev SYS_LOCKOUT_SEQ : Nat := 0x180003
/-- `SYS_RELEASE` (Table 18-15, R439). -/
abbrev SYS_RELEASE : Nat := 0x180004
/-- `SYS_RESET` (Table 18-15, R439). -/
abbrev SYS_RESET : Nat := 0x180005
/-- `SYS_RESET_CAUSE` (Table 18-15, R439). -/
abbrev SYS_RESET_CAUSE : Nat := 0x180006
/-- `SYS_SELFTEST` (Table 18-15, R439). -/
abbrev SYS_SELFTEST : Nat := 0x180007
/-- `SYS_MODE_REFUSAL` (Table 18-15, R439). -/
abbrev SYS_MODE_REFUSAL : Nat := 0x180008
/-- `SYS_MODE_DETAIL` (Table 18-15, R439). -/
abbrev SYS_MODE_DETAIL : Nat := 0x180009
/-- `SYS_MODE_SINCE` (Table 18-15, R439). -/
abbrev SYS_MODE_SINCE : Nat := 0x18000A
/-- `SYS_BOOT_TIME` (Table 18-15, R439). -/
abbrev SYS_BOOT_TIME : Nat := 0x18000B
/-- `SYS_CONFIG_SAVE` (Table 18-15, R439). -/
abbrev SYS_CONFIG_SAVE : Nat := 0x18000C
/-- `FM_LEVEL` (Table 18-15, R439). -/
abbrev FM_LEVEL : Nat := 0x184001
/-- `FM_ARM_L3` (Table 18-15, R439). -/
abbrev FM_ARM_L3 : Nat := 0x184002
/-- `FM_FIRST` (Table 18-15, R439). -/
abbrev FM_FIRST : Nat := 0x184003
/-- `FM_FIRST_CLEAR` (Table 18-15, R439). -/
abbrev FM_FIRST_CLEAR : Nat := 0x184004
/-- `FM_QUEUE` (Table 18-15, R439). -/
abbrev FM_QUEUE : Nat := 0x184005
/-- `FM_ACTIVE_COUNT` (Table 18-15, R439). -/
abbrev FM_ACTIVE_COUNT : Nat := 0x184006
/-- `FM_ACK` (Table 18-15, R439). -/
abbrev FM_ACK : Nat := 0x184007
/-- `FM_OVERFLOW` (Table 18-15, R439). -/
abbrev FM_OVERFLOW : Nat := 0x184008
/-- `FM_OVR_LEVEL` (Table 18-15, R439). -/
abbrev FM_OVR_LEVEL : Nat := 0x184009
/-- `FM_OVR_ARMS` (Table 18-15, R439). -/
abbrev FM_OVR_ARMS : Nat := 0x18400A
/-- `FM_RECORDS` (Table 18-15, R439). -/
abbrev FM_RECORDS : Nat := 0x18400B
/-- `FM_EVENT_SRC` (Table 18-15, R439). -/
abbrev FM_EVENT_SRC : Nat := 0x18400C
/-- `EVT_CORES` (Table 18-15, R439). -/
abbrev EVT_CORES (n : Nat) : Nat := 0x190001 + n * 256
/-- `EVT_LINE` (Table 18-15, R439). -/
abbrev EVT_LINE (n : Nat) : Nat := 0x190002 + n * 256
/-- `EVT_TP` (Table 18-15, R439). -/
abbrev EVT_TP (n : Nat) : Nat := 0x190003 + n * 256
/-- `EVT_PWM` (Table 18-15, R439). -/
abbrev EVT_PWM (n : Nat) : Nat := 0x190004 + n * 256
/-- `EVT_COUNT` (Table 18-15, R439). -/
abbrev EVT_COUNT (n : Nat) : Nat := 0x190005 + n * 256
/-- `EVT_LAST` (Table 18-15, R439). -/
abbrev EVT_LAST (n : Nat) : Nat := 0x190006 + n * 256
/-- `EVT_LAST_SRC` (Table 18-15, R439). -/
abbrev EVT_LAST_SRC (n : Nat) : Nat := 0x190007 + n * 256
/-- `ID_STRAPS` (Table 19-13, R457). -/
abbrev ID_STRAPS : Nat := 0x100004
/-- `ETH_PORT_MODE` (Table 19-13, R457). -/
abbrev ETH_PORT_MODE (k : Nat) : Nat := 0x102001 + k
/-- `ETH_LINK_UP` (Table 19-13, R457). -/
abbrev ETH_LINK_UP : Nat := 0x102005
/-- `UO` (Table 20-1, R462). -/
abbrev UO (n k : Nat) : Nat := 0x820001 + n * 256 + k

end Obj

/-- Rows of Table 00-2. -/
def objRows00_2a : List ObjRow :=
  [
   ⟨0x1000, 1, 0x1, 1, .string, .ro, .none, .any, 2⟩,
   ⟨0x1000, 1, 0x2, 1, .enum16, .ro, .none, .any, 2⟩,
   ⟨0x1000, 1, 0x3, 1, .u64, .ro, .none, .any, 2⟩]

/-- Rows of Table 01-5. -/
def objRows01_5a : List ObjRow :=
  [
   ⟨0x1820, 1, 0x1, 1, .enum16, .rw, .stopped, .int 0 16, 2⟩,
   ⟨0x1820, 1, 0x2, 1, .u32, .rw, .stopped, .dyn, 2⟩,
   ⟨0x1820, 1, 0x3, 1, .u32, .rw, .stopped, .orStep 0 10 100000 10, 2⟩,
   ⟨0x1820, 1, 0x4, 1, .u32, .rw, .stopped, .int 100 2000, 2⟩,
   ⟨0x1820, 1, 0x5, 1, .u16, .rw, .stopped, .int 0 5000, 2⟩,
   ⟨0x1820, 1, 0x6, 1, .u8, .rw, .live, .int 1 15, 2⟩,
   ⟨0x1821, 1, 0x1, 1, .enum16, .ro, .none, .any, 2⟩,
   ⟨0x1821, 1, 0x2, 1, .enum16, .ro, .none, .any, 2⟩,
   ⟨0x1821, 1, 0x3, 1, .u32, .ro, .none, .any, 2⟩,
   ⟨0x1821, 1, 0x4, 1, .u32, .ro, .none, .any, 2⟩,
   ⟨0x1821, 1, 0x5, 1, .u32, .ro, .none, .any, 2⟩,
   ⟨0x1821, 1, 0x6, 1, .u32, .ro, .none, .any, 2⟩,
   ⟨0x1821, 1, 0x7, 1, .u32, .ro, .none, .any, 2⟩,
   ⟨0x1821, 1, 0x8, 1, .u32, .ro, .none, .any, 2⟩,
   ⟨0x1821, 1, 0x9, 1, .u32, .ro, .none, .any, 2⟩,
   ⟨0x1821, 1, 0xA, 1, .i32, .ro, .none, .any, 2⟩,
   ⟨0x1821, 1, 0xB, 1, .u32, .ro, .none, .any, 2⟩,
   ⟨0x1821, 1, 0xC, 1, .bool, .ro, .none, .any, 2⟩,
   ⟨0x1821, 1, 0xD, 1, .u8, .ro, .none, .any, 2⟩,
   ⟨0x1821, 1, 0xE, 1, .enum16, .ro, .none, .any, 2⟩,
   ⟨0x1821, 1, 0xF, 1, .i32, .ro, .none, .any, 2⟩,
   ⟨0x1821, 1, 0x10, 1, .u32, .ro, .none, .any, 2⟩,
   ⟨0x1822, 1, 0x1, 1, .u32, .ro, .none, .any, 2⟩,
   ⟨0x1822, 1, 0x2, 1, .u32, .ro, .none, .any, 2⟩]

/-- Rows of Table 01-5. -/
def objRows01_5b : List ObjRow :=
  [
   ⟨0x1822, 1, 0x3, 1, .u32, .ro, .none, .any, 2⟩,
   ⟨0x1822, 1, 0x4, 1, .u8, .ro, .none, .any, 2⟩,
   ⟨0x1822, 1, 0x5, 1, .u32, .ro, .none, .any, 2⟩,
   ⟨0x1823, 1, 0x1, 10, .u32, .ro, .none, .any, 2⟩]

/-- Rows of Table 02-9. -/
def objRows02_9a : List ObjRow :=
  [
   ⟨0x2012, 1, 0x1, 1, .u32, .rw, .stopped, .any, 2⟩,
   ⟨0x2012, 1, 0x2, 1, .u8, .ro, .none, .any, 2⟩,
   ⟨0x2100, 32, 0x1, 1, .bool, .rw, .stopped, .int 0 1, 2⟩,
   ⟨0x2100, 32, 0x2, 1, .u8, .rw, .restart, .int 0 7, 2⟩,
   ⟨0x2100, 32, 0x3, 1, .u8, .rw, .restart, .int 0 7, 2⟩,
   ⟨0x2100, 32, 0x4, 1, .u8, .rw, .restart, .int 0 15, 2⟩,
   ⟨0x2100, 32, 0x5, 1, .bool, .rw, .restart, .int 0 1, 2⟩,
   ⟨0x2100, 32, 0x6, 1, .bool, .rw, .live, .int 0 1, 2⟩,
   ⟨0x2100, 32, 0x7, 1, .u8, .wo, .live, .int 1 1, 2⟩,
   ⟨0x2100, 32, 0x8, 1, .enum16, .rw, .stopped, .int 0 4, 2⟩,
   ⟨0x2140, 32, 0x1, 1, .enum16, .ro, .none, .any, 2⟩,
   ⟨0x2140, 32, 0x2, 1, .u8, .ro, .none, .any, 2⟩,
   ⟨0x2140, 32, 0x3, 1, .u8, .ro, .none, .any, 2⟩,
   ⟨0x2140, 32, 0x4, 1, .i16, .ro, .none, .any, 2⟩,
   ⟨0x2140, 32, 0x5, 1, .u16, .ro, .none, .any, 2⟩,
   ⟨0x2140, 32, 0x6, 1, .u32, .ro, .none, .any, 2⟩,
   ⟨0x2140, 32, 0x7, 1, .u32, .ro, .none, .any, 2⟩,
   ⟨0x2140, 32, 0x8, 1, .u32, .ro, .none, .any, 2⟩,
   ⟨0x2140, 32, 0x9, 1, .u32, .ro, .none, .any, 2⟩,
   ⟨0x2140, 32, 0xA, 1, .u32, .ro, .none, .any, 2⟩,
   ⟨0x2140, 32, 0xB, 1, .u32, .ro, .none, .any, 2⟩,
   ⟨0x2140, 32, 0xC, 1, .u32, .ro, .none, .any, 2⟩,
   ⟨0x2140, 32, 0xD, 1, .u16, .ro, .none, .any, 2⟩,
   ⟨0x2140, 32, 0xE, 1, .u32, .ro, .none, .any, 2⟩]

/-- Rows of Table 02-9. -/
def objRows02_9b : List ObjRow :=
  [
   ⟨0x2140, 32, 0xF, 1, .u32, .ro, .none, .any, 2⟩]

/-- Rows of Table 03-15. -/
def objRows03_15a : List ObjRow :=
  [
   ⟨0x2010, 1, 0x1, 1, .u8, .wo, .stopped, .int 1 1, 2⟩,
   ⟨0x2010, 1, 0x2, 1, .enum16, .rw, .stopped, .int 0 2, 2⟩,
   ⟨0x2010, 1, 0x3, 1, .u8, .rw, .stopped, .dyn, 2⟩,
   ⟨0x2010, 1, 0x4, 1, .u8, .rw, .live, .dyn, 2⟩,
   ⟨0x2010, 1, 0x5, 1, .enum16, .rw, .live, .int 0 2, 2⟩,
   ⟨0x2010, 1, 0x6, 1, .u16, .ro, .none, .any, 2⟩,
   ⟨0x2010, 1, 0x7, 1, .enum16, .ro, .none, .any, 2⟩,
   ⟨0x2200, 32, 0x1, 1, .u8, .rw, .stopped, .int 0 64, 2⟩,
   ⟨0x2200, 32, 0x2, 1, .u8, .ro, .none, .any, 2⟩,
   ⟨0x2200, 32, 0x3, 1, .u8, .ro, .none, .any, 2⟩,
   ⟨0x2200, 32, 0x4, 1, .u8, .ro, .none, .any, 2⟩,
   ⟨0x2200, 32, 0x5, 1, .u8, .ro, .none, .any, 2⟩,
   ⟨0x2200, 32, 0x6, 1, .bool, .ro, .none, .any, 2⟩,
   ⟨0x2200, 32, 0x7, 1, .u32, .ro, .none, .any, 2⟩,
   ⟨0x2200, 32, 0x8, 1, .u32, .ro, .none, .any, 2⟩,
   ⟨0x2200, 32, 0x9, 1, .u32, .ro, .none, .any, 2⟩,
   ⟨0x2200, 32, 0xA, 1, .domain, .wo, .live, .len 16, 2⟩,
   ⟨0x2200, 32, 0xB, 1, .domain, .ro, .none, .any, 2⟩,
   ⟨0x2200, 32, 0xC, 1, .u32, .ro, .none, .any, 2⟩,
   ⟨0x2200, 32, 0xD, 1, .u32, .ro, .none, .any, 2⟩,
   ⟨0x2800, 2048, 0x1, 1, .enum16, .ro, .none, .any, 2⟩,
   ⟨0x2800, 2048, 0x2, 1, .enum16, .ro, .none, .any, 2⟩,
   ⟨0x2800, 2048, 0x3, 1, .enum16, .rw, .stopped, .int 0 2, 2⟩,
   ⟨0x2800, 2048, 0x4, 1, .u64, .ro, .none, .any, 2⟩]

/-- Rows of Table 03-15. -/
def objRows03_15b : List ObjRow :=
  [
   ⟨0x2800, 2048, 0x5, 1, .u8, .ro, .none, .any, 2⟩,
   ⟨0x2800, 2048, 0x6, 1, .u32, .ro, .none, .any, 2⟩,
   ⟨0x2800, 2048, 0x7, 1, .u32, .ro, .none, .any, 2⟩,
   ⟨0x2800, 2048, 0x8, 1, .f32, .ro, .none, .any, 2⟩,
   ⟨0x2800, 2048, 0x9, 1, .f32, .ro, .none, .any, 2⟩,
   ⟨0x2800, 2048, 0xA, 1, .i16, .ro, .none, .any, 2⟩,
   ⟨0x2800, 2048, 0xB, 1, .u16, .ro, .none, .any, 2⟩,
   ⟨0x2800, 2048, 0xC, 1, .u8, .ro, .none, .any, 2⟩,
   ⟨0x2800, 2048, 0xD, 1, .u16, .ro, .none, .any, 2⟩,
   ⟨0x2800, 2048, 0xE, 1, .u16, .ro, .none, .any, 2⟩,
   ⟨0x2800, 2048, 0xF, 1, .u16, .ro, .none, .any, 2⟩,
   ⟨0x2800, 2048, 0x10, 1, .u32, .ro, .none, .any, 2⟩,
   ⟨0x2800, 2048, 0x11, 1, .u32, .ro, .none, .any, 2⟩,
   ⟨0x2800, 2048, 0x12, 1, .u32, .ro, .none, .any, 2⟩,
   ⟨0x2800, 2048, 0x13, 1, .u8, .wo, .live, .int 1 1, 2⟩,
   ⟨0x2800, 2048, 0x14, 1, .enum16, .ro, .none, .any, 2⟩]

/-- Rows of Table 04-11. -/
def objRows04_11a : List ObjRow :=
  [
   ⟨0x3000, 1, 0x1, 32, .u8, .rw, .stopped, .int 0 1, 2⟩,
   ⟨0x3010, 2, 0x1, 1, .bool, .rw, .live, .int 0 1, 1⟩,
   ⟨0x3010, 2, 0x2, 1, .u16, .rw, .stopped, .dyn, 2⟩,
   ⟨0x3010, 2, 0x3, 1, .u16, .rw, .live, .int 8 2048, 2⟩,
   ⟨0x3010, 2, 0x4, 1, .enum16, .rw, .live, .int 0 1, 2⟩,
   ⟨0x3010, 2, 0x5, 1, .f32, .rw, .live, .f32 0x0 0x42C80000, 2⟩,
   ⟨0x3010, 2, 0x6, 1, .u16, .rw, .live, .int 0 1000, 2⟩,
   ⟨0x3010, 2, 0x7, 1, .u32, .rw, .live, .dyn, 2⟩,
   ⟨0x3010, 2, 0x8, 1, .bool, .rw, .live, .int 0 1, 2⟩,
   ⟨0x3010, 2, 0x9, 1, .bool, .rw, .live, .int 0 1, 2⟩,
   ⟨0x3010, 2, 0xA, 1, .bool, .rw, .live, .int 0 1, 2⟩,
   ⟨0x3010, 2, 0xB, 1, .f32, .rw, .live, .f32 0x0 0x447A0000, 2⟩,
   ⟨0x3010, 2, 0xC, 1, .f32, .rw, .live, .f32 0x0 0x447A0000, 2⟩,
   ⟨0x3020, 2, 0x1, 1, .f32, .ro, .none, .any, 2⟩,
   ⟨0x3020, 2, 0x2, 1, .f32, .ro, .none, .any, 2⟩,
   ⟨0x3020, 2, 0x3, 1, .f32, .ro, .none, .any, 2⟩,
   ⟨0x3020, 2, 0x4, 1, .f32, .ro, .none, .any, 2⟩,
   ⟨0x3030, 2, 0x1, 1, .enum16, .ro, .none, .any, 2⟩,
   ⟨0x3030, 2, 0x2, 1, .enum16, .ro, .none, .any, 2⟩,
   ⟨0x3030, 2, 0x3, 1, .f32, .ro, .none, .any, 2⟩,
   ⟨0x3030, 2, 0x4, 1, .i16, .ro, .none, .any, 2⟩,
   ⟨0x3030, 2, 0x5, 1, .u16, .ro, .none, .any, 2⟩,
   ⟨0x3030, 2, 0x6, 1, .u16, .ro, .none, .any, 2⟩,
   ⟨0x3030, 2, 0x7, 1, .u32, .ro, .none, .any, 2⟩]

/-- Rows of Table 04-11. -/
def objRows04_11b : List ObjRow :=
  [
   ⟨0x3030, 2, 0x8, 1, .f32, .ro, .none, .any, 2⟩,
   ⟨0x3030, 2, 0x9, 1, .u16, .ro, .none, .any, 2⟩,
   ⟨0x3030, 2, 0xA, 1, .i8, .ro, .none, .any, 2⟩,
   ⟨0x3030, 2, 0xB, 1, .f32, .ro, .none, .any, 2⟩,
   ⟨0x3030, 2, 0xC, 1, .u16, .ro, .none, .any, 2⟩,
   ⟨0x3030, 2, 0xD, 1, .f32, .ro, .none, .any, 2⟩,
   ⟨0x3030, 2, 0xE, 1, .u32, .ro, .none, .any, 2⟩,
   ⟨0x3030, 2, 0xF, 1, .u32, .ro, .none, .any, 2⟩,
   ⟨0x3030, 2, 0x10, 1, .u32, .ro, .none, .any, 2⟩,
   ⟨0x3030, 2, 0x11, 1, .u32, .ro, .none, .any, 2⟩,
   ⟨0x3030, 2, 0x12, 1, .u32, .ro, .none, .any, 2⟩,
   ⟨0x3030, 2, 0x13, 1, .u32, .ro, .none, .any, 2⟩,
   ⟨0x3030, 2, 0x14, 1, .u32, .ro, .none, .any, 2⟩,
   ⟨0x3040, 2, 0x1, 1, .u16, .ro, .none, .any, 2⟩,
   ⟨0x3040, 2, 0x2, 1, .f32, .ro, .none, .any, 2⟩,
   ⟨0x3040, 2, 0x3, 1, .f32, .ro, .none, .any, 2⟩,
   ⟨0x3040, 2, 0x4, 1, .f32, .ro, .none, .any, 2⟩,
   ⟨0x3040, 2, 0x5, 1, .f32, .ro, .none, .any, 2⟩,
   ⟨0x3040, 2, 0x6, 1, .u16, .ro, .none, .any, 2⟩,
   ⟨0x3040, 2, 0x7, 1, .u16, .ro, .none, .any, 2⟩,
   ⟨0x3040, 2, 0x8, 1, .f32, .ro, .none, .any, 2⟩,
   ⟨0x3040, 2, 0x9, 1, .f32, .ro, .none, .any, 2⟩,
   ⟨0x3040, 2, 0xA, 1, .f32, .ro, .none, .any, 2⟩,
   ⟨0x3040, 2, 0xB, 1, .f32, .ro, .none, .any, 2⟩]

/-- Rows of Table 04-11. -/
def objRows04_11c : List ObjRow :=
  [
   ⟨0x3040, 2, 0xC, 1, .f32, .ro, .none, .any, 2⟩,
   ⟨0x3040, 2, 0xD, 1, .u16, .ro, .none, .any, 2⟩,
   ⟨0x2800, 2048, 0x15, 1, .f32, .ro, .none, .any, 2⟩,
   ⟨0x2800, 2048, 0x16, 1, .u16, .ro, .none, .any, 2⟩,
   ⟨0x2800, 2048, 0x17, 1, .u16, .ro, .none, .any, 2⟩,
   ⟨0x2800, 2048, 0x18, 1, .u32, .ro, .none, .any, 2⟩]

/-- Rows of Table 05-8. -/
def objRows05_8a : List ObjRow :=
  [
   ⟨0x3800, 1, 0x1, 1, .enum16, .ro, .none, .any, 2⟩,
   ⟨0x3800, 1, 0x2, 1, .enum16, .ro, .none, .any, 2⟩,
   ⟨0x3800, 1, 0x3, 1, .u16, .ro, .none, .any, 2⟩,
   ⟨0x3800, 1, 0x4, 1, .u16, .ro, .none, .any, 2⟩,
   ⟨0x3800, 1, 0x5, 1, .u16, .ro, .none, .any, 2⟩,
   ⟨0x3800, 1, 0x6, 1, .u16, .ro, .none, .any, 2⟩,
   ⟨0x3800, 1, 0x7, 1, .u32, .ro, .none, .any, 2⟩,
   ⟨0x3800, 1, 0x8, 1, .u32, .ro, .none, .any, 2⟩,
   ⟨0x3800, 1, 0x9, 1, .u16, .ro, .none, .any, 2⟩,
   ⟨0x3800, 1, 0xA, 1, .u8, .wo, .stopped, .int 1 1, 2⟩,
   ⟨0x3801, 1, 0x1, 1, .u8, .wo, .live, .int 1 3, 2⟩,
   ⟨0x3801, 1, 0x2, 1, .domain, .ro, .none, .any, 2⟩,
   ⟨0x3810, 2, 0x1, 3, .f32, .ro, .none, .any, 2⟩,
   ⟨0x3810, 2, 0x4, 2, .u16, .ro, .none, .any, 2⟩,
   ⟨0x3A00, 512, 0x1, 1, .enum16, .rw, .stopped, .dyn, 2⟩,
   ⟨0x3A00, 512, 0x2, 1, .u16, .rw, .stopped, .dyn, 2⟩,
   ⟨0x3A00, 512, 0x3, 6, .u16, .rw, .stopped, .dyn, 2⟩,
   ⟨0x3A00, 512, 0x9, 8, .f32, .rw, .live, .dyn, 2⟩,
   ⟨0x3A00, 512, 0x11, 8, .f32, .ro, .none, .any, 2⟩,
   ⟨0x3A00, 512, 0x19, 4, .f64, .ro, .none, .any, 2⟩,
   ⟨0x3A00, 512, 0x1D, 4, .f64, .rw, .restart, .any, 2⟩,
   ⟨0x3A00, 512, 0x21, 1, .u8, .wo, .live, .int 1 1, 2⟩,
   ⟨0x3A00, 512, 0x22, 1, .u16, .ro, .none, .any, 2⟩,
   ⟨0x3A00, 512, 0x23, 1, .u16, .ro, .none, .any, 2⟩]

/-- Rows of Table 05-8. -/
def objRows05_8b : List ObjRow :=
  [
   ⟨0x3A00, 512, 0x24, 1, .u8, .ro, .none, .any, 2⟩,
   ⟨0x3A00, 512, 0x25, 1, .u32, .ro, .none, .any, 2⟩,
   ⟨0x8000, 16, 0x1, 64, .f32, .rw, .live, .any, 1⟩]

/-- Rows of Table 06-9. -/
def objRows06_9a : List ObjRow :=
  [
   ⟨0x4000, 1, 0x1, 1, .u32, .ro, .none, .any, 2⟩,
   ⟨0x4000, 1, 0x2, 1, .u16, .ro, .none, .any, 2⟩,
   ⟨0x4000, 1, 0x3, 1, .u32, .ro, .none, .any, 2⟩,
   ⟨0x4000, 1, 0x4, 1, .u32, .ro, .none, .any, 2⟩,
   ⟨0x4000, 1, 0x5, 1, .u32, .ro, .none, .any, 2⟩,
   ⟨0x4000, 1, 0x6, 1, .u32, .ro, .none, .any, 2⟩,
   ⟨0x4000, 1, 0x7, 1, .u8, .wo, .live, .int 1 1, 2⟩,
   ⟨0x4000, 1, 0x8, 1, .u32, .ro, .none, .any, 2⟩,
   ⟨0x4000, 1, 0x9, 1, .u16, .ro, .none, .any, 2⟩,
   ⟨0x4010, 16, 0x1, 1, .bool, .rw, .stopped, .int 0 1, 2⟩,
   ⟨0x4010, 16, 0x2, 1, .u8, .rw, .stopped, .orInt 255 0 31, 2⟩,
   ⟨0x4010, 16, 0x3, 1, .u8, .rw, .stopped, .orInt 255 0 1, 2⟩,
   ⟨0x4010, 16, 0x4, 1, .u16, .rw, .stopped, .orInt 65535 0 511, 2⟩,
   ⟨0x4010, 16, 0x5, 1, .enum16, .rw, .stopped, .int 0 1, 2⟩,
   ⟨0x4010, 16, 0x6, 1, .u16, .rw, .live, .int 1 65535, 2⟩,
   ⟨0x4010, 16, 0x7, 1, .u16, .rw, .live, .int 0 1000, 2⟩,
   ⟨0x4010, 16, 0x8, 1, .u16, .rw, .live, .int 16 4096, 2⟩,
   ⟨0x4010, 16, 0x9, 1, .u16, .rw, .live, .orInt 65535 0 2048, 2⟩,
   ⟨0x4010, 16, 0xA, 1, .f32, .rw, .live, .fmin0, 2⟩,
   ⟨0x4010, 16, 0xB, 1, .u8, .rw, .live, .dyn, 2⟩,
   ⟨0x4010, 16, 0xC, 1, .u8, .rw, .live, .dyn, 2⟩,
   ⟨0x4010, 16, 0xD, 1, .enum16, .rw, .live, .int 0 1, 2⟩,
   ⟨0x4010, 16, 0xE, 1, .enum16, .ro, .none, .any, 2⟩,
   ⟨0x4010, 16, 0xF, 1, .u8, .ro, .none, .any, 2⟩]

/-- Rows of Table 06-9. -/
def objRows06_9b : List ObjRow :=
  [
   ⟨0x4010, 16, 0x10, 1, .u16, .ro, .none, .any, 2⟩,
   ⟨0x4010, 16, 0x11, 1, .u32, .ro, .none, .any, 2⟩,
   ⟨0x4010, 16, 0x12, 1, .u32, .ro, .none, .any, 2⟩,
   ⟨0x4010, 16, 0x13, 1, .f32, .ro, .none, .any, 2⟩,
   ⟨0x4010, 16, 0x14, 1, .f32, .ro, .none, .any, 2⟩,
   ⟨0x4100, 16, 0x1, 1, .f32, .rw, .stopped, .orF32 0 0x3F000000 0x447A0000, 2⟩,
   ⟨0x4100, 16, 0x2, 1, .u8, .rw, .stopped, .orInt 255 0 1, 2⟩,
   ⟨0x4100, 16, 0x3, 1, .u16, .rw, .live, .any, 2⟩,
   ⟨0x4100, 16, 0x4, 1, .enum16, .rw, .live, .int 0 1, 2⟩,
   ⟨0x4100, 16, 0x5, 1, .u8, .wo, .live, .int 1 1, 2⟩,
   ⟨0x4100, 16, 0x6, 1, .u16, .ro, .none, .any, 2⟩,
   ⟨0x4100, 16, 0x7, 1, .u16, .ro, .none, .any, 2⟩,
   ⟨0x4100, 16, 0x8, 1, .u8, .ro, .none, .any, 2⟩,
   ⟨0x4100, 16, 0x9, 1, .u32, .ro, .none, .any, 2⟩,
   ⟨0x4100, 16, 0xA, 1, .u32, .ro, .none, .any, 2⟩]

/-- Rows of Table 07-8. -/
def objRows07_8a : List ObjRow :=
  [
   ⟨0x4400, 1, 0x1, 4, .u8, .rw, .stopped, .int 20 250, 2⟩,
   ⟨0x4400, 1, 0x5, 4, .enum16, .rw, .stopped, .int 0 1, 2⟩,
   ⟨0x4400, 1, 0x9, 4, .u8, .rw, .stopped, .int 0 15, 2⟩,
   ⟨0x4400, 1, 0xD, 1, .u16, .ro, .none, .any, 2⟩,
   ⟨0x4410, 32, 0x1, 1, .bool, .rw, .stopped, .int 0 1, 2⟩,
   ⟨0x4410, 32, 0x2, 1, .u8, .rw, .stopped, .int 1 4, 2⟩,
   ⟨0x4410, 32, 0x3, 1, .u16, .rw, .stopped, .int 4 256, 2⟩,
   ⟨0x4410, 32, 0x4, 1, .u8, .rw, .stopped, .int 1 5, 2⟩,
   ⟨0x4410, 32, 0x5, 1, .u16, .rw, .stopped, .int 16 1024, 2⟩,
   ⟨0x4410, 32, 0x6, 1, .u8, .rw, .stopped, .oneOf [0, 1, 2, 4], 2⟩,
   ⟨0x4410, 32, 0x7, 1, .domain, .rw, .stopped, .len 128, 2⟩,
   ⟨0x4410, 32, 0x8, 1, .u8, .rw, .stopped, .int 1 64, 2⟩,
   ⟨0x4410, 32, 0x9, 1, .bool, .rw, .stopped, .int 0 1, 2⟩,
   ⟨0x4410, 32, 0xA, 1, .f32, .rw, .live, .any, 2⟩,
   ⟨0x4410, 32, 0xB, 1, .f32, .rw, .live, .any, 2⟩,
   ⟨0x4410, 32, 0xC, 1, .f32, .rw, .live, .f32 0x0 0x3F800000, 2⟩,
   ⟨0x4410, 32, 0xD, 1, .u16, .rw, .live, .int 16 4096, 2⟩,
   ⟨0x4410, 32, 0xE, 1, .i16, .rw, .live, .any, 2⟩,
   ⟨0x4440, 32, 0x1, 1, .u16, .ro, .none, .any, 2⟩,
   ⟨0x4440, 32, 0x2, 1, .i32, .ro, .none, .any, 2⟩,
   ⟨0x4440, 32, 0x3, 1, .i16, .ro, .none, .any, 2⟩,
   ⟨0x4440, 32, 0x4, 1, .f32, .ro, .none, .any, 2⟩,
   ⟨0x4440, 32, 0x5, 1, .f32, .ro, .none, .any, 2⟩,
   ⟨0x4440, 32, 0x6, 1, .enum16, .ro, .none, .any, 2⟩]

/-- Rows of Table 07-8. -/
def objRows07_8b : List ObjRow :=
  [
   ⟨0x4440, 32, 0x7, 1, .u32, .ro, .none, .any, 2⟩,
   ⟨0x4440, 32, 0x8, 1, .u32, .ro, .none, .any, 2⟩,
   ⟨0x4440, 32, 0x9, 1, .f32, .ro, .none, .any, 2⟩,
   ⟨0x4440, 32, 0xA, 1, .u16, .ro, .none, .any, 2⟩,
   ⟨0x4440, 32, 0xB, 1, .u32, .ro, .none, .any, 2⟩,
   ⟨0x4440, 32, 0xC, 1, .u32, .ro, .none, .any, 2⟩,
   ⟨0x4480, 16, 0x1, 1, .bool, .rw, .stopped, .int 0 1, 2⟩,
   ⟨0x4480, 16, 0x2, 1, .u8, .rw, .stopped, .int 0 31, 2⟩,
   ⟨0x4480, 16, 0x3, 1, .u8, .rw, .stopped, .int 0 31, 2⟩,
   ⟨0x4480, 16, 0x4, 1, .f32, .rw, .live, .any, 2⟩,
   ⟨0x4480, 16, 0x5, 1, .f32, .rw, .live, .any, 2⟩,
   ⟨0x4480, 16, 0x6, 1, .f32, .rw, .live, .f32 0x0 0x461C4000, 2⟩,
   ⟨0x4480, 16, 0x7, 1, .f32, .rw, .live, .fmin0, 2⟩,
   ⟨0x4480, 16, 0x8, 1, .u8, .rw, .live, .dyn, 2⟩,
   ⟨0x4480, 16, 0x9, 1, .u8, .rw, .live, .dyn, 2⟩,
   ⟨0x4480, 16, 0xA, 1, .enum16, .rw, .live, .int 0 4, 2⟩,
   ⟨0x4480, 16, 0xB, 1, .f32, .ro, .none, .any, 2⟩,
   ⟨0x4480, 16, 0xC, 1, .enum16, .ro, .none, .any, 2⟩,
   ⟨0x4480, 16, 0xD, 1, .u32, .ro, .none, .any, 2⟩,
   ⟨0x44C0, 32, 0x1, 1, .u8, .rw, .live, .orInt 255 0 1, 2⟩,
   ⟨0x44C0, 32, 0x2, 1, .enum16, .rw, .live, .int 0 14, 2⟩,
   ⟨0x44C0, 32, 0x3, 1, .u8, .rw, .live, .int 1 255, 2⟩,
   ⟨0x44C0, 32, 0x4, 1, .u16, .rw, .live, .int 0 10000, 2⟩,
   ⟨0x44C0, 32, 0x5, 1, .f32, .rw, .live, .any, 2⟩]

/-- Rows of Table 07-8. -/
def objRows07_8c : List ObjRow :=
  [
   ⟨0x44C0, 32, 0x6, 1, .f32, .rw, .live, .any, 2⟩,
   ⟨0x44C0, 32, 0x7, 1, .enum16, .rw, .live, .int 0 4, 2⟩,
   ⟨0x44C0, 32, 0x8, 1, .f32, .ro, .none, .any, 2⟩,
   ⟨0x44C0, 32, 0x9, 1, .f32, .ro, .none, .any, 2⟩,
   ⟨0x44C0, 32, 0xA, 1, .f32, .ro, .none, .any, 2⟩,
   ⟨0x44C0, 32, 0xB, 1, .time96, .ro, .none, .any, 2⟩,
   ⟨0x44C0, 32, 0xC, 1, .u32, .ro, .none, .any, 2⟩,
   ⟨0x4500, 1, 0x1, 1, .bool, .rw, .live, .int 0 1, 2⟩,
   ⟨0x4500, 1, 0x2, 1, .u8, .ro, .none, .any, 2⟩,
   ⟨0x4500, 1, 0x3, 1, .u8, .ro, .none, .any, 2⟩,
   ⟨0x4500, 1, 0x4, 1, .u32, .ro, .none, .any, 2⟩,
   ⟨0x4500, 1, 0x5, 1, .u32, .ro, .none, .any, 2⟩]

/-- Rows of Table 08-8. -/
def objRows08_8a : List ObjRow :=
  [
   ⟨0x4800, 1, 0x1, 1, .time96, .ro, .none, .any, 2⟩,
   ⟨0x4800, 1, 0x2, 1, .enum16, .ro, .none, .any, 2⟩,
   ⟨0x4800, 1, 0x3, 1, .u16, .ro, .none, .any, 2⟩,
   ⟨0x4800, 1, 0x4, 1, .u32, .ro, .none, .any, 2⟩,
   ⟨0x4800, 1, 0x5, 1, .i32, .ro, .none, .any, 2⟩,
   ⟨0x4800, 1, 0x6, 1, .i32, .rw, .live, .int (-4294967) 4294967, 2⟩,
   ⟨0x4800, 1, 0x7, 1, .i64, .wo, .live, .any, 2⟩,
   ⟨0x4800, 1, 0x8, 1, .u32, .ro, .none, .any, 2⟩,
   ⟨0x4800, 1, 0x9, 1, .i64, .ro, .none, .any, 2⟩,
   ⟨0x4800, 1, 0xA, 1, .f32, .rw, .live, .f32 0x0 0x469C4000, 2⟩,
   ⟨0x4800, 1, 0xB, 1, .u32, .rw, .live, .int 20 1000000000, 2⟩,
   ⟨0x4800, 1, 0xC, 1, .u16, .ro, .none, .any, 2⟩,
   ⟨0x4810, 1, 0x1, 1, .bool, .rw, .stopped, .int 0 1, 2⟩,
   ⟨0x4810, 1, 0x2, 1, .enum16, .rw, .stopped, .int 0 1, 2⟩,
   ⟨0x4810, 1, 0x3, 1, .u8, .rw, .stopped, .int 0 255, 2⟩,
   ⟨0x4810, 1, 0x4, 1, .u16, .rw, .stopped, .int 0 4094, 2⟩,
   ⟨0x4810, 1, 0x5, 1, .f32, .rw, .live, .f32 0x0 0x40000000, 2⟩,
   ⟨0x4810, 1, 0x6, 1, .f32, .rw, .live, .f32 0x0 0x3F800000, 2⟩,
   ⟨0x4810, 1, 0x7, 1, .u32, .rw, .live, .int 1000 500000, 2⟩,
   ⟨0x4810, 1, 0x8, 1, .u32, .rw, .live, .int 10 100000, 2⟩,
   ⟨0x4810, 1, 0x9, 1, .u32, .rw, .live, .int 100 1000000000, 2⟩,
   ⟨0x4810, 1, 0xA, 1, .u32, .rw, .live, .int 10 10000, 2⟩,
   ⟨0x4810, 1, 0xB, 1, .u8, .rw, .live, .int 2 64, 2⟩,
   ⟨0x4810, 1, 0xC, 1, .u32, .rw, .live, .int 20 100000, 2⟩]

/-- Rows of Table 08-8. -/
def objRows08_8b : List ObjRow :=
  [
   ⟨0x4810, 1, 0xD, 1, .u32, .rw, .live, .int 100 1000000000, 2⟩,
   ⟨0x4810, 1, 0xE, 1, .u32, .rw, .live, .int 100 100000, 2⟩,
   ⟨0x4820, 1, 0x1, 1, .u8, .ro, .none, .any, 2⟩,
   ⟨0x4820, 1, 0x2, 1, .u64, .ro, .none, .any, 2⟩,
   ⟨0x4820, 1, 0x3, 1, .f32, .ro, .none, .any, 2⟩,
   ⟨0x4820, 1, 0x4, 1, .u16, .ro, .none, .any, 2⟩,
   ⟨0x4820, 1, 0x5, 1, .u32, .ro, .none, .any, 2⟩,
   ⟨0x4820, 1, 0x6, 1, .u32, .ro, .none, .any, 2⟩,
   ⟨0x4830, 4, 0x1, 1, .i32, .rw, .live, .any, 2⟩,
   ⟨0x4830, 4, 0x2, 1, .i32, .rw, .live, .any, 2⟩,
   ⟨0x4830, 4, 0x3, 1, .f32, .ro, .none, .any, 2⟩,
   ⟨0x4830, 4, 0x4, 1, .f32, .ro, .none, .any, 2⟩,
   ⟨0x4830, 4, 0x5, 1, .enum16, .ro, .none, .any, 2⟩,
   ⟨0x4830, 4, 0x6, 1, .f32, .ro, .none, .any, 2⟩,
   ⟨0x4830, 4, 0x7, 1, .f32, .ro, .none, .any, 2⟩,
   ⟨0x4830, 4, 0x8, 1, .f32, .ro, .none, .any, 2⟩,
   ⟨0x4830, 4, 0x9, 1, .f64, .ro, .none, .any, 2⟩,
   ⟨0x4830, 4, 0xA, 1, .bool, .ro, .none, .any, 2⟩,
   ⟨0x4830, 4, 0xB, 1, .u32, .ro, .none, .any, 2⟩,
   ⟨0x4830, 4, 0xC, 1, .f32, .ro, .none, .any, 2⟩,
   ⟨0x4830, 4, 0xD, 1, .u32, .ro, .none, .any, 2⟩,
   ⟨0x4840, 4, 0x1, 1, .enum16, .rw, .live, .int 0 2, 2⟩,
   ⟨0x4840, 4, 0x2, 1, .time96, .rw, .live, .any, 2⟩,
   ⟨0x4840, 4, 0x3, 1, .u64, .rw, .live, .int 6553600 65536000000000000, 2⟩]

/-- Rows of Table 08-8. -/
def objRows08_8c : List ObjRow :=
  [
   ⟨0x4840, 4, 0x4, 1, .u32, .rw, .live, .dyn, 2⟩,
   ⟨0x4840, 4, 0x5, 1, .bool, .rw, .live, .int 0 1, 2⟩,
   ⟨0x4840, 4, 0x6, 1, .u32, .ro, .none, .any, 2⟩,
   ⟨0x4840, 4, 0x7, 1, .u32, .ro, .none, .any, 2⟩,
   ⟨0x4850, 4, 0x1, 1, .enum16, .rw, .live, .int 0 3, 2⟩,
   ⟨0x4850, 4, 0x2, 1, .u16, .rw, .live, .int 0 1000, 2⟩,
   ⟨0x4850, 4, 0x3, 1, .i16, .rw, .live, .any, 2⟩,
   ⟨0x4850, 4, 0x4, 1, .domain, .ro, .none, .any, 2⟩,
   ⟨0x4850, 4, 0x5, 1, .u8, .ro, .none, .any, 2⟩,
   ⟨0x4850, 4, 0x6, 1, .u32, .ro, .none, .any, 2⟩,
   ⟨0x4860, 1, 0x1, 1, .enum16, .ro, .none, .any, 2⟩,
   ⟨0x4860, 1, 0x2, 1, .time96, .ro, .none, .any, 2⟩,
   ⟨0x4860, 1, 0x3, 1, .f32, .ro, .none, .any, 2⟩,
   ⟨0x4860, 1, 0x4, 1, .time96, .wo, .live, .any, 2⟩,
   ⟨0x4860, 1, 0x5, 1, .u32, .ro, .none, .any, 2⟩,
   ⟨0x4860, 1, 0x6, 1, .bool, .ro, .none, .any, 2⟩,
   ⟨0x4870, 1, 0x1, 1, .i16, .rw, .live, .any, 2⟩,
   ⟨0x4870, 1, 0x2, 1, .enum16, .rw, .live, .int 0 2, 2⟩,
   ⟨0x4870, 1, 0x3, 1, .enum16, .rw, .live, .int 0 1, 2⟩,
   ⟨0x4870, 1, 0x4, 1, .string, .ro, .none, .any, 2⟩]

/-- Rows of Table 09-9. -/
def objRows09_9a : List ObjRow :=
  [
   ⟨0x4C00, 1, 0x1, 8, .u8, .rw, .stopped, .orInt 255 0 31, 2⟩,
   ⟨0x4C00, 1, 0x9, 1, .u16, .ro, .none, .any, 2⟩,
   ⟨0x4C00, 1, 0xA, 1, .u16, .ro, .none, .any, 2⟩,
   ⟨0x4C10, 4, 0x1, 1, .u8, .rw, .stopped, .any, 2⟩,
   ⟨0x4C10, 4, 0x2, 1, .u16, .rw, .stopped, .dyn, 2⟩,
   ⟨0x4C10, 4, 0x3, 1, .u8, .rw, .stopped, .int 1 16, 2⟩,
   ⟨0x4C10, 4, 0x4, 1, .enum16, .rw, .live, .int 0 2, 2⟩,
   ⟨0x4C10, 4, 0x5, 1, .u32, .rw, .live, .dyn, 2⟩,
   ⟨0x4C10, 4, 0x6, 1, .u32, .rw, .live, .dyn, 2⟩,
   ⟨0x4C10, 4, 0x7, 1, .u32, .rw, .live, .int 1 60000, 2⟩,
   ⟨0x4C10, 4, 0x8, 1, .bool, .rw, .live, .int 0 1, 2⟩,
   ⟨0x4C10, 4, 0x9, 1, .bool, .rw, .live, .int 0 1, 2⟩,
   ⟨0x4C10, 4, 0xA, 1, .u8, .wo, .live, .int 1 3, 1⟩,
   ⟨0x4C10, 4, 0xB, 1, .enum16, .ro, .none, .any, 2⟩,
   ⟨0x4C10, 4, 0xC, 1, .u32, .ro, .none, .any, 2⟩,
   ⟨0x4C10, 4, 0xD, 1, .u32, .ro, .none, .any, 2⟩,
   ⟨0x4C10, 4, 0xE, 1, .u32, .ro, .none, .any, 2⟩,
   ⟨0x4C10, 4, 0xF, 1, .u32, .ro, .none, .any, 2⟩,
   ⟨0x4C10, 4, 0x10, 1, .u32, .ro, .none, .any, 2⟩,
   ⟨0x4C10, 4, 0x11, 1, .u8, .ro, .none, .any, 2⟩,
   ⟨0x4C20, 32, 0x1, 1, .enum16, .rw, .live, .dyn, 2⟩,
   ⟨0x4C20, 32, 0x2, 1, .u8, .rw, .live, .dyn, 2⟩,
   ⟨0x4C20, 32, 0x3, 1, .f32, .rw, .live, .any, 2⟩,
   ⟨0x4C20, 32, 0x4, 1, .f32, .rw, .live, .any, 2⟩]

/-- Rows of Table 09-9. -/
def objRows09_9b : List ObjRow :=
  [
   ⟨0x4C20, 32, 0x5, 1, .u8, .rw, .live, .int 1 16, 2⟩,
   ⟨0x4C20, 32, 0x6, 1, .f32, .rw, .live, .fmin0, 2⟩,
   ⟨0x4C40, 4, 0x1, 16, .domain, .ro, .none, .any, 2⟩,
   ⟨0x4C44, 4, 0x1, 1, .u8, .wo, .live, .int 0 15, 1⟩,
   ⟨0x4C44, 4, 0x2, 1, .u16, .ro, .none, .any, 2⟩,
   ⟨0x4E00, 4, 0x1, 1, .bool, .rw, .stopped, .int 0 1, 2⟩,
   ⟨0x4E00, 4, 0x2, 1, .u8, .rw, .stopped, .int 0 3, 2⟩,
   ⟨0x4E00, 4, 0x3, 1, .u8, .rw, .stopped, .int 0 7, 2⟩,
   ⟨0x4E00, 4, 0x4, 1, .u32, .rw, .stopped, .any, 2⟩,
   ⟨0x4E00, 4, 0x5, 1, .enum16, .rw, .stopped, .int 0 1, 2⟩,
   ⟨0x4E00, 4, 0x6, 1, .f64, .rw, .live, .f64 0x4059000000000000 0x4146E36000000000, 2⟩,
   ⟨0x4E00, 4, 0x7, 1, .f64, .rw, .live, .f64 0x4197D78400000000 0x41B1E1A300000000, 2⟩,
   ⟨0x4E00, 4, 0x8, 1, .u32, .rw, .live, .int 1 1000, 2⟩,
   ⟨0x4E00, 4, 0x9, 1, .enum16, .rw, .live, .int 0 2, 2⟩,
   ⟨0x4E00, 4, 0xA, 1, .u32, .rw, .live, .int 0 10000, 2⟩,
   ⟨0x4E00, 4, 0xB, 1, .u32, .rw, .live, .int 100 600000, 2⟩,
   ⟨0x4E00, 4, 0xC, 1, .f32, .rw, .live, .f32 0x0 0x461C4000, 2⟩,
   ⟨0x4E00, 4, 0xD, 1, .domain, .ro, .none, .any, 2⟩,
   ⟨0x4E00, 4, 0xE, 1, .domain, .wo, .live, .len 32, 1⟩,
   ⟨0x4E00, 4, 0xF, 1, .enum16, .ro, .none, .any, 2⟩,
   ⟨0x4E00, 4, 0x10, 1, .f64, .ro, .none, .any, 2⟩,
   ⟨0x4E00, 4, 0x11, 1, .f64, .ro, .none, .any, 2⟩,
   ⟨0x4E00, 4, 0x12, 1, .enum16, .ro, .none, .any, 2⟩,
   ⟨0x4E00, 4, 0x13, 1, .f64, .ro, .none, .any, 2⟩]

/-- Rows of Table 09-9. -/
def objRows09_9c : List ObjRow :=
  [
   ⟨0x4E00, 4, 0x14, 1, .f64, .ro, .none, .any, 2⟩,
   ⟨0x4E00, 4, 0x15, 1, .f32, .ro, .none, .any, 2⟩,
   ⟨0x4E00, 4, 0x16, 1, .u8, .ro, .none, .any, 2⟩,
   ⟨0x4E00, 4, 0x17, 1, .u32, .ro, .none, .any, 2⟩,
   ⟨0x4E00, 4, 0x18, 1, .u32, .ro, .none, .any, 2⟩]

/-- Rows of Table 10-8. -/
def objRows10_8a : List ObjRow :=
  [
   ⟨0x5000, 1, 0x1, 1, .bool, .rw, .stopped, .int 0 1, 2⟩,
   ⟨0x5000, 1, 0x2, 1, .enum16, .rw, .stopped, .int 0 1, 2⟩,
   ⟨0x5000, 1, 0x3, 1, .u16, .rw, .stopped, .int 1 65535, 2⟩,
   ⟨0x5000, 1, 0x4, 1, .enum16, .rw, .live, .int 0 1, 2⟩,
   ⟨0x5000, 1, 0x5, 1, .u16, .rw, .live, .int 1 3600, 2⟩,
   ⟨0x5000, 1, 0x6, 1, .string, .rw, .stopped, .lenIn 0 256, 2⟩,
   ⟨0x5000, 1, 0x7, 1, .f32, .rw, .stopped, .any, 2⟩,
   ⟨0x5000, 1, 0x8, 1, .f32, .rw, .stopped, .any, 2⟩,
   ⟨0x5000, 1, 0x9, 1, .f32, .rw, .stopped, .any, 2⟩,
   ⟨0x5000, 1, 0xA, 1, .u16, .ro, .none, .any, 2⟩,
   ⟨0x5000, 1, 0xB, 1, .u16, .ro, .none, .any, 2⟩,
   ⟨0x5010, 4, 0x1, 1, .bool, .rw, .stopped, .int 0 1, 2⟩,
   ⟨0x5010, 4, 0x2, 1, .u8, .rw, .stopped, .int 0 31, 2⟩,
   ⟨0x5010, 4, 0x3, 1, .u8, .rw, .stopped, .int 0 31, 2⟩,
   ⟨0x5010, 4, 0x4, 1, .u8, .rw, .stopped, .int 0 31, 2⟩,
   ⟨0x5010, 4, 0x5, 1, .enum16, .rw, .stopped, .int 0 1, 2⟩,
   ⟨0x5010, 4, 0x6, 1, .enum16, .rw, .stopped, .int 0 1, 2⟩,
   ⟨0x5010, 4, 0x7, 1, .u16, .rw, .stopped, .int 1 65534, 2⟩,
   ⟨0x5010, 4, 0x8, 1, .string, .rw, .stopped, .lenIn 0 16, 2⟩,
   ⟨0x5010, 4, 0x9, 1, .domain, .rw, .stopped, .len 16, 2⟩,
   ⟨0x5010, 4, 0xA, 1, .domain, .ro, .none, .any, 2⟩,
   ⟨0x5010, 4, 0xB, 1, .u32, .ro, .none, .any, 2⟩,
   ⟨0x5020, 4, 0x1, 1, .bool, .rw, .stopped, .int 0 1, 2⟩,
   ⟨0x5020, 4, 0x2, 1, .u16, .rw, .stopped, .int 1 65534, 2⟩]

/-- Rows of Table 10-8. -/
def objRows10_8b : List ObjRow :=
  [
   ⟨0x5020, 4, 0x3, 1, .u16, .rw, .stopped, .dyn, 2⟩,
   ⟨0x5020, 4, 0x4, 1, .u8, .rw, .stopped, .any, 2⟩,
   ⟨0x5020, 4, 0x5, 1, .bool, .rw, .stopped, .int 0 1, 2⟩,
   ⟨0x5020, 4, 0x6, 1, .enum16, .rw, .stopped, .int 0 1, 2⟩,
   ⟨0x5020, 4, 0x7, 1, .domain, .rw, .stopped, .len 18, 2⟩,
   ⟨0x5020, 4, 0x8, 1, .domain, .rw, .stopped, .len 64, 2⟩,
   ⟨0x5020, 4, 0x9, 1, .enum16, .ro, .none, .any, 2⟩,
   ⟨0x5020, 4, 0xA, 1, .u32, .ro, .none, .any, 2⟩,
   ⟨0x5020, 4, 0xB, 1, .u32, .ro, .none, .any, 2⟩,
   ⟨0x5020, 4, 0xC, 1, .u32, .ro, .none, .any, 2⟩]

/-- Rows of Table 11-9. -/
def objRows11_9a : List ObjRow :=
  [
   ⟨0x5400, 1024, 0x1, 1, .bool, .rw, .live, .int 0 1, 2⟩,
   ⟨0x5400, 1024, 0x2, 1, .enum16, .ro, .none, .any, 2⟩,
   ⟨0x5400, 1024, 0x3, 1, .u32, .rw, .stopped, .dyn, 2⟩,
   ⟨0x5400, 1024, 0x4, 1, .u32, .rw, .live, .any, 2⟩,
   ⟨0x5400, 1024, 0x5, 1, .u8, .rw, .stopped, .dyn, 2⟩,
   ⟨0x5400, 1024, 0x6, 1, .u8, .rw, .stopped, .int 1 255, 2⟩,
   ⟨0x5400, 1024, 0x7, 1, .u8, .rw, .stopped, .int 0 31, 2⟩,
   ⟨0x5400, 1024, 0x8, 1, .enum16, .rw, .stopped, .int 0 3, 2⟩,
   ⟨0x5400, 1024, 0x9, 1, .time96, .rw, .stopped, .any, 2⟩,
   ⟨0x5400, 1024, 0xA, 1, .u64, .rw, .stopped, .int 65536000 65536000000000000, 2⟩,
   ⟨0x5400, 1024, 0xB, 1, .u32, .rw, .stopped, .int 1 400000, 2⟩,
   ⟨0x5400, 1024, 0xC, 1, .u32, .rw, .stopped, .dyn, 2⟩,
   ⟨0x5400, 1024, 0xD, 1, .u8, .rw, .stopped, .int 0 191, 2⟩,
   ⟨0x5400, 1024, 0xE, 1, .u8, .rw, .stopped, .int 1 255, 2⟩,
   ⟨0x5400, 1024, 0xF, 1, .u8, .ro, .none, .any, 2⟩,
   ⟨0x5400, 1024, 0x10, 8, .u16, .rw, .stopped, .orInt 65535 0 1023, 2⟩,
   ⟨0x5400, 1024, 0x18, 1, .u32, .rw, .live, .orInt 0 100 10000000000, 2⟩,
   ⟨0x5400, 1024, 0x19, 1, .u32, .rw, .live, .orInt 0 10 10000000000, 2⟩,
   ⟨0x5400, 1024, 0x1A, 1, .u32, .ro, .none, .any, 2⟩,
   ⟨0x5400, 1024, 0x1B, 1, .u32, .ro, .none, .any, 2⟩,
   ⟨0x5400, 1024, 0x1C, 1, .u32, .ro, .none, .any, 2⟩,
   ⟨0x5400, 1024, 0x1D, 1, .u32, .ro, .none, .any, 2⟩,
   ⟨0x5400, 1024, 0x1E, 1, .u32, .ro, .none, .any, 2⟩,
   ⟨0x5400, 1024, 0x1F, 1, .u32, .ro, .none, .any, 2⟩]

/-- Rows of Table 11-9. -/
def objRows11_9b : List ObjRow :=
  [
   ⟨0x5400, 1024, 0x20, 1, .u32, .ro, .none, .any, 2⟩,
   ⟨0x5400, 1024, 0x21, 1, .enum16, .ro, .none, .any, 2⟩,
   ⟨0x5800, 1, 0x1, 1, .f32, .rw, .stopped, .f32 0x3DCCCCCD 0x3F800000, 2⟩,
   ⟨0x5800, 1, 0x2, 1, .u32, .rw, .live, .int 100 100000, 2⟩,
   ⟨0x5800, 1, 0x3, 1, .u32, .rw, .live, .orInt 0 10 10000000, 2⟩,
   ⟨0x5800, 1, 0x4, 1, .u8, .ro, .none, .any, 2⟩,
   ⟨0x5800, 1, 0x5, 1, .u32, .ro, .none, .any, 2⟩,
   ⟨0x5800, 1, 0x6, 1, .u16, .ro, .none, .any, 2⟩,
   ⟨0x5808, 5, 0x1, 8, .u16, .rw, .stopped, .orInt 65535 0 1023, 2⟩,
   ⟨0x5808, 5, 0x9, 1, .u32, .ro, .none, .any, 2⟩,
   ⟨0x5810, 16, 0x1, 1, .u8, .rw, .live, .dyn, 2⟩,
   ⟨0x5810, 16, 0x2, 1, .u16, .ro, .none, .any, 2⟩,
   ⟨0x5810, 16, 0x3, 1, .u32, .ro, .none, .any, 2⟩,
   ⟨0x5820, 8, 0x1, 1, .enum16, .ro, .none, .any, 2⟩,
   ⟨0x5820, 8, 0x2, 1, .u16, .ro, .none, .any, 2⟩,
   ⟨0x5820, 8, 0x3, 1, .f32, .ro, .none, .any, 2⟩,
   ⟨0x5820, 8, 0x4, 1, .u32, .ro, .none, .any, 2⟩,
   ⟨0x5830, 1, 0x1, 1, .bool, .rw, .live, .int 0 1, 2⟩,
   ⟨0x5830, 1, 0x2, 1, .u32, .rw, .stopped, .dyn, 2⟩,
   ⟨0x5830, 1, 0x3, 1, .u32, .rw, .stopped, .step 0 16777216 4096, 2⟩,
   ⟨0x5830, 1, 0x4, 1, .enum16, .rw, .live, .int 0 1, 2⟩,
   ⟨0x5830, 1, 0x5, 1, .u16, .rw, .live, .any, 2⟩,
   ⟨0x5830, 1, 0x6, 1, .u16, .rw, .live, .any, 2⟩,
   ⟨0x5830, 1, 0x7, 1, .u16, .rw, .live, .any, 2⟩]

/-- Rows of Table 11-9. -/
def objRows11_9c : List ObjRow :=
  [
   ⟨0x5830, 1, 0x8, 1, .u32, .ro, .none, .any, 2⟩,
   ⟨0x5830, 1, 0x9, 1, .u32, .rw, .live, .dyn, 2⟩,
   ⟨0x5830, 1, 0xA, 1, .u32, .ro, .none, .any, 2⟩,
   ⟨0x5830, 1, 0xB, 1, .u32, .rw, .live, .any, 2⟩,
   ⟨0x5830, 1, 0xC, 1, .domain, .ro, .none, .any, 2⟩]

/-- Rows of Table 12-9. -/
def objRows12_9a : List ObjRow :=
  [
   ⟨0x5C00, 1, 0x1, 1, .enum16, .ro, .none, .any, 2⟩,
   ⟨0x5C00, 1, 0x2, 1, .u8, .wo, .live, .int 1 4, 2⟩,
   ⟨0x5C00, 1, 0x3, 1, .u16, .rw, .live, .int 1 1000, 2⟩,
   ⟨0x5C00, 1, 0x4, 1, .u8, .rw, .stopped, .int 1 255, 2⟩,
   ⟨0x5C00, 1, 0x5, 1, .f32, .rw, .stopped, .f32 0x3D4CCCCD 0x3F666666, 2⟩,
   ⟨0x5C00, 1, 0x6, 1, .u32, .ro, .none, .any, 2⟩,
   ⟨0x5C00, 1, 0x7, 1, .u32, .ro, .none, .any, 2⟩,
   ⟨0x5C00, 1, 0x8, 1, .u32, .ro, .none, .any, 2⟩,
   ⟨0x5C00, 1, 0x9, 1, .u32, .ro, .none, .any, 2⟩,
   ⟨0x5C00, 1, 0xA, 1, .u32, .ro, .none, .any, 2⟩,
   ⟨0x5C00, 1, 0xB, 1, .u32, .ro, .none, .any, 2⟩,
   ⟨0x5C00, 1, 0xC, 1, .u32, .ro, .none, .any, 2⟩,
   ⟨0x5C00, 1, 0xD, 1, .u32, .ro, .none, .any, 2⟩,
   ⟨0x5C00, 1, 0xE, 1, .u16, .ro, .none, .any, 2⟩,
   ⟨0x5C01, 1, 0x1, 1, .domain, .wo, .live, .upto 426052, 2⟩,
   ⟨0x5C01, 1, 0x2, 1, .enum16, .ro, .none, .any, 2⟩,
   ⟨0x5C01, 1, 0x3, 1, .u16, .ro, .none, .any, 2⟩,
   ⟨0x5C10, 32, 0x1, 1, .bool, .rw, .stopped, .int 0 1, 2⟩,
   ⟨0x5C10, 32, 0x2, 1, .u8, .rw, .stopped, .int 0 1, 2⟩,
   ⟨0x5C10, 32, 0x3, 1, .u32, .rw, .stopped, .any, 2⟩,
   ⟨0x5C10, 32, 0x4, 1, .u32, .rw, .stopped, .any, 2⟩,
   ⟨0x5C10, 32, 0x5, 1, .u8, .rw, .stopped, .int 1 64, 2⟩,
   ⟨0x5C10, 32, 0x6, 1, .u8, .rw, .stopped, .int 1 64, 2⟩,
   ⟨0x5C10, 32, 0x7, 1, .u16, .rw, .live, .int 2 10000, 2⟩]

/-- Rows of Table 12-9. -/
def objRows12_9b : List ObjRow :=
  [
   ⟨0x5C10, 32, 0x8, 1, .enum16, .ro, .none, .any, 2⟩,
   ⟨0x5C10, 32, 0x9, 1, .domain, .ro, .none, .any, 2⟩,
   ⟨0x5C10, 32, 0xA, 1, .domain, .ro, .none, .any, 2⟩,
   ⟨0x5C10, 32, 0xB, 1, .u32, .ro, .none, .any, 2⟩,
   ⟨0x5C10, 32, 0xC, 1, .u32, .ro, .none, .any, 2⟩,
   ⟨0x5C10, 32, 0xD, 1, .u32, .ro, .none, .any, 2⟩,
   ⟨0x8100, 128, 0x1, 64, .u32, .rw, .live, .dyn, 1⟩]

/-- Rows of Table 13-7. -/
def objRows13_7a : List ObjRow :=
  [
   ⟨0x6000, 1, 0x1, 1, .enum16, .ro, .none, .any, 2⟩,
   ⟨0x6000, 1, 0x2, 1, .u16, .ro, .none, .any, 2⟩,
   ⟨0x6000, 1, 0x3, 1, .u16, .ro, .none, .any, 2⟩,
   ⟨0x6000, 1, 0x4, 1, .u8, .ro, .none, .any, 2⟩,
   ⟨0x6000, 1, 0x5, 1, .time96, .ro, .none, .any, 2⟩,
   ⟨0x6000, 1, 0x6, 1, .bool, .ro, .none, .any, 2⟩,
   ⟨0x6000, 1, 0x7, 1, .u32, .ro, .none, .any, 2⟩,
   ⟨0x6000, 1, 0x8, 1, .u32, .ro, .none, .any, 2⟩,
   ⟨0x6000, 1, 0x9, 1, .u8, .ro, .none, .any, 2⟩,
   ⟨0x6000, 1, 0xA, 1, .u16, .ro, .none, .any, 2⟩,
   ⟨0x6010, 1, 0x1, 1, .u16, .wo, .live, .any, 2⟩,
   ⟨0x6010, 1, 0x2, 1, .u16, .ro, .none, .any, 2⟩,
   ⟨0x6010, 1, 0x3, 1, .bool, .ro, .none, .any, 2⟩,
   ⟨0x6010, 1, 0x4, 1, .bool, .ro, .none, .any, 2⟩,
   ⟨0x6010, 1, 0x5, 1, .u16, .rw, .stopped, .int 5 300, 2⟩,
   ⟨0x6010, 1, 0x6, 1, .u32, .ro, .none, .any, 2⟩,
   ⟨0x6020, 8, 0x1, 1, .bool, .rw, .stopped, .int 0 1, 2⟩,
   ⟨0x6020, 8, 0x2, 1, .f32, .rw, .stopped, .dyn, 2⟩,
   ⟨0x6020, 8, 0x3, 1, .f32, .rw, .stopped, .dyn, 2⟩,
   ⟨0x6020, 8, 0x4, 1, .u16, .rw, .stopped, .step 0 1000 10, 2⟩,
   ⟨0x6020, 8, 0x5, 1, .u32, .ro, .none, .any, 2⟩,
   ⟨0x6030, 4, 0x1, 1, .bool, .rw, .stopped, .int 0 1, 2⟩,
   ⟨0x6030, 4, 0x2, 1, .u16, .rw, .stopped, .step 0 1000 10, 2⟩,
   ⟨0x6030, 4, 0x3, 1, .u16, .rw, .stopped, .int 1 1000, 2⟩]

/-- Rows of Table 13-7. -/
def objRows13_7b : List ObjRow :=
  [
   ⟨0x6030, 4, 0x4, 1, .u8, .ro, .none, .any, 2⟩,
   ⟨0x6030, 4, 0x5, 1, .u32, .ro, .none, .any, 2⟩,
   ⟨0x6030, 4, 0x6, 1, .u32, .ro, .none, .any, 2⟩,
   ⟨0x6040, 1, 0x1, 1, .enum16, .rw, .stopped, .int 0 1, 2⟩,
   ⟨0x6040, 1, 0x2, 1, .u16, .rw, .stopped, .int 10 10000, 2⟩,
   ⟨0x6040, 1, 0x3, 1, .bool, .rw, .stopped, .int 0 1, 2⟩,
   ⟨0x6048, 1, 0x1, 1, .u8, .ro, .none, .any, 2⟩,
   ⟨0x6048, 1, 0x2, 1, .u32, .ro, .none, .any, 2⟩,
   ⟨0x6048, 1, 0x3, 1, .u32, .ro, .none, .any, 2⟩,
   ⟨0x6048, 1, 0x4, 1, .u32, .wo, .stopped, .any, 3⟩,
   ⟨0x6050, 1, 0x1, 1, .u16, .rw, .stopped, .int 0 15, 2⟩,
   ⟨0x6050, 1, 0x2, 1, .f32, .rw, .stopped, .f32 0 0x457FFE66, 2⟩,
   ⟨0x6050, 1, 0x3, 1, .f32, .rw, .stopped, .f32 0 0x457FFE66, 2⟩,
   ⟨0x6050, 1, 0x4, 1, .u8, .rw, .stopped, .orInt 255 0 31, 2⟩,
   ⟨0x6050, 1, 0x5, 1, .u8, .rw, .stopped, .orInt 255 0 31, 2⟩,
   ⟨0x6050, 1, 0x6, 1, .f32, .rw, .stopped, .fmin0, 2⟩,
   ⟨0x6050, 1, 0x7, 1, .u8, .rw, .stopped, .orInt 255 0 31, 2⟩,
   ⟨0x6050, 1, 0x8, 1, .f32, .rw, .stopped, .fmin0, 2⟩,
   ⟨0x6050, 1, 0x9, 1, .u16, .ro, .none, .any, 2⟩,
   ⟨0x6050, 1, 0xA, 1, .u32, .ro, .none, .any, 2⟩,
   ⟨0x6058, 1, 0x1, 1, .u8, .wo, .live, .int 0 15, 2⟩,
   ⟨0x6058, 1, 0x2, 1, .u32, .ro, .none, .any, 2⟩,
   ⟨0x6100, 1, 0x1, 1, .bool, .rw, .stopped, .int 0 1, 2⟩,
   ⟨0x6100, 1, 0x2, 1, .u32, .rw, .stopped, .any, 2⟩]

/-- Rows of Table 13-7. -/
def objRows13_7c : List ObjRow :=
  [
   ⟨0x6100, 1, 0x3, 1, .u32, .rw, .stopped, .any, 2⟩,
   ⟨0x6100, 1, 0x4, 1, .u16, .rw, .stopped, .int 100 10000, 2⟩,
   ⟨0x6100, 1, 0x5, 1, .u16, .rw, .stopped, .int 0 4094, 2⟩,
   ⟨0x6100, 1, 0x6, 1, .bool, .rw, .stopped, .int 0 1, 2⟩,
   ⟨0x6100, 1, 0x7, 1, .u32, .rw, .stopped, .int 10 10000, 2⟩,
   ⟨0x6100, 1, 0x8, 1, .u32, .ro, .none, .any, 2⟩,
   ⟨0x6100, 1, 0x9, 1, .u8, .ro, .none, .any, 2⟩,
   ⟨0x6110, 16, 0x1, 1, .bool, .rw, .stopped, .int 0 1, 2⟩,
   ⟨0x6110, 16, 0x2, 1, .u32, .rw, .stopped, .any, 2⟩,
   ⟨0x6110, 16, 0x3, 1, .u32, .rw, .stopped, .any, 2⟩,
   ⟨0x6110, 16, 0x4, 1, .u32, .rw, .stopped, .int 300 100000, 2⟩,
   ⟨0x6110, 16, 0x5, 1, .enum16, .rw, .stopped, .int 0 4, 2⟩,
   ⟨0x6110, 16, 0x6, 1, .bool, .rw, .stopped, .int 0 1, 2⟩,
   ⟨0x6110, 16, 0x7, 1, .enum16, .ro, .none, .any, 2⟩,
   ⟨0x6110, 16, 0x8, 1, .bool, .ro, .none, .any, 2⟩,
   ⟨0x6110, 16, 0x9, 1, .u32, .ro, .none, .any, 2⟩,
   ⟨0x6110, 16, 0xA, 1, .u32, .ro, .none, .any, 2⟩,
   ⟨0x6110, 16, 0xB, 1, .u32, .ro, .none, .any, 2⟩]

/-- Rows of Table 14-8. -/
def objRows14_8a : List ObjRow :=
  [
   ⟨0x6400, 1, 0x1, 1, .enum16, .ro, .none, .any, 2⟩,
   ⟨0x6400, 1, 0x2, 1, .bool, .ro, .none, .any, 2⟩,
   ⟨0x6400, 1, 0x3, 1, .enum16, .ro, .none, .any, 2⟩,
   ⟨0x6400, 1, 0x4, 1, .enum16, .ro, .none, .any, 2⟩,
   ⟨0x6400, 1, 0x5, 1, .u8, .ro, .none, .any, 2⟩,
   ⟨0x6400, 1, 0x6, 1, .u16, .rw, .stopped, .step 0 10000 10, 2⟩,
   ⟨0x6400, 1, 0x7, 1, .bool, .ro, .none, .any, 2⟩,
   ⟨0x6400, 1, 0x8, 1, .enum16, .ro, .none, .any, 2⟩,
   ⟨0x6400, 1, 0x9, 1, .bool, .ro, .none, .any, 2⟩,
   ⟨0x6400, 1, 0xA, 1, .u16, .ro, .none, .any, 2⟩,
   ⟨0x6410, 1, 0x1, 1, .u8, .rw, .stopped, .int 1 64, 2⟩,
   ⟨0x6410, 1, 0x2, 1, .u32, .ro, .none, .any, 2⟩,
   ⟨0x6410, 1, 0x3, 1, .u32, .ro, .none, .any, 2⟩,
   ⟨0x6410, 1, 0x4, 1, .u32, .ro, .none, .any, 2⟩,
   ⟨0x6410, 1, 0x5, 1, .u16, .ro, .none, .any, 2⟩,
   ⟨0x6410, 1, 0x6, 1, .u16, .ro, .none, .any, 2⟩,
   ⟨0x6410, 1, 0x7, 1, .u32, .ro, .none, .any, 2⟩,
   ⟨0x6410, 1, 0x8, 1, .u32, .ro, .none, .any, 2⟩,
   ⟨0x6410, 1, 0x9, 1, .time96, .ro, .none, .any, 2⟩,
   ⟨0x6410, 1, 0xA, 1, .bool, .ro, .none, .any, 2⟩,
   ⟨0x6420, 1, 0x1, 1, .bool, .rw, .live, .int 0 1, 2⟩,
   ⟨0x6420, 1, 0x2, 1, .u32, .rw, .live, .int 10 3600, 2⟩,
   ⟨0x6420, 1, 0x3, 1, .u16, .rw, .live, .int 0 365, 2⟩,
   ⟨0x6420, 1, 0x4, 1, .time96, .rw, .live, .any, 2⟩]

/-- Rows of Table 14-8. -/
def objRows14_8b : List ObjRow :=
  [
   ⟨0x6420, 1, 0x5, 1, .u32, .rw, .live, .int 10 86400, 2⟩,
   ⟨0x6420, 1, 0x6, 1, .u8, .rw, .live, .any, 2⟩,
   ⟨0x6420, 1, 0x7, 1, .enum16, .ro, .none, .any, 2⟩,
   ⟨0x6420, 1, 0x8, 1, .time96, .ro, .none, .any, 2⟩,
   ⟨0x6430, 1, 0x1, 1, .u8, .ro, .none, .any, 2⟩,
   ⟨0x6430, 1, 0x2, 1, .f32, .ro, .none, .any, 2⟩,
   ⟨0x6430, 1, 0x3, 1, .u32, .ro, .none, .any, 2⟩,
   ⟨0x6430, 1, 0x4, 1, .u16, .ro, .none, .any, 2⟩,
   ⟨0x6430, 1, 0x5, 1, .u32, .ro, .none, .any, 2⟩,
   ⟨0x6430, 1, 0x6, 1, .u32, .ro, .none, .any, 2⟩,
   ⟨0x6430, 1, 0x7, 1, .u32, .ro, .none, .any, 2⟩,
   ⟨0x6440, 32, 0x1, 1, .f32, .ro, .none, .any, 2⟩]

/-- Rows of Table 15-12. -/
def objRows15_12a : List ObjRow :=
  [
   ⟨0x1010, 1, 0x1, 1, .u8, .rw, .stopped, .int 0 64, 3⟩,
   ⟨0x1010, 1, 0x2, 1, .u32, .rw, .restart, .any, 3⟩,
   ⟨0x1010, 1, 0x3, 1, .u8, .rw, .restart, .int 8 30, 3⟩,
   ⟨0x1010, 1, 0x4, 1, .u32, .rw, .restart, .any, 3⟩,
   ⟨0x1010, 1, 0x5, 1, .domain, .rw, .restart, .len 17, 3⟩,
   ⟨0x1010, 1, 0x6, 1, .domain, .ro, .none, .any, 3⟩,
   ⟨0x1010, 1, 0x7, 1, .bool, .rw, .restart, .int 0 1, 3⟩,
   ⟨0x1010, 1, 0x8, 1, .u16, .rw, .live, .int 100 10000, 3⟩,
   ⟨0x1010, 1, 0x9, 1, .u16, .rw, .live, .int 5 3600, 3⟩,
   ⟨0x1010, 1, 0xA, 1, .bool, .ro, .none, .any, 3⟩,
   ⟨0x1010, 1, 0xB, 1, .u32, .ro, .none, .any, 3⟩,
   ⟨0x1010, 1, 0xC, 1, .u16, .ro, .none, .any, 3⟩,
   ⟨0x1040, 1, 0x1, 1, .u8, .ro, .none, .any, 3⟩,
   ⟨0x1040, 1, 0x2, 1, .domain, .ro, .none, .any, 3⟩,
   ⟨0x1060, 1, 0x1, 1, .bool, .rw, .stopped, .int 0 1, 3⟩,
   ⟨0x1060, 1, 0x2, 1, .u16, .rw, .live, .any, 3⟩,
   ⟨0x1060, 1, 0x3, 1, .u32, .rw, .stopped, .dyn, 3⟩,
   ⟨0x1060, 1, 0x4, 1, .u32, .rw, .stopped, .dyn, 3⟩,
   ⟨0x1060, 1, 0x5, 1, .u16, .rw, .stopped, .oneOf [16, 32, 64, 128, 256, 512, 1024], 3⟩,
   ⟨0x1060, 1, 0x6, 1, .u16, .wo, .live, .dyn, 3⟩,
   ⟨0x1100, 16, 0x1, 1, .enum16, .ro, .none, .any, 3⟩,
   ⟨0x1100, 16, 0x2, 1, .u32, .ro, .none, .any, 3⟩,
   ⟨0x1100, 16, 0x3, 1, .u8, .ro, .none, .any, 3⟩,
   ⟨0x1100, 16, 0x4, 1, .enum16, .ro, .none, .any, 3⟩]

/-- Rows of Table 15-12. -/
def objRows15_12b : List ObjRow :=
  [
   ⟨0x1100, 16, 0x5, 1, .domain, .ro, .none, .any, 3⟩,
   ⟨0x1100, 16, 0x6, 1, .bool, .ro, .none, .any, 3⟩,
   ⟨0x1100, 16, 0x7, 1, .time96, .ro, .none, .any, 3⟩,
   ⟨0x1100, 16, 0x8, 1, .u32, .ro, .none, .any, 3⟩,
   ⟨0x1100, 16, 0x9, 1, .u32, .ro, .none, .any, 3⟩,
   ⟨0x1200, 32, 0x1, 1, .bool, .rw, .live, .int 0 1, 3⟩,
   ⟨0x1200, 32, 0x2, 1, .string, .rw, .live, .lenIn 1 16, 3⟩,
   ⟨0x1200, 32, 0x3, 1, .enum16, .rw, .live, .int 0 4, 3⟩,
   ⟨0x1200, 32, 0x4, 1, .domain, .wo, .live, .len 32, 3⟩,
   ⟨0x1200, 32, 0x5, 1, .u32, .ro, .none, .any, 3⟩,
   ⟨0x1200, 32, 0x6, 1, .time96, .ro, .none, .any, 3⟩,
   ⟨0x1280, 1, 0x1, 1, .bool, .rw, .live, .int 0 1, 3⟩,
   ⟨0x1280, 1, 0x2, 1, .bool, .wo, .live, .int 1 1, 4⟩,
   ⟨0x1280, 1, 0x3, 1, .bool, .rw, .live, .int 0 1, 3⟩,
   ⟨0x1280, 1, 0x4, 1, .u8, .rw, .live, .int 3 20, 3⟩,
   ⟨0x1280, 1, 0x5, 1, .u16, .rw, .live, .int 60 86400, 3⟩,
   ⟨0x12C0, 1, 0x1, 1, .domain, .wo, .live, .upto 16777216, 3⟩,
   ⟨0x12C0, 1, 0x2, 1, .u8, .wo, .stopped, .int 1 1, 3⟩,
   ⟨0x12C0, 1, 0x3, 1, .enum16, .ro, .none, .any, 3⟩,
   ⟨0x12C0, 1, 0x4, 1, .string, .ro, .none, .any, 3⟩,
   ⟨0x12C0, 1, 0x5, 1, .domain, .ro, .none, .any, 3⟩,
   ⟨0x12C0, 1, 0x6, 1, .u8, .ro, .none, .any, 3⟩,
   ⟨0x12C0, 1, 0x7, 1, .u8, .ro, .none, .any, 3⟩,
   ⟨0x1300, 1, 0x1, 1, .u32, .ro, .none, .any, 3⟩]

/-- Rows of Table 15-12. -/
def objRows15_12c : List ObjRow :=
  [
   ⟨0x1300, 1, 0x2, 1, .u32, .ro, .none, .any, 3⟩,
   ⟨0x1300, 1, 0x3, 1, .u64, .ro, .none, .any, 3⟩,
   ⟨0x1300, 1, 0x4, 1, .u16, .ro, .none, .any, 3⟩,
   ⟨0x1300, 1, 0x5, 1, .u32, .ro, .none, .any, 3⟩,
   ⟨0x1300, 1, 0x6, 1, .domain, .ro, .none, .any, 3⟩]

/-- Rows of Table 16-9. -/
def objRows16_9a : List ObjRow :=
  [
   ⟨0x6800, 1, 0x1, 1, .u16, .rw, .stopped, .any, 2⟩,
   ⟨0x6800, 1, 0x2, 1, .u16, .rw, .live, .any, 2⟩,
   ⟨0x6800, 1, 0x3, 1, .u16, .ro, .none, .any, 2⟩,
   ⟨0x6800, 1, 0x4, 1, .u16, .ro, .none, .any, 2⟩,
   ⟨0x6800, 1, 0x5, 1, .bool, .rw, .live, .int 0 1, 2⟩,
   ⟨0x6800, 1, 0x6, 1, .enum16, .ro, .none, .any, 2⟩,
   ⟨0x6800, 1, 0x7, 1, .f32, .ro, .none, .any, 2⟩,
   ⟨0x6800, 1, 0x8, 1, .u16, .rw, .live, .orInt 0 10 10000, 2⟩,
   ⟨0x6800, 1, 0x9, 1, .u8, .wo, .live, .int 1 1, 2⟩,
   ⟨0x6800, 1, 0xA, 1, .u32, .ro, .none, .any, 2⟩,
   ⟨0x6800, 1, 0xB, 1, .u8, .wo, .live, .int 1 1, 2⟩,
   ⟨0x6800, 1, 0xC, 1, .enum16, .ro, .none, .any, 2⟩,
   ⟨0x6800, 1, 0xD, 1, .u16, .ro, .none, .any, 2⟩,
   ⟨0x6810, 16, 0x1, 1, .u16, .rw, .live, .step 0 50000 10, 2⟩,
   ⟨0x6810, 16, 0x2, 1, .time96, .ro, .none, .any, 2⟩,
   ⟨0x6810, 16, 0x3, 1, .f32, .ro, .none, .any, 2⟩,
   ⟨0x6810, 16, 0x4, 1, .enum16, .ro, .none, .any, 2⟩,
   ⟨0x6900, 1, 0x1, 1, .u16, .rw, .live, .int 0 1023, 2⟩,
   ⟨0x6900, 1, 0x2, 1, .u16, .ro, .none, .any, 2⟩,
   ⟨0x6900, 1, 0x3, 1, .u16, .wo, .live, .int 0 1023, 2⟩,
   ⟨0x6900, 1, 0x4, 1, .u16, .rw, .live, .int 0 1023, 2⟩,
   ⟨0x6900, 1, 0x5, 1, .u32, .ro, .none, .any, 2⟩,
   ⟨0x6900, 1, 0x6, 1, .u16, .ro, .none, .any, 2⟩,
   ⟨0x6908, 4, 0x1, 1, .u32, .rw, .live, .dyn, 2⟩]

/-- Rows of Table 16-9. -/
def objRows16_9b : List ObjRow :=
  [
   ⟨0x6908, 4, 0x2, 1, .u8, .wo, .live, .int 1 2, 2⟩,
   ⟨0x6908, 4, 0x3, 1, .bool, .ro, .none, .any, 2⟩,
   ⟨0x6910, 10, 0x1, 1, .u32, .rw, .live, .int 16 16777215, 2⟩,
   ⟨0x6910, 10, 0x2, 1, .u32, .rw, .live, .int 0 536870880, 2⟩,
   ⟨0x6910, 10, 0x3, 1, .u16, .rw, .live, .dyn, 2⟩,
   ⟨0x6910, 10, 0x4, 1, .enum16, .rw, .stopped, .int 0 1, 2⟩,
   ⟨0x6910, 10, 0x5, 1, .u8, .wo, .live, .int 1 1, 2⟩,
   ⟨0x6910, 10, 0x6, 1, .time96, .rw, .stopped, .dyn, 2⟩,
   ⟨0x6910, 10, 0x7, 1, .u8, .rw, .live, .int 1 16, 2⟩,
   ⟨0x6910, 10, 0x8, 1, .enum16, .rw, .live, .dyn, 2⟩,
   ⟨0x6910, 10, 0x9, 1, .u8, .rw, .stopped, .int 0 3, 2⟩,
   ⟨0x6910, 10, 0xA, 1, .u8, .rw, .stopped, .dyn, 2⟩,
   ⟨0x6910, 10, 0xB, 1, .u8, .rw, .stopped, .int 0 127, 2⟩,
   ⟨0x6910, 10, 0xC, 1, .u32, .ro, .none, .any, 2⟩,
   ⟨0x6910, 10, 0xD, 1, .u32, .ro, .none, .any, 2⟩,
   ⟨0x6910, 10, 0xE, 1, .u32, .ro, .none, .any, 2⟩]

/-- Rows of Table 17-6. -/
def objRows17_6a : List ObjRow :=
  [
   ⟨0x6C00, 1, 0x1, 1, .u16, .ro, .none, .any, 2⟩,
   ⟨0x6C10, 2, 0x1, 1, .bool, .rw, .live, .int 0 1, 2⟩,
   ⟨0x6C10, 2, 0x2, 1, .enum16, .rw, .stopped, .int 0 2, 2⟩,
   ⟨0x6C10, 2, 0x3, 1, .u16, .rw, .stopped, .int 1 32, 2⟩,
   ⟨0x6C10, 2, 0x4, 1, .u16, .rw, .stopped, .int 2 256, 2⟩,
   ⟨0x6C10, 2, 0x5, 1, .u16, .rw, .stopped, .int 1 128, 2⟩,
   ⟨0x6C10, 2, 0x6, 1, .u16, .rw, .stopped, .int 1 128, 2⟩,
   ⟨0x6C10, 2, 0x7, 1, .u8, .rw, .stopped, .int 1 32, 2⟩,
   ⟨0x6C10, 2, 0x8, 1, .u8, .rw, .stopped, .int 1 32, 2⟩,
   ⟨0x6C10, 2, 0x9, 1, .u8, .rw, .stopped, .int 1 16, 2⟩,
   ⟨0x6C10, 2, 0xA, 1, .u8, .rw, .stopped, .int 1 16, 2⟩,
   ⟨0x6C10, 2, 0xB, 1, .bool, .rw, .stopped, .int 0 1, 2⟩,
   ⟨0x6C10, 2, 0xC, 1, .u8, .rw, .stopped, .int 0 127, 2⟩,
   ⟨0x6C10, 2, 0xD, 1, .u32, .rw, .stopped, .dyn, 2⟩,
   ⟨0x6C10, 2, 0xE, 1, .u16, .rw, .stopped, .oneOf [16, 32, 64, 128, 256, 512, 1024, 2048, 4096], 2⟩,
   ⟨0x6C10, 2, 0xF, 1, .bool, .rw, .live, .int 0 1, 2⟩,
   ⟨0x6C10, 2, 0x10, 1, .i16, .rw, .live, .any, 2⟩,
   ⟨0x6C10, 2, 0x11, 1, .u16, .rw, .live, .any, 2⟩,
   ⟨0x6C10, 2, 0x12, 1, .u32, .rw, .live, .int 100 10000000, 2⟩,
   ⟨0x6C20, 2, 0x1, 1, .enum16, .ro, .none, .any, 2⟩,
   ⟨0x6C20, 2, 0x2, 1, .u16, .ro, .none, .any, 2⟩,
   ⟨0x6C20, 2, 0x3, 1, .u8, .ro, .none, .any, 2⟩,
   ⟨0x6C20, 2, 0x4, 1, .u8, .wo, .live, .int 1 1, 2⟩,
   ⟨0x6C20, 2, 0x5, 1, .u8, .ro, .none, .any, 2⟩]

/-- Rows of Table 17-6. -/
def objRows17_6b : List ObjRow :=
  [
   ⟨0x6C20, 2, 0x6, 1, .domain, .wo, .live, .len 72, 2⟩,
   ⟨0x6C20, 2, 0x7, 1, .u32, .wo, .live, .dyn, 2⟩,
   ⟨0x6C20, 2, 0x8, 1, .domain, .ro, .none, .any, 2⟩,
   ⟨0x6C20, 2, 0x9, 1, .u32, .ro, .none, .any, 2⟩,
   ⟨0x6C20, 2, 0xA, 1, .u16, .ro, .none, .any, 2⟩,
   ⟨0x6C20, 2, 0xB, 1, .u16, .rw, .live, .dyn, 2⟩,
   ⟨0x6C20, 2, 0xC, 1, .domain, .ro, .none, .any, 2⟩,
   ⟨0x6C20, 2, 0xD, 1, .u32, .ro, .none, .any, 2⟩,
   ⟨0x6C20, 2, 0xE, 1, .u32, .ro, .none, .any, 2⟩,
   ⟨0x6C20, 2, 0xF, 1, .u32, .ro, .none, .any, 2⟩]

/-- Rows of Table 18-15. -/
def objRows18_15a : List ObjRow :=
  [
   ⟨0x1800, 1, 0x1, 1, .enum16, .ro, .none, .any, 2⟩,
   ⟨0x1800, 1, 0x2, 1, .enum16, .wo, .live, .int 1 4, 1⟩,
   ⟨0x1800, 1, 0x3, 1, .u16, .ro, .none, .any, 2⟩,
   ⟨0x1800, 1, 0x4, 1, .u16, .wo, .live, .any, 2⟩,
   ⟨0x1800, 1, 0x5, 1, .u8, .wo, .live, .int 1 1, 2⟩,
   ⟨0x1800, 1, 0x6, 1, .enum16, .ro, .none, .any, 2⟩,
   ⟨0x1800, 1, 0x7, 1, .u16, .ro, .none, .any, 2⟩,
   ⟨0x1800, 1, 0x8, 1, .enum16, .ro, .none, .any, 2⟩,
   ⟨0x1800, 1, 0x9, 1, .u32, .ro, .none, .any, 2⟩,
   ⟨0x1800, 1, 0xA, 1, .time96, .ro, .none, .any, 2⟩,
   ⟨0x1800, 1, 0xB, 1, .u32, .ro, .none, .any, 2⟩,
   ⟨0x1800, 1, 0xC, 1, .u8, .wo, .live, .int 1 1, 2⟩,
   ⟨0x1840, 1, 0x1, 1, .u8, .ro, .none, .any, 2⟩,
   ⟨0x1840, 1, 0x2, 1, .u8, .ro, .none, .any, 2⟩,
   ⟨0x1840, 1, 0x3, 1, .domain, .ro, .none, .any, 2⟩,
   ⟨0x1840, 1, 0x4, 1, .u8, .wo, .live, .int 1 1, 2⟩,
   ⟨0x1840, 1, 0x5, 1, .domain, .ro, .none, .any, 2⟩,
   ⟨0x1840, 1, 0x6, 1, .u8, .ro, .none, .any, 2⟩,
   ⟨0x1840, 1, 0x7, 1, .u32, .wo, .live, .any, 1⟩,
   ⟨0x1840, 1, 0x8, 1, .u32, .ro, .none, .any, 2⟩,
   ⟨0x1840, 1, 0x9, 1, .u8, .ro, .none, .any, 2⟩,
   ⟨0x1840, 1, 0xA, 1, .u8, .ro, .none, .any, 2⟩,
   ⟨0x1840, 1, 0xB, 1, .u32, .ro, .none, .any, 2⟩,
   ⟨0x1840, 1, 0xC, 1, .u16, .ro, .none, .any, 2⟩]

/-- Rows of Table 18-15. -/
def objRows18_15b : List ObjRow :=
  [
   ⟨0x1900, 192, 0x1, 1, .u8, .rw, .live, .any, 2⟩,
   ⟨0x1900, 192, 0x2, 1, .u8, .rw, .live, .int 0 62, 2⟩,
   ⟨0x1900, 192, 0x3, 1, .u8, .rw, .live, .int 0 15, 2⟩,
   ⟨0x1900, 192, 0x4, 1, .u8, .rw, .live, .int 0 15, 2⟩,
   ⟨0x1900, 192, 0x5, 1, .u32, .ro, .none, .any, 2⟩,
   ⟨0x1900, 192, 0x6, 1, .time96, .ro, .none, .any, 2⟩,
   ⟨0x1900, 192, 0x7, 1, .u16, .ro, .none, .any, 2⟩]

/-- Rows of Table 19-13. -/
def objRows19_13a : List ObjRow :=
  [
   ⟨0x1000, 1, 0x4, 1, .u16, .ro, .none, .any, 2⟩,
   ⟨0x1020, 1, 0x1, 4, .enum16, .rw, .restart, .int 0 1, 3⟩,
   ⟨0x1020, 1, 0x5, 1, .u8, .ro, .none, .any, 3⟩]

/-- Rows of Table 20-1. -/
def objRows20_1a : List ObjRow :=
  [
   ⟨0x8200, 64, 0x1, 64, .u32, .rw, .live, .any, 1⟩]

/-- Rows of the instance view (R297): eight instances at each index, sixteen subindices apart. -/
def objRowsSI : List ObjRow :=
  (List.range 8).flatMap fun q =>
    [⟨0x5E00, 512, 16 * q + 1, 2, .u8, .ro, .none, .any, 2⟩, ⟨0x5E00, 512, 16 * q + 3, 8, .u32, .ro, .none, .any, 2⟩]

/-- Every object row (Table 20-1). -/
def objRows : List ObjRow :=
  objRows00_2a
    ++ objRows01_5a
    ++ objRows01_5b
    ++ objRows02_9a
    ++ objRows02_9b
    ++ objRows03_15a
    ++ objRows03_15b
    ++ objRows04_11a
    ++ objRows04_11b
    ++ objRows04_11c
    ++ objRows05_8a
    ++ objRows05_8b
    ++ objRows06_9a
    ++ objRows06_9b
    ++ objRows07_8a
    ++ objRows07_8b
    ++ objRows07_8c
    ++ objRows08_8a
    ++ objRows08_8b
    ++ objRows08_8c
    ++ objRows09_9a
    ++ objRows09_9b
    ++ objRows09_9c
    ++ objRows10_8a
    ++ objRows10_8b
    ++ objRows11_9a
    ++ objRows11_9b
    ++ objRows11_9c
    ++ objRows12_9a
    ++ objRows12_9b
    ++ objRows13_7a
    ++ objRows13_7b
    ++ objRows13_7c
    ++ objRows14_8a
    ++ objRows14_8b
    ++ objRows15_12a
    ++ objRows15_12b
    ++ objRows15_12c
    ++ objRows16_9a
    ++ objRows16_9b
    ++ objRows17_6a
    ++ objRows17_6b
    ++ objRows18_15a
    ++ objRows18_15b
    ++ objRows19_13a
    ++ objRows20_1a
    ++ objRowsSI

/-- The row of index:sub (R458). -/
def objRow? (ix sub : Nat) : Option ObjRow := objRows.find? (fun r => r.holds ix sub)

/-- Whether some object stands at the index. -/
def objIndex? (ix : Nat) : Bool := objRows.any (fun r => r.base ≤ ix && ix < r.base + r.count)

/-! Defaults of the object tables that are not zero, index block by index block. -/

/-- Defaults at 0x1010. -/
def default1010 (sub : Nat) : Int :=
  match sub with
  | 0x03 => 0x18
  | 0x07 => 0x1
  | 0x08 => 0x3E8
  | 0x09 => 0x1E
  | 0x0C => 0xFFFF
  | _ => 0

/-- Defaults at 0x1060. -/
def default1060 (sub : Nat) : Int :=
  match sub with
  | 0x05 => 0x40
  | _ => 0

/-- Defaults at 0x1100. -/
def default1100 (sub : Nat) : Int :=
  match sub with
  | 0x03 => 0xFF
  | _ => 0

/-- Defaults at 0x1280. -/
def default1280 (sub : Nat) : Int :=
  match sub with
  | 0x04 => 0x5
  | 0x05 => 0x12C
  | _ => 0

/-- Defaults at 0x1800. -/
def default1800 (sub : Nat) : Int :=
  match sub with
  | 0x09 => 0xFFFFFFFF
  | _ => 0

/-- Defaults at 0x1820. -/
def default1820 (sub : Nat) : Int :=
  match sub with
  | 0x01 => 0x6
  | 0x02 => 0x3E8
  | 0x04 => 0xC8
  | 0x05 => 0x1388
  | 0x06 => 0x3
  | _ => 0

/-- Defaults at 0x1821. -/
def default1821 (sub : Nat) : Int :=
  match sub with
  | 0x03 => 0xFFFFFFFF
  | 0x10 => 0xFFFFFFFF
  | _ => 0

/-- Defaults at 0x1840. -/
def default1840 (sub : Nat) : Int :=
  match sub with
  | 0x0C => 0xFFFF
  | _ => 0

/-- Defaults at 0x1900. -/
def default1900 (sub : Nat) : Int :=
  match sub with
  | 0x07 => 0xFFFF
  | _ => 0

/-- Defaults at 0x2010. -/
def default2010 (sub : Nat) : Int :=
  match sub with
  | 0x02 => 0x1
  | 0x03 => 0x8
  | 0x04 => 0x3
  | 0x05 => 0x1
  | _ => 0

/-- Defaults at 0x2100. -/
def default2100 (sub : Nat) : Int :=
  match sub with
  | 0x01 => 0x1
  | 0x02 => 0x4
  | 0x03 => 0x2
  | 0x04 => 0x6
  | _ => 0

/-- Defaults at 0x2200. -/
def default2200 (sub : Nat) : Int :=
  match sub with
  | 0x04 => 0xFF
  | 0x05 => 0xFF
  | _ => 0

/-- Defaults at 0x2800. -/
def default2800 (sub : Nat) : Int :=
  match sub with
  | 0x02 => 0xFFFF
  | 0x03 => 0x2
  | 0x06 => 0xFFFFFFFF
  | 0x07 => 0xFFFFFFFF
  | 0x0D => 0xFFFF
  | _ => 0

/-- Defaults at 0x3010. -/
def default3010 (sub : Nat) : Int :=
  match sub with
  | 0x03 => 0x40
  | 0x04 => 0x1
  | 0x07 => 0x64
  | 0x08 => 0x1
  | 0x0A => 0x1
  | 0x0B => 0x40A00000
  | 0x0C => 0x3F800000
  | _ => 0

/-- Defaults at 0x3030. -/
def default3030 (sub : Nat) : Int :=
  match sub with
  | 0x06 => 0xFFFF
  | 0x0A => 0x1
  | _ => 0

/-- Defaults at 0x3040. -/
def default3040 (sub : Nat) : Int :=
  match sub with
  | 0x06 => 0xFFFF
  | 0x07 => 0xFFFF
  | _ => 0

/-- Defaults at 0x3800. -/
def default3800 (sub : Nat) : Int :=
  match sub with
  | 0x03 => 0xFFFF
  | 0x05 => 0xFFFF
  | 0x09 => 0xFFFF
  | _ => 0

/-- Defaults at 0x3A00. -/
def default3A00 (sub : Nat) : Int :=
  match sub with
  | 0x02 => 0x1
  | _ => 0

/-- Defaults at 0x4000. -/
def default4000 (sub : Nat) : Int :=
  match sub with
  | 0x02 => 0xFFFF
  | 0x09 => 0xFFFF
  | _ => 0

/-- Defaults at 0x4010. -/
def default4010 (sub : Nat) : Int :=
  match sub with
  | 0x02 => 0xFF
  | 0x03 => 0xFF
  | 0x04 => 0xFFFF
  | 0x06 => 0x64
  | 0x08 => 0x40
  | 0x09 => 0xFFFF
  | 0x0B => 0x10
  | 0x0C => 0x8
  | _ => 0

/-- Defaults at 0x4100. -/
def default4100 (sub : Nat) : Int :=
  match sub with
  | 0x02 => 0xFF
  | _ => 0

/-- Defaults at 0x4400. -/
def default4400 (sub : Nat) : Int :=
  match sub with
  | 0x01 => 0x19
  | 0x02 => 0x19
  | 0x03 => 0x19
  | 0x04 => 0x19
  | 0x0D => 0xFFFF
  | _ => 0

/-- Defaults at 0x4410. -/
def default4410 (sub : Nat) : Int :=
  match sub with
  | 0x02 => 0x3
  | 0x03 => 0x4
  | 0x04 => 0x3
  | 0x05 => 0x40
  | 0x08 => 0x1
  | 0x0A => 0x3F800000
  | 0x0C => 0x3F4CCCCD
  | 0x0D => 0x40
  | _ => 0

/-- Defaults at 0x4480. -/
def default4480 (sub : Nat) : Int :=
  match sub with
  | 0x03 => 0x1
  | 0x04 => 0x3F800000
  | 0x08 => 0x10
  | 0x09 => 0x8
  | 0x0A => 0x1
  | _ => 0

/-- Defaults at 0x4500. -/
def default4500 (sub : Nat) : Int :=
  match sub with
  | 0x01 => 0x1
  | 0x02 => 0xFF
  | 0x03 => 0xFF
  | _ => 0

/-- Defaults at 0x4800. -/
def default4800 (sub : Nat) : Int :=
  match sub with
  | 0x04 => 0xFFFFFFFF
  | 0x0A => 0x42480000
  | 0x0B => 0x3E8
  | 0x0C => 0xFFFF
  | _ => 0

/-- Defaults at 0x4810. -/
def default4810 (sub : Nat) : Int :=
  match sub with
  | 0x01 => 0x1
  | 0x05 => 0x3F333333
  | 0x06 => 0x3E99999A
  | 0x07 => 0x30D40
  | 0x08 => 0x3E8
  | 0x09 => 0x3E8
  | 0x0A => 0x64
  | 0x0B => 0x8
  | 0x0C => 0x1F4
  | 0x0D => 0x2710
  | 0x0E => 0x2710
  | _ => 0

/-- Defaults at 0x4820. -/
def default4820 (sub : Nat) : Int :=
  match sub with
  | 0x01 => 0xFF
  | _ => 0

/-- Defaults at 0x4830. -/
def default4830 (sub : Nat) : Int :=
  match sub with
  | 0x03 => 0x42666666
  | 0x04 => 0x433E6666
  | 0x09 => 0x3FF0000000000000
  | _ => 0

/-- Defaults at 0x4840. -/
def default4840 (sub : Nat) : Int :=
  match sub with
  | 0x03 => 0x3B9ACA000000
  | 0x04 => 0x3E8
  | _ => 0

/-- Defaults at 0x4850. -/
def default4850 (sub : Nat) : Int :=
  match sub with
  | 0x02 => 0xA
  | _ => 0

/-- Defaults at 0x4870. -/
def default4870 (sub : Nat) : Int :=
  match sub with
  | 0x01 => 0x25
  | _ => 0

/-- Defaults at 0x4C00. -/
def default4C00 (sub : Nat) : Int :=
  match sub with
  | 0x01 => 0xFF
  | 0x02 => 0xFF
  | 0x03 => 0xFF
  | 0x04 => 0xFF
  | 0x05 => 0xFF
  | 0x06 => 0xFF
  | 0x07 => 0xFF
  | 0x08 => 0xFF
  | 0x0A => 0xFFFF
  | _ => 0

/-- Defaults at 0x4C10. -/
def default4C10 (sub : Nat) : Int :=
  match sub with
  | 0x03 => 0x1
  | 0x05 => 0x3E8
  | 0x06 => 0x2710
  | 0x07 => 0x64
  | 0x11 => 0xFF
  | _ => 0

/-- Defaults at 0x4C20. -/
def default4C20 (sub : Nat) : Int :=
  match sub with
  | 0x05 => 0x1
  | _ => 0

/-- Defaults at 0x4E00. -/
def default4E00 (sub : Nat) : Int :=
  match sub with
  | 0x07 => 0x41B1861580000000
  | 0x08 => 0x14
  | 0x0A => 0x32
  | 0x0B => 0x2710
  | 0x0C => 0x43FA0000
  | _ => 0

/-- Defaults at 0x5000. -/
def default5000 (sub : Nat) : Int :=
  match sub with
  | 0x03 => 0x1269
  | 0x05 => 0x3C
  | 0x0B => 0xFFFF
  | _ => 0

/-- Defaults at 0x5010. -/
def default5010 (sub : Nat) : Int :=
  match sub with
  | 0x02 => 0xFF
  | 0x03 => 0xFF
  | 0x04 => 0xFF
  | 0x07 => 0x1
  | _ => 0

/-- Defaults at 0x5020. -/
def default5020 (sub : Nat) : Int :=
  match sub with
  | 0x03 => 0x32
  | 0x05 => 0x1
  | _ => 0

/-- Defaults at 0x5400. -/
def default5400 (sub : Nat) : Int :=
  match sub with
  | 0x06 => 0xFF
  | 0x07 => 0x1F
  | 0x0A => 0xF42400000
  | 0x0B => 0x1
  | 0x0E => 0x1
  | 0x10 => 0xFFFF
  | 0x11 => 0xFFFF
  | 0x12 => 0xFFFF
  | 0x13 => 0xFFFF
  | 0x14 => 0xFFFF
  | 0x15 => 0xFFFF
  | 0x16 => 0xFFFF
  | 0x17 => 0xFFFF
  | _ => 0

/-- Defaults at 0x5800. -/
def default5800 (sub : Nat) : Int :=
  match sub with
  | 0x01 => 0x3F333333
  | 0x02 => 0x7D0
  | 0x03 => 0x186A0
  | 0x06 => 0xFFFF
  | _ => 0

/-- Defaults at 0x5808. -/
def default5808 (sub : Nat) : Int :=
  match sub with
  | 0x01 => 0xFFFF
  | 0x02 => 0xFFFF
  | 0x03 => 0xFFFF
  | 0x04 => 0xFFFF
  | 0x05 => 0xFFFF
  | 0x06 => 0xFFFF
  | 0x07 => 0xFFFF
  | 0x08 => 0xFFFF
  | _ => 0

/-- Defaults at 0x5810. -/
def default5810 (sub : Nat) : Int :=
  match sub with
  | 0x01 => 0x10
  | _ => 0

/-- Defaults at 0x5820. -/
def default5820 (sub : Nat) : Int :=
  match sub with
  | 0x02 => 0xFFFF
  | _ => 0

/-- Defaults at 0x5830. -/
def default5830 (sub : Nat) : Int :=
  match sub with
  | 0x05 => 0x3FF
  | 0x06 => 0xFFFF
  | 0x07 => 0x1FFF
  | _ => 0

/-- Defaults at 0x5C00. -/
def default5C00 (sub : Nat) : Int :=
  match sub with
  | 0x03 => 0x64
  | 0x04 => 0xFF
  | 0x05 => 0x3F000000
  | 0x0E => 0xFFFF
  | _ => 0

/-- Defaults at 0x5C01. -/
def default5C01 (sub : Nat) : Int :=
  match sub with
  | 0x03 => 0xFFFF
  | _ => 0

/-- Defaults at 0x5C10. -/
def default5C10 (sub : Nat) : Int :=
  match sub with
  | 0x05 => 0x8
  | 0x06 => 0x8
  | 0x07 => 0x32
  | 0x08 => 0x2
  | _ => 0

/-- Defaults at 0x6000. -/
def default6000 (sub : Nat) : Int :=
  match sub with
  | 0x01 => 0x1
  | 0x02 => 0x8000
  | 0x03 => 0x8000
  | 0x04 => 0xFF
  | 0x0A => 0xFFFF
  | _ => 0

/-- Defaults at 0x6010. -/
def default6010 (sub : Nat) : Int :=
  match sub with
  | 0x05 => 0x1E
  | _ => 0

/-- Defaults at 0x6020. -/
def default6020 (sub : Nat) : Int :=
  match sub with
  | 0x02 => 0xC4800000
  | 0x03 => 0x447F8000
  | 0x04 => 0x64
  | _ => 0

/-- Defaults at 0x6030. -/
def default6030 (sub : Nat) : Int :=
  match sub with
  | 0x01 => 0x1
  | 0x02 => 0x3E8
  | 0x03 => 0x14
  | 0x04 => 0x3
  | _ => 0

/-- Defaults at 0x6040. -/
def default6040 (sub : Nat) : Int :=
  match sub with
  | 0x02 => 0x64
  | 0x03 => 0x1
  | _ => 0

/-- Defaults at 0x6050. -/
def default6050 (sub : Nat) : Int :=
  match sub with
  | 0x01 => 0xF
  | 0x02 => 0x457A0000
  | 0x04 => 0xFF
  | 0x05 => 0xFF
  | 0x07 => 0xFF
  | _ => 0

/-- Defaults at 0x6100. -/
def default6100 (sub : Nat) : Int :=
  match sub with
  | 0x04 => 0x3E8
  | 0x06 => 0x1
  | 0x07 => 0x64
  | _ => 0

/-- Defaults at 0x6110. -/
def default6110 (sub : Nat) : Int :=
  match sub with
  | 0x04 => 0xBB8
  | 0x05 => 0x3
  | 0x06 => 0x1
  | _ => 0

/-- Defaults at 0x6400. -/
def default6400 (sub : Nat) : Int :=
  match sub with
  | 0x06 => 0x3E8
  | 0x0A => 0xFFFF
  | _ => 0

/-- Defaults at 0x6410. -/
def default6410 (sub : Nat) : Int :=
  match sub with
  | 0x01 => 0x1
  | _ => 0

/-- Defaults at 0x6420. -/
def default6420 (sub : Nat) : Int :=
  match sub with
  | 0x01 => 0x1
  | 0x02 => 0x3C
  | 0x05 => 0x12C
  | 0x06 => 0xC
  | _ => 0

/-- Defaults at 0x6800. -/
def default6800 (sub : Nat) : Int :=
  match sub with
  | 0x0D => 0xFFFF
  | _ => 0

/-- Defaults at 0x6810. -/
def default6810 (sub : Nat) : Int :=
  match sub with
  | 0x01 => 0x3E8
  | _ => 0

/-- Defaults at 0x6900. -/
def default6900 (sub : Nat) : Int :=
  match sub with
  | 0x06 => 0xFFFF
  | _ => 0

/-- Defaults at 0x6910. -/
def default6910 (sub : Nat) : Int :=
  match sub with
  | 0x01 => 0x30D4
  | 0x07 => 0x1
  | 0x0B => 0x4
  | _ => 0

/-- Defaults at 0x6C00. -/
def default6C00 (sub : Nat) : Int :=
  match sub with
  | 0x01 => 0xFFFF
  | _ => 0

/-- Defaults at 0x6C10. -/
def default6C10 (sub : Nat) : Int :=
  match sub with
  | 0x03 => 0x1
  | 0x04 => 0x7F
  | 0x05 => 0x20
  | 0x06 => 0x20
  | 0x07 => 0x1
  | 0x08 => 0xE
  | 0x09 => 0x5
  | 0x0A => 0x5
  | 0x0B => 0x1
  | 0x0C => 0xF
  | 0x0E => 0x40
  | 0x12 => 0x2710
  | _ => 0

/-- Defaults of the diagnostic table (Table 07-4): unit, source, repeat, delay and limits of entry e. -/
def default44C0 (e sub : Nat) : Int :=
  match sub with
  | 1 => if e ≤ 7 then 0 else if (16 ≤ e ∧ e ≤ 22) ∨ e = 31 then 1 else 0xFF
  | 2 => if e = 0 ∨ e = 31 then 0 else if e ≤ 7 then (e : Int) + 1 else if e = 16 then 1
         else if 17 ≤ e ∧ e ≤ 22 then (e : Int) - 8 else 0
  | 3 => 4
  | 4 => if 20 ≤ e ∧ e ≤ 22 then 100 else 20
  | 5 => if e ≤ 7 then ([0xBB03126F, 0x3F9FAE14, 0x3F428F5C, 0x3F5AE148, 0x3F91EB85, 0x3FDAE148, 0x3F85C28F, 0x3F11EB85].getD e 0) else if 16 ≤ e ∧ e ≤ 22 then ([0x3F9FAE14, 0x4048A3D7, 0x40000000, 0x4199999A, 0xC2340000, 0xC2340000, 0xC2340000].getD (e - 16) 0)
         else if e = 31 then 0xBB03126F else 0
  | 6 => if e ≤ 7 then ([0x3B03126F, 0x3FA051EC, 0x3F570A3D, 0x3F71EB85, 0x3FA147AE, 0x3FF1EB85, 0x3F93D70A, 0x3F2147AE].getD e 0) else if 16 ≤ e ∧ e ≤ 22 then ([0x3FA051EC, 0x405DC28F, 0x40666666, 0x41F00000, 0x43160000, 0x43160000, 0x43160000].getD (e - 16) 0)
         else if e = 31 then 0x3B03126F else 0
  | 7 => 1
  | _ => 0

/-- The default of index:sub; 0 where the tables give 0, zeros, an empty string or none (assumption log 2). (DESIGN CHOICE:
assumption log 2) -/
def objDefaultAt (ix sub : Nat) : Int :=
  if ix < 0x4C00 then
    if ix < 0x3800 then
      if ix < 0x1900 then
        if ix < 0x1800 then
          if ix < 0x1100 then
            if ix < 0x1060 then
              if 0x1010 ≤ ix ∧ ix < 0x1011 then default1010 sub else 0
            else
              if 0x1060 ≤ ix ∧ ix < 0x1061 then default1060 sub else 0
          else
            if ix < 0x1280 then
              if 0x1100 ≤ ix ∧ ix < 0x1110 then default1100 sub else 0
            else
              if 0x1280 ≤ ix ∧ ix < 0x1281 then default1280 sub else 0
        else
          if ix < 0x1821 then
            if ix < 0x1820 then
              if 0x1800 ≤ ix ∧ ix < 0x1801 then default1800 sub else 0
            else
              if 0x1820 ≤ ix ∧ ix < 0x1821 then default1820 sub else 0
          else
            if ix < 0x1840 then
              if 0x1821 ≤ ix ∧ ix < 0x1822 then default1821 sub else 0
            else
              if 0x1840 ≤ ix ∧ ix < 0x1841 then default1840 sub else 0
      else
        if ix < 0x2800 then
          if ix < 0x2100 then
            if ix < 0x2010 then
              if 0x1900 ≤ ix ∧ ix < 0x19C0 then default1900 sub else 0
            else
              if 0x2010 ≤ ix ∧ ix < 0x2011 then default2010 sub else 0
          else
            if ix < 0x2200 then
              if 0x2100 ≤ ix ∧ ix < 0x2120 then default2100 sub else 0
            else
              if 0x2200 ≤ ix ∧ ix < 0x2220 then default2200 sub else 0
        else
          if ix < 0x3030 then
            if ix < 0x3010 then
              if 0x2800 ≤ ix ∧ ix < 0x3000 then if sub = 0x16 then ((ix - 0x2800 : Nat) : Int) else default2800 sub else 0
            else
              if 0x3010 ≤ ix ∧ ix < 0x3012 then default3010 sub else 0
          else
            if ix < 0x3040 then
              if 0x3030 ≤ ix ∧ ix < 0x3032 then default3030 sub else 0
            else
              if 0x3040 ≤ ix ∧ ix < 0x3042 then default3040 sub else 0
    else
      if ix < 0x44C0 then
        if ix < 0x4100 then
          if ix < 0x4000 then
            if ix < 0x3A00 then
              if 0x3800 ≤ ix ∧ ix < 0x3801 then default3800 sub else 0
            else
              if 0x3A00 ≤ ix ∧ ix < 0x3C00 then default3A00 sub else 0
          else
            if ix < 0x4010 then
              if 0x4000 ≤ ix ∧ ix < 0x4001 then default4000 sub else 0
            else
              if 0x4010 ≤ ix ∧ ix < 0x4020 then default4010 sub else 0
        else
          if ix < 0x4410 then
            if ix < 0x4400 then
              if 0x4100 ≤ ix ∧ ix < 0x4110 then default4100 sub else 0
            else
              if 0x4400 ≤ ix ∧ ix < 0x4401 then default4400 sub else 0
          else
            if ix < 0x4480 then
              if 0x4410 ≤ ix ∧ ix < 0x4430 then default4410 sub else 0
            else
              if 0x4480 ≤ ix ∧ ix < 0x4490 then default4480 sub else 0
      else
        if ix < 0x4820 then
          if ix < 0x4800 then
            if ix < 0x4500 then
              if 0x44C0 ≤ ix ∧ ix < 0x44E0 then default44C0 (ix - 0x44C0) sub else 0
            else
              if 0x4500 ≤ ix ∧ ix < 0x4501 then default4500 sub else 0
          else
            if ix < 0x4810 then
              if 0x4800 ≤ ix ∧ ix < 0x4801 then default4800 sub else 0
            else
              if 0x4810 ≤ ix ∧ ix < 0x4811 then default4810 sub else 0
        else
          if ix < 0x4840 then
            if ix < 0x4830 then
              if 0x4820 ≤ ix ∧ ix < 0x4821 then default4820 sub else 0
            else
              if 0x4830 ≤ ix ∧ ix < 0x4834 then default4830 sub else 0
          else
            if ix < 0x4850 then
              if 0x4840 ≤ ix ∧ ix < 0x4844 then default4840 sub else 0
            else
              if ix < 0x4870 then
                if 0x4850 ≤ ix ∧ ix < 0x4854 then default4850 sub else 0
              else
                if 0x4870 ≤ ix ∧ ix < 0x4871 then default4870 sub else 0
  else
    if ix < 0x6000 then
      if ix < 0x5800 then
        if ix < 0x5000 then
          if ix < 0x4C20 then
            if ix < 0x4C10 then
              if 0x4C00 ≤ ix ∧ ix < 0x4C01 then default4C00 sub else 0
            else
              if 0x4C10 ≤ ix ∧ ix < 0x4C14 then default4C10 sub else 0
          else
            if ix < 0x4E00 then
              if 0x4C20 ≤ ix ∧ ix < 0x4C40 then default4C20 sub else 0
            else
              if 0x4E00 ≤ ix ∧ ix < 0x4E04 then default4E00 sub else 0
        else
          if ix < 0x5020 then
            if ix < 0x5010 then
              if 0x5000 ≤ ix ∧ ix < 0x5001 then default5000 sub else 0
            else
              if 0x5010 ≤ ix ∧ ix < 0x5014 then default5010 sub else 0
          else
            if ix < 0x5400 then
              if 0x5020 ≤ ix ∧ ix < 0x5024 then if sub = 0x02 then 100 + ((ix - 0x5020 : Nat) : Int) else default5020 sub else 0
            else
              if 0x5400 ≤ ix ∧ ix < 0x5800 then if sub = 0x21 then (if 960 ≤ ix - 0x5400 then 1 else 0) else default5400 sub else 0
      else
        if ix < 0x5830 then
          if ix < 0x5810 then
            if ix < 0x5808 then
              if 0x5800 ≤ ix ∧ ix < 0x5801 then default5800 sub else 0
            else
              if 0x5808 ≤ ix ∧ ix < 0x580D then default5808 sub else 0
          else
            if ix < 0x5820 then
              if 0x5810 ≤ ix ∧ ix < 0x5820 then default5810 sub else 0
            else
              if 0x5820 ≤ ix ∧ ix < 0x5828 then default5820 sub else 0
        else
          if ix < 0x5C01 then
            if ix < 0x5C00 then
              if 0x5830 ≤ ix ∧ ix < 0x5831 then default5830 sub else 0
            else
              if 0x5C00 ≤ ix ∧ ix < 0x5C01 then default5C00 sub else 0
          else
            if ix < 0x5C10 then
              if 0x5C01 ≤ ix ∧ ix < 0x5C02 then default5C01 sub else 0
            else
              if 0x5C10 ≤ ix ∧ ix < 0x5C30 then default5C10 sub else 0
    else
      if ix < 0x6400 then
        if ix < 0x6040 then
          if ix < 0x6020 then
            if ix < 0x6010 then
              if 0x6000 ≤ ix ∧ ix < 0x6001 then default6000 sub else 0
            else
              if 0x6010 ≤ ix ∧ ix < 0x6011 then default6010 sub else 0
          else
            if ix < 0x6030 then
              if 0x6020 ≤ ix ∧ ix < 0x6028 then default6020 sub else 0
            else
              if 0x6030 ≤ ix ∧ ix < 0x6034 then default6030 sub else 0
        else
          if ix < 0x6100 then
            if ix < 0x6050 then
              if 0x6040 ≤ ix ∧ ix < 0x6041 then default6040 sub else 0
            else
              if 0x6050 ≤ ix ∧ ix < 0x6051 then default6050 sub else 0
          else
            if ix < 0x6110 then
              if 0x6100 ≤ ix ∧ ix < 0x6101 then default6100 sub else 0
            else
              if 0x6110 ≤ ix ∧ ix < 0x6120 then default6110 sub else 0
      else
        if ix < 0x6810 then
          if ix < 0x6420 then
            if ix < 0x6410 then
              if 0x6400 ≤ ix ∧ ix < 0x6401 then default6400 sub else 0
            else
              if 0x6410 ≤ ix ∧ ix < 0x6411 then default6410 sub else 0
          else
            if ix < 0x6800 then
              if 0x6420 ≤ ix ∧ ix < 0x6421 then default6420 sub else 0
            else
              if 0x6800 ≤ ix ∧ ix < 0x6801 then default6800 sub else 0
        else
          if ix < 0x6910 then
            if ix < 0x6900 then
              if 0x6810 ≤ ix ∧ ix < 0x6820 then default6810 sub else 0
            else
              if 0x6900 ≤ ix ∧ ix < 0x6901 then default6900 sub else 0
          else
            if ix < 0x6C00 then
              if 0x6910 ≤ ix ∧ ix < 0x691A then default6910 sub else 0
            else
              if ix < 0x6C10 then
                if 0x6C00 ≤ ix ∧ ix < 0x6C01 then default6C00 sub else 0
              else
                if 0x6C10 ≤ ix ∧ ix < 0x6C12 then default6C10 sub else 0

/-- The default of an object by its key. -/
def objDefault (key : Nat) : Int := objDefaultAt (key / 256) (key % 256)

end Sys2Proof
end

