-- ==== Sys2Proof/Machine/Crypto.lean ====
section
/-! DEFINITION. SHA-256, HMAC-SHA-256 and AES-128-GCM over byte lists: the tags and the encrypted form of messages (R359), the
session proofs and keys (R365) and the change-log chain (R376). -/

namespace Sys2Proof

/-- The bytes of a natural number, least significant first. -/
def bytesLE : Nat → Nat → List Byte
  | 0, _ => []
  | k + 1, v => BitVec.ofNat 8 v :: bytesLE k (v / 256)

/-- The bytes of a natural number, most significant first. -/
def bytesBE (k v : Nat) : List Byte := (bytesLE k v).reverse

/-- The number whose bytes, least significant first, are given. -/
def natLE : List Byte → Nat
  | [] => 0
  | b :: t => b.toNat + 256 * natLE t

/-- The number whose bytes, most significant first, are given. -/
def natBE (l : List Byte) : Nat := l.foldl (fun a b => a * 256 + b.toNat) 0

namespace Sha256

/-- The eight words of 32 bits in a row of 256, the highest first. -/
def row (n : Nat) : List Nat := (List.range 8).map fun i => n / 2 ^ (224 - 32 * i) % 4294967296

/-- The 64 round constants, eight to a row. -/
def constants : List Nat :=
  [0x428a2f9871374491b5c0fbcfe9b5dba53956c25b59f111f1923f82a4ab1c5ed5,
   0xd807aa9812835b01243185be550c7dc372be5d7480deb1fe9bdc06a7c19bf174,
   0xe49b69c1efbe47860fc19dc6240ca1cc2de92c6f4a7484aa5cb0a9dc76f988da,
   0x983e5152a831c66db00327c8bf597fc7c6e00bf3d5a7914706ca635114292967,
   0x27b70a852e1b21384d2c6dfc53380d13650a7354766a0abb81c2c92e92722c85,
   0xa2bfe8a1a81a664bc24b8b70c76c51a3d192e819d6990624f40e3585106aa070,
   0x19a4c1161e376c082748774c34b0bcb5391c0cb34ed8aa4a5b9cca4f682e6ff3,
   0x748f82ee78a5636f84c878148cc7020890befffaa4506cebbef9a3f7c67178f2].flatMap row

/-- The chaining value before the first block. -/
def seed : List Nat := row 0x6a09e667bb67ae853c6ef372a54ff53a510e527f9b05688c1f83d9ab5be0cd19

/-- The exclusive or of a word turned right by each number of places. -/
def spin (x : Nat) (places : List Nat) : Nat :=
  places.foldl (fun y n => y ^^^ (4294967297 * x / 2 ^ n % 4294967296)) 0

/-- One round under a constant. The sixteen words of the window slide along the message schedule as the eight working words
advance; both stand oldest first. -/
def turn (st : List Nat × List Nat) (k : Nat) : List Nat × List Nat :=
  let w := fun i => st.1.getD i 0
  let v := fun i => st.2.getD i 0
  let fed := spin (w 1) [7, 18] ^^^ (w 1 / 8)
  let fed' := spin (w 14) [17, 19] ^^^ (w 14 / 1024)
  let chosen := v 6 ^^^ (v 4 &&& (v 5 ^^^ v 6))
  let most := (v 0 &&& v 1) ||| (v 2 &&& (v 0 ||| v 1))
  let x := v 7 + spin (v 4) [6, 11, 25] + chosen + k + w 0
  let y := spin (v 0) [2, 13, 22] + most
  (st.1.drop 1 ++ [(w 0 + fed + w 9 + fed') % 4294967296],
   (x + y) % 4294967296 :: st.2.take 3 ++ (v 3 + x) % 4294967296 :: (st.2.drop 4).take 3)

/-- Chain the blocks of 64 bytes of a padded message into a value; at most `n`. -/
def chain : Nat → List Byte → List Nat → List Nat
  | 0, _, h => h
  | n + 1, m, h =>
    let window := (List.range 16).map fun i => natBE ((m.drop (4 * i)).take 4)
    let after := (constants.foldl turn (window, h)).2
    chain n (m.drop 64) (List.zipWith (fun p q => (p + q) % 4294967296) h after)

end Sha256

/-- SHA-256 of a byte string, padded with a one bit, zeros and its length in bits to whole blocks. -/
def sha256 (m : List Byte) : List Byte :=
  let n := (m.length + 72) / 64
  let zeros := List.replicate (64 * n - m.length - 9) 0#8
  (Sha256.chain n (m ++ 0x80#8 :: zeros ++ bytesBE 8 (8 * m.length)) Sha256.seed).flatMap (bytesBE 4)

/-- HMAC-SHA-256 (R359, R365). -/
def hmacSha256 (key msg : List Byte) : List Byte :=
  let k0 := if key.length > 64 then sha256 key else key
  let k := k0 ++ List.replicate (64 - k0.length) 0#8
  sha256 (k.map (· ^^^ 0x5C#8) ++ sha256 (k.map (· ^^^ 0x36#8) ++ msg))

/-! AES-128-GCM (R359: the encrypted form of a message). -/

namespace Aes

/-- The substitution box, 32 bytes to a row, the first highest. -/
def box : List Nat :=
  [0x637c777bf26b6fc53001672bfed7ab76ca82c97dfa5947f0add4a2af9ca472c0,
   0xb7fd9326363ff7cc34a5e5f171d8311504c723c31896059a071280e2eb27b275,
   0x09832c1a1b6e5aa0523bd6b329e32f8453d100ed20fcb15b6acbbe394a4c58cf,
   0xd0efaafb434d338545f9027f503c9fa851a3408f929d38f5bcb6da2110fff3d2,
   0xcd0c13ec5f974417c4a77e3d645d197360814fdc222a908846eeb814de5e0bdb,
   0xe0323a0a4906245cc2d3ac629195e479e7c8376d8dd54ea96c56f4ea657aae08,
   0xba78252e1ca6b4c6e8dd741f4bbd8b8a703eb5664803f60e613557b986c11d9e,
   0xe1f8981169d98e949b1e87e9ce5528df8ca1890dbfe6426841992d0fb054bb16]

/-- SubBytes of one byte. -/
def sub (x : Nat) : Nat := box.getD (x / 32) 0 / 2 ^ (8 * (31 - x % 32)) % 256

/-- Multiply by x in the field of AES. -/
def dbl (x : Nat) : Nat := if x < 128 then 2 * x else (2 * x - 256) ^^^ 0x1B

/-- The next round key from a round key of sixteen bytes and the round constant. -/
def nextKey (rc : Nat) (k : List Nat) : List Nat :=
  let t := [sub (k.getD 13 0) ^^^ rc, sub (k.getD 14 0), sub (k.getD 15 0), sub (k.getD 12 0)]
  let w0 := List.zipWith (· ^^^ ·) (k.take 4) t
  let w1 := List.zipWith (· ^^^ ·) ((k.drop 4).take 4) w0
  let w2 := List.zipWith (· ^^^ ·) ((k.drop 8).take 4) w1
  w0 ++ w1 ++ w2 ++ List.zipWith (· ^^^ ·) (k.drop 12) w2

/-- ShiftRows after SubBytes: byte i of the result comes from place 5·i mod 16. -/
def shifted (st : List Nat) : List Nat := (List.range 16).map fun i => sub (st.getD (5 * i % 16) 0)

/-- MixColumns of one column. -/
def mixCol : List Nat → List Nat
  | a :: b :: c :: d :: t =>
    (dbl a ^^^ dbl b ^^^ b ^^^ c ^^^ d) :: (a ^^^ dbl b ^^^ dbl c ^^^ c ^^^ d) :: (a ^^^ b ^^^ dbl c ^^^ dbl d ^^^ d)
      :: (dbl a ^^^ a ^^^ b ^^^ c ^^^ dbl d) :: mixCol t
  | _ => []

/-- The rounds after the first key addition; `n` rounds remain. -/
def cipherRounds : Nat → Nat → List Nat → List Nat → List Nat
  | 0, _, _, st => st
  | n + 1, rc, k, st =>
    let k := nextKey rc k
    let s := shifted st
    let s := if n = 0 then s else mixCol s
    cipherRounds n (dbl rc) k (List.zipWith (· ^^^ ·) s k)

/-- AES-128 of one block of sixteen bytes. -/
def encrypt (key blk : List Nat) : List Nat := cipherRounds 10 1 key (List.zipWith (· ^^^ ·) blk key)

/-- The product of GHASH: `n` bits of x remain, the highest first. -/
def gmul : Nat → Nat → Nat → Nat → Nat
  | 0, _, _, z => z
  | n + 1, x, v, z =>
    gmul n x (if v % 2 = 1 then v / 2 ^^^ 0xE1000000000000000000000000000000 else v / 2) (if x.testBit n then z ^^^ v else z)

/-- GHASH over whole blocks. -/
def ghash (h : Nat) : Nat → List Byte → Nat → Nat
  | 0, _, y => y
  | n + 1, m, y => ghash h n (m.drop 16) (gmul 128 (y ^^^ natBE (m.take 16)) h 0)

/-- Zeros up to a whole block. -/
def fill (m : List Byte) : List Byte := m ++ List.replicate ((16 - m.length % 16) % 16) 0#8

/-- The key stream of `n` blocks from counter `c`. -/
def stream (key iv : List Byte) : Nat → Nat → List Nat
  | 0, _ => []
  | n + 1, c => encrypt (key.map BitVec.toNat) ((iv ++ bytesBE 4 c).map BitVec.toNat) ++ stream key iv n (c + 1)

end Aes

/-- AES-128-GCM with a 96-bit nonce: the ciphertext and the 16-byte tag. -/
def gcmSeal (key iv aad pt : List Byte) : List Byte × List Byte :=
  let ct := List.zipWith (fun p k => p ^^^ BitVec.ofNat 8 k) pt (Aes.stream key iv ((pt.length + 15) / 16) 2)
  let h := natBE ((Aes.encrypt (key.map BitVec.toNat) (List.replicate 16 0)).map (BitVec.ofNat 8))
  let m := Aes.fill aad ++ Aes.fill ct ++ bytesBE 8 (8 * aad.length) ++ bytesBE 8 (8 * ct.length)
  let y := Aes.ghash h (m.length / 16) m 0
  (ct, List.zipWith (fun p k => p ^^^ BitVec.ofNat 8 k) (bytesBE 16 y) (Aes.stream key iv 1 1))

end Sys2Proof
end

