-- ==== Sys2Proof/Machine/Rodal.lean ====
section
/-! DEFINITION. The Rodal frame on the line: the check codes (R66), the scrambler and stuffer of the strand lanes
(R39–R42), and the frame layout with its header, slots and mailbox (R63, R64, R67, R68, R70). -/

namespace Sys2Proof

/-- The bits of a number, most significant of the `n` first (R39, R63: most significant bit first). -/
def bitsOf (n v : Nat) : List Bool := (List.range n).map fun i => v.testBit (n - 1 - i)

/-- The number whose bits, most significant first, are given. -/
def ofBits (l : List Bool) : Nat := l.foldl (fun a b => 2 * a + (if b then 1 else 0)) 0

/-- One step of a bitwise CRC of width `w`, no reflection. -/
def crcStep (w poly : Nat) (r : Nat) (b : Bool) : Nat :=
  let top := r.testBit (w - 1) != b
  let s := (r * 2) % 2 ^ w
  if top then s ^^^ poly else s

/-- A CRC over bits in transmission order (R66). -/
def crcBits (w poly init xorOut : Nat) (bits : List Bool) : Nat :=
  (bits.foldl (crcStep w poly) init) ^^^ xorOut

/-- A CRC over bytes, most significant bit first, no reflection. -/
def crcBytes (w poly init xorOut : Nat) (l : List Byte) : Nat :=
  crcBits w poly init xorOut (l.flatMap fun b => bitsOf 8 b.toNat)

/-- `HDR_CRC` of Table 03-2. -/
def crc16 (bits : List Bool) : Nat := crcBits 16 0x1021 0xFFFF 0x0000 bits
/-- The CRC-32 row of Table 03-2, over bits. -/
def crc32Bits (bits : List Bool) : Nat := crcBits 32 0x1EDC6F41 0xFFFFFFFF 0xFFFFFFFF bits
/-- The CRC-32 row of Table 03-2, over the bytes of a value (R371, R313). -/
def crc32 (l : List Byte) : Nat := crcBytes 32 0x1EDC6F41 0xFFFFFFFF 0xFFFFFFFF l
/-- The CRC-8 rows of Table 03-2. -/
def crc8 (init xorOut : Nat) (bits : List Bool) : Nat := crcBits 8 0x2F init xorOut bits

namespace Rodal

/-- The words of Table 02-1 and the defect word of R76. -/
def syncWord : Word := 0xB5C31E7A#32
def idleWord : Word := 0x3C3CC3C3#32
def blockWord : Word := 0x0F0F0F0F#32
def defectWord : Word := 0x66669999#32

/-- One step of the scrambler (R41): the next state and the output bit. -/
def scrStep (st : Nat) : Nat × Bool :=
  let out := st.testBit 30 != st.testBit 27
  (((st * 2) + (if out then 1 else 0)) % 2 ^ 31, out)

/-- Scramble, and equally descramble, the body bits from a state. -/
def scramble : Nat → List Bool → List Bool
  | _, [] => []
  | st, b :: t =>
    let (st', out) := scrStep st
    (b != out) :: scramble st' t

/-- The scrambler state before the first body bit of every frame. -/
def scrInit : Nat := 0x2B5C6D19

/-- Stuff the scrambled body bits (R42); `last` none is "no previous bit". -/
def stuff : Nat → Option Bool → List Bool → List Bool
  | _, _, [] => []
  | run, last, x :: t =>
    let run' := if last = some x then run + 1 else 1
    if run' = 30 then x :: (!x) :: stuff 0 none t
    else x :: stuff run' (some x) t

/-- Destuff up to `n` body bits: the bits, and whether a stuffing violation was met. The receiver removes the bit behind
every run of 30 and goes on, whatever that bit is (R42). -/
def destuff : Nat → Nat → Option Bool → List Bool → List Bool × Bool
  | 0, _, _, _ => ([], false)
  | _, _, _, [] => ([], false)
  | n + 1, run, last, x :: t =>
    let run' := if last = some x then run + 1 else 1
    if run' = 30 then
      match t with
      | [] => ([x], false)
      | y :: t' =>
        let (r, v) := destuff n 0 none t'
        (x :: r, v || y == x)
    else
      let (r, v) := destuff n run' (some x) t
      (x :: r, v)

/-- body(N) of R21. -/
def bodyBits (n : Nat) : Nat := 288 + 128 * n
/-- words(N) of R21. -/
def lineWords (n : Nat) : Nat := (32 + (bodyBits n * 31 + 29) / 30 + 31) / 32

/-- Alternating pad bits, the first one given (R40). -/
def padBits : Nat → Bool → List Bool
  | 0, _ => []
  | k + 1, b => b :: padBits k (!b)

/-- Cut bits into 32-bit words, bit 31 first (R39). -/
def toWords : Nat → List Bool → List Word
  | 0, _ => []
  | k + 1, l => BitVec.ofNat 32 (ofBits (l.take 32)) :: toWords k (l.drop 32)

/-- A whole frame body: header, slots, mailbox (R63). -/
structure Frame where
  hdr   : BitVec 128
  slots : List (BitVec 128)
  mbx   : BitVec 128
  deriving DecidableEq, Repr

/-- The body bits before the CRC-32 trailer. -/
def Frame.bits (f : Frame) : List Bool :=
  bitsOf 128 f.hdr.toNat ++ f.slots.flatMap (fun s => bitsOf 128 s.toNat) ++ bitsOf 128 f.mbx.toNat

/-- The words of a frame on the line (R40); `bad` sends the complement of the trailer (R74). -/
def Frame.line (f : Frame) (bad : Bool) : List Word :=
  let b := f.bits
  let c := crc32Bits b
  let body := b ++ bitsOf 32 (if bad then 0xFFFFFFFF ^^^ c else c)
  let st := stuff 0 none (scramble scrInit body)
  let total := (lineWords f.slots.length - 1) * 32
  let pad := padBits (total - st.length) (!(st.getLastD false))
  syncWord :: toWords (lineWords f.slots.length - 1) (st ++ pad)

/-- What a receiver makes of the words of one cycle (R48): a frame that fails keeps its fields, whose slots are checked all
the same (R74), and whether its trailer held. -/
inductive Rx where
  | noSync
  | hdrErr (f : Frame) (trailer : Bool)
  | stuffErr (f : Frame) (trailer : Bool)
  | crcErr (f : Frame)
  | good (f : Frame)
  deriving DecidableEq, Repr

/-- Split bits into 128-bit fields. -/
def fields128 : Nat → List Bool → List (BitVec 128)
  | 0, _ => []
  | k + 1, l => BitVec.ofNat 128 (ofBits (l.take 128)) :: fields128 k (l.drop 128)

/-- Whether a header's CRC-16 is right. -/
def hdrOk (h : BitVec 128) : Bool := crc16 (bitsOf 112 (h.toNat / 2 ^ 16)) == h.toNat % 2 ^ 16

/-- Deframe the words of a frame of `n` configured positions, cut at words(n) (R48, R59). (DEDUCED: assumption log 22) -/
def deframe (n : Nat) (ws : List Word) : Rx :=
  match ws with
  | [] => .noSync
  | w :: t =>
    if w ≠ syncWord then .noSync
    else
      let raw := (t.take (lineWords n - 1)).flatMap fun x => bitsOf 32 x.toNat
      let (db, viol) := destuff (bodyBits n) 0 none raw
      let body := scramble scrInit db
      let padded := body ++ List.replicate (bodyBits n - body.length) false
      let f : Frame := { hdr := BitVec.ofNat 128 (ofBits (padded.take 128)), slots := fields128 n (padded.drop 128),
                         mbx := BitVec.ofNat 128 (ofBits ((padded.drop (128 + 128 * n)).take 128)) }
      let whole := body.length == bodyBits n && ofBits (padded.drop (256 + 128 * n)) == crc32Bits f.bits
      if body.length < 128 ∨ hdrOk f.hdr = false then .hdrErr f whole
      else if viol = true then .stuffErr f whole
      else if whole then .good f
      else .crcErr f

/-- The body bits the deframer takes of the words of a frame of `n` positions (R42, R59). -/
def bitsTaken (n : Nat) (ws : List Word) : Nat :=
  (destuff (bodyBits n) 0 none ((ws.tail.take (lineWords n - 1)).flatMap fun x => bitsOf 32 x.toNat)).1.length

/-- The slots that arrived whole in the words of a frame of `n` positions. -/
def slotsTaken (n : Nat) (ws : List Word) : Nat := min n ((bitsTaken n ws - 128) / 128)

/-- The positions of the frame whose words(N) fill a number of words (R40): the length on the line is fixed by N. -/
def positionsOf (len : Nat) : Nat := ((List.range 65).find? fun n => decide (len ≤ lineWords n)).getD 64

/-- The header of a frame, where a sync word and a header with a valid CRC-16 stand (R47, R49). -/
def header? (ws : List Word) : Option (BitVec 128) :=
  match ws with
  | [] => none
  | w :: t =>
    let (db, _) := destuff 128 0 none ((t.take 5).flatMap fun x => bitsOf 32 x.toNat)
    let h : BitVec 128 := BitVec.ofNat 128 (ofBits (scramble scrInit db))
    if w = syncWord ∧ db.length = 128 ∧ hdrOk h then some h else none

/-- Whether three received words in a row are a given word. -/
def threeOf (w : Word) : List Word → Bool
  | a :: b :: c :: t => (a == w && b == w && c == w) || threeOf w (b :: c :: t)
  | _ => false

/-- A field of a word, `len` bits from bit `lo`. -/
def fld {w : Nat} (x : BitVec w) (lo len : Nat) : Nat := (x.toNat / 2 ^ lo) % 2 ^ len

/-- The word with a field replaced. -/
def setFld {w : Nat} (x : BitVec w) (lo len v : Nat) : BitVec w :=
  BitVec.ofNat w (x.toNat - fld x lo len * 2 ^ lo + (v % 2 ^ len) * 2 ^ lo)

/-! Header fields (Table 03-1). -/
def hType (h : BitVec 128) : Nat := fld h 124 4
def hEpoch (h : BitVec 128) : Nat := fld h 112 12
def hNode (h : BitVec 128) : Nat := fld h 104 8
def hTcCode (h : BitVec 128) : Nat := fld h 96 8
def hSecLsb (h : BitVec 128) : Nat := fld h 88 8
def hCycle (h : BitVec 128) : Nat := fld h 64 24
def hRotB (h : BitVec 128) : Bool := fld h 63 1 == 1
def hFoldEn (h : BitVec 128) : Bool := fld h 62 1 == 1
def hFolded (h : BitVec 128) : Bool := fld h 61 1 == 1
def hPositions (h : BitVec 128) : Nat := fld h 49 7
def hMbxPos (h : BitVec 128) : Nat := fld h 43 6
def hApply (h : BitVec 128) : Nat := fld h 29 14
def hLead (h : BitVec 128) : Nat := fld h 16 13

/-- The header with its CRC-16 recomputed. -/
def withHdrCrc (h : BitVec 128) : BitVec 128 := setFld h 0 16 (crc16 (bitsOf 112 (h.toNat / 2 ^ 16)))

/-- The fields of a header the module sends (Table 03-1). -/
structure HdrFields where
  type : Nat
  epoch : Nat
  node : Nat
  tc : Nat
  sec : Nat
  cycle : Nat
  rotB : Bool
  foldEn : Bool
  positions : Nat
  mbxPos : Nat
  apply : Nat
  lead : Nat
  deriving DecidableEq, Repr

/-- Assemble a header; FOLDED and the reserved bits 0. -/
def mkHeader (f : HdrFields) : BitVec 128 :=
  withHdrCrc (BitVec.ofNat 128
    ((f.type % 16) * 2 ^ 124 + (f.epoch % 4096) * 2 ^ 112 + (f.node % 256) * 2 ^ 104 + (f.tc % 256) * 2 ^ 96
      + (f.sec % 256) * 2 ^ 88 + (f.cycle % 2 ^ 24) * 2 ^ 64 + (if f.rotB then 2 ^ 63 else 0)
      + (if f.foldEn then 2 ^ 62 else 0) + (f.positions % 128) * 2 ^ 49 + (f.mbxPos % 64) * 2 ^ 43
      + (f.apply % 2 ^ 14) * 2 ^ 29 + (f.lead % 2 ^ 13) * 2 ^ 16))

/-! Command fields (Table 03-3), in slot bits [127:80]. -/
def cState (c : BitVec 48) : Nat := fld c 45 3
def cEdge (c : BitVec 48) : Nat := fld c 43 2
def cOffset (c : BitVec 48) : Nat := fld c 23 20
def cSeq (c : BitVec 48) : Nat := fld c 20 3
def cClearFault (c : BitVec 48) : Bool := fld c 19 1 == 1
def cCloseBypass (c : BitVec 48) : Bool := fld c 18 1 == 1
def cCrc (c : BitVec 48) : Nat := fld c 0 8

/-- `CMD_CRC`: six bits of p, then command [47:8]. -/
def cmdCrc (p : Nat) (c : BitVec 48) : Nat := crc8 0xFF 0x00 (bitsOf 6 p ++ bitsOf 40 (c.toNat / 256))

/-- Assemble a command with its CRC-8. -/
def mkCommand (p state edge offset seq : Nat) (clear close : Bool) : BitVec 48 :=
  let c : BitVec 48 := BitVec.ofNat 48
    ((state % 8) * 2 ^ 45 + (edge % 4) * 2 ^ 43 + (offset % 2 ^ 20) * 2 ^ 23 + (seq % 8) * 2 ^ 20
      + (if clear then 2 ^ 19 else 0) + (if close then 2 ^ 18 else 0))
  setFld c 0 8 (cmdCrc p c)

/-! Response fields (Table 03-5), in slot bits [79:0]. -/
def rVcap (r : BitVec 80) : Nat := fld r 64 16
def rStatus (r : BitVec 80) : Nat := fld r 52 12
def rTemp (r : BitVec 80) : Nat := fld r 44 8
def rFault (r : BitVec 80) : Nat := fld r 36 8
def rSeqEcho (r : BitVec 80) : Nat := fld r 33 3
def rEdgeDelay (r : BitVec 80) : Nat := fld r 17 16

/-- `RSP_CRC`: six bits of p, then response [79:8]. -/
def rspCrc (p : Nat) (r : BitVec 80) : Nat := crc8 0x00 0x00 (bitsOf 6 p ++ bitsOf 72 (r.toNat / 256))

/-- Assemble a response with its CRC-8. -/
def mkResponse (p vcap status temp fault seq edgeDelay : Nat) : BitVec 80 :=
  let r : BitVec 80 := BitVec.ofNat 80
    ((vcap % 2 ^ 16) * 2 ^ 64 + (status % 4096) * 2 ^ 52 + (temp % 256) * 2 ^ 44 + (fault % 256) * 2 ^ 36
      + (seq % 8) * 2 ^ 33 + (edgeDelay % 2 ^ 16) * 2 ^ 17)
  setFld r 0 8 (rspCrc p r)

/-- The response field as the module sends it: zeros with a failing CRC (R69). -/
def emptyResponse (p : Nat) : BitVec 80 := setFld (0#80) 0 8 (255 - rspCrc p (0#80))

/-- Whether a response's CRC-8 is right. -/
def rspOk (p : Nat) (r : BitVec 80) : Bool := rspCrc p r == fld r 0 8

def slotCmd (s : BitVec 128) : BitVec 48 := BitVec.ofNat 48 (s.toNat / 2 ^ 80)
def slotRsp (s : BitVec 128) : BitVec 80 := BitVec.ofNat 80 s.toNat
def mkSlot (c : BitVec 48) (r : BitVec 80) : BitVec 128 := BitVec.ofNat 128 (c.toNat * 2 ^ 80 + r.toNat)

/-! Mailbox fields (Table 03-8). -/
def mOp (m : BitVec 128) : Nat := fld m 124 4
def mAddr (m : BitVec 128) : Nat := fld m 116 8
def mTag (m : BitVec 128) : Nat := fld m 108 8
def mLaunch (m : BitVec 128) : Nat := fld m 102 6
def mData (m : BitVec 128) : Nat := fld m 38 64
def mReqCrc (m : BitVec 128) : Nat := fld m 30 8
def mHop (m : BitVec 128) : Nat := fld m 24 6
def mResult (m : BitVec 128) : Nat := fld m 20 4
def mAnsCrc (m : BitVec 128) : Nat := fld m 12 8

/-- Whether an operation is of the write class (Table 03-9). -/
def isWriteOp (op : Nat) : Bool := op == 2

/-- `REQ_CRC`: MBX_POS, then mailbox [127:102], then DATA for write-class operations. -/
def reqCrc (pos : Nat) (m : BitVec 128) : Nat :=
  crc8 0xFF 0xFF (bitsOf 6 pos ++ bitsOf 26 (m.toNat / 2 ^ 102) ++ (if isWriteOp (mOp m) then bitsOf 64 (mData m) else []))

/-- `ANS_CRC`: RESULT, ADDR, TAG, DATA as answered. -/
def ansCrc (m : BitVec 128) : Nat :=
  crc8 0x00 0xFF (bitsOf 4 (mResult m) ++ bitsOf 8 (mAddr m) ++ bitsOf 8 (mTag m) ++ bitsOf 64 (mData m))

/-- Assemble a mailbox request; RESULT and ANS_CRC 0. (DEDUCED: assumption log 25) -/
def mkMailbox (pos op addr tag launch data hop : Nat) : BitVec 128 :=
  let m : BitVec 128 := BitVec.ofNat 128
    ((op % 16) * 2 ^ 124 + (addr % 256) * 2 ^ 116 + (tag % 256) * 2 ^ 108 + (launch % 64) * 2 ^ 102
      + (data % 2 ^ 64) * 2 ^ 38 + (hop % 64) * 2 ^ 24)
  setFld m 30 8 (reqCrc pos m)

/-- The mailbox with an answer written: RESULT, DATA and ANS_CRC (R72). -/
def answer (m : BitVec 128) (result data : Nat) : BitVec 128 :=
  let m1 := setFld (setFld m 38 64 data) 20 4 result
  setFld m1 12 8 (ansCrc m1)

end Rodal

end Sys2Proof
end

