-- ==== Sys2Proof/Machine/SMap.lean ====
section
/-! DEFINITION. Sparse maps from a number to a value, as lists of pairs in one canonical form: keys strictly rising,
no entry equal to what an unlisted key reads as. Memory, the object dictionary and the per-unit tables are such maps. -/

namespace Sys2Proof

/-- Read a key; an unlisted key reads `d`. -/
def SMap.get {α : Type} (d : α) : List (Nat × α) → Nat → α
  | [], _ => d
  | (a, x) :: t, k => if a = k then x else SMap.get d t k

/-- Put an entry at its place, replacing the entry of the same key. -/
def SMap.ins {α : Type} : List (Nat × α) → Nat → α → List (Nat × α)
  | [], k, v => [(k, v)]
  | (a, x) :: t, k, v =>
    if k < a then (k, v) :: (a, x) :: t
    else if a = k then (k, v) :: t
    else (a, x) :: SMap.ins t k v

/-- Remove the entry of a key. -/
def SMap.del {α : Type} : List (Nat × α) → Nat → List (Nat × α)
  | [], _ => []
  | (a, x) :: t, k => if a = k then SMap.del t k else (a, x) :: SMap.del t k

/-- Write a key: writing what an unlisted key reads as removes the entry. -/
def SMap.set {α : Type} [DecidableEq α] (d : α) (m : List (Nat × α)) (k : Nat) (v : α) : List (Nat × α) :=
  if v = d then SMap.del m k else SMap.ins m k v

/-- The canonical form: every key above `lo` and rising, no entry equal to the default. -/
def SMap.wfFrom {α : Type} [DecidableEq α] (d : α) : Nat → List (Nat × α) → Bool
  | _, [] => true
  | lo, (a, x) :: t => decide (lo ≤ a) && decide (x ≠ d) && SMap.wfFrom d (a + 1) t

/-- The canonical form of a whole map. -/
def SMap.wf {α : Type} [DecidableEq α] (d : α) (m : List (Nat × α)) : Bool := SMap.wfFrom d 0 m

end Sys2Proof
end

