-- ==== Sys2Proof/Machine/State.lean ====
section
/-! DEFINITION. The state of the module as plain data: the object dictionary's values in force, every register, buffer,
queue and state machine the chapters give the module beside its objects, the memories of Table 11-1, the outputs sent,
and the queue of commands that wait. -/

namespace Sys2Proof.Machine

open Sys2Proof

/-- Why the machine stops with a fault. -/
inductive Fault where
  /-- Raised by a module access (raw rings, snapshot buffers, receive rings) to an address outside every window of
  Table 11-1; the manual gives such a transfer no effect. Safe: the machine stops where the hardware might go on. -/
  | addressOutsideMap
  deriving DecidableEq, Repr

/-- Why the machine refuses a command. -/
inductive Refusal where
  /-- The command has no meaning in the model yet. Safe: the machine stops. -/
  | notModelled (mnemonic : String)
  deriving DecidableEq, Repr

/-- The time base and the cycle clock (R12, R194, R195). Times are in units of 2⁻³² ns. -/
structure TimeSt where
  /-- TAI: the time base's value. -/
  now : Nat
  /-- Time elapsed since reset, which no phase step moves. -/
  mono : Nat
  /-- The sum of the phase steps made, in 2⁻³² ns. -/
  steps : Int
  /-- T_k of the last cycle start, carried along by phase steps. -/
  lastT : Nat
  /-- Whether a cycle has started since reset. -/
  started : Bool
  /-- TIMECLK runs (R447). -/
  timeclk : Bool
  /-- REFCLK runs (R447). -/
  refclk : Bool
  deriving DecidableEq, Repr

/-- What an entry of the cell table last received (R22, R68). -/
structure CellRx where
  vcap   : Nat
  status : Nat
  temp   : Nat
  fault  : Nat
  seq    : Nat
  edge   : Nat
  deriving DecidableEq, Repr

/-- What a lane's transmitter sends where it sends no frame (Table 02-5, R43, R55, R56): electrical idle, one word over and
over, the PRBS31 sequence, or what its receiver takes in. -/
inductive LaneFill where
  | electricalIdle
  | word (w : Word)
  | prbs31 (inverted : Bool)
  | received
  deriving DecidableEq, Repr

/-- The receiver of one lane (R44–R50, R56), and what its transmitter sends beside frames. -/
structure LaneSt where
  /-- LOS is asserted. -/
  los : Bool
  /-- LOS was asserted in the present frequency gate, or the gate began before the lane left OFF: it is partial. -/
  gateBad : Bool
  /-- Consecutive missed syncs (R47). -/
  misses : Nat
  /-- A sync word and a header with a valid CRC-16 arrived since the last judgement. -/
  synced : Bool
  /-- Three or more block-pattern words arrived since the last judgement. -/
  blocked : Bool
  /-- Consecutive sync words received, complemented ones, and block-pattern words, in runs of words (R47, R49). -/
  train : Nat
  trainC : Nat
  blockRun : Nat
  /-- The last 31 bits of the sequence the PRBS31 checker follows, newest first; fewer before it has begun (Table 02-5). -/
  prbs : List Bool
  /-- The CYCLE of the valid frame used in this cycle (R88). -/
  gotCycle : Option Nat
  /-- A valid frame with FOLDED clear arrived in this cycle (R87). -/
  unfolded : Bool
  /-- Words in the elastic buffer of the loopback (R56). -/
  lbFill : Nat
  /-- A quad PLL unlock holds the transmitter at electrical idle (R61). -/
  idle : Bool
  fill : LaneFill
  deriving DecidableEq, Repr

/-- Where a mailbox transaction comes from (R72), and the step it serves. -/
inductive TxnKind where
  /-- Enumeration: ASSIGN of a position. -/
  | enumAssign
  /-- Enumeration or join: READ of CAP0, CAP1 or CAP2. -/
  | readCap (i : Nat) (join : Bool)
  | writePos (join : Bool)
  | readLoop (join : Bool)
  | writeDelay (join : Bool)
  /-- Join: READ of UID. -/
  | readUid
  /-- An ASSIGN probe to an ABSENT position (R93). -/
  | probe
  /-- The software transaction of STR_MBX_REQ. -/
  | software
  /-- The READ of LOOP_INTERVAL of every cycle. -/
  | loopInterval
  /-- The write of CFG_DELAY that follows it (R82). -/
  | delayUpdate
  deriving DecidableEq, Repr

/-- One mailbox transaction in progress on a strand. -/
structure Txn where
  kind  : TxnKind
  pos   : Nat
  op    : Nat
  addr  : Nat
  data  : Nat
  tag   : Nat
  /-- Sends left (R72: repeated up to 3 times). -/
  left  : Nat
  /-- The operation travels in the end-B copy (R72). -/
  viaB  : Bool
  /-- Sent and not yet answered. -/
  sent  : Bool
  deriving DecidableEq, Repr

/-- The steps of the enumeration of one strand (R89). -/
inductive EnumStep where
  | idle
  | assign (p : Nat)
  | caps (p i : Nat)
  | cfgPos (p : Nat)
  | wait
  | loopInt (p : Nat)
  | cfgDelay (p : Nat)
  | done
  deriving DecidableEq, Repr

/-- The steps of a join (R93). -/
inductive JoinStep where
  | readUid
  | waitManual
  | caps (i : Nat)
  | cfgPos
  | settle
  | loopInt
  | cfgDelay
  | clear
  deriving DecidableEq, Repr

/-- One strand at the module. -/
structure StrandSt where
  /-- Sum of the round trips averaged, in 125 ps, and their number, up to 16 (R81); in ring topology those of the copies sent
  from end A, and beside them those sent from end B. -/
  rtSum : Nat
  rtCount : Nat
  rtSumB : Nat
  rtCountB : Nat
  /-- The return path the average belongs to: the fold position, 0xFF unfolded, 0x100 a ring folded. -/
  rtPath : Nat
  /-- Frames returned since the last change of the return path (R82), and in ring topology those sent from end B. -/
  pathFrames : Nat
  pathFramesB : Nat
  /-- The healing window (R91): cycles left; 0 closed. -/
  healLeft : Nat
  /-- The window may open again only after 64 cycles with every admitted cell present. -/
  healArmed : Bool
  allPresent : Nat
  txn : Option Txn
  tag : Nat
  enum : EnumStep
  /-- Frames since the last ASSIGN, up to 16 (R89). -/
  sinceAssign : Nat
  /-- The join whose transactions the mailbox serves: its position and its step; and the frames sent on the strand. -/
  join : Option (Nat × JoinStep)
  joinFrames : Nat
  /-- Position delays computed and not yet written: position, d^A, d^B (R81, R82). -/
  delays : List (Nat × Nat × Nat)
  /-- The ABSENT position the next probe goes to. -/
  probeNext : Nat
  /-- A probe is due (R93). -/
  probeDue : Bool
  /-- The software transaction waiting (R72). -/
  software : Option (Nat × Nat × Nat × Nat)
  /-- The λ of the frame being sent (R70). -/
  launch : Nat
  /-- Commands being sent, and the bank the last commit filled (R58). -/
  bank : List (BitVec 48)
  next : Option (List (BitVec 48))
  /-- A valid folded frame from end A, from end B, was drained in the present cycle (R88). -/
  foldA : Bool
  foldB : Bool
  /-- What the admission in force budgets at each position: whether its cell was absent and the values are assumptions, the
  hop latency in ns, and the segment in 125 ps (R26). -/
  budget : List (Bool × Nat × Int)
  deriving DecidableEq, Repr

/-- The module's own view of one cell beside its objects. -/
structure CellSt where
  /-- Present in the present cycle (R91): a slot with a valid RSP_CRC drained by t_in. -/
  present : Bool
  /-- The slot was last taken from the end-A copy. -/
  fromA : Bool
  rx : CellRx
  /-- The last VCAP was valid in this cycle. -/
  vValid : Bool
  /-- The last valid VCAP, in 62.5 mV. -/
  vcap : Nat
  /-- The command of the last frame committed, and of the frame before it. -/
  cmd : BitVec 48
  prevCmd : BitVec 48
  /-- The signed insertion (1, −1, 0) in effect before the frame of `prevCmd` applied (R102). -/
  prior : Int
  /-- CLEAR_FAULT is to be sent with the next BLOCKED command (R93). -/
  clear : Bool
  /-- Present when last judged; it became present again and its join has not started; a join that waits for FAULT = 0. -/
  seen : Bool
  want : Bool
  joinClear : Bool
  /-- A JOINING cell that is not being served: the step it waits to run, or for `CELL_JOIN` (R93). -/
  turn : Option JoinStep
  /-- The strand's frame count when the cell was assigned or became present again. -/
  joinAt : Nat
  /-- t_mti of CAP0, in ns. -/
  tmti : Nat
  /-- The key K_i in 1/256 V (R102). -/
  key : Nat
  /-- The settled state: 0 BLOCKED, 1 BYPASS, 2 INSERT, 3 INSERT_NEG (R107). -/
  settled : Nat
  deriving DecidableEq, Repr

/-- An accepted command that waits for its instants: its words, and its A_k in the cell's time, in 125 ps (R78, R79). -/
structure CellCmd where
  word : BitVec 48
  ak   : Int
  deriving DecidableEq, Repr

/-- One cell controller (R70–R86), as the manual requires it of any cell. -/
structure CellCtl where
  powered : Bool
  uid : BitVec 64
  cap0 : BitVec 64
  cap1 : BitVec 64
  cap2 : BitVec 64
  vendor : List (Nat × BitVec 64)
  pos : Option Nat
  cfgPos : Option (BitVec 64)
  delayA : Nat
  delayB : Nat
  eLast : Option Nat
  /-- The state at the output: 0 BLOCKED, 1 BYPASS, 2 INSERT, 3 INSERT_NEG. -/
  state : Nat
  /-- The latched fault code (Table 03-7), the last eight, newest first. -/
  fault : Nat
  faultLog : List Nat
  /-- The accepted commands not yet executed, oldest first; the SEC_LSB and CYCLE of the frame of the newest, and the SEQ last
  accepted. -/
  cmds : List CellCmd
  taken : Option (Nat × Nat)
  seqEcho : Nat
  seqValid : Bool
  /-- Bits of STATUS that describe the last frame: CMD_BAD, REPEAT, HOLDING, FOLDING, EPOCH_REJECT. -/
  cmdBad : Bool
  repeated : Bool
  holding : Bool
  folding : Bool
  epochReject : Bool
  bypassClosed : Bool
  /-- The SEQ of the last accepted command with CLOSE_BYPASS and BLOCKED; whether two such stand. -/
  closeSeq : Option Nat
  closeReady : Bool
  portA : Bool
  portB : Bool
  /-- Defect words are sent out of a DOWN port. -/
  defectA : Bool
  defectB : Bool
  /-- The block pattern is being forwarded (R85). -/
  blocking : Bool
  /-- T_k reconstructed from the latest valid frame, and the next sample instant S_{k+1}, in 125 ps of the cell's time. -/
  tk : Int
  sk : Int
  /-- Apply delay and sample lead of that frame, in 10 ns, and Tc in ns. -/
  apply : Nat
  lead : Nat
  /-- TYPE, CYCLE and ROT_B of the frames taken in the present cycle, with their arrival and λ. -/
  seen : List (Nat × Nat × Bool × Nat × Nat)
  /-- Sum and count of the loop intervals, newest 16, in 125 ps (R81). -/
  loops : List Int
  /-- The time of the last transition, and the delay reported for it. -/
  lastMove : Int
  edgeDelay : Nat
  /-- VCAP, APPLIED and TEMP latched at S_k. -/
  vcap : Nat
  applied : Nat
  temp : Nat
  /-- T_k of the last cycle in which a frame was taken in, and the cycles since without one, counted at the predicted T_k
  (R83). -/
  tTaken : Option Int
  missed : Nat
  /-- COUNTERS (Table 03-10). -/
  errA : Nat
  errB : Nat
  rejects : Nat
  holds : Nat
  /-- The time of the last CYCLE frame accepted, or of power-up (R84). -/
  tCycle : Int
  /-- An accepted command carries CLEAR_FAULT and waits to be executed. -/
  clearReq : Bool
  deriving DecidableEq, Repr

/-- What the run of the present cycle has reached (R25, R33). -/
inductive RunPhase where
  | idle | loop | modulation | committed
  deriving DecidableEq, Repr

/-- The cycle engine (R12–R34). -/
structure CycSt where
  phase : RunPhase
  /-- Run counter since the run began in its second: s · C + c of the run in progress (R332). -/
  runSeq : Nat
  /-- A run was due in the present cycle (a mode in which the engines run). -/
  due : Bool
  /-- The takeover frame: 0 none, 4 HOLD, 1 BLOCKED (R337, R339). -/
  takeover : Nat
  /-- Frames still to carry CLEAR_FAULT after a lock-out reset (R311). -/
  clearFrames : Nat
  /-- An enumeration has completed since the last change to a strand object (R90). -/
  enumOk : Bool
  /-- t_in of the present cycle has passed (R25). -/
  tin : Bool
  /-- The mode the units last followed (R425). -/
  lastMode : Nat
  /-- The end of the loop program of the run in progress, in ns after T_k (R167). -/
  loopEnd : Nat
  /-- The values before the run in progress of the objects it writes before its commit: reductions, vector-stage outputs and
  orders (R33). -/
  undo : List (Nat × Int)
  deriving DecidableEq, Repr

/-- One fault record (Table 18-11). -/
structure FaultRec where
  time    : Int
  number  : Nat
  code    : Nat
  level   : Nat
  arms    : Nat
  active  : Bool
  cause   : Bool
  acked   : Bool
  applied : Bool
  first   : Bool
  source  : Nat
  detail  : Nat
  deriving DecidableEq, Repr

/-- The fault manager and the mode machine (R425, R429, R431–R434). -/
structure FmSt where
  /-- The records held, oldest first; at most 32. -/
  queue : List FaultRec
  first : Option FaultRec
  /-- The lock-out-pending flag kept in NOR (R429). -/
  nvLockout : Bool
  /-- An L4 reaction was raised during this BOOT (R425). -/
  bootL4 : Bool
  /-- LOCKOUT was entered from BOOT or CONFIG (Table 18-5). -/
  fromConfig : Bool
  /-- Mode requests accepted and not yet in effect: target codes (R196, R425). -/
  requests : List Nat
  /-- `SYS_RESET` took effect: the software reset is due, 1 ms after that boundary (R428, monotonic time). -/
  resetDue : Bool
  resetAt  : Nat
  /-- The number of the last record raised in an earlier fabric clock (R432). -/
  clk      : Nat
  /-- The values that routing objects had before the boundary in progress, by key (R422). -/
  routes   : List (Nat × Nat)
  deriving DecidableEq, Repr

/-- An event on its way (R422): its number, and the pools and the mask sets of the routing in force when it was raised. -/
structure Raised where
  event : Nat
  pools : Nat
  masks : Nat
  deriving DecidableEq, Repr

/-- Who the change log names as the writer (Table 15-8): ORIGIN, ROLE, PORT, ORIGIN_ID, USER and address. -/
structure Origin where
  origin   : Nat
  role     : Nat
  port     : Nat
  originId : Nat
  user     : Nat
  addr     : List Byte
  deriving DecidableEq, Repr

/-- A RESTART value that waits for its block to start (R352). -/
structure Held where
  val : Val
  org : Origin
  deriving DecidableEq, Repr

/-- One accepted entry of a group: the object's key and the value to take effect; `inst` is the instance that wrote it, in a
group of the sequencer (R291). -/
structure PEntry where
  key : Nat
  val : Val
  inst : Option Nat
  deriving DecidableEq, Repr

/-- An accepted write group that waits for its boundary (R32, R352, R370). -/
structure Group where
  number : Nat
  writer : Writer
  org    : Origin
  /-- ZOA opcode to be acknowledged, 0 none. -/
  opcode : Nat
  entries : List PEntry
  /-- Elapsed time of acceptance. -/
  accepted : Nat
  /-- The boundary a mirrored group must take effect at: TAI second and cycle (R334). -/
  due    : Option (Nat × Nat)
  /-- Moved past its first eligible boundary already. -/
  deferred : Bool
  /-- Objects named, held RESTART values included. -/
  objects : Nat
  deriving DecidableEq, Repr


/-- What a modulation run leaves for the commit of its cycle (R33): the commands without their SEQ, the settled states,
the insertion state, the register values, the counters that count one up and the events raised, whether the run was
saturated and its W_k above the limit, and the consecutive runs with an invalid order up to it. -/
structure ModStage where
  cmds    : List (Nat × BitVec 48)
  settled : List (Nat × Nat)
  ins     : Nat
  regs    : List (Nat × Int)
  counts  : List Nat
  events  : List Nat
  satRun  : Bool
  disRun  : Bool
  invalid : Nat
  deriving DecidableEq, Repr

/-- One modulation engine (R97–R119). -/
structure ModSt where
  /-- The ranked array, lowest rank first (R104). -/
  rank   : List Nat
  /-- The next pass compares the pairs (2j+1, 2j+2). -/
  parity : Bool
  /-- Event 59 + a was raised since the load (R105). -/
  sorted : Bool
  /-- The last run was saturated, and the last W_k was above its limit. -/
  satRun : Bool
  disRun : Bool
  /-- Consecutive cycles with an invalid order (R119). -/
  invalid : Nat
  /-- The insertion state of the last ACTIVE run committed; 0 none. -/
  ins    : Nat
  /-- The staged result of the run in progress. -/
  stage  : Option ModStage
  /-- `MOD_ARM_ENABLE` has been written (R97). -/
  written : Bool
  deriving DecidableEq, Repr


/-- What an instance keeps beside its objects: the DELAY or MAVG buffer, oldest first, the PLL lock timer, and whether a
selector has not run since its start or reset (R133, R135, R139, R151). -/
structure InstAux where
  buf   : List F64
  timer : Nat
  fresh : Bool
  deriving DecidableEq, Repr

/-- The staged result of one instance of a run: states, outputs, flags, buffer, lock timer and lock (R123). -/
structure InstRun where
  st     : List F64
  out    : List F32
  flags  : Nat
  buf    : List F64
  timer  : Nat
  locked : Bool
  deriving DecidableEq, Repr

/-- The loop engine (R122–R155). -/
structure LoopSt where
  /-- The prologue's snapshot (R128): what each reference other than INST and PREV reads in the run in progress. -/
  snap   : List (Nat × F32)
  /-- T_p in ns as the prologue read it (Table 05-2). -/
  tp     : Nat
  aux    : List (Nat × InstAux)
  /-- The run in progress, instance by instance, newest first. -/
  stage  : List (Nat × InstRun)
  /-- Instances reset at the last boundary and not yet run complete (R145). -/
  resets : List Nat
  deriving DecidableEq, Repr

/-- What a REP run leaves for the commit (R33, R158, R160): the memory write, whether it was frozen, had a cause to freeze
and was limited, and the runs of hold-off left. -/
structure RepStage where
  write  : Option (Nat × F64)
  frozen : Bool
  cause  : Bool
  sat    : Bool
  left   : Nat
  deriving DecidableEq, Repr

/-- One repetitive channel (R156–R161): the memory, sparse over 0.0, the pointer, the runs of hold-off left, whether the
last run had a cause to freeze, and what its run in progress staged for the commit. -/
structure RepCh where
  mem   : List (Nat × F64)
  ptr   : Nat
  left  : Nat
  cause : Bool
  stage : Option RepStage
  deriving DecidableEq, Repr

/-- One supervision entry (R162–R166): the residual window, newest first, and that before a run that has judged its residual
and is not committed yet; the agreeing runs; the excursions of loss and freeze; whether it substitutes; a trip due in the
epilogue; the causes the prologue sampled. -/
structure SvSt where
  window   : List Bool
  saved    : Option (List Bool)
  agree    : Nat
  lossEx   : Bool
  freezeEx : Bool
  subst    : Bool
  tripDue  : Bool
  causes   : Nat
  deriving DecidableEq, Repr


/-- A cycle sample as it is held (R176, R179): the codes of the two outputs that bracket S, and how far S lies from the
first to the second, `num` of `den`; a sample on a grid point has `num` = 0. -/
structure CycleSample where
  code : Int
  next : Int
  num  : Nat
  den  : Nat
  deriving DecidableEq, Repr

/-- One path of a measurement channel: the last output (grid index, code, whether its window is clear of loss and settling), the
valid cycle samples formed, newest first (S in ns of TAI), the last valid one in force, and whether the run's sample is valid
(R179, R182). -/
structure MeasPath where
  last    : Option (Nat × Int × Bool)
  samples : List (Nat × CycleSample)
  held    : CycleSample
  fresh   : Bool
  deriving DecidableEq, Repr

/-- One measurement channel (R171–R185). -/
structure MeasCh where
  fine : MeasPath
  fast : MeasPath
  /-- TAI in ns at which the channel started. -/
  start : Nat
  /-- The elapsed time at which the channel began to settle (R182). -/
  settleAt : Nat
  /-- Fine outputs, newest first: reference instant in ns and code; what the phasor engine's spans reach back to. -/
  hist : List (Nat × Int)
  deriving DecidableEq, Repr

/-- One plausibility pair (R186): the low-pass states, the window of exceedances, newest first, and the evaluations in a
row without one. -/
structure PairSt where
  lpA    : Option F64
  lpB    : Option F64
  window : List Bool
  clean  : Nat
  deriving DecidableEq, Repr

/-- One diagnostic unit (R187–R189): the entry in progress, the elapsed time at which it began, whether its delay has passed,
its conversions, newest first, and the elapsed time at which the loop began. -/
structure DiagSt where
  pos     : Option Nat
  since   : Nat
  ready   : Bool
  results : List F32
  start   : Nat
  deriving DecidableEq, Repr

/-- The measurement front end. -/
structure MeasSt where
  chans   : List (Nat × MeasCh)
  pairs   : List (Nat × PairSt)
  diag0   : DiagSt
  diag1   : DiagSt
  /-- Anchors of the modulator clocks, in TAI seconds: 0 the on-chip clock, 1 + g group g once its divider is written. -/
  anchors : List (Nat × Nat)
  deriving DecidableEq, Repr


/-- What Announce says of a master (R201): the dataset in the order of its comparison, and stepsRemoved. -/
structure Master where
  order : List Nat
  gm    : Nat
  steps : Nat
  deriving DecidableEq, Repr

/-- A two-step Sync waiting for its Follow_Up: grandmaster, sequence, t2 and correction in 2⁻¹⁶ ns, interval in ms. -/
structure SyncWait where
  gm       : Nat
  seqId    : Nat
  t2       : Int
  corr     : Int
  interval : Nat
  deriving DecidableEq, Repr

/-- One PTP port (R200, R201, R207). -/
structure PtpPort where
  master : Option Master
  wait   : Option SyncWait
  /-- Mean link delay in 2⁻¹⁶ ns. -/
  link   : Int
  /-- A link delay was measured since reset. -/
  seen   : Bool
  /-- The port is in an excursion for which event 97 was raised. -/
  bad    : Bool
  /-- The exchanges of neighborRateRatio, newest first: peer time t3 and own time t4, in 2⁻¹⁶ ns. -/
  ratio  : List (Int × Int)
  /-- Sequence of the next Pdelay_Req, the elapsed time of the last one, and of the last valid response. -/
  reqSeq : Nat
  reqAt  : Option Nat
  respAt : Nat
  /-- Two-step Syncs forwarded and not yet matched, oldest first: egress port, sequence, correction to add (R207). -/
  fwd    : List (Nat × Nat × Int)
  deriving DecidableEq, Repr

/-- The servo and the error estimate (R198, R202, R203). -/
structure PtpSt where
  integral : F64
  rho      : F64
  /-- Syncs in a row within the lock threshold, and beyond the unlock threshold. -/
  lockRun   : Nat
  unlockRun : Nat
  /-- |y| of the last 8 Syncs in ns, newest first. -/
  ys        : List Nat
  /-- Drift accumulated since reset in 2⁻³² ns, and the elapsed time it was brought up to. -/
  drift     : Nat
  driftAt   : Nat
  /-- The drift total at the last Sync, and at the entry to HOLDOVER or FREERUN, with the estimate there in ns. -/
  driftSync : Nat
  driftIn   : Nat
  errIn     : Nat
  /-- A Sync was used since reset. -/
  synced    : Bool
  /-- After a servo step: 2 or 1 Syncs to come, and the offset of the first. -/
  after     : Nat
  afterY    : Int
  /-- The slave port moved while LOCKED; the first Sync there decides (R201). -/
  moved     : Bool
  /-- Software steps accepted and not yet made; a servo step withheld (R203). -/
  softDue   : Nat
  servoDue  : Bool
  /-- Elapsed time of the last step; time at which LOCKED was left. -/
  stepAt    : Option Nat
  leftLock  : Option Nat
  /-- Elapsed time at which LOCKED was last entered. -/
  lockAt    : Option Nat
  /-- Elapsed time of the last leap applied; its TAI second, the offset before it, and whether it inserted a second. -/
  leapAt    : Option Nat
  leapSec   : Option (Nat × Int × Bool)
  deriving DecidableEq, Repr

/-- One pulse generator (R208, R209): the start of the next pulse in 2⁻¹⁶ ns of TAI. -/
structure PulseSt where
  due : Option Nat
  deriving DecidableEq, Repr

/-- One entry of a timestamp unit (R210): TIME96, edge, flags, sequence. -/
structure TsuEntry where
  time  : Int
  edge  : Nat
  flags : Nat
  seq   : Nat
  deriving DecidableEq, Repr

/-- One timestamp unit (R210). -/
structure TsuSt where
  fifo : List TsuEntry
  lost : Bool
  seq  : Nat
  deriving DecidableEq, Repr

/-- The RTC (R211–R213): its time in 1/32,768 s at an elapsed time, its time at its last discipline or load, and
whether its drift has been measured. -/
structure RtcSt where
  base     : Nat
  at0      : Nat
  lastDisc : Option Nat
  measured : Bool
  deriving DecidableEq, Repr

/-- The time subsystem beside its objects. -/
structure TimeSub where
  ptp   : PtpSt
  ports : List (Nat × PtpPort)
  pulse : List (Nat × PulseSt)
  tsus  : List (Nat × TsuSt)
  rtc   : RtcSt
  deriving DecidableEq, Repr


/-- A trigger condition of a pool (R224): its thresholds and hysteresis as fast codes, and whether it is armed. -/
structure TpCond where
  th    : Int
  hi    : Int
  hyst  : Int
  armed : Bool
  deriving DecidableEq, Repr

/-- One sample of a pool: the codes of its slots in ascending order, which of them cannot be evaluated (SETTLING or loss),
and whether a loss detector was active. -/
structure TpSample where
  codes : List Int
  bad   : List Bool
  loss  : Bool
  deriving DecidableEq, Repr

/-- What a trigger fixes (R226–R228): causes, primary index, times in 2⁻¹⁶ ns, n_pre, polarity, and the settings copied
into the header. -/
structure TpTrig where
  causes  : Nat
  primary : Nat
  time    : Nat
  first   : Nat
  nPre    : Nat
  neg     : Bool
  state   : Nat
  err     : Nat
  step    : Nat
  chans   : List Nat
  scale   : List F32
  offset  : List F32
  /-- Elapsed time of the trigger; the lines that have taken their arrival from the record (R232). -/
  at0     : Nat
  lines   : List Nat
  deriving DecidableEq, Repr

/-- A record, complete or being written (R228): samples oldest first. -/
structure TpRec where
  pool    : Nat
  slot    : Nat
  seq     : Nat
  trig    : TpTrig
  nPost   : Nat
  short   : Bool
  stepped : Bool
  gap     : Bool
  samples : List TpSample
  /-- Elapsed time of its completion. -/
  ended   : Nat
  deriving DecidableEq, Repr

/-- One pool (R219–R230). -/
structure TpPool where
  /-- The slot of the record in progress. -/
  slot    : Option Nat
  /-- Samples kept of it, newest first, and the number written since the slot was taken. -/
  samples : List TpSample
  written : Nat
  /-- The last samples across records, newest first, which conditions compare with (R224). -/
  recent  : List TpSample
  /-- TP_POST as checked at ARM. -/
  post    : Nat
  /-- The trigger, and the samples written from it on. -/
  trig    : Option TpTrig
  after   : Nat
  /-- Elapsed time of the entry to READY. -/
  readyAt : Nat
  /-- Causes 13 to 15 waiting for the next sample. -/
  event   : Bool
  auto    : Bool
  force   : Bool
  /-- Samples were dropped in this record; the write buffer is full now. -/
  gap     : Bool
  full    : Bool
  /-- The completed records by slot. -/
  recs    : List (Nat × TpRec)
  deriving DecidableEq, Repr

/-- An arrival that waits for its match (R233): time in 2⁻¹⁶ ns, error in ns, whether LOCKED, elapsed time of its entry. -/
structure TwArrival where
  time   : Nat
  err    : Nat
  locked : Bool
  since  : Nat
  deriving DecidableEq, Repr

/-- One line of the travelling-wave service (R233): arrivals waiting, oldest first. -/
structure TwLine where
  locals  : List TwArrival
  remotes : List TwArrival
  deriving DecidableEq, Repr

/-- Tidepool and the travelling-wave service (R219–R240). -/
structure TideSt where
  pools : List (Nat × TpPool)
  conds : List (Nat × TpCond)
  lines : List (Nat × TwLine)
  deriving DecidableEq, Repr


/-- One phasor stream (R251–R256): the destination (address and port, 18 bytes), the last report sent or dropped (TAI second, n),
and the time since which a spontaneous stream may send, less the phase steps made (R253). -/
structure PhStream where
  dest  : List Byte
  last  : Option (Nat × Nat)
  since : Int
  deriving DecidableEq, Repr

/-- One phasor set (R244–R254): the last instant estimated (TAI second, 1/9,600 s) and whether its data error stands. -/
structure PhSet where
  last  : Option (Nat × Nat)
  error : Bool
  deriving DecidableEq, Repr

/-- The phasor engine. -/
structure PhSt where
  streams : List (Nat × PhStream)
  sets    : List (Nat × PhSet)
  /-- A phasor object changed in CONFIG since it was entered (R252). -/
  changed : Bool
  /-- Data frames are stopped under STOP (R255). -/
  stopped : Bool
  deriving DecidableEq, Repr


/-- What the Stable keeps of one descriptor beside its objects (R263–R272): the release and grant times, a release held
while RUNNING, whether the miss and the exceedance of this run were counted, a disable that waits for the run, and the timed
instant it waits for in 2⁻¹⁶ ns of TAI: the next of a TIME task, the earliest of a CYCLE task (R265). -/
structure TaskSt where
  relAt   : Nat
  grantAt : Nat
  pend    : Option Nat
  missed  : Bool
  overB   : Bool
  off     : Bool
  next    : Nat
  deriving DecidableEq, Repr

/-- One task core as the Stable sees it (R267–R272). -/
structure CoreSt where
  held     : Option Nat
  heldAt   : Nat
  /-- The slot's task, and the elapsed time at which it was filled. -/
  slot     : Option Nat
  slotAt   : Nat
  pref     : Bool
  /-- The watchdog of this hold was reported. -/
  wdt      : Bool
  /-- Time spent holding tasks since `loadFrom`. -/
  busy     : Nat
  loadFrom : Nat
  deriving DecidableEq, Repr

/-- A completion (R270): producer, task, status. -/
structure Compl where
  prod   : Nat
  task   : Option Nat
  status : Nat
  deriving DecidableEq, Repr

/-- The Stable (R260–R279). -/
structure StbSt where
  tasks   : List (Nat × TaskSt)
  cores   : List (Nat × CoreSt)
  /-- The FIFOs of the stalls, head first, and their credits. -/
  fifos   : List (Nat × List Nat)
  credit  : List (Nat × Int)
  /-- Cores asking, longest wait first, each with the number of the core clock in which it began to ask, counted over the clocks
  in which one did. -/
  asking  : List (Nat × Nat)
  askClk  : Nat
  /-- Holding registers by producer, completions held at their source, and the completion queue, oldest first. -/
  holding : List Compl
  waiting : List Compl
  queue   : List Compl
  /-- The Tideline buffer, oldest first; records dropped since the last written; an excursion stands; unread bytes. -/
  tlBuf   : List (List Byte)
  tlLost  : Nat
  tlFull  : Bool
  unread  : Nat
  deriving DecidableEq, Repr


/-- The field channels (R382–R392). -/
structure FioSt where
  /-- The levels last sampled; by input channel, the first sample at a level that differs from the state (R384): its TIME96
  and the time since reset. -/
  raw     : Nat
  since   : List (Nat × (Int × Nat))
  /-- By output channel, when its pin began to disagree with its command; channels that disagreed for 5 ms, in current limit,
  in thermal shutdown. -/
  disAt   : List (Nat × Nat)
  dis     : Nat
  limit   : Nat
  thermal : Nat
  /-- By channel, when it last switched off in thermal shutdown (R386). -/
  thermAt : List (Nat × Nat)
  /-- When the watchdog was last fed; it expired and was not fed since. -/
  kickAt  : Nat
  wdt     : Bool
  /-- The channel the survey measures, and since when. -/
  survey  : Option Nat
  surveyAt : Nat
  /-- When the last frame was exchanged with the field die. -/
  linkAt  : Nat
  /-- The outputs driven. -/
  drive   : Nat
  deriving DecidableEq, Repr

/-- One PWM timer (R393–R401). -/
structure PwmTimer where
  /-- It has begun its first period. -/
  run    : Bool
  /-- The instants, in 2⁻¹⁶ ns of the time base, of the next period start (none: stopped, or waiting for a cycle boundary) and
  of the start of the period in progress (R394, R395). -/
  next   : Option Nat
  start  : Nat
  /-- Shadows written since the last transfer; a commit waits. -/
  wPer   : Bool
  wCmp   : Bool
  wDt    : Bool
  commit : Bool
  /-- The dead time in force. -/
  dt     : Nat
  /-- Members A and B are active; the member whose dead time runs and the instant it ends; compare edges since the period
  start. -/
  a      : Bool
  b      : Bool
  rising : Option Bool
  riseAt : Nat
  edges  : Nat
  /-- Outputs at their trip state; levels of a released mask held until the period start, by channel. -/
  hold   : Bool
  frozen : List (Nat × Nat)
  /-- A restart with both members inactive waits for the period start. -/
  restart : Bool
  /-- A pulse is removed by dead time (event 190 raised); period starts since the timer's start. -/
  removed : Bool
  starts : Nat
  deriving DecidableEq, Repr

/-- The PWM (R393–R404): the timers, the trip pins driven low, the trip sources seen active, the levels at the pins. -/
structure PwmSt where
  timers : List (Nat × PwmTimer)
  pins   : Nat
  active : Nat
  levels : Nat
  deriving DecidableEq, Repr


/-- A value of the sequencer (R283): type 0 BOOL, 1 I32, 2 F32, 3 a constant word of whatever type its input takes. -/
structure SVal where
  ty   : Nat
  bits : Word
  deriving DecidableEq, Repr

/-- An instance record of a block image (Table 12-5): inputs as reference and constant word. -/
structure SeqInst where
  id   : Nat
  ty   : Nat
  dest : Nat
  ins  : List (Nat × Nat)
  init : List Nat
  dflt : List Nat
  deriving DecidableEq, Repr

/-- A declared variable: PV number, type, initial value. -/
structure SeqVar where
  pv   : Nat
  ty   : Nat
  init : Nat
  deriving DecidableEq, Repr

/-- A block program (R289). -/
structure SeqProg where
  version : Nat
  insts   : List SeqInst
  vars    : List SeqVar
  deriving DecidableEq, Repr

/-- The data of one instance: outputs of the last scan, internal state in the order of INIT, status. -/
structure SeqData where
  outs   : List SVal
  st     : List Int
  status : Nat
  deriving DecidableEq, Repr

/-- The sequencer runtime (R280–R297). -/
structure SeqSt where
  /-- The staged image, and the program in it once VALIDATE found it valid. -/
  staged : List Byte
  valid  : Option SeqProg
  prog   : SeqProg
  data   : List (Nat × SeqData)
  /-- The scan clock at the last t_s, in µs. -/
  prev   : Option Nat
  /-- An exchange took effect and its first scan is to come; destinations of dropped STOREs with their DEF1. -/
  swapped : Bool
  dropped : List (Nat × Nat)
  /-- The last input frame of each station, and the output images being built. -/
  rx     : List (Nat × List Byte)
  tx     : List (Nat × List Byte)
  /-- Elapsed time of the last input frame of each station. -/
  heard  : List (Nat × Nat)
  deriving DecidableEq, Repr


/-- A pending transmit request (R412): buffer, identifier word, flags (FDF, BRS, IDE), data, the station it is for, and when
it was written. -/
structure CanReq where
  buf     : Nat
  id      : Nat
  flags   : Nat
  data    : List Byte
  station : Option Nat
  at_     : Nat
  deriving DecidableEq, Repr

/-- A completion record (Table 17-4). -/
structure CanDone where
  time   : Int
  buf    : Nat
  status : Nat
  err    : Nat
  tec    : Nat
  deriving DecidableEq, Repr

/-- One CAN controller beside its objects (R406–R416). -/
structure CanCtl where
  /-- It has joined the bus. -/
  joined  : Bool
  reqs    : List CanReq
  /-- The buffer whose attempt runs, and the time of its start of frame in 2⁻¹⁶ ns. -/
  attempt : Option (Nat × Nat)
  recover : Bool
  done    : List CanDone
  /-- Frames received; entries dropped since the last written; the ring's excursion of loss. -/
  seq     : Nat
  lost    : Bool
  /-- Station frames waiting for a vendor buffer. -/
  stations : List (Nat × List Byte)
  deriving DecidableEq, Repr


/-- A window in which a safety copy waits for its partner (R318): sequence number, LAN, bytes 0x00–0x23. -/
structure SafeWin where
  seq : Nat
  lan : Nat
  pdu : List Byte
  /-- When the first copy opened the window (monotonic time). -/
  at_ : Nat
  deriving DecidableEq, Repr

/-- A safety subscription beside its objects (R317–R319): the sequence number, `TIME` and receipt time of the last accepted
frame, and the open windows, oldest first. -/
structure SubSt where
  last : Option (Nat × Nat × Nat)
  wins : List SafeWin
  /-- When a frame was last accepted (monotonic time). -/
  heard : Nat
  deriving DecidableEq, Repr

/-- Breakwater, the guard cores and the safety layer (R298–R325). -/
structure BwSt where
  /-- The active parameter set (R313): numbers by key, unlisted ones at their default. The objects hold the edit set. -/
  act : List (Nat × Int)
  /-- The filtered causes present at the inputs (Table 13-1), enabled or not. -/
  raw : Nat
  /-- The latches of the two halves (R298, R304); `BW_LATCHED` shows their OR. -/
  halfA : Nat
  halfB : Nat
  /-- SELF: not yet released since power-up; the guard heartbeat is lost. -/
  powerUp : Bool
  hbLost  : Bool
  /-- The oscillator has stopped: nothing latches until it returns (Table 13-11). -/
  rcDead  : Bool
  /-- The guard force (R299), asserted by a guard function or a BLOCK pin mismatch. -/
  force   : Bool
  /-- Less than `BW_INJECT_MIN` has passed since the latch (R305). -/
  minOpen : Bool
  /-- When the latch was last set, and when LOR_N last armed the reset (monotonic time). -/
  latchAt : Nat
  armedAt : Nat
  /-- Consecutive cycles in which a guarded channel was not VALID (Table 13-2, function 4). -/
  miss : List (Nat × Nat)
  /-- LOR_N was held low beyond 10 s and has not been high for 1 s since (R310). -/
  lorStuck : Bool
  /-- SEQ of the next safety frame (R315). -/
  txSeq : Nat
  subs : List (Nat × SubSt)
  deriving DecidableEq, Repr


/-- A takeover in progress (R337): elapsed time of the detection, warm or cold, whether the checkpoint has been loaded, and
the last frame of the old active module as second · C + cycle. -/
structure TakeSt where
  at_    : Nat
  warm   : Bool
  loaded : Bool
  frame  : Nat
  deriving DecidableEq, Repr

/-- An exercise in its dwell (R346): the cycle and the monotonic time of the handover, the epoch before it, the strands on which
a valid frame of the partner's new epoch came within G cycles. -/
structure DwellSt where
  start : Nat
  at_   : Nat
  epoch : Nat
  seen  : Nat
  deriving DecidableEq, Repr

/-- Pair mode (R326–R349). -/
structure PairCtl where
  /-- The latest complete checkpoint held. -/
  cp : Option Checkpoint
  /-- The partner's last status. -/
  status : Option PairStatus
  /-- The last frame heard from the partner on a strand lane, as second · C + cycle. -/
  heard : Nat
  take : Option TakeSt
  /-- ACTIVE until the boundary after the last frame sent: outputs are still driven (R329). -/
  leaving : Bool
  /-- The pair link was down: mirrored objects and a checkpoint must arrive before the standby is ready (R334). -/
  resync : Bool
  /-- Time in ns of TAI at which the checkpoint being sent will have left. -/
  sendEnd : Nat
  /-- The run last committed, as second · C + cycle (R337). -/
  lastRun : Nat
  /-- Slots of repetitive channels written since the last checkpoint: channel, slot, value. -/
  slots : List (Nat × Nat × F64)
  /-- HEALTH asks to hand control over (R346); since when (monotonic time). -/
  yielding : Bool
  yieldAt  : Nat
  dwell : Option DwellSt
  /-- When the standby last became ready (R345, monotonic time). -/
  readyAt : Nat
  /-- Loopback delays measured, of each strand: sum in 125 ps and frames, up to 16 (R342). -/
  loops : List (Nat × Nat × Nat)
  deriving DecidableEq, Repr

/-- A subscription of a session (R372). -/
structure Subscr where
  slot : Nat
  id   : Nat
  mode : Nat
  period : Nat
  keys : List Nat
  events : Nat
  /-- The values last sent, for CHANGE. -/
  last : List (List Byte)
  /-- Event records waiting: event, source, TIME96; newest last. -/
  recs : List (Nat × Nat × Int)
  overflow : Bool
  /-- The boundary at which a PERIODIC subscription last sampled; when a CHANGE subscription last compared (monotonic time). -/
  at_ : Nat
  deriving DecidableEq, Repr

/-- A response kept for repetition (R362). -/
structure Kept where
  seq : Nat
  opcode : Nat
  status : Nat
  payload : List Byte
  deriving DecidableEq, Repr

/-- One session slot beside its objects (R359–R366). -/
structure SesSt where
  /-- The generation count g of the slot (R365); 0 before its first use. -/
  gen : Nat
  user : Option Nat
  roleReq : Nat
  flags : Nat
  nC : List Byte
  nM : List Byte
  port : Nat
  addr : List Byte
  kMac : List Byte
  kEnc : List Byte
  /-- Elapsed time of the challenge, and of the last valid request. -/
  tChal : Nat
  tLast : Nat
  /-- The highest sequence accepted, and the last 16 responses, newest first. -/
  seqHigh : Nat
  kept : List Kept
  /-- The module's own message sequence. -/
  txSeq : Nat
  deriving DecidableEq, Repr

/-- A DOMAIN transfer (R371). -/
structure Transfer where
  id    : Nat
  slot  : Nat
  key   : Nat
  isWrite : Bool
  total : Nat
  data  : List Byte
  /-- Offset and length of the last write block. -/
  lastOff : Nat
  lastLen : Nat
  /-- Elapsed time of the last block. -/
  tLast : Nat
  deriving DecidableEq, Repr

/-- One entry of the peer table (R363). -/
structure Peer where
  node : Nat
  role : Nat
  order : Nat
  flags : Nat
  addr : List Byte
  tLast : Nat
  deriving DecidableEq, Repr

/-- A change-log record before its number and link (Table 15-8). -/
structure LogRec where
  time : Int
  kind : Nat
  org  : Origin
  index : Nat
  sub : Nat
  type : Nat
  aux : Nat
  old : List Byte
  new : List Byte
  deriving DecidableEq, Repr

/-- A firmware slot in NOR (R374). -/
structure FwSlot where
  image : List Byte
  version : Nat
  deriving DecidableEq, Repr

/-- Host access: sessions, subscriptions, transfers, peers, log, firmware (R350–R381). -/
structure HostSt where
  sessions : List (Nat × SesSt)
  subs : List Subscr
  transfers : List Transfer
  nextTransfer : Nat
  peers : List Peer
  /-- Elapsed time of the last conflicting HELLO. -/
  tConflict : Nat
  /-- Failed proofs of a user: elapsed times, newest first (R367). -/
  fails : List (Nat × Nat)
  /-- JTAG and core debug are open for a session slot (R367). -/
  debug : Option Nat
  /-- Log records that wait for NOR, oldest first, and those programmed, oldest first. -/
  logWait : List LogRec
  log : List (List Byte)
  /-- The writers' refusal of R377 holds. -/
  logLimit : Bool
  /-- Records lost since the last GAP record. -/
  logGap : Nat
  /-- Groups accepted and not yet in effect, in acceptance order; their next number. -/
  groups : List Group
  nextGroup : Nat
  /-- The stored configuration in NOR (R427): numbers and byte strings of the writable objects. -/
  storedNum : List (Nat × Int)
  storedBytes : List (Nat × List Byte)
  stored : Bool
  /-- The firmware slots, and the elapsed time at which the running slot started. -/
  fw0 : FwSlot
  fw1 : FwSlot
  tFw : Nat
  /-- Boots of the running slot that failed in a row (R374). -/
  fwFails : Nat
  /-- The raw rings' next descriptor (R373): receive, transmit. -/
  rxHead : Nat
  txHead : Nat
  /-- The ring index last written to `HOST_RAW_TX_TAIL` and not yet served (R373). -/
  txTail : Option Nat
  /-- `TB_STEP_COUNT` at the last timestamp of each ring (R206). -/
  rxSteps : Int
  txSteps : Int
  /-- The TAI second of the last tag failure that raised event 162 (R359). -/
  tagSec : Option Nat
  /-- The sequence number of the PRP trailer and of the supervision frames, and the trailers received within 400 ms: source
  address, sequence number, LAN, elapsed time (R357). -/
  prpSeq : Nat
  prpSup : Nat
  /-- When the last HELLO and the last supervision frame went out (R357, R363, monotonic time). -/
  helloAt : Nat
  prpAt   : Nat
  prpSeen : List (List Byte × Nat × Nat × Nat)
  /-- `FW_ACTIVATE` took effect: the reset into the other slot is due (R374). -/
  fwDue : Bool
  deriving DecidableEq, Repr

/-- What one core's local window holds (R146, R355, R356). -/
structure WinSt where
  /-- The open group, oldest entry first; none when closed. -/
  group : Option (List Entry)
  status : Nat
  seconds : Nat
  cycle : Nat
  /-- Interrupt lines pending and enabled (Table 18-3). -/
  pend : BitVec 64
  enable : BitVec 64
  deriving DecidableEq, Repr

/-- The kinds of frame the module sends on Ethernet. -/
inductive EthKind where
  | hello | zoa | ptp | safety | prp | raw | phasor
  deriving DecidableEq, Repr

/-- What the module and the cells show the outside. -/
inductive Output where
  /-- Words sent on a strand lane from its sync word on (R43). -/
  | lane (lane : Nat) (words : List Word)
  /-- What a lane's transmitter sends from now on where it sends no frame. -/
  | laneFill (lane : Nat) (fill : LaneFill)
  /-- The word a cell sends from now on out of a port where it forwards no frame; none unpowered (R37, R76, R84, R85). -/
  | cellFill (cell : Nat) (portB : Bool) (word : Option Word)
  /-- Words a cell sends out of a port (`false` A, `true` B). -/
  | cell (cell : Nat) (portB : Bool) (words : List Word)
  /-- The answered mailbox of a cell (R72). -/
  | mailbox (cell : Nat) (mbx : BitVec 128)
  /-- A ZOA response: session slot, sequence, opcode, status, payload. -/
  | response (slot seq opcode status : Nat) (payload : List Byte)
  /-- A ZOA module message: session slot, opcode, flags, sequence, payload. -/
  | message (slot opcode flags seq : Nat) (payload : List Byte)
  /-- A frame on an Ethernet port. -/
  | ether (port : Nat) (kind : EthKind) (payload : List Byte)
  /-- A value a core's read gets. -/
  | core (core : Nat) (value : Nat)
  /-- An access fault at a core. -/
  | coreFault (core : Nat) (address : Nat)
  /-- An illegal-instruction exception at a core: the CSR read. -/
  | coreTrap (core : Nat) (csr : Nat)
  /-- A pulse of a generator: its start in 2⁻¹⁶ ns, its width in ns, its level. -/
  | pulse (gen : Nat) (start width : Nat) (high : Bool)
  /-- A CAN frame begun on a bus: identifier word, flags, data. -/
  | can (ctl : Nat) (id : Nat) (flags : Nat) (data : List Byte)
  /-- A checkpoint sent on the pair link (R332). -/
  | checkpoint (cp : Checkpoint)
  /-- The per-cycle status on the pair link: mode, HEALTH, readiness, the run last committed, the mean loopback delay of each
  strand in ns (R330, R337, R342). -/
  | status (mode health : Nat) (ready : Bool) (lastRun : Nat) (loops : List (Nat × F32))
  /-- The sequencer's instance data on the pair link (R332). -/
  | instances (data : List (Nat × SeqData))
  /-- A write mirrored on the pair link: the writer's role, the entries, the apply second and cycle (R334). -/
  | mirror (role : Nat) (entries : List Entry) (sec cycle : Nat)
  /-- The command bank of a strand relayed to the standby (R343). -/
  | relay (strand : Nat) (bank : List (BitVec 48))
  /-- The slots of a frame returned in split service, relayed to the active module (R343). -/
  | slots (strand : Nat) (slots : List (BitVec 128))
  /-- The levels of a pin group: 0 BLOCK, 1 HEALTH, 2 field outputs, 3 PWM, 4 the block pattern on every strand lane that is
  not OFF and on PL0 and PL1. -/
  | pins (group : Nat) (levels : Nat)
  deriving DecidableEq, Repr

/-- The module without its memories and its command queue. -/
structure Dev where
  /-- The objects' numbers in force, by key; an unlisted key reads its default. -/
  objs : List (Nat × Int)
  /-- The objects' byte strings in force; an unlisted key reads as the empty string. -/
  blobs : List (Nat × List Byte)
  /-- RESTART values held until their block starts (R352). -/
  held : List (Nat × Held)
  /-- Counts the free values taken (the model's own field: assumption log 1). -/
  free : Nat
  tm : TimeSt
  fm : FmSt
  cyc : CycSt
  lanes : List (Nat × LaneSt)
  strands : List (Nat × StrandSt)
  cells : List (Nat × CellSt)
  ctls : List (Nat × CellCtl)
  wins : List (Nat × WinSt)
  host : HostSt
  /-- The modulation engines of arm groups 0 and 1. -/
  mods : List (Nat × ModSt)
  /-- The loop engine, the repetitive channels and the supervision entries. -/
  loop : LoopSt
  reps : List (Nat × RepCh)
  svs : List (Nat × SvSt)
  /-- The measurement front end. -/
  meas : MeasSt
  /-- The time subsystem. -/
  time : TimeSub
  /-- Tidepool and the travelling-wave service. -/
  tide : TideSt
  /-- The phasor engine. -/
  ph : PhSt
  /-- The Stable. -/
  stb : StbSt
  /-- The field channels and the PWM. -/
  fio : FioSt
  pwm : PwmSt
  /-- The sequencer runtime. -/
  seq : SeqSt
  /-- The CAN controllers. -/
  cans : List (Nat × CanCtl)
  /-- Breakwater and the safety layer. -/
  bw : BwSt
  /-- Pair mode. -/
  pair : PairCtl
  /-- Events raised and not yet carried to the Stable, the pools and the masks, oldest first. -/
  evq : List Raised
  /-- What was sent, newest first. -/
  outs : List Output
  deriving DecidableEq, Repr

/-- The whole machine: the module, the memories of Table 11-1 as sparse bytes, and the waiting commands, first in,
first out. -/
structure State where
  dev : Dev
  mem : List Host.Cell
  pending : List Instr
  deriving DecidableEq, Repr

def TimeSt.reset : TimeSt :=
  { now := 0, mono := 0, steps := 0, lastT := 0, started := false, timeclk := true, refclk := true }

def FmSt.reset : FmSt :=
  { queue := [], first := none, nvLockout := false, bootL4 := false, fromConfig := false, requests := [],
    resetDue := false, resetAt := 0, clk := 0, routes := [] }

def CycSt.reset : CycSt :=
  { phase := .idle, runSeq := 0, due := false, takeover := 0, clearFrames := 0, enumOk := false, tin := false, lastMode := 0,
    loopEnd := 0, undo := [] }

def LaneSt.init : LaneSt :=
  { los := false, gateBad := false, misses := 0, synced := false, blocked := false, train := 0, trainC := 0, blockRun := 0,
    prbs := [], gotCycle := none, unfolded := false, lbFill := 4, idle := false, fill := .electricalIdle }

def StrandSt.init : StrandSt :=
  { rtSum := 0, rtCount := 0, rtSumB := 0, rtCountB := 0, rtPath := 0xFF, pathFrames := 0, pathFramesB := 0, healLeft := 0, healArmed := true, allPresent := 0,
    txn := none, tag := 0, enum := .idle, sinceAssign := 0, join := none, joinFrames := 0, delays := [],
    probeNext := 0, probeDue := false, software := none, launch := 0, bank := [], next := none, foldA := false, foldB := false, budget := [] }

def CellSt.init : CellSt :=
  { present := false, fromA := true,
    rx := { vcap := 0, status := 0, temp := 0, fault := 0, seq := 0, edge := 0 }, vValid := false, vcap := 0, cmd := 0#48,
    prevCmd := 0#48, prior := 0, clear := false, seen := false, want := false, joinClear := false, turn := none, joinAt := 0,
    tmti := 0, key := 0, settled := 0 }

def CellCtl.init : CellCtl :=
  { powered := false, uid := 0#64, cap0 := 0#64, cap1 := 0#64, cap2 := 0#64, vendor := [], pos := none, cfgPos := none,
    delayA := 0xFFFFFFFF, delayB := 0xFFFFFFFF, eLast := none, state := 0, fault := 0, faultLog := [], cmds := [],
    taken := none, seqEcho := 0, seqValid := false, cmdBad := false, repeated := false, holding := false, folding := false,
    epochReject := false, bypassClosed := false, closeSeq := none, closeReady := false, portA := false, portB := false,
    defectA := false, defectB := false, blocking := false, tk := 0, sk := 0, apply := 0, lead := 0, seen := [],
    loops := [], lastMove := 0, edgeDelay := 0xFFFF, vcap := 0, applied := 0, temp := 0, tTaken := none, missed := 0, errA := 0,
    errB := 0, rejects := 0, holds := 0, tCycle := 0, clearReq := false }

def WinSt.init : WinSt :=
  { group := none, status := 0, seconds := 0, cycle := 0, pend := 0#64, enable := 0#64 }

def SesSt.init : SesSt :=
  { gen := 0, user := none, roleReq := 0, flags := 0, nC := [], nM := [], port := 0, addr := [], kMac := [], kEnc := [],
    tChal := 0, tLast := 0, seqHigh := 0, kept := [], txSeq := 0 }

def HostSt.reset : HostSt :=
  { sessions := [], subs := [], transfers := [], nextTransfer := 1, peers := [], tConflict := 0, fails := [],
    debug := none, logWait := [], log := [], logLimit := false, logGap := 0, groups := [], nextGroup := 0, storedNum := [],
    storedBytes := [], stored := false, fw0 := { image := [], version := 0 }, fw1 := { image := [], version := 0 }, tFw := 0,
    fwFails := 0, rxHead := 0, txHead := 0, txTail := none, rxSteps := 0, txSteps := 0, tagSec := none, prpSeq := 0, prpSup := 0,
    helloAt := 0, prpAt := 0,
    prpSeen := [], fwDue := false }

def ModSt.init : ModSt :=
  { rank := [], parity := false, sorted := false, satRun := false, disRun := false, invalid := 0, ins := 0, stage := none,
    written := false }
def InstAux.init : InstAux := { buf := [], timer := 0, fresh := false }
def LoopSt.reset : LoopSt := { snap := [], tp := 0, aux := [], stage := [], resets := [] }
def RepCh.init : RepCh := { mem := [], ptr := 0, left := 0, cause := false, stage := none }
def SvSt.init : SvSt :=
  { window := [], saved := none, agree := 0, lossEx := false, freezeEx := false, subst := false, tripDue := false,
    causes := 0 }
def MeasPath.init : MeasPath := { last := none, samples := [], held := ⟨0, 0, 0, 1⟩, fresh := false }
def MeasCh.init : MeasCh := { fine := .init, fast := .init, start := 0, settleAt := 0, hist := [] }
def PairSt.init : PairSt := { lpA := none, lpB := none, window := [], clean := 0 }
def DiagSt.init : DiagSt := { pos := none, since := 0, ready := false, results := [], start := 0 }
def MeasSt.reset : MeasSt := { chans := [], pairs := [], diag0 := .init, diag1 := .init, anchors := [(0, 1)] }
def PtpPort.init : PtpPort :=
  { master := none, wait := none, link := 0, seen := false, bad := false, ratio := [], reqSeq := 0, reqAt := none, respAt := 0, fwd := [] }
def PtpSt.reset : PtpSt :=
  { integral := 0#64, rho := 0#64, lockRun := 0, unlockRun := 0, ys := [], drift := 0, driftAt := 0, driftSync := 0,
    driftIn := 0, errIn := 0xFFFFFFFF, synced := false, after := 0, afterY := 0, moved := false, softDue := 0,
    servoDue := false, stepAt := none, leftLock := none, lockAt := none, leapAt := none, leapSec := none }
def PulseSt.init : PulseSt := { due := none }
def TsuSt.init : TsuSt := { fifo := [], lost := false, seq := 0 }
def RtcSt.reset : RtcSt := { base := 0, at0 := 0, lastDisc := none, measured := false }
def TimeSub.reset : TimeSub := { ptp := .reset, ports := [], pulse := [], tsus := [], rtc := .reset }
def TpCond.init : TpCond := { th := 0, hi := 0, hyst := 0, armed := false }
def TpPool.init : TpPool :=
  { slot := none, samples := [], written := 0, recent := [], post := 0, trig := none, after := 0, readyAt := 0, event := false,
    auto := false, force := false, gap := false, full := false, recs := [] }
def TwLine.init : TwLine := { locals := [], remotes := [] }
def TideSt.reset : TideSt := { pools := [], conds := [], lines := [] }
def PhStream.init : PhStream := { dest := [], last := none, since := 0 }
def PhSet.init : PhSet := { last := none, error := false }
def PhSt.reset : PhSt := { streams := [], sets := [], changed := false, stopped := false }
def TaskSt.init : TaskSt := { relAt := 0, grantAt := 0, pend := none, missed := false, overB := false, off := false,
                                next := 0 }
def CoreSt.init : CoreSt :=
  { held := none, heldAt := 0, slot := none, slotAt := 0, pref := false, wdt := false, busy := 0, loadFrom := 0 }
def StbSt.reset : StbSt :=
  { tasks := [], cores := [], fifos := [], credit := [], asking := [], askClk := 0, holding := [], waiting := [], queue := [],
    tlBuf := [], tlLost := 0, tlFull := false, unread := 0 }
def FioSt.reset : FioSt :=
  { raw := 0, since := [], disAt := [], dis := 0, limit := 0, thermal := 0, thermAt := [], kickAt := 0, wdt := false,
    survey := none, surveyAt := 0, linkAt := 0, drive := 0 }
def PwmTimer.init : PwmTimer :=
  { run := false, next := none, start := 0, wPer := false, wCmp := false, wDt := false, commit := false, dt := 0, a := false,
    b := false, rising := none, riseAt := 0, edges := 0, hold := false, frozen := [], restart := false, removed := false, starts := 0 }
/-- The Breakwater latch is set at reset: its trip source is active from the start. -/
def PwmSt.reset : PwmSt := { timers := [], pins := 0, active := 4, levels := 0 }
def SeqSt.reset : SeqSt :=
  { staged := [], valid := none, prog := { version := 0, insts := [], vars := [] }, data := [], prev := none,
    swapped := false, dropped := [], heard := [], rx := [], tx := [] }
def CanCtl.init : CanCtl :=
  { joined := false, reqs := [], attempt := none, recover := false, done := [], seq := 0, lost := false, stations := [] }
def SubSt.init : SubSt := { last := none, wins := [], heard := 0 }
/-- Breakwater powers up with SELF present and latched in both halves (R312). -/
def BwSt.reset : BwSt :=
  { act := [], raw := 0, halfA := 0x8000, halfB := 0x8000, powerUp := true, hbLost := false, rcDead := false, force := false, minOpen := false, latchAt := 0,
    armedAt := 0, miss := [],
    lorStuck := false, txSeq := 0, subs := [] }
def PairCtl.reset : PairCtl :=
  { cp := none, status := none, heard := 0, take := none, leaving := false, resync := false, sendEnd := 0, lastRun := 0,
    slots := [], yielding := false, yieldAt := 0, dwell := none, readyAt := 0, loops := [] }

/-- The module right after reset: every object at its default, every internal register empty (R428).
Internal registers without a reset value in the manual hold what the `reset` and `init` definitions above name
(DESIGN CHOICE: assumption log 2). -/
def Dev.reset : Dev :=
  { objs := [], blobs := [], held := [], free := 0, tm := .reset, fm := .reset, cyc := .reset, lanes := [], strands := [],
    cells := [], ctls := [], wins := [], host := .reset,
    mods := [],
    loop := .reset, reps := [], svs := [],
    meas := .reset,
    time := .reset,
    tide := .reset,
    ph := .reset,
    stb := .reset,
    fio := .reset, pwm := .reset,
    seq := .reset,
    cans := [],
    bw := .reset,
    pair := .reset,
    evq := [], outs := [] }

/-- The machine right after reset: BOOT with the Breakwater latch set through SELF, no memory listed, no command
(DESIGN CHOICE: assumption logs 3 and 5). -/
def State.reset : State := { dev := .reset, mem := [], pending := [] }

end Sys2Proof.Machine
end

