-- ==== Sys2Proof/Machine/Ops.lean ====
section
/-! DEFINITION. The shared operations over the module's state: reading and writing objects, time, free values, outputs,
events (R420–R423), the fault manager (R430–R437), the arm state machine (R101) and the change of mode (R425). -/

namespace Sys2Proof.Machine

open Sys2Proof

/-- The source number of an event, or of a fault record by its code, where the chapter names none for it. (DESIGN CHOICE:
assumption log 6) -/
def noSource (code : Nat) : Nat := Config.openSource code % 65536

namespace Dev

/-- The number an object holds. -/
def get (d : Dev) (k : Nat) : Int := SMap.get (objDefault k) d.objs k

/-- The number an object holds, as a natural number. -/
def getN (d : Dev) (k : Nat) : Nat := (d.get k).toNat

/-- Whether an object is not zero. -/
def on (d : Dev) (k : Nat) : Bool := d.get k != 0

/-- The F32 an object holds. -/
def getF (d : Dev) (k : Nat) : F32 := BitVec.ofInt 32 (d.get k)

/-- The F64 an object holds. -/
def getD (d : Dev) (k : Nat) : F64 := BitVec.ofInt 64 (d.get k)

/-- Write an object's number. -/
def set (k : Nat) (v : Int) (d : Dev) : Dev := { d with objs := SMap.set (objDefault k) d.objs k v }

/-- Write an object's number, given as a natural number. -/
def setN (k : Nat) (v : Nat) (d : Dev) : Dev := d.set k (v : Int)

/-- Write an F32 object. -/
def setF (k : Nat) (v : F32) (d : Dev) : Dev := d.set k (v.toNat : Int)

/-- Write an F64 object. -/
def setD (k : Nat) (v : F64) (d : Dev) : Dev := d.set k (v.toNat : Int)

/-- Write a flag object. -/
def setB (k : Nat) (v : Bool) (d : Dev) : Dev := d.set k (if v then 1 else 0)

/-- Count one: the counters wrap at 2³² − 1 (R29 and its likes). -/
def inc (k : Nat) (d : Dev) : Dev := d.set k ((d.get k + 1) % 4294967296)

/-- Count `n`. -/
def add (k : Nat) (n : Nat) (d : Dev) : Dev := d.set k ((d.get k + n) % 4294967296)

/-- Set or clear one bit of an object. -/
def setBit (k b : Nat) (v : Bool) (d : Dev) : Dev :=
  let x := d.getN k
  let cleared := x - (if x.testBit b then 2 ^ b else 0)
  d.setN k (if v then cleared + 2 ^ b else cleared)

/-- One bit of an object. -/
def bit (d : Dev) (k b : Nat) : Bool := (d.getN k).testBit b

/-- The byte string an object holds. -/
def blob (d : Dev) (k : Nat) : List Byte := SMap.get [] d.blobs k

/-- Write a byte-string object. -/
def setBlob (k : Nat) (v : List Byte) (d : Dev) : Dev := { d with blobs := SMap.set [] d.blobs k v }

/-- The internal state of a lane. -/
def lane (d : Dev) (l : Nat) : LaneSt := SMap.get LaneSt.init d.lanes l
def setLane (l : Nat) (x : LaneSt) (d : Dev) : Dev := { d with lanes := SMap.set LaneSt.init d.lanes l x }
/-- The internal state of a strand. -/
def strand (d : Dev) (s : Nat) : StrandSt := SMap.get StrandSt.init d.strands s
def setStrand (s : Nat) (x : StrandSt) (d : Dev) : Dev := { d with strands := SMap.set StrandSt.init d.strands s x }
/-- The module's view of a cell. -/
def cell (d : Dev) (n : Nat) : CellSt := SMap.get CellSt.init d.cells n
def setCell (n : Nat) (x : CellSt) (d : Dev) : Dev := { d with cells := SMap.set CellSt.init d.cells n x }
/-- A cell controller. -/
def ctl (d : Dev) (n : Nat) : CellCtl := SMap.get CellCtl.init d.ctls n
def setCtl (n : Nat) (x : CellCtl) (d : Dev) : Dev := { d with ctls := SMap.set CellCtl.init d.ctls n x }
/-- The local window and the interrupt lines of a core. -/
def win (d : Dev) (c : Nat) : WinSt := SMap.get WinSt.init d.wins c
def setWin (c : Nat) (x : WinSt) (d : Dev) : Dev := { d with wins := SMap.set WinSt.init d.wins c x }

/-- Take a free value. (DESIGN CHOICE: assumption log 1) -/
def takeFree (d : Dev) : Nat × Dev := (Config.freeValue d.free, { d with free := d.free + 1 })

/-- Send something to the outside. (DESIGN CHOICE: assumption log 8) -/
def send (o : Output) (d : Dev) : Dev := { d with outs := o :: d.outs }

/-- The PRP redundancy control trailer of IEC 62439-3 for LAN 0 or 1 and a frame of `len` bytes after its Ethertype. (PRESUMED:
assumption log 10) -/
def prpTrailer (seq lan len : Nat) : List Byte := bytesBE 2 seq ++ bytesBE 2 ((0xA + lan) * 4096 + len % 4096) ++ [0x88#8, 0xFB#8]

/-- Whether an address is IPv4, mapped into IPv6. -/
def isV4 (a : List Byte) : Bool := decide (a.take 12 = List.replicate 10 0#8 ++ [0xFF#8, 0xFF#8])

/-- Send a datagram of the host path to a destination of 18 bytes (address and port), shown before its payload: on one port,
or with `HOST_PRP` on both LANs with the trailer (R357). (PRESUMED: assumption log 10) -/
def hostSend (port : Nat) (kind : EthKind) (dest msg : List Byte) (d : Dev) : Dev :=
  if d.on Obj.HOST_PRP then
    let n := d.host.prpSeq
    let len := (if isV4 dest then 28 else 48) + msg.length + 6
    let d := { d with host := { d.host with prpSeq := (n + 1) % 65536 } }
    (d.send (.ether 0 kind (dest ++ msg ++ prpTrailer n 0 len))).send (.ether 2 kind (dest ++ msg ++ prpTrailer n 1 len))
  else d.send (.ether port kind (dest ++ msg))

end Dev

/-! The status codes of Table 15-5. -/

abbrev Status.ok : Nat := 0x00
abbrev Status.noObject : Nat := 0x01
abbrev Status.noSub : Nat := 0x02
abbrev Status.type : Nat := 0x03
abbrev Status.range : Nat := 0x04
abbrev Status.role : Nat := 0x05
abbrev Status.readOnly : Nat := 0x06
abbrev Status.state : Nat := 0x07
abbrev Status.budget : Nat := 0x08
abbrev Status.busy : Nat := 0x09
abbrev Status.auth : Nat := 0x0A
abbrev Status.seq : Nat := 0x0B
abbrev Status.locked : Nat := 0x0C
abbrev Status.tooLong : Nat := 0x0D
abbrev Status.groupFail : Nat := 0x0E
abbrev Status.postTooLarge : Nat := 0x0F
abbrev Status.tripActive : Nat := 0x10

/-! Time. -/

/-- One nanosecond, in the time base's units of 2⁻³² ns. -/
def nsUnit : Nat := 4294967296

/-- One second. -/
def secUnit : Nat := 1000000000 * nsUnit

/-- The TIME96 of a time, as a number: seconds · 2⁴⁸ + nanoseconds · 2¹⁶ + fraction (R194). -/
def time96 (t : Nat) : Int :=
  let s := t / secUnit
  ((s % 281474976710656) * 281474976710656 + (t % secUnit) / 65536 : Nat)

/-- The time a TIME96 number stands for. -/
def time96Units (v : Int) : Nat :=
  let n := v.toNat
  (n / 281474976710656) * secUnit + (n % 281474976710656) * 65536

/-- The 12 bytes of a TIME96, little-endian fields. -/
def time96LE (v : Int) : List Byte :=
  let n := v.toNat
  bytesLE 6 (n / 281474976710656) ++ bytesLE 4 ((n % 281474976710656) / 65536) ++ bytesLE 2 (n % 65536)

/-- The 12 bytes of a TIME96, big-endian fields. -/
def time96BE (v : Int) : List Byte :=
  let n := v.toNat
  bytesBE 6 (n / 281474976710656) ++ bytesBE 4 ((n % 281474976710656) / 65536) ++ bytesBE 2 (n % 65536)

namespace Dev

/-- The present TIME96. -/
def now96 (d : Dev) : Int := time96 d.tm.now

/-- The present TAI second. -/
def second (d : Dev) : Nat := d.tm.now / secUnit

/-- Let time pass, in 2⁻³² ns. -/
def pass (u : Nat) (d : Dev) : Dev := { d with tm := { d.tm with now := d.tm.now + u, mono := d.tm.mono + u } }

end Dev

/-- The cycle time of a code of Table 01-1, in ns. -/
def tcNs (code : Nat) : Nat :=
  match code with
  | 0 => 2500 | 1 => 3200 | 2 => 4000 | 3 => 5000 | 4 => 6250 | 5 => 8000 | 6 => 10000 | 7 => 12500 | 8 => 16000
  | 9 => 20000 | 10 => 25000 | 11 => 31250 | 12 => 40000 | 13 => 50000 | 14 => 62500 | 15 => 80000 | 16 => 100000
  | _ => 10000

/-- Cycles per second at a code. -/
def cyclesPerSecond (code : Nat) : Nat := 1000000000 / tcNs code

namespace Dev

/-- Tc in ns. -/
def tc (d : Dev) : Nat := tcNs (d.getN Obj.CYC_TC)

/-- The operating mode (Table 18-4). -/
def mode (d : Dev) : Nat := d.getN Obj.SYS_MODE

end Dev

/-- The mode codes of Table 18-4. -/
abbrev Mode.boot : Nat := 0
abbrev Mode.config : Nat := 1
abbrev Mode.charge : Nat := 2
abbrev Mode.ready : Nat := 3
abbrev Mode.run : Nat := 4
abbrev Mode.lockout : Nat := 5

/-! Events (R420–R423). -/

/-- Set the pending bit of a line at a core (R423): one occurrence is held. (DESIGN CHOICE: assumption log 75) -/
def WinSt.pendLine (x : WinSt) (line : Nat) : WinSt := { x with pend := x.pend ||| BitVec.ofNat 64 (2 ^ line) }

/-- Carry an event to its line at each core of the mask, from core `c` down. -/
def pendCores : Nat → Nat → Nat → Dev → Dev
  | 0, _, _, d => d
  | c + 1, mask, line, d =>
    let d := if mask.testBit c then d.setWin c ((d.win c).pendLine line) else d
    pendCores c mask line d

/-- Add an event record to the EVENTS subscriptions that name it (R372): 64 wait at most, then OVERFLOW. -/
def Subscr.note (e src : Nat) (t : Int) (x : Subscr) : Subscr :=
  if x.mode = 2 ∧ x.events.testBit e then
    if x.recs.length < 64 then { x with recs := x.recs ++ [(e, src, t)] } else { x with overflow := true }
  else x

namespace Dev

/-- The value of a routing object that an event of the present fabric clock follows: at a boundary that of before (R422). -/
def routing (d : Dev) (k : Nat) : Nat := (d.fm.routes.lookup k).getD (d.getN k)

/-- Raise event `e` with its source number (R420): it is stamped and counted, reaches its interrupt lines and the EVENTS
subscriptions at once, and waits in `evq` to be carried to the Stable, the pools and the masks. -/
def signal (e src : Nat) (d : Dev) : Dev :=
  let d := d.inc (Obj.EVT_COUNT e)
  let d := d.set (Obj.EVT_LAST e) d.now96
  let d := d.setN (Obj.EVT_LAST_SRC e) src
  let d := pendCores 8 (d.routing (Obj.EVT_CORES e)) (d.routing (Obj.EVT_LINE e)) d
  { d with
    host := { d.host with subs := d.host.subs.map (Subscr.note e src d.now96) },
    evq := d.evq ++ [{ event := e, pools := d.routing (Obj.EVT_TP e), masks := d.routing (Obj.EVT_PWM e) }] }

/-- Raise an event whose chapter writes its source to an object first. -/
def signalAt (srcObj e src : Nat) (d : Dev) : Dev := (d.setN srcObj src).signal e src

/-- Whether a wait of `u` units begun at `since` can have ended. The model's time stands at the start of the cycle in progress,
so up to one Tc more may have passed, and it stands while TIMECLK does; a command that tells the end of a wait earlier than
that changes nothing. (DEDUCED: assumption log 67) -/
def waited (d : Dev) (since u : Nat) : Bool := !d.tm.timeclk || decide (since + u ≤ d.tm.mono + d.tc * nsUnit)

/-- The same of a wait that the field die times on its own oscillator, within ±5 % (R389). -/
def waitedField (d : Dev) (since u : Nat) : Bool := d.waited since (u * 95 / 100)

/-- Count a broken guarantee of a rank (R31). -/
def broken (rank : Nat) (d : Dev) : Dev := d.inc (Obj.CYC_BROKEN (rank - 1))

end Dev

/-! The fault manager (R430–R437). -/

/-- Whether a record of a level is active when stored (R433). (DEDUCED: assumption log 70) -/
def activeOf (level : Nat) (cause : Bool) : Bool := decide (2 ≤ level) || (level == 1 && cause)

/-- The arm groups an L3 record names: 0 names both (R432). -/
def l3Arms (arms : Nat) : Nat := if arms = 0 then 3 else arms

/-- The highest level among active records. -/
def activeLevel (q : List FaultRec) : Nat := q.foldl (fun m r => if r.active then max m r.level else m) 0

/-- The union of the arm groups of the active L3 records. -/
def activeArms (q : List FaultRec) : Nat :=
  q.foldl (fun m r => if r.active && r.level == 3 then m ||| l3Arms r.arms else m) 0

/-- Remove the oldest inactive record; none when every record is active. -/
def dropInactive : List FaultRec → Option (List FaultRec)
  | [] => none
  | r :: t => if r.active then (dropInactive t).map (r :: ·) else some t

/-- A record of the present fabric clock, whose records are numbered from `clk` + 1 on, that is stored behind one of `code`:
those of one clock are stored in ascending `CODE` (R432). -/
def behind (clk code : Nat) (r : FaultRec) : Bool := decide (clk < r.number) && decide (code < r.code)

/-- The queue with a record stored (R431, R432): a free entry first, then that of the oldest inactive record; the records of
the same clock with a greater code, as `f` leaves them, stand behind it. -/
def storeIn (clk : Nat) (f : FaultRec → FaultRec) (q : List FaultRec) (r : FaultRec) : Option (List FaultRec) :=
  let later := behind clk r.code
  let put := fun (q : List FaultRec) => q.filter (fun x => !later x) ++ r :: (q.filter later).map f
  if q.length < 32 then some (put q) else (dropInactive q).map put

namespace Dev

/-- Raise a fault-manager event 146–151 with its source in `FM_EVENT_SRC` (R437). -/
def fmEvent (e src : Nat) (d : Dev) : Dev := d.signalAt Obj.FM_EVENT_SRC e (src % 65536)

/-- N_s, the configured positions of a strand. -/
def positions (d : Dev) (s : Nat) : Nat := d.getN (Obj.STR_POSITIONS s)

/-- Cell number of position p on strand s (R8). -/
def cellNo (s p : Nat) : Nat := 64 * s + p

/-- The arm group of a strand (R97). -/
def strandArm (d : Dev) (s : Nat) : Nat := d.getN (Obj.MOD_STRAND_ARM s)

/-- Cell numbers of the configured positions of a strand. -/
def strandCells (d : Dev) (s : Nat) : List Nat := (List.range (d.positions s)).map (cellNo s)

/-- Cell numbers of the configured positions of an arm group, in ascending order (R97). -/
def armCells (d : Dev) (a : Nat) : List Nat :=
  (List.range 32).flatMap fun s => if d.strandArm s = a then d.strandCells s else []

/-- N_a: the configured positions of an arm group (R97). -/
def armCount (d : Dev) (a : Nat) : Nat :=
  (List.range 32).foldl (fun n s => if d.strandArm s = a then n + d.positions s else n) 0

/-- Whether an L4 reaction or LOCKOUT stands. -/
def l4 (d : Dev) : Bool := d.getN Obj.FM_LEVEL == 4 || d.mode == Mode.lockout

/-- The state Table 04-1 gives arm group `a` now, and the reason of a block. -/
def armTarget (d : Dev) (a : Nat) : Nat × Nat :=
  if d.l4 then (0, 4)
  else if d.bit Obj.FM_ARM_L3 a then (0, 3)
  else if !(d.on (Obj.MOD_ARM_ENABLE a)) then (0, 1)
  else if d.mode = Mode.charge then (1, 0)
  else if d.mode = Mode.run then (2, 0)
  else (0, 2)

/-- The dwell limit D = ceil(`MOD_DWELL` / Tc) in cycles (R107). -/
def dwellLimit (d : Dev) (a : Nat) : Nat := (d.getN (Obj.MOD_DWELL a) * 1000 + d.tc - 1) / d.tc

/-- Bring an arm group to the state of Table 04-1 (R101): a change raises event 55 + a; entering BLOCKED or ACTIVE sets
the carry to 0, entering ACTIVE every dwell counter to its limit (R107); L3 or L4 clears `MOD_ARM_ENABLE`. -/
def armRefresh (a : Nat) (d : Dev) : Dev :=
  let (st, why) := d.armTarget a
  let d := if why = 3 ∨ why = 4 then d.set (Obj.MOD_ARM_ENABLE a) 0 else d
  if st = d.getN (Obj.MOD_ARM_STATE a) then d
  else
    let d := d.setN (Obj.MOD_ARM_STATE a) st
    let d := if st = 0 then d.setN (Obj.MOD_BLOCK_REASON a) why else d
    let d := if st = 1 then d else d.set (Obj.MOD_CARRY a) 0
    let lim := min 65535 (d.dwellLimit a)
    let d := if st = 2 then (d.armCells a).foldl (fun d n => d.setN (Obj.CELL_DWELL n) lim) d else d
    d.signal (55 + a) a

/-- Recompute `FM_LEVEL`, `FM_ARM_L3` and `FM_ACTIVE_COUNT` from the records and the overflow level (R432, R434), raise
events 147 and 148 on a change, and let the arm groups follow. (DEDUCED: assumption log 70) -/
def fmRefresh (src : Nat) (d : Dev) : Dev :=
  let q := d.fm.queue
  let lv := max (activeLevel q) (d.getN Obj.FM_OVR_LEVEL)
  let arms := activeArms q ||| d.getN Obj.FM_OVR_ARMS
  let oldLv := d.getN Obj.FM_LEVEL
  let oldArms := d.getN Obj.FM_ARM_L3
  let d := d.setN Obj.FM_LEVEL lv
  let d := d.setN Obj.FM_ARM_L3 arms
  let d := d.setN Obj.FM_ACTIVE_COUNT (q.filter (·.active)).length
  let d := if lv = oldLv then d else d.fmEvent 147 src
  let d := if arms = oldArms then d else d.fmEvent 148 src
  if lv = oldLv ∧ arms = oldArms then d else (d.armRefresh 0).armRefresh 1

/-- Store one fault record and apply its reaction up to L3 (R431, R432, R434). Records of one fabric clock, that is of one
command, stand and are numbered in ascending `CODE`, and what each applies follows from those before it. A record has its
`CAUSE` in its clock; that of a momentary happening (`cause` false) has none after it (R433). (DEDUCED: assumption log 70) -/
def storeRec (code level arms source detail : Nat) (cause : Bool) (d : Dev) : Dev :=
  let d := d.inc Obj.FM_RECORDS
  let later := behind d.fm.clk code
  let before := d.fm.queue.filter fun x => !later x
  let num := (d.fm.queue.filter later).foldl (fun m x => min m x.number) (d.getN Obj.FM_RECORDS)
  let act := activeOf level true
  let lv := max (activeLevel before) (d.getN Obj.FM_OVR_LEVEL)
  let blocked := activeArms before ||| d.getN Obj.FM_OVR_ARMS
  let names := fun (l a b : Nat) => l == 3 && l3Arms a - (l3Arms a &&& b) != 0
  let applied := act && (decide (lv < level) || names level arms blocked)
  let isFirst := decide (1 ≤ level) && (match d.fm.first with | none => true | some x => later x)
  let r : FaultRec :=
    { time := d.now96, number := num, code := code, level := level, arms := arms, active := act, cause := true,
      acked := false, applied := applied, first := isFirst, source := source % 65536, detail := detail }
  let lv' := if act then max lv level else lv
  let blocked' := if act && level == 3 then blocked ||| l3Arms arms else blocked
  let bump := fun (x : FaultRec) =>
    { x with number := x.number + 1, first := x.first && !isFirst,
             applied := x.applied && (decide (lv' < x.level) || names x.level x.arms blocked') }
  let kept := { r with active := activeOf level cause, cause := cause }
  match storeIn d.fm.clk bump d.fm.queue r, storeIn d.fm.clk bump d.fm.queue kept with
  | some q, some q' =>
    let old := d.fm.first
    let first := if isFirst then some r else old.map fun x => if later x then { x with number := x.number + 1 } else x
    let d := { d with fm := { d.fm with queue := q, first := first } }
    let d := d.fmEvent 146 num
    let d := if isFirst && old.isNone then d.fmEvent 149 num else d
    let d := d.fmRefresh num
    ({ d with fm := { d.fm with queue := q' } } : Dev).fmRefresh num
  | _, _ =>
    let n := d.getN Obj.FM_RECORDS
    let d := d.inc Obj.FM_OVERFLOW
    let d := d.setN Obj.FM_OVR_LEVEL (max 1 (max (d.getN Obj.FM_OVR_LEVEL) level))
    let d := if level = 3 then d.setN Obj.FM_OVR_ARMS (d.getN Obj.FM_OVR_ARMS ||| l3Arms arms) else d
    let d := d.fmEvent 150 n
    d.fmRefresh 0xFFFF

/-- A fabric clock ends: later records are of later clocks, and events follow the routing as it now is (R422, R432). -/
def endClock (d : Dev) : Dev := { d with fm := { d.fm with clk := d.getN Obj.FM_RECORDS, routes := [] } }

/-- Whether the module is the STANDBY of a pair (R329). -/
def standby (d : Dev) : Bool := d.getN Obj.PR_ROLE == 2

/-- Whether field outputs and PWM outputs are held (R329): a STANDBY, but for the boundary after its last frame. -/
def outputsHeld (d : Dev) : Bool := d.standby && !d.pair.leaving

/-- The HEALTH code of Table 14-4 in the present state. -/
def healthCode (d : Dev) : Nat :=
  if d.mode = Mode.lockout ∨ d.mode = Mode.boot ∨ d.on Obj.BW_STATE ∨ d.bw.hbLost ∨ d.bw.rcDead ∨ d.tm.timeclk = false then 0
  else if d.getN Obj.PR_ROLE = 2 then
    (if d.on Obj.PR_READY then (if d.getN Obj.PR_HEALTH = 2 then 2 else 1) else 0)
  else if d.getN Obj.PR_HEALTH = 3 ∧ d.getN Obj.PR_ROLE = 1 then 3
  else 1

/-- Let HEALTH follow its causes (R335). -/
def healthRefresh (d : Dev) : Dev :=
  let h := d.healthCode
  if h = d.getN Obj.PR_HEALTH then d else (d.setN Obj.PR_HEALTH h).send (.pins 1 h)

/-- Change the mode (R425): event 151, an L0 record, and the arm groups and HEALTH follow. -/
def setMode (m : Nat) (d : Dev) : Dev :=
  let d := d.setN Obj.SYS_MODE m
  let d := d.set Obj.SYS_MODE_SINCE d.now96
  let d := d.fmEvent 151 m
  let d := d.storeRec 151 0 0 m 0 false
  ((d.armRefresh 0).armRefresh 1).healthRefresh

/-- Enter LOCKOUT (Table 18-5): the sequence counts, and the lock-out-pending flag is stored (R429). (DEDUCED: assumption log 62) -/
def enterLockout (d : Dev) : Dev :=
  let fromCfg := d.mode = Mode.boot ∨ d.mode = Mode.config
  let d := d.set Obj.SYS_LOCKOUT_SEQ ((d.get Obj.SYS_LOCKOUT_SEQ + 1) % 65536)
  let d := { d with fm := { d.fm with nvLockout := true, fromConfig := decide fromCfg } }
  d.setMode Mode.lockout

/-- Raise a fault: the record, and for L4 the trip (R425). In BOOT an L4 blocks the arms and sets the lock-out-pending
flag, and LOCKOUT follows at the end of BOOT. (DEDUCED: assumption log 62) -/
def raiseFault (code level arms source detail : Nat) (cause : Bool) (d : Dev) : Dev :=
  let d := d.storeRec code level arms source detail cause
  if level = 4 then
    if d.mode = Mode.boot then { d with fm := { d.fm with bootL4 := true, nvLockout := true } }
    else if d.mode = Mode.lockout then d
    else d.enterLockout
  else d

/-- The cause of the records of a code and source has gone (R433): L1 records become inactive, the others wait for their
acknowledgement. -/
def clearCause (code source : Nat) (d : Dev) : Dev :=
  let hit := fun (r : FaultRec) => r.code == code && r.source == source % 65536 && r.cause
  match d.fm.queue.find? hit with
  | none => d
  | some r0 =>
    let q := d.fm.queue.map fun r =>
      if hit r then { r with cause := false, active := r.active && decide (2 ≤ r.level) } else r
    let d := { d with fm := { d.fm with queue := q } }
    d.fmRefresh r0.number

/-- Whether a record of a code and source stands with its cause present. -/
def hasCause (d : Dev) (code source : Nat) : Bool :=
  d.fm.queue.any fun r => r.code == code && r.source == source % 65536 && r.cause

end Dev

/-! The change log's input side (R375, R377) and the values in force. -/

/-- The little-endian bytes of a value of a type (R350), 8 bytes at most for numbers but TIME96. -/
def encodeLE (ty : OType) (v : Val) : List Byte :=
  match v with
  | .bytes b => b
  | .num x => if ty = .time96 then time96LE x else bytesLE ty.bytes (x % 2 ^ (8 * ty.bytes)).toNat

/-- The big-endian bytes of a value of a type (R350). -/
def encodeBE (ty : OType) (v : Val) : List Byte :=
  match v with
  | .bytes b => b
  | .num x => if ty = .time96 then time96BE x else bytesBE ty.bytes (x % 2 ^ (8 * ty.bytes)).toNat

/-- The 8 bytes of OLD or NEW (Table 15-8): the value zero-padded, or the first 8 bytes of its SHA-256. (DEDUCED: assumption log
64) -/
def logValue (hashed : Bool) (b : List Byte) : List Byte :=
  if hashed then (sha256 b).take 8 else (b ++ List.replicate (8 - b.length) 0#8).take 8

/-- The module itself as a writer. -/
def Origin.module : Origin := { origin := 5, role := 0xFF, port := 0xFF, originId := 0, user := 0xFFFF, addr := [] }

/-- Breakwater as a writer. -/
def Origin.breakwater : Origin := { origin := 4, role := 0xFF, port := 0xFF, originId := 0, user := 0xFFFF, addr := [] }

namespace Dev

/-- Put a record into the log buffer (R377): 1,024 wait at most, and reaching 768 refuses the writers. (DEDUCED: assumption log
64) -/
def logPush (r : LogRec) (d : Dev) : Dev :=
  let n := d.host.logWait.length
  if n < 1024 then
    let d := { d with host := { d.host with logWait := d.host.logWait ++ [r] } }
    let d := d.setN Obj.LOG_PENDING (n + 1)
    if n + 1 = 768 ∧ d.host.logLimit = false then
      ({ d with host := { d.host with logLimit := true } } : Dev).signalAt Obj.HOST_EVENT_SRC 166 (noSource 166)
    else d
  else
    ({ d with host := { d.host with logGap := d.host.logGap + 1 } } : Dev).inc Obj.LOG_LOST

/-- The `KIND` byte of a record (Table 15-8): bit 0 says that the time base is LOCKED (R198). -/
def logKind (d : Dev) (kind : Nat) (hashed : Bool) : Nat :=
  kind * 16 + (if hashed then 2 else 0) + (if d.getN Obj.TB_STATE = 3 then 1 else 0)

/-- A record of a happening without an object (R377). -/
def logNote (kind aux : Nat) (org : Origin) (d : Dev) : Dev :=
  d.logPush { time := d.now96, kind := d.logKind kind false, org := org, index := 0, sub := 0, type := 0, aux := aux,
              old := List.replicate 8 0#8, new := List.replicate 8 0#8 }

/-- The value an object holds in force. -/
def valOf (d : Dev) (ty : OType) (k : Nat) : Val := if ty.isBlob then .bytes (d.blob k) else .num (d.get k)

/-- Put a value in force without its effects. -/
def putVal (k : Nat) (v : Val) (d : Dev) : Dev :=
  match v with
  | .num x => d.set k x
  | .bytes b => d.setBlob k b

/-- The type of an object; a program variable has its declared type (R285). -/
def typeOf (d : Dev) (k : Nat) : OType :=
  let ix := k / 256
  if 0x8100 ≤ ix ∧ ix < 0x8180 then
    match d.seq.prog.vars.find? fun v => v.pv = (ix - 0x8100) * 64 + (k % 256 - 1) with
    | some v => if v.ty = 0 then .bool else if v.ty = 1 then .i32 else .f32
    | none => .u32
  else match objRow? ix (k % 256) with
    | some r => r.type
    | none => .u32

/-- The log record of a write that takes effect (R377). (DEDUCED: assumption log 64) -/
def logWrite (org : Origin) (k : Nat) (old new : Val) (d : Dev) : Dev :=
  let ix := k / 256
  let sub := k % 256
  let ty := d.typeOf k
  let hashed := ty.isBlob || ty == .time96
  d.logPush { time := d.now96, kind := d.logKind 0 hashed, org := org, index := ix, sub := sub, type := ty.code, aux := 0,
              old := logValue hashed (encodeLE ty old), new := logValue hashed (encodeLE ty new) }

/-- Put the held RESTART values of some objects in force, as their block starts (R352). -/
def applyHeld : List Nat → Dev → Dev
  | [], d => d
  | k :: ks, d =>
    match d.held.find? (·.1 = k) with
    | none => applyHeld ks d
    | some (_, h) =>
      let old := match h.val with
        | .num _ => Val.num (d.get k)
        | .bytes _ => Val.bytes (d.blob k)
      let d := { d with held := SMap.del d.held k }
      applyHeld ks ((d.putVal k h.val).logWrite h.org k old h.val)

end Dev

end Sys2Proof.Machine
end

