-- ==== Sys2Proof/Machine/Lanes.lean ====
section
/-! DEFINITION. The strand lanes (R35–R62): which lane serves which strand, the receiver state machine of Table 02-2, its
detectors, alignment, transmit modes and the quad PLLs. -/

namespace Sys2Proof.Machine

open Sys2Proof

/-- The receiver states of `LANE_STATE`. -/
abbrev LaneState.off : Nat := 0
abbrev LaneState.noSignal : Nat := 1
abbrev LaneState.acquire : Nat := 2
abbrev LaneState.unaligned : Nat := 3
abbrev LaneState.aligned : Nat := 4

namespace Dev

/-- The topology in force: 0 ring, 1 line, 2 pair (R7). -/
def topology (d : Dev) : Nat := d.getN Obj.STR_TOPOLOGY

/-- The strand Table 02-6 maps a lane to. -/
def laneStrand (d : Dev) (l : Nat) : Nat := if d.topology = 0 then l / 2 else l

/-- The lane of end A and, in ring topology, of end B of a strand (Table 00-3). -/
def laneA (d : Dev) (s : Nat) : Nat := if d.topology = 0 then 2 * s else s
def laneB (s : Nat) : Nat := 2 * s + 1

/-- The number of strands the topology has (Table 00-3). -/
def strandCount (d : Dev) : Nat := if d.topology = 0 then 16 else 32

/-- Whether a lane serves its strand (R44): mapped, enabled, and the strand has positions. -/
def serves (d : Dev) (l : Nat) : Bool := d.on (Obj.LANE_ENABLE l) && d.positions (d.laneStrand l) != 0

/-- Whether the lanes loop back what they receive (R56, R57, Table 14-2): a STANDBY, from the boundary after the last frame it
sent until the first boundary of a takeover, and outside CONFIG a SOLO module in pair topology with ARB_ACT low. -/
def loopsBack (d : Dev) : Bool :=
  d.topology == 2 && ((d.standby && !d.pair.leaving) || d.pair.take.isSome
    || (d.getN Obj.PR_ROLE == 0 && d.mode != Mode.config && d.mode != Mode.boot && !(d.on Obj.PR_ARB_STATE)))

/-- The state of a lane's receiver. -/
def laneState (d : Dev) (l : Nat) : Nat := d.getN (Obj.LANE_STATE l)

/-- Whether the role, not `LANE_TX_MODE`, sets a lane's function: it loops its strand back (R56). -/
def laneLoops (d : Dev) (l : Nat) : Bool := d.loopsBack && d.positions (d.laneStrand l) != 0

/-- The transmit mode in force on a lane: FRAMES in loopback, else `LANE_TX_MODE` (R56). -/
def laneMode (d : Dev) (l : Nat) : Nat := if d.laneLoops l then 0 else d.getN (Obj.LANE_TX_MODE l)

/-- A word as it leaves the transmitter: complemented with `LANE_TX_INVERT` (R62). -/
def lineWord (d : Dev) (l : Nat) (w : Word) : Word := if d.on (Obj.LANE_TX_INVERT l) then ~~~w else w

/-- Send words on a lane. -/
def sendLane (l : Nat) (ws : List Word) (d : Dev) : Dev := d.send (.lane l (ws.map (d.lineWord l)))

/-- What a lane sends where it sends no frame (Table 02-5): idle words between frames and without a strand (R43, R55), in
loopback until ALIGNED (R56), and in IDLE_ONLY; sync words in TRAINING; electrical idle in OFF and with its quad unlocked
(R61). The block pattern replaces it while Breakwater injects (R54). -/
def fillOf (d : Dev) (l : Nat) : LaneFill :=
  if d.on (Obj.LANE_ENABLE l) = false ∨ d.getN (Obj.LANE_TX_MODE l) = 4 ∨ (d.lane l).idle then .electricalIdle
  else if d.laneLoops l ∧ d.laneState l = LaneState.aligned then .received
  else match d.laneMode l with
    | 1 => .word (d.lineWord l Rodal.syncWord)
    | 3 => .prbs31 (d.on (Obj.LANE_TX_INVERT l))
    | _ => .word (d.lineWord l Rodal.idleWord)

/-- Let a lane's transmitter follow. -/
def fillRefresh (l : Nat) (d : Dev) : Dev :=
  let f := d.fillOf l
  if f = (d.lane l).fill then d else (d.setLane l { d.lane l with fill := f }).send (.laneFill l f)

/-- The runs of words a receiver counts begin anew: at a change of its state, a slip or an inversion. -/
def restartLane (x : LaneSt) : LaneSt := { x with train := 0, trainC := 0, blockRun := 0, prbs := [] }

/-- Change a lane's state (R44): a lane that serves a strand raises event s and writes an L0 record. -/
def setLaneState (l st : Nat) (d : Dev) : Dev :=
  if st = d.laneState l then d
  else
    let d := ((d.setN (Obj.LANE_STATE l) st).setLane l (restartLane (d.lane l))).fillRefresh l
    if d.serves l then
      let s := d.laneStrand l
      (d.signal s l).storeRec s 0 0 l 0 false
    else d

/-- The equalisation objects of a lane, held until it leaves OFF (R52). -/
def laneHeldKeys (l : Nat) : List Nat :=
  [Obj.LANE_TX_SWING l, Obj.LANE_TX_PREEMPH l, Obj.LANE_RX_CTLE l, Obj.LANE_TX_INVERT l]

/-- Power a lane up or down as its enable and mode ask (Table 02-2, rows 1 and 2); a lane in IDLE_ONLY is never ALIGNED, and
another checker begins with PRBS31 (Table 02-5). (DEDUCED: assumption log 22) -/
def laneRefresh (l : Nat) (d : Dev) : Dev :=
  let d :=
    if d.on (Obj.LANE_ENABLE l) = false ∨ d.getN (Obj.LANE_TX_MODE l) = 4 then d.setLaneState l LaneState.off
    else if d.laneState l = LaneState.off then
      let d := d.applyHeld (laneHeldKeys l)
      let d := d.setLane l { d.lane l with los := true, gateBad := true, misses := 0 }
      d.setLaneState l LaneState.noSignal
    else if d.laneMode l = 2 ∧ d.laneState l = LaneState.aligned then
      (d.setLane l { d.lane l with misses := 0 }).setLaneState l LaneState.unaligned
    else if d.laneMode l = 3 then d
    else d.setLane l { d.lane l with prbs := [] }
  d.fillRefresh l

/-- LOS asserts (R45): the lane goes to NO_SIGNAL and a frame in progress is discarded. -/
def devLosAssert (l amplitude : Nat) (d : Dev) : Dev :=
  let d := d.setN (Obj.LANE_AMPLITUDE l) (amplitude % 65536)
  if d.laneState l = LaneState.off then d
  else
    let d := d.setLane l { d.lane l with los := true, gateBad := true }
    if d.laneState l = LaneState.noSignal then d
    else (d.inc (Obj.LANE_LOS_COUNT l)).setLaneState l LaneState.noSignal

/-- LOS clears (R45): NO_SIGNAL goes to ACQUIRE; the gate under way stays partial (R46). -/
def devLosClear (l amplitude : Nat) (d : Dev) : Dev :=
  let d := d.setN (Obj.LANE_AMPLITUDE l) (amplitude % 65536)
  let d := d.setLane l { d.lane l with los := false }
  if d.laneState l = LaneState.noSignal then d.setLaneState l LaneState.acquire else d

/-- Word clocks of a frequency gate (R46). -/
def gateClocks : Nat := 262144

/-- The frequency difference of a gate in ppm, to the nearest integer, held to an I16. (DEDUCED: assumption log 21) -/
def gatePpm (count : Nat) : Int :=
  let x := ((count : Int) - gateClocks) * 1000000
  let r := (if 0 ≤ x then x + 131072 else x - 131072).tdiv gateClocks
  max (-32768) (min 32767 r)

/-- Whether a gate's difference exceeds 300 ppm. -/
def gateOver (count : Nat) : Bool := 300 * gateClocks < (((count : Int) - gateClocks) * 1000000).natAbs

/-- A frequency gate ends (R46): only a complete gate reports and moves the lane. (DEDUCED: assumption log 21) -/
def devFrequencyGateEnd (l count : Nat) (d : Dev) : Dev :=
  let x := d.lane l
  let st := d.laneState l
  let d' := d.setLane l { x with gateBad := x.los }
  if st = LaneState.off then d
  else if x.gateBad || x.los then d'
  else
    let d' := d'.set (Obj.LANE_FREQ_DIFF l) (gatePpm count)
    if gateOver count then
      if st = LaneState.unaligned ∨ st = LaneState.aligned then
        (d'.inc (Obj.LANE_LOL_COUNT l)).setLaneState l LaneState.acquire
      else d'
    else if st = LaneState.acquire then d'.setLaneState l LaneState.unaligned
    else d'

/-- The sync condition holds at the current slip position (R49); the complement only sets its flag. -/
def laneSync (l : Nat) (complement : Bool) (d : Dev) : Dev :=
  if complement then d.setBit (Obj.LANE_SYNC_SEEN l) 1 true
  else
    let d := d.setBit (Obj.LANE_SYNC_SEEN l) 0 true
    if d.laneState l = LaneState.unaligned ∧ d.laneMode l ≠ 2 then
      (d.setLane l { d.lane l with misses := 0, synced := true }).setLaneState l LaneState.aligned
    else d

/-- One missed sync (R47): the third in a row loses frame alignment. -/
def laneMiss (l : Nat) (d : Dev) : Dev :=
  let x := d.lane l
  let n := x.misses + 1
  if 3 ≤ n then
    let d := d.setLane l { x with misses := 0 }
    (d.inc (Obj.LANE_LFA_COUNT l)).setLaneState l LaneState.unaligned
  else d.setLane l { x with misses := n }

/-- An accepted slip reaches its boundary (R50). -/
def applyBitslip (l : Nat) (d : Dev) : Dev :=
  if d.laneState l = LaneState.aligned then d.inc (Obj.LANE_SLIP_DROPPED l)
  else
    let d := d.setN (Obj.LANE_SLIP_POS l) ((d.getN (Obj.LANE_SLIP_POS l) + 1) % 32)
    (d.set (Obj.LANE_SYNC_SEEN l) 0).setLane l (restartLane (d.lane l))

/-- An accepted polarity change reaches its boundary (R50): not applied in ALIGNED. -/
def applyRxInvert (l : Nat) (v : Int) (d : Dev) : Dev :=
  if d.laneState l = LaneState.aligned then d.inc (Obj.LANE_SLIP_DROPPED l)
  else
    let d := d.set (Obj.LANE_RX_INVERT l) v
    (d.set (Obj.LANE_SYNC_SEEN l) 0).setLane l (restartLane (d.lane l))

/-- The number of leading words equal to `w`. -/
def runOf (w : Word) (ws : List Word) : Nat := (ws.takeWhile (· == w)).length

/-- Words received without a frame, one after another: three sync words in a row meet the sync condition, three complemented
ones its complement (R49). In TRAINING mode any other word of an ALIGNED lane is a missed sync, but in a cycle in which three
block-pattern words in a row arrive none counts (R47). -/
def trainWords (l : Nat) : List Word → Dev → Dev
  | [], d => d
  | w :: t, d =>
    let x := d.lane l
    let count := fun (v : Word) (n : Nat) => if w = v then min 3 (n + 1) else 0
    let n := count Rodal.syncWord x.train
    let c := count (~~~Rodal.syncWord) x.trainC
    let b := count Rodal.blockWord x.blockRun
    let inBlock := decide (0 < b ∧ 3 ≤ x.blockRun + 1 + runOf Rodal.blockWord t)
    let d := d.setLane l { x with train := n, trainC := c, blockRun := b, blocked := x.blocked || inBlock,
                                  misses := if n = 0 then x.misses else 0 }
    let d := if n = 3 then d.laneSync l false else d
    let d := if c = 3 then d.laneSync l true else d
    let d := if d.laneState l = LaneState.aligned ∧ d.laneMode l = 1 ∧ n = 0 ∧ (d.lane l).blocked = false then d.laneMiss l else d
    trainWords l t d

/-- Follow the PRBS31 sequence (Table 02-5) over received bits: its first 31 bits begin it, each later bit is checked against
it. The bit errors and the history, newest bit first. (DEDUCED: assumption log 66) -/
def prbsRun : List Bool → List Bool → Nat × List Bool
  | h, [] => (0, h)
  | h, b :: t =>
    if h.length < 31 then prbsRun (b :: h) t
    else
      let e := h.getD 30 false != h.getD 27 false
      let (n, h') := prbsRun (e :: h.take 30) t
      ((if b = e then 0 else 1) + n, h')

/-- Words without a frame reach a lane (R49, R51): the training pattern, or in PRBS31 mode the sequence to check
(Table 02-5). -/
def devTrainingPattern (l : Nat) (ws : List Word) (d : Dev) : Dev :=
  let st := d.laneState l
  if st ≠ LaneState.unaligned ∧ st ≠ LaneState.aligned then d
  else if d.laneMode l = 3 then
    let (n, h) := prbsRun (d.lane l).prbs (ws.flatMap fun w => bitsOf 32 w.toNat)
    (d.setLane l { d.lane l with prbs := h }).add (Obj.LANE_PRBS_ERR l) n
  else d.trainWords l ws

/-- The arm groups that have a strand with positions on a quad (R61). -/
def quadArms (d : Dev) (q : Nat) : Nat :=
  ([4 * q, 4 * q + 1, 4 * q + 2, 4 * q + 3].filter d.serves).foldl
    (fun m l => m ||| (if d.getN (Obj.MOD_STRAND_ARM (d.laneStrand l)) = 0 then 1 else 2)) 0

/-- Put the four lanes of a quad at electrical idle, or back. -/
def quadIdle (q : Nat) (v : Bool) (d : Dev) : Dev :=
  [4 * q, 4 * q + 1, 4 * q + 2, 4 * q + 3].foldl (fun d l => (d.setLane l { d.lane l with idle := v }).fillRefresh l) d

/-- A quad PLL loses lock (R61): its lanes go idle and L3 is raised on the arm groups with a strand on the quad. -/
def devQuadUnlock (q : Nat) (d : Dev) : Dev :=
  let d := d.setBit Obj.LANE_QUAD_LOCK q false
  let d := d.quadIdle q true
  let arms := d.quadArms q
  if arms = 0 then d else d.raiseFault 0x0101 3 arms q 0 true

/-- A quad PLL relocks: its lanes resume in the mode in force (R61). -/
def devQuadRelock (q : Nat) (d : Dev) : Dev :=
  ((d.setBit Obj.LANE_QUAD_LOCK q true).quadIdle q false).clearCause 0x0101 q

end Dev

end Sys2Proof.Machine
end

