-- ==== Sys2Proof/Machine/Strands.lean ====
section
/-! DEFINITION. Strands and cells at the module (R63–R93): the frames sent, mailbox transactions, draining a returned frame
into the cell table, position delays, fold reports, presence and the healing window, and the checks of R90. -/

namespace Sys2Proof.Machine

open Sys2Proof

/-- The codes of `CELL_STATE`. -/
abbrev CellState.empty : Nat := 0
abbrev CellState.present : Nat := 1
abbrev CellState.held : Nat := 2
abbrev CellState.absent : Nat := 3
abbrev CellState.joining : Nat := 4
abbrev CellState.faulted : Nat := 5
abbrev CellState.bypassed : Nat := 6

/-- Fold over 0, 1, …, n − 1. -/
def upTo {α : Type} (n : Nat) (f : Nat → α → α) (x : α) : α := (List.range n).foldl (fun x i => f i x) x

namespace Dev

def cellState (d : Dev) (n : Nat) : Nat := d.getN (Obj.CELL_STATE n)

/-- Change the module's view of a cell: every change raises event s with source 0x1000 + n (Table 18-1). -/
def setCellState (n st : Nat) (d : Dev) : Dev :=
  if st = d.cellState n then d
  else (d.setN (Obj.CELL_STATE n) st).signal (n / 64) (0x1000 + n)

/-- Whether frames carry the type ENUMERATE now (R65). -/
def enumerating (d : Dev) : Bool := d.mode == Mode.config

/-- The positions of the frames of a strand now: 64 in CONFIG (R89), N_s otherwise. -/
def framePositions (d : Dev) (s : Nat) : Nat := if d.enumerating then 64 else d.positions s

/-! Frames sent (R43, R64, R69, R72). -/

/-- The command of a position while no run has committed one: BLOCKED with SEQ 0 where the position is EMPTY or ABSENT, HOLD
for a HELD cell, else BLOCKED; it is no new command, so SEQ stays (R67, R69). (DEDUCED: assumption log 79) -/
def restCommand (d : Dev) (n : Nat) : BitVec 48 :=
  let st := d.cellState n
  if st = CellState.empty ∨ st = CellState.absent then Rodal.mkCommand (n % 64) 0 0 0 0 false false
  else Rodal.mkCommand (n % 64) (if st = CellState.held then 4 else 0) 0 0 (Rodal.cSeq (d.cell n).cmd) false false

/-- The commands of a strand for the frame being sent: those of its bank (R58), which a frame of CONFIG has not. -/
def frameCommands (d : Dev) (s : Nat) : List (BitVec 48) :=
  let st := d.strand s
  (List.range (d.framePositions s)).map fun p =>
    if d.enumerating then d.restCommand (cellNo s p) else st.bank.getD p (d.restCommand (cellNo s p))

/-- The mailbox of a copy of the frame: the transaction in the copy it travels in, NOP in the other. `HOP` of an `ROT_B` frame
is N_s, of which the field of 6 bits holds 0 where N_s is 64 (Table 03-8). (DEDUCED: assumption log 25) -/
def frameMailbox (d : Dev) (s : Nat) (rotB : Bool) : Nat × BitVec 128 :=
  let st := d.strand s
  let hop := if rotB then d.positions s else 0x3F
  match st.txn with
  | some t =>
    if t.viaB = rotB ∨ d.topology ≠ 0 then (t.pos, Rodal.mkMailbox t.pos t.op t.addr t.tag st.launch t.data hop)
    else (0, Rodal.mkMailbox 0 0 0 0 st.launch 0 hop)
  | none => (0, Rodal.mkMailbox 0 0 0 0 st.launch 0 hop)

/-- Whether the module holds end B of its strands in pair topology (R326: the preferred module holds end A). -/
def holdsEndB (d : Dev) : Bool := d.topology == 2 && !(d.on Obj.PR_PREF)

/-- One frame of a strand (R63). -/
def makeFrame (d : Dev) (s : Nat) (rotB : Bool) : Rodal.Frame :=
  let n := d.framePositions s
  let (mp, mbx) := d.frameMailbox s rotB
  { hdr := Rodal.mkHeader
      { type := if d.enumerating then 2 else 1, epoch := d.getN Obj.STR_EPOCH_TX, node := d.getN Obj.HOST_NODE_ID,
        tc := d.getN Obj.CYC_TC, sec := d.second, cycle := d.getN Obj.CYC_INDEX, rotB := rotB,
        foldEn := d.topology != 0 || d.on (Obj.STR_FOLD_EN s), positions := n, mbxPos := mp,
        apply := d.getN Obj.CYC_APPLY_DELAY / 10, lead := d.getN Obj.CYC_SAMPLE_LEAD / 10 },
    slots := (List.range n).zipWith (fun p c => Rodal.mkSlot c (Rodal.emptyResponse p)) (d.frameCommands s), mbx := mbx }

/-- Whether a lane sends frames now: FRAMES mode, powered, its quad locked, no block pattern, and no STANDBY (R43, R54, R57,
R61). -/
def sendsFrames (d : Dev) (l : Nat) : Bool :=
  d.serves l && d.getN (Obj.LANE_TX_MODE l) == 0 && !(d.lane l).idle && !(d.on Obj.BW_INJECTING)
    && !d.standby && !d.loopsBack && d.tm.refclk

/-- Send the frames of one strand: one lane, or both lanes of a ring (R23). A fresh λ lies from 7 to 48 (R70). -/
def emitStrand (s : Nat) (d : Dev) : Dev :=
  if d.positions s = 0 then d
  else
    let (v, d) := d.takeFree
    let d := d.setStrand s { d.strand s with launch := 7 + v % 42 }
    let la := d.laneA s
    let rot := d.holdsEndB
    let d := if d.sendsFrames la then d.sendLane la ((d.makeFrame s rot).line false) else d
    if d.topology = 0 ∧ d.sendsFrames (laneB s) then
      d.sendLane (laneB s) ((d.makeFrame s true).line false)
    else d

/-- Send the frames of every strand; none in BOOT (R65). Where a lane sends no frame its transmitter sends its fill. -/
def emitFrames (d : Dev) : Dev :=
  let d := if d.mode = Mode.boot then d else upTo d.strandCount emitStrand d
  upTo 32 fillRefresh d

/-! Cell data (R90). -/

/-- The refusal codes R90 gives the capabilities of a cell; 0 admits it. -/
def cap0Refusal (cap0 expect : Nat) : Nat :=
  if cap0 / 2 ^ 56 ≠ 1 then 1
  else if 64 < (cap0 / 2 ^ 40) % 256 then 2
  else if expect ≠ 2 ∧ (cap0 / 2 ^ 48) % 256 ≠ expect then 3
  else 0
def cap1Refusal (cap1 : Nat) : Nat := if 4095 < (cap1 / 2 ^ 32) % 65536 ∨ cap1 / 2 ^ 48 = 0 then 4 else 0

/-- Store CAP0: type, hop latency and minimum transition interval. -/
def storeCap0 (n v : Nat) (d : Dev) : Dev :=
  let d := d.setCell n { d.cell n with tmti := (v / 2 ^ 24) % 65536 }
  (d.setN (Obj.CELL_TYPE n) ((v / 2 ^ 48) % 256)).setN (Obj.CELL_HOP n) ((v / 2 ^ 40) % 256)

/-- Store CAP1: capacitance and rated voltage. -/
def storeCap1 (n v : Nat) (d : Dev) : Dev :=
  (d.setN (Obj.CELL_CAPACITANCE n) ((v / 2 ^ 48) % 65536)).setN (Obj.CELL_RATED_V n) ((v / 2 ^ 32) % 65536)

/-- The content of CFG_POS for a position (Table 03-10). -/
def cfgPosWord (d : Dev) (s p : Nat) : Nat :=
  s * 2 ^ 59 + p * 2 ^ 53 + d.positions s * 2 ^ 46 + d.topology * 2 ^ 44 + d.getN Obj.STR_HOLD_CYCLES * 2 ^ 39
    + d.getN Obj.CYC_TC * 2 ^ 31

/-- The position delays R81 derives from a round trip (125 ps), a loop interval (125 ps) and a hop latency (ns); a half unit
rounds down (DEDUCED: assumption log 23). An unknown delay is 0xFFFF_FFFF; that of the other end of a couple follows R342 from
the partner's mean loopback delay of strand `s`. -/
def positionDelays (d : Dev) (s : Nat) (rt : Nat) (loop : Int) (hop : Nat) : Nat × Nat :=
  let h : Int := 8 * hop
  if d.topology = 0 then
    let a := ((rt : Int) - h + loop) / 2
    (a.toNat, ((rt : Int) - h - a).toNat)
  else
    let x := (((rt : Int) - loop - h) / 2).toNat
    let y := match (if d.topology = 2 ∧ d.getN Obj.PR_ROLE = 1 then d.pair.status else none) with
      | some st => match st.loops.find? (·.1 = s) with
        | some (_, l) => ((loop - h - l) / 2).toNat
        | none => 0xFFFFFFFF
      | none => 0xFFFFFFFF
    if d.holdsEndB then (y, x) else (x, y)

/-- The length of the segment before a cell, where both its delays are known (R82). -/
def measureSegment (n : Nat) (d : Dev) : Dev :=
  let a := d.getN (Obj.CELL_DELAY_A n)
  let prev : Int := if n % 64 = 0 then 0 else (d.getN (Obj.CELL_DELAY_A (n - 1)) : Int) + 8 * d.getN (Obj.CELL_HOP (n - 1))
  if a = 0xFFFFFFFF ∨ (n % 64 ≠ 0 ∧ d.getN (Obj.CELL_DELAY_A (n - 1)) = 0xFFFFFFFF) then d
  else d.setF (Obj.CELL_FIBRE_LEN n) (F32.ofRatio ((a : Int) - prev) 40)

/-- Record the delays of a cell and the lengths of the segments before and behind it (R82). -/
def storeDelays (n a b : Nat) (d : Dev) : Dev :=
  let d := ((d.setN (Obj.CELL_DELAY_A n) a).setN (Obj.CELL_DELAY_B n) b).measureSegment n
  if n % 64 = 63 then d else d.measureSegment (n + 1)

/-! Draining a frame (R22, R23, R74, R88). -/

/-- VCAP in volts: 62.5 mV per unit. -/
def vcapVolts (v : Nat) : F32 := F32.ofRatio v 16

/-- Count a response with `CMD_BAD` or `EPOCH_REJECT`, in whichever copy it comes (Table 03-14, Table 03-15). -/
def countFlags (s n st : Nat) (d : Dev) : Dev :=
  let d := if st.testBit 10 then d.inc (Obj.CELL_CMD_BAD n) else d
  if st.testBit 3 then d.inc (Obj.STR_EPOCH_REJECTS s) else d

/-- Take one response into the cell table: the end-A copy wins in ring topology (R23). -/
def takeSlot (s p : Nat) (rotB : Bool) (slot : BitVec 128) (d : Dev) : Dev :=
  let n := cellNo s p
  let r := Rodal.slotRsp slot
  let c := d.cell n
  let st := Rodal.rStatus r
  if Rodal.rspOk p r = false then d.inc (Obj.CELL_RESP_CRC_ERR n)
  else if c.present ∧ (rotB ∨ c.fromA) then d.countFlags s n st
  else
    let v := Rodal.rVcap r
    let rx : CellRx := { vcap := v, status := st, temp := Rodal.rTemp r, fault := Rodal.rFault r, seq := Rodal.rSeqEcho r,
                         edge := Rodal.rEdgeDelay r }
    let d := d.setCell n { c with present := true, fromA := !rotB, rx := rx, vValid := v != 0xFFFF,
                                  vcap := if v = 0xFFFF then c.vcap else v }
    let d := if v = 0xFFFF then d else d.setF (Obj.CELL_VCAP n) (vcapVolts v)
    let d := d.set (Obj.CELL_TEMP n) ((Rodal.rTemp r : Int) - 55)
    let d := (d.setN (Obj.CELL_STATUS n) st).setN (Obj.CELL_FAULT n) (Rodal.rFault r)
    (d.setN (Obj.CELL_EDGE_DELAY n) (Rodal.rEdgeDelay r)).countFlags s n st

/-- Count the failing RSP_CRC of the slots that arrived of a frame that is discarded (R74). -/
def countSlots (s : Nat) (slots : List (BitVec 128)) (d : Dev) : Dev :=
  upTo (min slots.length (d.positions s)) (fun p d =>
    if Rodal.rspOk p (Rodal.slotRsp (slots.getD p 0#128)) then d else d.inc (Obj.CELL_RESP_CRC_ERR (cellNo s p))) d

/-- The position that reports FOLDING in a folded frame; 0xFF none. -/
def foldPosition (slots : List (BitVec 128)) : Nat :=
  match (List.range slots.length).find? fun p =>
      let r := Rodal.slotRsp (slots.getD p 0#128)
      Rodal.rspOk p r && (Rodal.rStatus r).testBit 7 with
  | some p => p
  | none => 0xFF

/-- The round-trip measurement begins anew: its return path has changed (R81, R82). -/
def newPath (path : Nat) (x : StrandSt) : StrandSt :=
  { x with rtPath := path, rtSum := 0, rtCount := 0, rtSumB := 0, rtCountB := 0, pathFrames := 0, pathFramesB := 0 }

/-- Enter a returned frame into the average of its return path (R81): 16 frames of one path make RT_s, 16 frames of each
rotation make D_rot,s, the mean of both; a change of path restarts the average, and a folded frame of a ring enters none.
(DEDUCED: assumption log 80) -/
def averageRt (s rt path : Nat) (rotB : Bool) (d : Dev) : Dev :=
  let ring := d.topology = 0
  let x := d.strand s
  let x := if x.rtPath = path then x else newPath path x
  let b := ring ∧ rotB
  let x := { x with pathFrames := if b then x.pathFrames else min 1000 (x.pathFrames + 1)
                    pathFramesB := if b then min 1000 (x.pathFramesB + 1) else x.pathFramesB }
  let x :=
    if path = 0x100 then x
    else if b then (if x.rtCountB < 16 then { x with rtSumB := x.rtSumB + rt, rtCountB := x.rtCountB + 1 } else x)
    else if x.rtCount < 16 then { x with rtSum := x.rtSum + rt, rtCount := x.rtCount + 1 }
    else x
  if x.rtCount = 16 ∧ (x.rtCountB = 16 ∨ ¬ ring) then
    let mean := if ring then (x.rtSum + x.rtSumB + 16) / 32 else (x.rtSum + 8) / 16
    (d.setStrand s { x with rtSum := 0, rtCount := 0, rtSumB := 0, rtCountB := 0 }).setN (Obj.STR_ROUND_TRIP s) mean
  else d.setStrand s x

/-- The words a frame body of `bits` bits fills in the receive FIFO (R59). -/
def fifoFill (bits : Nat) : Nat := (bits + 31) / 32

/-- Report the fill of a lane's receive FIFO (R59): every frame of an ALIGNED lane fills it until it is checked. -/
def fillFifo (l bits : Nat) (d : Dev) : Dev :=
  d.setN (Obj.LANE_FIFO_PEAK l) (max (d.getN (Obj.LANE_FIFO_PEAK l)) (fifoFill bits))

/-- Drain a valid frame of strand s received on lane l: fold report, round trip, slots (R22, R88). -/
def drainFrame (s l : Nat) (f : Rodal.Frame) (arrival : Nat) (d : Dev) : Dev :=
  let rotB := Rodal.hRotB f.hdr
  let folded := Rodal.hFolded f.hdr
  let fp := foldPosition f.slots
  let d := if folded then
      let x := d.strand s
      (d.setStrand s { x with foldA := x.foldA || !rotB, foldB := x.foldB || rotB }).setN
        (if rotB then Obj.STR_FOLD_B s else Obj.STR_FOLD_A s) fp
    else d
  let d := d.setLane l { d.lane l with gotCycle := some (Rodal.hCycle f.hdr), unfolded := !folded }
  let rt := arrival - (272 + (d.strand s).launch)
  let path := if folded = false then 0xFF else if d.topology = 0 then 0x100 else fp
  let d := if d.loopsBack then d else d.averageRt s rt path rotB
  upTo (min f.slots.length (d.positions s)) (fun p d => d.takeSlot s p rotB (f.slots.getD p 0#128)) d

/-! Presence and the healing window (R91, R92). -/

/-- What the drained response says of a cell that is in use: PRESENT, FAULTED or BYPASSED. -/
def presentState (rx : CellRx) : Nat :=
  if rx.status.testBit 6 then CellState.bypassed else if rx.fault ≠ 0 then CellState.faulted else CellState.present

/-- Whether a state is one of an admitted cell in use. -/
def inUse (st : Nat) : Bool := st == CellState.present || st == CellState.faulted || st == CellState.bypassed

/-- Note whether a position is present: an ABSENT one that becomes present asks for its join (R93). -/
def noteCell (n : Nat) (d : Dev) : Dev :=
  let c := d.cell n
  d.setCell n { c with seen := c.present,
                       want := c.present && (c.want || (d.cellState n == CellState.absent && !c.seen)) }

/-- Judge one configured position at t_in (R91). `windowOpen` says whether the strand's window is open in this cycle. A cell
that waits in its join and goes missing is ABSENT again (R93). -/
def judgeCell (windowOpen : Bool) (n : Nat) (d : Dev) : Dev :=
  let c := d.cell n
  let st := d.cellState n
  let d := d.noteCell n
  if st = CellState.empty then d
  else if c.present then
    if inUse st ∨ st = CellState.held then d.setCellState n (presentState c.rx) else d
  else
    let d := d.inc (Obj.CELL_MISSED n)
    if inUse st then d.setCellState n (if windowOpen then CellState.held else CellState.absent)
    else if st = CellState.held ∧ windowOpen = false then d.setCellState n CellState.absent
    else if st = CellState.joining ∧ c.turn.isSome ∧ c.seen then
      (d.setCell n { d.cell n with turn := none }).setCellState n CellState.absent
    else d

/-- Whether a cell in use of the strand is missing in this cycle. -/
def someMissing (d : Dev) (s : Nat) : Bool :=
  (d.strandCells s).any fun n => inUse (d.cellState n) && !(d.cell n).present

/-- Whether every admitted cell of the strand is present: one that is ABSENT or JOINING is not admitted (R90, R93). -/
def allAdmittedPresent (d : Dev) (s : Nat) : Bool :=
  (d.strandCells s).all fun n => !(inUse (d.cellState n) || d.cellState n == CellState.held) || (d.cell n).present

/-- Count the cells of a strand that are present. -/
def countPresent (s : Nat) (d : Dev) : Dev :=
  d.setN (Obj.STR_PRESENT s) ((d.strandCells s).filter (fun n => (d.cell n).present)).length

/-- Judge the cells of a strand at t_in, or in CONFIG as the cycle ends (R25): open or run down the healing window, then each
cell (R91). (DEDUCED: assumption log 28) -/
def judgeStrand (s : Nat) (d : Dev) : Dev :=
  let x := d.strand s
  let opens := x.healLeft = 0 ∧ x.healArmed ∧ d.someMissing s
  let left := if opens then d.getN Obj.STR_HEAL_WINDOW else x.healLeft
  let all := d.allAdmittedPresent s
  let cnt := if all then min 64 (x.allPresent + 1) else 0
  let armed := if opens then false else (x.healArmed || decide (64 ≤ cnt))
  let d := (d.strandCells s).foldl (fun d n => d.judgeCell (decide (0 < left)) n) d
  (d.setStrand s { x with healLeft := left - 1, healArmed := armed, allPresent := if opens then 0 else cnt }).countPresent s

/-- The healing window of a strand ends (R91): its cells that are still missing become ABSENT. (DEDUCED: assumption log 28) -/
def devHealExpiry (s : Nat) (d : Dev) : Dev :=
  (d.strandCells s).foldl (fun d n =>
    if d.cellState n = CellState.held ∧ (d.cell n).present = false then d.setCellState n CellState.absent else d) d

/-- The count of R92 for an arm group: ABSENT, JOINING, latched in a fault, or bypassed. (DEDUCED: assumption log 28) -/
def unusable (d : Dev) (a : Nat) : Nat :=
  ((d.armCells a).filter fun n =>
    let st := d.cellState n
    st == CellState.absent || st == CellState.joining || st == CellState.faulted || st == CellState.bypassed).length

/-- Raise or end the L3 arm block of R92. -/
def checkNRed (a : Nat) (d : Dev) : Dev :=
  let n := d.unusable a
  if d.getN (Obj.MOD_N_RED a) < n then
    if d.hasCause 0x0100 a then d else d.raiseFault 0x0100 3 (2 ^ a) a n true
  else d.clearCause 0x0100 a

/-! Lane judgement (R47, R87). -/

/-- Judge a lane for the cycle (R47): in FRAMES mode, and in loopback, a cycle without a sync word and a valid header is a
missed sync, unless the block pattern arrived. -/
def judgeLane (l : Nat) (d : Dev) : Dev :=
  let x := d.lane l
  let d := d.setLane l { x with synced := false, blocked := false, misses := if x.synced then 0 else x.misses }
  if d.laneState l ≠ LaneState.aligned ∨ d.laneMode l ≠ 0 ∨ x.blocked ∨ x.synced then d else d.laneMiss l

/-- FOLD_EN of a ring strand for the next frames (R87). -/
def judgeFold (s : Nat) (d : Dev) : Dev :=
  if d.topology ≠ 0 then d.setB (Obj.STR_FOLD_EN s) true
  else
    let a := d.lane (d.laneA s)
    let b := d.lane (laneB s)
    if a.gotCycle.isNone ∧ b.gotCycle.isNone then d.setB (Obj.STR_FOLD_EN s) true
    else if a.gotCycle.isSome ∧ b.gotCycle.isSome ∧ a.unfolded ∧ b.unfolded then d.setB (Obj.STR_FOLD_EN s) false
    else d

/-- Begin a new cycle of reception on a strand: nothing received; a fold object keeps what the cycle that ended saw, 0xFF
where that was no valid folded frame from its end (R88). -/
def clearReception (s : Nat) (d : Dev) : Dev :=
  let x := d.strand s
  let d := if x.foldA then d else d.set (Obj.STR_FOLD_A s) 0xFF
  let d := if x.foldB then d else d.set (Obj.STR_FOLD_B s) 0xFF
  let d := d.setStrand s { x with foldA := false, foldB := false }
  let d := (d.strandCells s).foldl (fun d n =>
    d.setCell n { d.cell n with present := false, vValid := false }) d
  let clr := fun l (d : Dev) => d.setLane l { d.lane l with gotCycle := none, unfolded := false }
  let d := clr (d.laneA s) d
  if d.topology = 0 then clr (laneB s) d else d

end Dev

end Sys2Proof.Machine
end

