-- ==== Sys2Proof/Machine/Cells.lean ====
section
/-! DEFINITION. The cell controller as the manual requires it of any cell (R66–R86): taking a frame, accepting and executing
commands, the mailbox registers, time reconstruction, hold, epoch, the block pattern, ports and folding. Times at a cell
are in 125 ps of the cell's own clock. (DEDUCED: assumption log 23) -/

namespace Sys2Proof.Machine

open Sys2Proof

/-- An unknown position delay. -/
def unknownDelay : Nat := 0xFFFFFFFF

namespace CellCtl

/-- Whether the cell is an FB cell. -/
def isFB (c : CellCtl) : Bool := (c.cap0.toNat / 2 ^ 48) % 256 == 1

/-- t_mti in 125 ps (Table 03-10). -/
def mti (c : CellCtl) : Int := 8 * ((c.cap0.toNat / 2 ^ 24) % 65536 : Nat)

/-- Fields of CFG_POS. -/
def cfgN (w : BitVec 64) : Nat := (w.toNat / 2 ^ 46) % 128
def cfgTopology (w : BitVec 64) : Nat := (w.toNat / 2 ^ 44) % 4
def cfgHold (w : BitVec 64) : Nat := (w.toNat / 2 ^ 39) % 32
def cfgTc (w : BitVec 64) : Nat := (w.toNat / 2 ^ 31) % 256
def cfgPosition (w : BitVec 64) : Nat := (w.toNat / 2 ^ 53) % 64

/-- Tc of CFG_POS in 125 ps; 0 while CFG_POS has not been written. -/
def tcOf (c : CellCtl) : Nat := match c.cfgPos with
  | some w => 8 * tcNs (cfgTc w)
  | none => 0

/-- Latch a fault at a time: the cell is BLOCKED at once, which is a transition, and the code enters FAULT_LOG (R78,
Table 03-7). -/
def latch (code : Nat) (t : Int) (c : CellCtl) : CellCtl :=
  { c with fault := code, faultLog := (code :: c.faultLog).take 8, state := 0,
           lastMove := if c.state = 0 then c.lastMove else t }

/-- Make a transition to a state at a scheduled time (R78): BLOCKED is never delayed, any other comes t_mti after the
previous transition at the earliest; a latched fault keeps the cell BLOCKED. -/
def move (st : Nat) (t : Int) (detect : Nat) (c : CellCtl) : CellCtl :=
  let st := if c.fault ≠ 0 then 0 else st
  if st = c.state then c
  else
    let at_ := if st = 0 then t else max t (c.lastMove + c.mti)
    { c with state := st, lastMove := at_, edgeDelay := min 0xFFFE ((at_ - t).toNat + detect) }

/-- The oldest command waiting that is of the kind an instant executes; `keep` leaves it waiting. -/
def execCmd (is : BitVec 48 → Bool) (keep : BitVec 48 → Bool) (f : CellCmd → CellCtl → CellCtl) (c : CellCtl) : CellCtl :=
  match c.cmds.find? fun x => is x.word with
  | some x => f x (if keep x.word then c else { c with cmds := c.cmds.eraseP fun x => is x.word })
  | none => c

/-- Execute STEP at A_k. -/
def execStep (detect : Nat) (c : CellCtl) : CellCtl :=
  c.execCmd (fun w => Rodal.cEdge w == 0 && decide (Rodal.cState w ≤ 3)) (fun _ => false)
    fun x c => c.move (Rodal.cState x.word) x.ak detect

/-- Execute DELAYED at A_k + OFFSET. -/
def execDelayed (detect : Nat) (c : CellCtl) : CellCtl :=
  c.execCmd (fun w => Rodal.cEdge w == 1 && decide (Rodal.cState w ≤ 3)) (fun _ => false)
    fun x c => c.move (Rodal.cState x.word) (x.ak + Rodal.cOffset x.word) detect

/-- Execute a part of PULSE: STATE at A_k, BYPASS at A_k + OFFSET; an OFFSET of 0 is a STEP to BYPASS. -/
def execPulse (atOffset : Bool) (detect : Nat) (c : CellCtl) : CellCtl :=
  c.execCmd (fun w => Rodal.cEdge w == 2 && decide (Rodal.cState w ≤ 3)) (fun w => !atOffset && Rodal.cOffset w != 0)
    fun x c =>
      if Rodal.cOffset x.word = 0 then c.move 1 x.ak detect
      else if atOffset then c.move 1 (x.ak + Rodal.cOffset x.word) detect
      else c.move (Rodal.cState x.word) x.ak detect

/-- Execute HOLD: the state in effect stays, EDGE and OFFSET are ignored. -/
def execHold (c : CellCtl) : CellCtl := c.execCmd (fun w => Rodal.cState w == 4) (fun _ => false) fun _ c => c

/-- COUNTERS (Table 03-10). -/
def counters (c : CellCtl) : Nat :=
  min 65535 c.errA * 2 ^ 48 + min 65535 c.errB * 2 ^ 32 + min 65535 c.rejects * 2 ^ 16 + min 65535 c.holds

/-- Δ_p: the mean of the last 16 loop intervals, as a signed 32-bit number in [63:32] (R81). -/
def loopInterval (c : CellCtl) : Nat :=
  let n : Int := c.loops.length
  let mean := if n = 0 then 0 else c.loops.foldl (· + ·) 0 / n
  (mean % 2 ^ 32).toNat * 2 ^ 32

/-- Read a register (Table 03-10): the RESULT and the content. -/
def readReg (addr : Nat) (vendor : BitVec 64) (c : CellCtl) : Nat × Nat :=
  match addr with
  | 0x00 => (1, c.uid.toNat)
  | 0x01 => (1, c.cap0.toNat)
  | 0x02 => (1, c.cap1.toNat)
  | 0x03 => (1, c.cap2.toNat)
  | 0x10 => (1, match c.cfgPos with
    | some w => w.toNat
    | none => 0)
  | 0x11 => (1, c.delayA * 2 ^ 32 + c.delayB)
  | 0x20 => (1, c.loopInterval)
  | 0x21 => (1, c.counters)
  | 0x22 => (1, natBE ((List.replicate (8 - c.faultLog.length) 0#8) ++ (c.faultLog.reverse.map (BitVec.ofNat 8))))
  | _ => if 0x30 ≤ addr ∧ addr ≤ 0x3F then (1, vendor.toNat) else (3, 0)

/-- Whether a value may be stored in CFG_POS (R71). -/
def cfgPosOk (w : BitVec 64) (c : CellCtl) : Bool :=
  some (cfgPosition w) == c.pos && 1 ≤ cfgN w && cfgN w ≤ 64 && cfgPosition w < cfgN w && cfgTopology w != 3
    && 2 ≤ cfgHold w && cfgHold w ≤ 16 && cfgTc w ≤ 16

/-- Write a register (R71): the RESULT and the cell after it. The reserved bits of CFG_POS decide nothing; they are stored and
read back. (DEDUCED: assumption log 23) -/
def writeReg (addr : Nat) (data : Nat) (c : CellCtl) : Nat × CellCtl :=
  let w : BitVec 64 := BitVec.ofNat 64 data
  if addr = 0x10 then
    if c.state ≠ 0 then (7, c)
    else if c.cfgPosOk w then (1, { c with cfgPos := some w })
    else (5, c)
  else if addr = 0x11 then (1, { c with delayA := data / 2 ^ 32 % 2 ^ 32, delayB := data % 2 ^ 32 })
  else if addr ≤ 0x03 ∨ (0x20 ≤ addr ∧ addr ≤ 0x22) then (4, c)
  else if 0x30 ≤ addr ∧ addr ≤ 0x3F then (1, { c with vendor := SMap.set 0#64 c.vendor addr w })
  else (3, c)

/-- Whether the request's REQ_CRC is right for the header's MBX_POS. -/
def reqOk (hdr mbx : BitVec 128) : Bool := Rodal.reqCrc (Rodal.hMbxPos hdr) mbx == Rodal.mReqCrc mbx

/-- Whether the cell is the mailbox's target (R72). -/
def isTarget (hdr : BitVec 128) (c : CellCtl) : Bool := c.pos == some (Rodal.hMbxPos hdr)

/-- READ at the target (R70, R72). -/
def mbxRead (hdr mbx : BitVec 128) (vendor : BitVec 64) (c : CellCtl) : BitVec 128 :=
  if c.isTarget hdr then
    if reqOk hdr mbx then
      let (r, v) := c.readReg (Rodal.mAddr mbx) vendor
      Rodal.answer mbx r (if r = 1 then v else Rodal.mData mbx)
    else Rodal.answer mbx 6 (Rodal.mData mbx)
  else mbx

/-- WRITE at the target (R71, R72). -/
def mbxWrite (hdr mbx : BitVec 128) (c : CellCtl) : CellCtl × BitVec 128 :=
  if c.isTarget hdr then
    if reqOk hdr mbx then
      let (r, c') := c.writeReg (Rodal.mAddr mbx) (Rodal.mData mbx)
      (c', Rodal.answer mbx r (Rodal.mData mbx))
    else (c, Rodal.answer mbx 6 (Rodal.mData mbx))
  else (c, mbx)

/-- ASSIGN (R72): an assigned cell writes its position into HOP, and answers with its UID where it is the target, as to a
repetition; an unassigned cell takes the next one. -/
def mbxAssign (hdr mbx : BitVec 128) (c : CellCtl) : CellCtl × BitVec 128 :=
  match c.pos with
  | some p =>
    let m := Rodal.setFld mbx 24 6 p
    (c, if c.isTarget hdr then
          (if reqOk hdr mbx then Rodal.answer m 1 c.uid.toNat else Rodal.answer m 6 (Rodal.mData m))
        else m)
  | none =>
    let h : Int := if Rodal.mHop mbx = 0x3F then -1 else Rodal.mHop mbx
    let want : Int := Rodal.hMbxPos hdr
    if want = (if Rodal.hRotB hdr then h - 1 else h + 1) then
      if reqOk hdr mbx then
        ({ c with pos := some (Rodal.hMbxPos hdr) }, Rodal.answer (Rodal.setFld mbx 24 6 (Rodal.hMbxPos hdr)) 1 c.uid.toNat)
      else (c, Rodal.answer mbx 6 (Rodal.mData mbx))
    else (c, mbx)

/-- A reserved operation at the target: BAD_OP (R70). -/
def mbxBadOp (hdr mbx : BitVec 128) (c : CellCtl) : BitVec 128 :=
  if c.isTarget hdr then Rodal.answer mbx (if reqOk hdr mbx then 2 else 6) (Rodal.mData mbx) else mbx

/-- Act on the mailbox of a frame by its operation (Table 03-9). -/
def mbxAct (hdr mbx : BitVec 128) (vendor : BitVec 64) (c : CellCtl) : CellCtl × BitVec 128 :=
  match Rodal.mOp mbx with
  | 0 => (c, mbx)
  | 1 => (c, c.mbxRead hdr mbx vendor)
  | 2 => c.mbxWrite hdr mbx
  | 3 => c.mbxAssign hdr mbx
  | _ => (c, c.mbxBadOp hdr mbx)

/-- The position delay for a copy (R79). -/
def delayFor (rotB : Bool) (c : CellCtl) : Nat := if rotB then c.delayB else c.delayA

/-- Whether the same frame was taken before: its TYPE, CYCLE and ROT_B (R73). -/
def sawBefore (hdr : BitVec 128) (c : CellCtl) : Option Nat :=
  (c.seen.find? fun (ty, cy, rb, _, _) => ty == Rodal.hType hdr && cy == Rodal.hCycle hdr && rb == Rodal.hRotB hdr).map
    fun (_, _, _, t, _) => t

/-- The other copy of the same cycle, in ring topology: its arrival and λ. -/
def sawOther (hdr : BitVec 128) (c : CellCtl) : Option (Nat × Nat) :=
  (c.seen.find? fun (ty, cy, rb, _, _) => ty == Rodal.hType hdr && cy == Rodal.hCycle hdr && rb != Rodal.hRotB hdr).map
    fun (_, _, _, t, l) => (t, l)

/-- Whether the cell times from another copy than the one that carries this header: from the end-A copy, once it has arrived
(R79). -/
def timesElsewhere (hdr : BitVec 128) (c : CellCtl) : Bool := Rodal.hRotB hdr && (c.sawOther hdr).isSome

/-- The position delay of the copy the cell times from (R77, R79). -/
def timedDelay (hdr : BitVec 128) (c : CellCtl) : Nat := c.delayFor (Rodal.hRotB hdr && !(c.timesElsewhere hdr))

/-- Whether a command is accepted (R77), the frame's header and epoch being good. A reserved EDGE code is refused with any
STATE, HOLD as well. (DEDUCED: assumption log 23) -/
def accepts (hdr : BitVec 128) (p : Nat) (w : BitVec 48) (c : CellCtl) : Bool :=
  match c.cfgPos with
  | none => false
  | some cfg =>
    Rodal.hType hdr == 1 && Rodal.hTcCode hdr == cfgTc cfg && Rodal.hPositions hdr == cfgN cfg
      && Rodal.cmdCrc p w == Rodal.cCrc w && Rodal.cState w ≤ 4 && Rodal.cEdge w ≤ 2
      && (Rodal.cState w != 3 || c.isFB)
      && (Rodal.cEdge w != 2 || Rodal.cState w == 2 || Rodal.cState w == 3 || Rodal.cState w == 4)
      && (!(Rodal.cClearFault w) || Rodal.cState w == 0)
      && c.timedDelay hdr != unknownDelay

/-- The second and the cycle a header names. -/
def frameId (hdr : BitVec 128) : Nat × Nat := (Rodal.hSecLsb hdr, Rodal.hCycle hdr)

/-- Take an accepted command (R77, R78): it waits for its instants behind those of earlier frames. The other copy of a frame
whose command was accepted brings no second one: only the end-A copy places its A_k anew (R79). -/
def takeCmd (hdr : BitVec 128) (w : BitVec 48) (c : CellCtl) : CellCtl :=
  let ak := c.tk + 80 * (c.apply : Int)
  if c.taken = some (frameId hdr) then
    { c with cmdBad := false,
             cmds := if c.timesElsewhere hdr then c.cmds
                     else c.cmds.dropLast ++ (c.cmds.getLast?.toList.map fun x => { x with ak := ak }) }
  else
    let close := Rodal.cCloseBypass w && Rodal.cState w == 0
    { c with
      cmds := c.cmds ++ [{ word := w, ak := ak }], taken := some (frameId hdr), cmdBad := false,
      repeated := c.seqValid && c.seqEcho == Rodal.cSeq w, seqEcho := Rodal.cSeq w,
      seqValid := true, clearReq := Rodal.cClearFault w,
      closeReady := close && (match c.closeSeq with
        | some s => s != Rodal.cSeq w
        | none => false),
      closeSeq := if close then some (Rodal.cSeq w) else none }

/-- The STATUS field (Table 03-6). -/
def statusField (c : CellCtl) (applied : Nat) : Nat :=
  let b := fun (v : Bool) (i : Nat) => if v then 2 ^ i else 0
  b (c.fault != 0) 11 + b c.cmdBad 10 + b c.repeated 9 + b c.holding 8 + b c.folding 7 + b c.bypassClosed 6 + b c.portA 5
    + b c.portB 4 + b c.epochReject 3 + applied % 8

/-- The response the cell writes (R68, R77). -/
def response (p : Nat) (known : Bool) (c : CellCtl) : BitVec 80 :=
  Rodal.mkResponse p (if known then c.vcap else 0xFFFF) (c.statusField (if known then c.applied else c.state)) c.temp
    c.fault c.seqEcho c.edgeDelay

/-- The serial test of R84. -/
def epochOk (e : Nat) (anyEpoch : Bool) (c : CellCtl) : Bool :=
  match c.eLast with
  | none => true
  | some l => anyEpoch || decide ((e + 4096 - l % 4096) % 4096 < 2048)

/-- Whether the cell accepts any epoch in an ENUMERATE frame: BLOCKED, and no CYCLE frame accepted for 1 s (R84). -/
def anyEpochNow (hdr : BitVec 128) (tArr : Nat) (c : CellCtl) : Bool :=
  Rodal.hType hdr == 2 && c.state == 0 && decide (c.tCycle + 8000000000 ≤ (tArr : Int))

/-- Count a frame error at a port. -/
def portError (portB : Bool) (c : CellCtl) : CellCtl :=
  if portB then { c with errB := c.errB + 1 } else { c with errA := c.errA + 1 }

/-- Reconstruct T_k from an arrival, and from it the next sample instant S_{k+1} = T_k + Tc − SAMPLE_LEAD (R79): the end-B
copy of a ring only when the end-A copy has not arrived. -/
def timeFrom (hdr mbx : BitVec 128) (tArr : Nat) (c : CellCtl) : CellCtl :=
  let dly := c.delayFor (Rodal.hRotB hdr)
  if dly = unknownDelay ∨ c.timesElsewhere hdr then c
  else
    let tk : Int := (tArr : Int) - dly - 272 - Rodal.mLaunch mbx
    { c with tk := tk, apply := Rodal.hApply hdr, lead := Rodal.hLead hdr,
             sk := tk + 8 * tcNs (Rodal.hTcCode hdr) - 80 * (Rodal.hLead hdr : Int) }

/-- The cycles without a frame taken in, counted at the predicted T_k up to a time of the cell (R79, R83): the first such
cycle enters HOLDING. -/
def countMissed (t : Int) (c : CellCtl) : CellCtl :=
  match c.tTaken, c.tcOf with
  | some t0, tc + 1 =>
    let n := ((t - t0) / (tc + 1 : Nat) - 1).toNat
    if n ≤ c.missed then c
    else { c with missed := n, holding := true, holds := if c.missed = 0 then c.holds + 1 else c.holds }
  | _, _ => c

/-- A frame is taken in (R83): the count of missed cycles restarts at its T_k, or, while the delay is unknown, at that of a
cell without delay. -/
def takeIn (hdr mbx : BitVec 128) (tArr : Nat) (c : CellCtl) : CellCtl :=
  let t := if c.timedDelay hdr = unknownDelay then (tArr : Int) - 272 - Rodal.mLaunch mbx else c.tk
  { c with tTaken := some t, missed := 0, holding := false }

/-- Enter a loop interval, keeping the newest 16 (R81). -/
def pushLoop (x : Int) (c : CellCtl) : CellCtl := { c with loops := (x :: c.loops).take 16 }

/-- Whether a topology of CFG_POS is the ring. -/
def inRing (c : CellCtl) : Bool := match c.cfgPos with
  | some w => cfgTopology w == 0
  | none => false

/-- The ring loop interval: end-A copy arrival minus end-B copy arrival, corrected for each λ (R81). -/
def ringLoop (hdr mbx : BitVec 128) (tArr : Nat) (c : CellCtl) : CellCtl :=
  match c.inRing, c.sawOther hdr with
  | true, some (t, l) =>
    let here : Int := (tArr : Int) - Rodal.mLaunch mbx
    let other : Int := (t : Int) - l
    c.pushLoop (if Rodal.hRotB hdr then other - here else here - other)
  | _, _ => c

/-- What a cell makes of the words of a frame. -/
structure Pass where
  ctl  : CellCtl
  /-- Words sent on: port (`false` A, `true` B) and words. -/
  out  : List (Bool × List Word)
  deriving DecidableEq, Repr

/-- The positions of a frame's words: its header's POSITIONS, or by its length where the header fails (R40). -/
def peek (ws : List Word) : Nat := match Rodal.deframe 1 ws with
  | .good f | .crcErr f | .stuffErr f _ => Rodal.hPositions f.hdr
  | _ => Rodal.positionsOf ws.length

/-- Write the cell's slot on the first pass (R73, R77): the slot and the cell after it. -/
def writeSlot (f : Rodal.Frame) (p : Nat) (tArr : Nat) (c : CellCtl) : Rodal.Frame × CellCtl :=
  let w := Rodal.slotCmd (f.slots.getD p 0#128)
  let ok := c.accepts f.hdr p w
  let c1 := if Rodal.hType f.hdr = 2 then { c with cmdBad := false }
            else if ok then c.takeCmd f.hdr w else { c with cmdBad := true, repeated := false }
  let rsp := c1.response p (c.timedDelay f.hdr != unknownDelay)
  let c2 := { c1 with edgeDelay := 0xFFFF, epochReject := false }
  ({ f with slots := f.slots.set p (Rodal.mkSlot w rsp) },
    if Rodal.hType f.hdr == 2 || ok then c2.takeIn f.hdr f.mbx tArr else c2)

/-- The first pass of a frame whose header is good and whose epoch passes (R73, R74, R86). -/
def firstPass (f : Rodal.Frame) (bad : Bool) (portB : Bool) (tArr : Nat) (vendor : BitVec 64) (c : CellCtl) : Pass :=
  let c := c.countMissed tArr
  let c := { c with eLast := some (Rodal.hEpoch f.hdr) }
  let c := c.timeFrom f.hdr f.mbx tArr
  let c := c.ringLoop f.hdr f.mbx tArr
  let c := { c with seen := ((Rodal.hType f.hdr, Rodal.hCycle f.hdr, Rodal.hRotB f.hdr, tArr, Rodal.mLaunch f.mbx) ::
                             c.seen).take 8 }
  let otherUp := if portB then c.portA else c.portB
  let folds := Rodal.hFoldEn f.hdr && !otherUp
  let c := { c with folding := folds, tCycle := if Rodal.hType f.hdr = 1 then (tArr : Int) else c.tCycle }
  let c := if folds && !(c.inRing) then c.pushLoop 0 else c
  let (f1, c) := match c.pos with
    | some p => if p < f.slots.length then c.writeSlot f p tArr else (f, c)
    | none => (f, c)
  let (c, mbx) := c.mbxAct f1.hdr f1.mbx vendor
  let f2 : Rodal.Frame := { f1 with mbx := mbx }
  let f3 : Rodal.Frame := if folds then { f2 with hdr := Rodal.withHdrCrc (Rodal.setFld f2.hdr 61 1 1) } else f2
  let ws := f3.line bad
  { ctl := c, out := if folds then [(portB, ws), (!portB, ws)] else [(!portB, ws)] }

/-- The first pass of a frame whose `HDR_CRC` fails (R73, R77): the command is not accepted, which the response in the cell's
slot says; the mailbox, whose `MBX_POS` stands in that header, and folding are left alone. (DEDUCED: assumption log 23) -/
def badPass (f : Rodal.Frame) (bad : Bool) (portB : Bool) (tArr : Nat) (c : CellCtl) : Pass :=
  let c := c.countMissed tArr
  match c.pos with
  | some p =>
    if p < f.slots.length then
      let c1 := { c with cmdBad := true, repeated := false }
      let rsp := c1.response p (c.timedDelay f.hdr != unknownDelay)
      let w := Rodal.slotCmd (f.slots.getD p 0#128)
      { ctl := { c1 with edgeDelay := 0xFFFF, epochReject := false },
        out := [(!portB, ({ f with slots := f.slots.set p (Rodal.mkSlot w rsp) } : Rodal.Frame).line bad)] }
    else { ctl := c, out := [(!portB, f.line bad)] }
  | none => { ctl := c, out := [(!portB, f.line bad)] }

/-- A later arrival of the same frame (R73): forwarded with no slot changed; its exit port being DOWN, it is dropped (R86).
The loop interval of line and pair topology is measured. -/
def secondPass (f : Rodal.Frame) (bad : Bool) (portB : Bool) (tArr first : Nat) (c : CellCtl) : Pass :=
  let c := if c.inRing then c else c.pushLoop ((tArr : Int) - first)
  let otherUp := if portB then c.portA else c.portB
  { ctl := c, out := if otherUp then [(!portB, f.line bad)] else [] }

/-- Whether words are the training pattern: sync words without break (R51). -/
def isTraining (ws : List Word) : Bool := !ws.isEmpty && ws.all (· == Rodal.syncWord)

/-- The training pattern is forwarded, and folded whenever the other port is DOWN (R51, R86). -/
def training (portB : Bool) (ws : List Word) (c : CellCtl) : Pass :=
  { ctl := c, out := if (if portB then c.portA else c.portB) then [(!portB, ws)] else [(portB, ws), (!portB, ws)] }

/-- A frame whose header is good (R65, R73, R84): its type, its epoch, its first or a later pass. `bad` says that its trailer
failed. -/
def goodHeader (f : Rodal.Frame) (bad : Bool) (portB : Bool) (ws : List Word) (tArr : Nat) (vendor : BitVec 64) (c : CellCtl) :
    Pass :=
  if Rodal.hType f.hdr ≠ 1 ∧ Rodal.hType f.hdr ≠ 2 then { ctl := c, out := [(!portB, ws)] }
  else if c.epochOk (Rodal.hEpoch f.hdr) (c.anyEpochNow f.hdr tArr) = false then
    { ctl := { c with epochReject := true, rejects := c.rejects + 1 }, out := [] }
  else match c.sawBefore f.hdr with
    | some t => c.secondPass f bad portB tArr t
    | none => c.firstPass f bad portB tArr vendor

/-- A frame reaches the cell: the training pattern, or a frame with its header, type, epoch, first or second pass (R65, R73,
R74, R77, R84). -/
def frameIn (portB : Bool) (ws : List Word) (tArr : Nat) (vendor : BitVec 64) (c : CellCtl) : Pass :=
  if c.powered = false ∨ c.blocking then { ctl := c, out := [] }
  else if isTraining ws then c.training portB ws
  else match Rodal.deframe (peek ws) ws with
    | .good f => c.goodHeader f false portB ws tArr vendor
    | .crcErr f => (c.portError portB).goodHeader f true portB ws tArr vendor
    | .stuffErr f ok => (c.portError portB).goodHeader f (!ok) portB ws tArr vendor
    | .hdrErr f ok =>
      if (c.sawBefore f.hdr).isSome then { ctl := c.portError portB, out := [(!portB, f.line (!ok))] }
      else (c.portError portB).badPass f (!ok) portB tArr
    | .noSync => { ctl := c.portError portB, out := [(!portB, ws)] }

/-- The sample instant S_k (R68, R79, R83): VCAP, TEMP and the state in effect are latched. The next one is predicted a Tc
later, until a frame gives it. -/
def sample (vcap temp : Nat) (c : CellCtl) : CellCtl :=
  let c := c.countMissed c.sk
  { c with vcap := vcap % 65536, temp := temp % 256, applied := c.state, sk := c.sk + c.tcOf }

/-- H cycles without a frame taken in, at a time of the cell (R83): BLOCKED with HOLD_TIMEOUT; a cell without CFG_POS has no
H. -/
def holdTimeout (t : Nat) (c : CellCtl) : CellCtl :=
  let c := c.countMissed t
  match c.cfgPos with
  | some w => if cfgHold w ≤ c.missed then c.latch 0x06 t else c
  | none => c

/-- The block pattern is detected (R85). -/
def blockDetect (t : Nat) (c : CellCtl) : CellCtl := { c.latch 0x07 t with blocking := true }

/-- CLEAR_FAULT (R78): the latched fault clears if its cause is absent. -/
def clear (causePresent : Bool) (c : CellCtl) : CellCtl :=
  if c.clearReq then
    if causePresent then { c with clearReq := false } else { c with clearReq := false, fault := 0 }
  else c

/-- CLOSE_BYPASS (R78): the switch fires after two accepted commands; a switch that does not close by a time latches
BYPASS_FAIL. -/
def close (closes : Bool) (t : Nat) (c : CellCtl) : CellCtl :=
  if c.closeReady then
    if closes then { c with bypassClosed := true, closeReady := false } else { c.latch 0x08 t with closeReady := false }
  else c

/-- A port goes DOWN (R76): defect words go out unless defect words were the reason. -/
def portDown (portB byDefect : Bool) (c : CellCtl) : CellCtl :=
  if portB then { c with portB := false, defectB := !byDefect } else { c with portA := false, defectA := !byDefect }

/-- A port returns UP (R76); folding ends with the next frame (R86). -/
def portUp (portB : Bool) (c : CellCtl) : CellCtl :=
  if portB then { c with portB := true, defectB := false } else { c with portA := true, defectA := false }

/-- Power-up (R84): unassigned, no CFG_POS, no epoch; both ports are DOWN, and not by defect words (R76). -/
def powerUp (uid cap0 cap1 cap2 : BitVec 64) : CellCtl :=
  { CellCtl.init with powered := true, uid := uid, cap0 := cap0, cap1 := cap1, cap2 := cap2, defectA := true, defectB := true }

/-- What a powered cell sends out of a port where it forwards no frame: the block pattern while it passes it on (R85), defect
words out of a port that is DOWN (R76), else idle words, which fill a direction without input and stand for a frame that is
rejected (R37, R84). -/
def fill (portB : Bool) (c : CellCtl) : Option Word :=
  if c.powered = false then none
  else if c.blocking then some Rodal.blockWord
  else if (if portB then c.defectB else c.defectA) then some Rodal.defectWord
  else some Rodal.idleWord

end CellCtl

namespace Dev

/-- Put a cell controller in place of what it was; where what it sends between frames changes, it shows (R37, R76, R85). -/
def putCtl (n : Nat) (c : CellCtl) (d : Dev) : Dev :=
  [false, true].foldl (fun e b => if c.fill b = (d.ctl n).fill b then e else e.send (.cellFill n b (c.fill b))) (d.setCtl n c)

/-- Change a cell controller. -/
def onCtl (n : Nat) (f : CellCtl → CellCtl) (d : Dev) : Dev := d.putCtl n (f (d.ctl n))

/-- A frame enters a cell; what it sends goes out. -/
def devCellFrame (n : Nat) (portB : Bool) (ws : List Word) (tArr : Nat) (vendor : BitVec 64) (d : Dev) : Dev :=
  let r := (d.ctl n).frameIn portB ws tArr vendor
  r.out.foldl (fun d (p, w) => d.send (.cell n p w)) (d.setCtl n r.ctl)

end Dev

end Sys2Proof.Machine
end

