-- ==== Sys2Proof/Machine/Elementary.lean ====
section
/-! DEFINITION. The elementary functions of the module (R124, R133, R137, R139, R245, R247): each is computed on fixed-point
integers with 256 fraction bits, far beyond binary64, and the error the manual leaves open is added as a free value within
its bound. (DESIGN CHOICE: assumption log 7) -/

namespace Sys2Proof

/-! Fixed point with 256 fraction bits. -/

/-- 1, π and ln 2. -/
def Fix.one : Int := 2 ^ 256
def Fix.pi : Int := 0x3243f6a8885a308d313198a2e03707344a4093822299f31d0082efa98ec4e6c89
def Fix.ln2 : Int := 0xb17217f7d1cf79abc9e3b39803f2f6af40f343267298b62d8a0d175b8baafa2b

/-- The product and the quotient of two fixed-point numbers. -/
def Fix.mul (x y : Int) : Int := Int.fdiv (x * y) Fix.one
def Fix.div (x y : Int) : Int := Int.fdiv (x * Fix.one) y

/-- A number in fixed point, cut; 0 for a NaN or infinity. -/
def Fix.ofVal : FVal → Int
  | .fin n m e => FVal.floor (.fin n m (e + 256))
  | _ => 0

/-- A fixed-point number, with `k` more binary exponents. -/
def Fix.toVal (x : Int) (k : Int) : FVal := FVal.ofScaled x (k - 256)

/-- t − t·sq/((n+1)(n+2)) + …: the alternating series of sine (n = 1, t = x) and cosine (n = 0, t = 1). -/
def Fix.alternating (sq : Int) : Nat → Int → Int → Int
  | 0, _, _ => 0
  | f + 1, n, t => t + Fix.alternating sq f (n + 2) (-(Int.fdiv (Fix.mul t sq) ((n + 1) * (n + 2))))

/-- An angle reduced to one turn about 0. -/
def Fix.reduce (x : Int) : Int := x - 2 * Fix.pi * Int.fdiv (x + Fix.pi) (2 * Fix.pi)

def Fix.sin (x : Int) : Int :=
  let r := Fix.reduce x
  Fix.alternating (Fix.mul r r) 40 1 r

def Fix.cos (x : Int) : Int :=
  let r := Fix.reduce x
  Fix.alternating (Fix.mul r r) 40 0 Fix.one

/-- t + t·x/(n+1) + …: the series of the exponential. -/
def Fix.series (x : Int) : Nat → Int → Int → Int
  | 0, _, _ => 0
  | f + 1, n, t => t + Fix.series x f (n + 1) (Int.fdiv (Fix.mul t x) (n + 1))

/-- t/n − t·sq/(n+2) + …: the series of the arctangent. -/
def Fix.arcSeries (sq : Int) : Nat → Int → Int → Int
  | 0, _, _ => 0
  | f + 1, n, t => Int.fdiv t n + Fix.arcSeries sq f (n + 2) (-(Fix.mul t sq))

/-- tan of half the angle whose tangent is t, for t ≥ 0: t/(1 + √(1 + t²)). -/
def Fix.halfTan (t : Int) : Int :=
  let s := Fix.one * Fix.one + t * t
  Fix.div t (Fix.one + isqrt (Nat.log2 s.toNat / 2 + 1) s.toNat 0)

/-- The arctangent of 0 ≤ t ≤ 1. -/
def Fix.arctan (t : Int) : Int :=
  let t := Fix.halfTan (Fix.halfTan (Fix.halfTan t))
  8 * Fix.arcSeries (Fix.mul t t) 40 1 t

/-- The angle of the point (x, y), in (−π, π]. -/
def Fix.atan2 (y x : Int) : Int :=
  let ax : Int := x.natAbs
  let ay : Int := y.natAbs
  let q := if ay ≤ ax then Fix.arctan (Fix.div ay ax) else Int.fdiv Fix.pi 2 - Fix.arctan (Fix.div ax ay)
  let h := if x < 0 then Fix.pi - q else q
  if y < 0 then -h else h

namespace F64

/-- A finite pattern other than zero, moved by at most one unit in the last place as `e` says. -/
def nudge (x : F64) (e : Int) : F64 :=
  if isFinite x = false ∨ eq x zero = true then x else BitVec.ofInt 64 ((x.toNat : Int) + (e % 3 - 1))

/-- Sine and cosine as binary64 coefficients (R124, R137, R245): the nearest binary64 or a neighbour of it. -/
def sin (x : F64) : F64 :=
  if isFinite x = false then qnan else nudge (ofVal (Fix.toVal (Fix.sin (Fix.ofVal (val x))) 0)) (Config.coefError 0 x)
def cos (x : F64) : F64 :=
  if isFinite x = false then qnan else nudge (ofVal (Fix.toVal (Fix.cos (Fix.ofVal (val x))) 0)) (Config.coefError 1 x)

/-- The exponential as a binary64 coefficient (R124, R135): the nearest binary64 or a neighbour of it; exactly 1 at 0. -/
def exp (x : F64) : F64 :=
  match val x with
  | .nan => qnan
  | .inf n => if n then zero else BitVec.ofNat 64 (FFmt.b64.infinity false)
  | .fin n m e =>
    if m = 0 then one
    else if gt (abs x) (ofInt 2000) then (if n then zero else BitVec.ofNat 64 (FFmt.b64.infinity false))
    else
      let v := Fix.ofVal (.fin n m e)
      let k := Int.fdiv v Fix.ln2
      nudge (ofVal (Fix.toVal (Fix.series (v - k * Fix.ln2) 60 0 Fix.one) k)) (Config.coefError 2 x)

/-- The angle of the point (x, y) in binary64 (R247): the nearest binary64 or a neighbour of it; free at the origin. -/
def atan2 (y x : F64) : F64 :=
  match val y, val x with
  | .fin ny my ey, .fin nx mx ex =>
    if mx = 0 ∧ my = 0 then Config.angleOfZero y x
    else
      let e := Max.max (ey + Nat.log2 my) (ex + Nat.log2 mx)
      nudge (ofVal (Fix.toVal (Fix.atan2 (Fix.ofVal (.fin ny my (ey - e))) (Fix.ofVal (.fin nx mx (ex - e)))) 0))
        (Config.coefError 3 (add x y))
  | _, _ => qnan

/-- 2⁻²² in fixed point: the absolute error R133 allows. -/
def trigBound : Int := 2 ^ 234

/-- A sine or cosine of the engine (R133): the true value and an error of at most 2⁻²², free for an argument beyond 65,536. -/
def engineTrig (which : Nat) (f : Int → Int) (x : F64) : F64 :=
  match val x with
  | .nan => qnan
  | .inf _ => Config.farAngle which x
  | .fin n m e =>
    if gt (abs x) (ofInt 65536) then Config.farAngle which x
    else
      let slack := Max.max (-trigBound) (Min.min trigBound (Config.trigError which x))
      ofVal (Fix.toVal (f (Fix.ofVal (.fin n m e)) + slack) 0)

/-- Sine and cosine of the engine's blocks (R133, R139). -/
def sinEngine (x : F64) : F64 := engineTrig 0 Fix.sin x
def cosEngine (x : F64) : F64 := engineTrig 1 Fix.cos x

end F64

end Sys2Proof
end

