-- ==== Sys2Proof/Machine/Measure.lean ====
section
/-! DEFINITION. Measurement inputs (R171–R193): the filter paths from the captured bits to codes, cycle samples, loss and
validity, plausibility pairs, and the diagnostic modulators. (DEDUCED: assumption log 34) -/

namespace Sys2Proof.Machine

open Sys2Proof

/-! The filters, exactly on integers (R174–R176). -/

/-- A moving sum over R values: one stage of a sinc filter. -/
def movingSum (r : Nat) (xs : List Int) : List Int :=
  let rec go (s : Int) : List Int → List Int → List Int
    | x :: xs, y :: ys => s :: go (s - x + y) xs ys
    | _, _ => [s]
  if xs.length < r then [] else go ((xs.take r).foldl (fun a x => a + x) 0) xs (xs.drop r)

/-- A sinc^N stage at the modulator clock, not yet decimated. -/
def sincStage (n r : Nat) (xs : List Int) : List Int := n.repeat (movingSum r) xs

/-- Every r-th value from the first on. -/
def decimate (r : Nat) (xs : List Int) : List Int :=
  (xs.zip (List.range xs.length)).filterMap fun (x, i) => if i % r = 0 then some x else none

/-- The symmetric FIR over windows of 64 (R175). -/
def firStage (h : List Int) (xs : List Int) : List Int :=
  let full := h ++ h.reverse
  (List.range (xs.length + 1 - full.length)).map fun i =>
    (full.zip (xs.drop i)).foldl (fun s (a, b) => s + a * b) 0

/-- Round num/den to the nearest integer, ties upwards. -/
def roundUpTies (num : Int) (den : Nat) : Int := Int.fdiv (2 * num + den) (2 * den)

/-- A code saturated at a number of bits. -/
def saturateCode (bits : Nat) (v : Int) : Int := max (-(2 ^ (bits - 1))) (min (2 ^ (bits - 1) - 1) v)

/-- The bits as ±1, inverted with `MEAS_INVERT` (R173). -/
def bitValues (inv : Bool) (bits : List Bool) : List Int := bits.map fun b => if b != inv then 1 else -1

/-- The code of a fast-path output from the bits of its window; none when the window has another length. -/
def fastCode (n r : Nat) (inv : Bool) (bits : List Bool) : Option Int :=
  if bits.length ≠ n * (r - 1) + 1 then none
  else
    match sincStage n r (bitValues inv bits) with
    | v :: _ => some (saturateCode 16 (roundUpTies (v * 32768) (r ^ n)))
    | [] => none

/-- The bits of a fine output's window (R177). -/
def fineWindow (n r fir m : Nat) : Nat :=
  n * (r - 1) + (if fir = 0 then 0 else 63 * r) + (m - 1) * r * (if fir = 0 then 1 else fir) + 1

/-- The code of a fine-path output from the bits of its window. -/
def fineCode (n r fir m : Nat) (h : List Int) (inv : Bool) (bits : List Bool) : Option Int :=
  if bits.length ≠ fineWindow n r fir m then none
  else
    let s := decimate r (sincStage n r (bitValues inv bits))
    let (s, den) := if fir = 0 then (s, r ^ n) else (decimate fir (firStage h s), r ^ n * 8388608)
    let sum := s.foldl (fun a x => a + x) 0
    some (saturateCode 24 (roundUpTies (sum * 8388608) (den * m)))

/-- The 32 FIR coefficients of 128 bytes, little-endian I32. -/
def firCoefs : Nat → List Byte → List Int
  | 0, _ => []
  | k + 1, b => (BitVec.ofNat 32 (natLE (b.take 4))).toInt :: firCoefs k (b.drop 4)

/-- The bits of `MEAS_STATUS` (Table 07-9). -/
abbrev MeasBit.running : Nat := 0
abbrev MeasBit.clkLoss : Nat := 1
abbrev MeasBit.dataLoss : Nat := 2
abbrev MeasBit.settling : Nat := 3
abbrev MeasBit.valid : Nat := 4
abbrev MeasBit.fastValid : Nat := 5
abbrev MeasBit.ovr : Nat := 6

namespace Dev

def measCh (d : Dev) (c : Nat) : MeasCh := SMap.get MeasCh.init d.meas.chans c
def setMeasCh (c : Nat) (x : MeasCh) (d : Dev) : Dev :=
  { d with meas := { d.meas with chans := SMap.set MeasCh.init d.meas.chans c x } }

/-- TAI in ns. -/
def nowNs (d : Dev) : Nat := d.tm.now / nsUnit

/-- The modulator clock of a channel: 0 on chip, 1 + g for group g (R171). -/
def measClock (c : Nat) : Nat := if c < 8 then 0 else 1 + (c - 8) / 6

/-- t_mclk in ns (R172). -/
def tMclk (d : Dev) (c : Nat) : Nat := if c < 8 then 50 else 2 * d.getN (Obj.MEAS_GRP_DIV ((c - 8) / 6))

/-- The anchor a_g of a channel's clock in ns; none for a group whose divider has never been written. -/
def measAnchor (d : Dev) (c : Nat) : Option Nat :=
  (d.meas.anchors.find? (·.1 = measClock c)).map fun x => x.2 * 1000000000

/-- D_f as a factor. -/
def firFactor (d : Dev) (c : Nat) : Nat := max 1 (d.getN (Obj.MEAS_FIR_DEC c))

/-- t_out of a path in ns (R174, R175). -/
def tOut (d : Dev) (c : Nat) (fine : Bool) : Nat :=
  if fine then d.getN (Obj.MEAS_FINE_OSR c) * d.firFactor c * d.tMclk c else d.getN (Obj.MEAS_FAST_OSR c) * d.tMclk c

/-- t_settle of a path in ns (R177). -/
def tSettle (d : Dev) (c : Nat) (fine : Bool) : Nat :=
  if fine then
    d.getN (Obj.MEAS_FINE_ORDER c) * (d.getN (Obj.MEAS_FINE_OSR c) - 1) * d.tMclk c
      + (if d.getN (Obj.MEAS_FIR_DEC c) = 0 then 0 else 63 * d.getN (Obj.MEAS_FINE_OSR c) * d.tMclk c)
      + (d.getN (Obj.MEAS_NOTCH_M c) - 1) * d.tOut c true
  else d.getN (Obj.MEAS_FAST_ORDER c) * (d.getN (Obj.MEAS_FAST_OSR c) - 1) * d.tMclk c

/-- Whether a path is LOCKED (R179). -/
def pathLocked (d : Dev) (c : Nat) (fine : Bool) : Bool :=
  d.tc % d.tOut c fine == 0 && d.getN Obj.CYC_SAMPLE_LEAD % d.tOut c fine == 0

/-- t_avail of a path in ns (R180). -/
def tAvail (d : Dev) (c : Nat) (fine : Bool) : Nat :=
  d.tSettle c fine / 2 + (if d.pathLocked c fine then 0 else d.tOut c fine) + 100 + (if c < 8 then 0 else 2 * d.tMclk c)

/-- t_avail of a fine path under the INTERP form of R180 (R250). -/
def interpAvail (d : Dev) (c : Nat) : Nat := d.tSettle c true / 2 + d.tOut c true + 100 + (if c < 8 then 0 else 2 * d.tMclk c)

/-- The engineering value y of a code under the scale and offset in force (R176), in binary32. -/
def engineering (d : Dev) (c : Nat) (fine : Bool) (code : Int) : F32 :=
  let unit := F32.ofRatio 1 (if fine then 8388608 else 32768)
  F32.add (F32.mul (d.getF (Obj.MEAS_SCALE c)) (F32.mul (F32.ofInt code) unit)) (d.getF (Obj.MEAS_OFFSET c))

/-- The value of a cycle sample (R176, R179): y of its output, or the interpolation between the y of its two outputs, in
binary32. -/
def sampleValue (d : Dev) (c : Nat) (fine : Bool) (x : CycleSample) : F32 :=
  let y := d.engineering c fine x.code
  if x.num = 0 then y
  else F32.add y (F32.mul (F32.sub (d.engineering c fine x.next) y) (F32.ofRatio x.num x.den))

/-- The path of a channel. -/
def measPath (d : Dev) (c : Nat) (fine : Bool) : MeasPath := if fine then (d.measCh c).fine else (d.measCh c).fast
def setMeasPath (c : Nat) (fine : Bool) (p : MeasPath) (d : Dev) : Dev :=
  d.setMeasCh c (if fine then { d.measCh c with fine := p } else { d.measCh c with fast := p })

/-- What a FINE or FAST reference reads: the last valid cycle sample, converted (R182). -/
def cycleSample (d : Dev) (c : Nat) (fine : Bool) : F32 := d.sampleValue c fine (d.measPath c fine).held

/-- Whether a channel is running. -/
def measRuns (d : Dev) (c : Nat) : Bool := d.bit (Obj.MEAS_STATUS c) MeasBit.running

/-- Raise a measurement event with its source (R190). -/
def measEvent (e src : Nat) (d : Dev) : Dev := d.signalAt Obj.MEAS_EVENT_SRC e src

/-- A channel begins to settle (R182): after a start, a loss or a re-anchor. -/
def beginSettling (c : Nat) (d : Dev) : Dev :=
  (d.setMeasCh c { d.measCh c with settleAt := d.tm.mono }).setBit (Obj.MEAS_STATUS c) MeasBit.settling true

/-- Start a channel, or restart it with new filter settings (R178). -/
def measStart (c : Nat) (d : Dev) : Dev :=
  let d := d.setMeasCh c { MeasCh.init with start := d.nowNs, fine := { MeasPath.init with held := (d.measCh c).fine.held },
                                            fast := { MeasPath.init with held := (d.measCh c).fast.held } }
  if d.on (Obj.MEAS_ENABLE c) then (d.setN (Obj.MEAS_STATUS c) (2 ^ MeasBit.running)).beginSettling c
  else d.setN (Obj.MEAS_STATUS c) 0

/-- A divider takes effect (R172): its anchor is the first second boundary strictly later; its channels restart. -/
def measDivider (g : Nat) (d : Dev) : Dev :=
  let d := { d with meas := { d.meas with anchors := SMap.ins d.meas.anchors (1 + g) (d.second + 1) } }
  (List.range 6).foldl (fun d i => if d.measRuns (8 + 6 * g + i) then d.measStart (8 + 6 * g + i) else d) d

/-- A phase step (R172, R178): the anchors become the first second boundary strictly later, outputs before it are discarded,
every path is SETTLING, event 79. -/
def measReanchor (d : Dev) : Dev :=
  let s := d.second + 1
  let d := { d with meas := { d.meas with anchors := d.meas.anchors.map fun (x : Nat × Nat) => (x.1, s) } }
  let d := (List.range 32).foldl (fun d c =>
    if d.measRuns c then
      let x := d.measCh c
      let d := d.setMeasCh c { x with fine := { x.fine with last := none, samples := [] },
                                      fast := { x.fast with last := none, samples := [] }, hist := [], start := s * 1000000000 }
      d.beginSettling c
    else d) d
  d.measEvent 79 (noSource 79)

/-! Outputs and cycle samples (R175–R184). -/

/-- Whether a loss detector of a channel is active (R181). -/
def measLoss (d : Dev) (c : Nat) : Bool :=
  d.bit (Obj.MEAS_STATUS c) MeasBit.clkLoss || d.bit (Obj.MEAS_STATUS c) MeasBit.dataLoss

/-- The distances back from an output at r to the instants S_k that lie strictly between it and the output before, nearest
first: `first` to the nearest, then one Tc more each. -/
def backsFrom (tout first tc : Nat) : List Nat :=
  (List.range (if tout ≤ first then 0 else (tout - 1 - first) / tc + 1)).map fun j => first + j * tc

/-- The cycle samples an output at `r` completes (R179), latest S first: that of the output with r = S, and in INTERP one for
every S between it and the output before. Each with S and whether it is valid: no loss and no settling in the windows of
the outputs it uses (R182). -/
def madeSamples (d : Dev) (c : Nat) (fine : Bool) (m r : Nat) (code : Int) (ok : Bool) : List (Nat × CycleSample × Bool) :=
  let tout := d.tOut c fine
  let back := (r + d.getN Obj.CYC_SAMPLE_LEAD) % d.tc
  let at_ := if back = 0 then [(r, (⟨code, code, 0, 1⟩ : CycleSample), ok)] else []
  let between := match (d.measPath c fine).last with
    | some (m0, c0, ok0) =>
      if m0 + 1 = m ∧ d.pathLocked c fine = false then
        (backsFrom tout (if back = 0 then d.tc else back) d.tc).map fun b =>
          (r - b, (⟨c0, code, tout - b, tout⟩ : CycleSample), ok && ok0)
      else []
    | none => []
  at_ ++ between

/-- Form the cycle samples an output completes (R179): only a valid sample is delivered, and `VALID` says whether the latest
is (R182). `r` is the output's reference instant in ns. -/
def formSample (c : Nat) (fine : Bool) (m r : Nat) (code : Int) (d : Dev) : Dev :=
  let p := d.measPath c fine
  let ok := !d.measLoss c && !d.bit (Obj.MEAS_STATUS c) MeasBit.settling
  let made := d.madeSamples c fine m r code ok
  let good := (made.filter (·.2.2)).map fun x => (x.1, x.2.1)
  let d := d.setMeasPath c fine
    { p with last := some (m, code, ok), samples := (good ++ p.samples).take (made.length + 2) }
  match made with
  | [] => d
  | (_, _, v) :: _ => d.setBit (Obj.MEAS_STATUS c) (if fine then MeasBit.valid else MeasBit.fastValid) v

/-- Whether an enabled phasor set names a channel (R241): only then are its fine outputs kept. -/
def phasorUses (d : Dev) (c : Nat) : Bool :=
  d.on Obj.PH_ENABLE && (List.range 4).any fun s =>
    d.on (Obj.PH_SET_ENABLE s) && (List.range 3).any fun i => d.getN (Obj.PH_CH_A s + i) == c

/-- Take a fine code into its registers (R183, R184). -/
def takeFine (c : Nat) (r : Nat) (code : Int) (d : Dev) : Dev :=
  let same := d.get (Obj.MEAS_FINE_CODE c) = code ∧ d.on (Obj.MEAS_SAME_COUNT c)
  let d := d.setN (Obj.MEAS_SAME_COUNT c) (if same then min 65535 (d.getN (Obj.MEAS_SAME_COUNT c) + 1) else 1)
  let d := d.set (Obj.MEAS_FINE_CODE c) code
  let x := d.measCh c
  let d := if d.phasorUses c then
      d.setMeasCh c { x with hist := (r, code) :: x.hist.takeWhile fun h => decide (r < h.1 + 2000000000) }
    else d
  let th := F32.mul (d.getF (Obj.MEAS_OVR_TH c)) (F32.ofInt 8388608)
  let above := F32.gt (F32.ofInt code.natAbs) th
  let was := d.bit (Obj.MEAS_STATUS c) MeasBit.ovr
  let d := d.setBit (Obj.MEAS_STATUS c) MeasBit.ovr above
  let d := if above then d.inc (Obj.MEAS_OVR_COUNT c) else d
  if above ∧ was = false then d.measEvent 71 c else d

/-- A filter path forms the output of grid index `m` from the bits of its window (R175, R178). -/
def devFilterOutput (c : Nat) (fine : Bool) (m : Nat) (bits : List Bool) (d : Dev) : Dev :=
  match d.measAnchor c with
  | none => d
  | some a =>
    let r := a + m * d.tOut c fine
    if d.measRuns c = false ∨ d.bit (Obj.MEAS_STATUS c) MeasBit.clkLoss ∨ r < (d.measCh c).start then d
    else
      let inv := d.on (Obj.MEAS_INVERT c)
      let code :=
        if fine then
          fineCode (d.getN (Obj.MEAS_FINE_ORDER c)) (d.getN (Obj.MEAS_FINE_OSR c)) (d.getN (Obj.MEAS_FIR_DEC c))
            (d.getN (Obj.MEAS_NOTCH_M c)) (firCoefs 32 (d.blob (Obj.MEAS_FIR_COEF c))) inv bits
        else fastCode (d.getN (Obj.MEAS_FAST_ORDER c)) (d.getN (Obj.MEAS_FAST_OSR c)) inv bits
      match code with
      | none => d
      | some v =>
        let d := if fine then d.takeFine c r v else d.set (Obj.MEAS_FAST_CODE c) v
        d.formSample c fine m r v

/-- Settle what a run reads of one path: the cycle sample for S_k, or the last valid one held (R182). `sk` is in ns. `VALID`
is clear where S_k has none, though one was due by now or the channel is in loss or settling. -/
def latchPath (sk : Nat) (c : Nat) (fine : Bool) (d : Dev) : Dev :=
  let p := d.measPath c fine
  let due := decide (d.tAvail c fine ≤ d.getN Obj.CYC_SAMPLE_LEAD + (if d.mode = Mode.config then d.tc else
    max (d.getN Obj.CYC_T_RET) (d.getN Obj.CYC_T_MEAS)))
  let missed := due || d.measLoss c || d.bit (Obj.MEAS_STATUS c) MeasBit.settling
  let unmark := fun (d : Dev) =>
    if missed then d.setBit (Obj.MEAS_STATUS c) (if fine then MeasBit.valid else MeasBit.fastValid) false else d
  match p.samples.find? fun x => x.1 ≤ sk with
  | some (s, v) =>
    let fresh := s == sk
    let d := d.setMeasPath c fine { p with held := v, fresh := fresh }
    if fresh then d else unmark d
  | none => unmark (d.setMeasPath c fine { p with fresh := false })

/-- Latch the cycle samples of every running channel for the run of cycle k (R128, R179). -/
def latchSamples (d : Dev) : Dev :=
  let sk := d.tm.lastT / nsUnit - d.getN Obj.CYC_SAMPLE_LEAD
  (List.range 32).foldl (fun d c => if d.measRuns c then (d.latchPath sk c true).latchPath sk c false else d) d

/-! Loss (R181, R182). -/

/-- Set or clear a detector of a channel, with the excursion count and events 69 and 70 (R190). -/
def setLoss (c b : Nat) (v : Bool) (d : Dev) : Dev :=
  let was := d.measLoss c
  let d := d.setBit (Obj.MEAS_STATUS c) b v
  let now := d.measLoss c
  if now ∧ was = false then d.inc (Obj.MEAS_LOSS_COUNT c)
  else if was ∧ now = false then
    let x := d.measCh c
    let d := d.setMeasCh c { x with fine := { x.fine with last := none }, fast := { x.fast with last := none } }
    (d.beginSettling c).measEvent 70 c
  else d

/-- The channels a modulator clock serves: 0–7 one channel each, 8 + g the six of group g. -/
def clockChannels (k : Nat) : List Nat := if k < 8 then [k] else (List.range 6).map fun i => 8 + 6 * (k - 8) + i

/-- CLK_LOSS asserts on a clock (R181): never in a group that captures LOCAL. -/
def devClkLossAssert (k : Nat) (d : Dev) : Dev :=
  if 8 ≤ k ∧ d.getN (Obj.MEAS_GRP_CLK_SRC (k - 8)) = 1 then d
  else
    let cs := (clockChannels k).filter fun c => d.measRuns c && !d.bit (Obj.MEAS_STATUS c) MeasBit.clkLoss
    if cs.isEmpty then d
    else
      let d := cs.foldl (fun d c => d.setLoss c MeasBit.clkLoss true) d
      d.measEvent (if k < 8 then 64 else 65 + (k - 8)) (if k < 8 then k else k - 8)

/-- CLK_LOSS clears on a clock (R181). -/
def devClkLossClear (k : Nat) (d : Dev) : Dev :=
  (clockChannels k).foldl (fun d c =>
    if d.bit (Obj.MEAS_STATUS c) MeasBit.clkLoss then
      (d.setLoss c MeasBit.clkLoss false).beginSettling c
    else d) d

/-- DATA_LOSS asserts on a channel: event 69 (R181). -/
def devDataLossAssert (c : Nat) (d : Dev) : Dev :=
  if d.measRuns c = false ∨ d.bit (Obj.MEAS_STATUS c) MeasBit.dataLoss then d
  else (d.setLoss c MeasBit.dataLoss true).measEvent 69 c

/-- DATA_LOSS clears on a channel (R181). -/
def devDataLossClear (c : Nat) (d : Dev) : Dev :=
  if d.bit (Obj.MEAS_STATUS c) MeasBit.dataLoss then
    (d.setLoss c MeasBit.dataLoss false).beginSettling c
  else d

/-- A channel leaves SETTLING, t_settle after the settling began: event 78 (R182). While a detector is active the settling has
not begun. -/
def devPathSettled (c : Nat) (d : Dev) : Dev :=
  if d.bit (Obj.MEAS_STATUS c) MeasBit.settling = false ∨ d.measLoss c
      ∨ d.waited (d.measCh c).settleAt (d.tSettle c true * nsUnit) = false then d
  else (d.setBit (Obj.MEAS_STATUS c) MeasBit.settling false).measEvent 78 c

/-! Plausibility pairs (R186). -/

def pairSt (d : Dev) (p : Nat) : PairSt := SMap.get PairSt.init d.meas.pairs p
def setPairSt (p : Nat) (x : PairSt) (d : Dev) : Dev :=
  { d with meas := { d.meas with pairs := SMap.set PairSt.init d.meas.pairs p x } }

/-- Ts = Tc in seconds, in binary64. -/
def ts (d : Dev) : F64 := F64.ofRatio d.tc 1000000000

/-- exp(−2π · f · Ts) in binary64 (R124, R135). -/
def poleOf (d : Dev) (f : F32) : F64 :=
  F64.exp (F64.neg (F64.mul (F64.mul F64.twoPi (F64.of32 f)) d.ts))

/-- One step of a first-order low-pass in binary64 (R135): with f = 0 the input passes. -/
def lowPass (d : Dev) (f : F32) (y : F64) (x : F64) : F64 :=
  if F32.isZero f then x
  else
    let a := d.poleOf f
    F64.add (F64.mul a y) (F64.mul (F64.sub F64.one a) x)

/-- A pair's low-pass: its first output equals its first sample. -/
def pairLow (d : Dev) (f : F32) (y : Option F64) (x : F32) : F64 :=
  match y with
  | none => F64.of32 x
  | some y => d.lowPass f y (F64.of32 x)

/-- Evaluate one pair at t_in (R186). -/
def evalPair (p : Nat) (d : Dev) : Dev :=
  if d.on (Obj.PP_ENABLE p) = false then d
  else
    let ca := d.getN (Obj.PP_CH_A p)
    let cb := d.getN (Obj.PP_CH_B p)
    if (d.measPath ca true).fresh = false ∨ (d.measPath cb true).fresh = false then d.inc (Obj.PP_SKIPPED p)
    else
      let f := d.getF (Obj.PP_FC p)
      let x := d.pairSt p
      let a := d.pairLow f x.lpA (d.cycleSample ca true)
      let b := d.pairLow f x.lpB (d.cycleSample cb true)
      let diff := F32.sub (F32.sub (F64.to32 a) (F32.mul (d.getF (Obj.PP_GAIN p)) (F64.to32 b))) (d.getF (Obj.PP_OFFSET p))
      let th := d.getF (Obj.PP_TH p)
      let above := !F32.isZero th && F32.gt (F32.abs diff) th
      let win := d.getN (Obj.PP_WINDOW p)
      let w := (above :: x.window).take 64
      let clean := if above then 0 else min 65535 (x.clean + 1)
      let d := d.setPairSt p { lpA := some a, lpB := some b, window := w, clean := clean }
      let d := d.setF (Obj.PP_DIFF p) diff
      let n := ((w.take win).filter id).length
      if d.getN (Obj.PP_STATE p) = 0 then
        if d.getN (Obj.PP_COUNT p) ≤ n then
          ((d.setN (Obj.PP_STATE p) 1).measEvent 72 p).raiseFault 72 (d.getN (Obj.PP_REACTION p)) 0 p 0 true
        else d
      else if win ≤ clean then ((d.setN (Obj.PP_STATE p) 0).measEvent 73 p).clearCause 72 p
      else d

/-- Evaluate every pair, in CHARGE, READY and RUN (R186). -/
def evalPairs (d : Dev) : Dev :=
  if d.mode = Mode.charge ∨ d.mode = Mode.ready ∨ d.mode = Mode.run then (List.range 16).foldl (fun d p => d.evalPair p) d else d

/-- A pair starts as the module leaves CONFIG (R186): one left in MISMATCH goes to OK, which is a change. -/
def startPair (p : Nat) (d : Dev) : Dev :=
  let d := d.setPairSt p PairSt.init
  if d.getN (Obj.PP_STATE p) = 0 then d else ((d.setN (Obj.PP_STATE p) 0).measEvent 73 p).clearCause 72 p

def startPairs (d : Dev) : Dev := (List.range 16).foldl (fun d p => d.startPair p) d

/-! Diagnostic modulators (R187–R189). -/

def diag (d : Dev) (u : Nat) : DiagSt := if u = 0 then d.meas.diag0 else d.meas.diag1
def setDiag (u : Nat) (x : DiagSt) (d : Dev) : Dev :=
  let d := if u = 0 then { d with meas := { d.meas with diag0 := x } } else { d with meas := { d.meas with diag1 := x } }
  d.setN (if u = 0 then Obj.DIAG_POS_D0 else Obj.DIAG_POS_D1) (x.pos.getD 0xFF)

/-- The entries of a unit in ascending order. -/
def diagEntries (d : Dev) (u : Nat) : List Nat := (List.range 32).filter fun e => d.getN (Obj.DIAG_UNIT e) == u

/-- Begin an entry: the unit switches to its source and waits its delay. -/
def diagBegin (u e : Nat) (d : Dev) : Dev := d.setDiag u { d.diag u with pos := some e, since := d.tm.mono, ready := false, results := [] }

/-- Start an idle unit at its first entry (R188). -/
def diagStart (u : Nat) (d : Dev) : Dev :=
  if d.on Obj.DIAG_RUN = false ∨ (d.diag u).pos.isSome then d
  else
    match d.diagEntries u with
    | [] => d
    | e :: _ => (d.setDiag u { d.diag u with start := d.tm.mono }).diagBegin u e

/-- The settling delay of a unit's entry expires (R188). -/
def devDiagDelayExpiry (u : Nat) (d : Dev) : Dev :=
  match (d.diag u).pos with
  | none => d
  | some e =>
    if (d.diag u).ready ∨ d.waited (d.diag u).since (d.getN (Obj.DIAG_DELAY e) * 1000 * nsUnit) = false then d
    else d.setDiag u { d.diag u with ready := true, results := [] }

/-- Write an entry's result and check its limits (R188, R189). -/
def diagResult (e : Nat) (rs : List F32) (d : Dev) : Dev :=
  let sum := rs.foldr (fun x s => F64.add s (F64.of32 x)) F64.zero
  let mean := F64.to32 (F64.div sum (F64.ofInt rs.length))
  let lo := rs.foldl F32.min (rs.headD F32.zero)
  let hi := rs.foldl F32.max (rs.headD F32.zero)
  let d := ((d.setF (Obj.DIAG_MEAN e) mean).setF (Obj.DIAG_MIN e) lo).setF (Obj.DIAG_MAX e) hi
  let d := d.set (Obj.DIAG_TIME e) d.now96
  let out := !(F32.ge mean (d.getF (Obj.DIAG_LO e)) && F32.le mean (d.getF (Obj.DIAG_HI e)))
  if out then
    let src := d.getN (Obj.DIAG_SOURCE e)
    let d := (d.inc (Obj.DIAG_OUT_COUNT e)).measEvent 74 e
    let d := d.raiseFault 74 (d.getN (Obj.DIAG_REACTION e)) 0 e 0 true
    if src = 1 ∨ src = 2 then d.measEvent 77 e else d
  else d.clearCause 74 e

/-- Go on to the unit's next entry (R188): a return to the first raises event 75 or 76 and closes a loop. -/
def diagNext (u e : Nat) (d : Dev) : Dev :=
  let es := d.diagEntries u
  match es.find? (e < ·) with
  | some n => if d.on Obj.DIAG_RUN then d.diagBegin u n else d.setDiag u { d.diag u with pos := none, results := [] }
  | none =>
    let dur := (d.tm.mono - (d.diag u).start) / (1000 * nsUnit)
    let d := d.setN (if u = 0 then Obj.DIAG_LOOP_D0 else Obj.DIAG_LOOP_D1) (dur % 4294967296)
    let d := d.setDiag u { d.diag u with start := d.tm.mono, pos := none, results := [] }
    match es with
    | [] => d
    | n :: _ => if d.on Obj.DIAG_RUN then (d.diagBegin u n).measEvent (75 + u) n else d

/-- A conversion of a unit ends with a result in units of its source (R187, R188). -/
def devDiagConversionEnd (u : Nat) (v : F32) (d : Dev) : Dev :=
  match (d.diag u).pos with
  | none => d
  | some e =>
    if (d.diag u).ready = false then d
    else
      let rs := v :: (d.diag u).results
      if rs.length < d.getN (Obj.DIAG_REPEAT e) then d.setDiag u { d.diag u with results := rs }
      else (d.diagResult e rs).diagNext u e

/-- An entry's contents change (R188): in progress, it restarts with them, or the unit steps on where it is no longer the
unit's; an idle unit may start. -/
def diagRewrite (e : Nat) (d : Dev) : Dev :=
  let one := fun (u : Nat) (d : Dev) =>
    if (d.diag u).pos = some e then
      if d.getN (Obj.DIAG_UNIT e) = u then d.diagBegin u e
      else d.diagNext u e
    else d.diagStart u
  one 1 (one 0 d)

/-- A write of `DIAG_RUN` takes effect: 1 starts idle units, 0 lets the entry in progress end (R188). -/
def diagRunWritten (d : Dev) : Dev := (d.diagStart 0).diagStart 1

/-! Checks on leaving CONFIG (R180, R186). -/

/-- An enabled pair that names one channel twice or a disabled channel. -/
def pairsBad (d : Dev) : Option Nat :=
  (List.range 16).find? fun p =>
    d.on (Obj.PP_ENABLE p) &&
      (d.getN (Obj.PP_CH_A p) == d.getN (Obj.PP_CH_B p) || !d.on (Obj.MEAS_ENABLE (d.getN (Obj.PP_CH_A p)))
        || !d.on (Obj.MEAS_ENABLE (d.getN (Obj.PP_CH_B p))))

/-- Whether a channel can serve the loop: enabled, its clock's divider written. -/
def measReady (d : Dev) (c : Nat) : Bool := d.on (Obj.MEAS_ENABLE c) && (d.measAnchor c).isSome

end Dev

end Sys2Proof.Machine
end

