-- ==== Sys2Proof/Machine/Time.lean ====
section
/-! DEFINITION. Time (R194–R218): the time base and its error estimate, PTP ports and master selection, the servo, phase
steps, the transparent clock, pulse generators, timestamp units, the RTC and UTC. Times are in 2⁻¹⁶ ns where not said
otherwise. (PRESUMED: assumption log 35) -/

namespace Sys2Proof.Machine

open Sys2Proof

/-- The codes of `TB_STATE`. -/
abbrev TbState.invalid : Nat := 0
abbrev TbState.rtc : Nat := 1
abbrev TbState.acquiring : Nat := 2
abbrev TbState.locked : Nat := 3
abbrev TbState.holdover : Nat := 4
abbrev TbState.freerun : Nat := 5

/-- One ns in 2⁻¹⁶ ns. -/
def nsFrac : Nat := 65536

/-- A time of the time base in 2⁻¹⁶ ns. -/
def fracOf (u : Nat) : Nat := u / 65536

/-- The first instant s + j·p at or after a time. -/
def gridFrom (s p t : Nat) : Nat :=
  let p := max 1 p
  if t ≤ s then s else s + (t - s + p - 1) / p * p

/-- An offset in 2⁻¹⁶ ns as ns in binary64. -/
def offsetNs (y : Int) : F64 := F64.ofRatio y 65536

/-- A binary32 in ns to the nearest 2⁻¹⁶ ns. -/
def nsToFrac (x : F32) : Int :=
  match F32.val x with
  | .fin n m e => (FVal.fin n m (e + 16)).nearest
  | _ => 0

/-- A time in ps to the nearest 2⁻¹⁶ ns, ties upwards. -/
def psToFrac (ps : Int) : Int := Int.fdiv (2 * ps * 65536 + 1000) 2000

namespace Dev

def tbState (d : Dev) : Nat := d.getN Obj.TB_STATE
def ptp (d : Dev) : PtpSt := d.time.ptp
def setPtp (x : PtpSt) (d : Dev) : Dev := { d with time := { d.time with ptp := x } }
def port (d : Dev) (q : Nat) : PtpPort := SMap.get PtpPort.init d.time.ports q
def setPort (q : Nat) (x : PtpPort) (d : Dev) : Dev :=
  { d with time := { d.time with ports := SMap.set PtpPort.init d.time.ports q x } }

/-- Raise a time event with its source (R217). -/
def tbEvent (e src : Nat) (d : Dev) : Dev := d.signalAt Obj.TB_EVENT_SRC e src

/-- The slave port as an event source. -/
def slaveSrc (d : Dev) : Nat :=
  let q := d.getN Obj.PTP_SLAVE_PORT
  if q < 4 then q else 0xFFFF

/-! The error estimate (R198). -/

/-- The drift total now, in 2⁻³² ns: it grows at `TB_HOLDOVER_DRIFT` ppb of elapsed time, rounded up. -/
def driftTotal (d : Dev) : Nat :=
  let dt := d.tm.mono - d.ptp.driftAt
  match F32.val (d.getF Obj.TB_HOLDOVER_DRIFT) with
  | .fin _ m e =>
    let num := dt * m * 2 ^ e.toNat
    let den := 1000000000 * 2 ^ (-e).toNat
    d.ptp.drift + (num + den - 1) / den
  | _ => d.ptp.drift

/-- Bring the drift total up to date, as the assumed drift changes or an estimate restarts. -/
def bringDrift (d : Dev) : Dev := d.setPtp { d.ptp with drift := d.driftTotal, driftAt := d.tm.mono }

/-- Drift since a total, in whole ns, rounded up. -/
def driftSince (d : Dev) (t0 : Nat) : Nat := (d.driftTotal - t0 + nsUnit - 1) / nsUnit

/-- The RTC's time in 1/32,768 s. -/
def rtcNow (d : Dev) : Nat := d.time.rtc.base + (d.tm.mono - d.time.rtc.at0) * 32768 / secUnit

/-- The RTC's error bound of R198, in ns: the drift over the time on the RTC since its last discipline, rounded up. -/
def rtcErr (d : Dev) : Nat :=
  match d.time.rtc.lastDisc with
  | some s =>
    if d.time.rtc.measured then
      match F32.val (F32.abs (d.getF Obj.RTC_DRIFT)) with
      | .fin _ m e =>
        let num := (d.rtcNow - s) * 1000 * m * 2 ^ e.toNat
        let den := 32768 * 2 ^ (-e).toNat
        30518 + (num + den - 1) / den
      | _ => 0xFFFFFFFE
    else 0xFFFFFFFE
  | none => 0xFFFFFFFE

/-- `TB_ERR_EST` in ns (R198). -/
def errEst (d : Dev) : Nat :=
  let p := d.ptp
  let st := d.tbState
  let raw :=
    if st = TbState.locked then listMax8 p.ys + 20
    else if st = TbState.holdover then p.errIn + d.driftSince p.driftIn
    else if st = TbState.rtc then d.rtcErr
    else if st = TbState.invalid then 0xFFFFFFFF
    else if p.synced then p.ys.headD 0 + d.driftSince p.driftSync
    else p.errIn + d.driftSince p.driftIn
  if st = TbState.invalid then 0xFFFFFFFF else min raw 0xFFFFFFFE
where
  listMax8 (l : List Nat) : Nat := (l.take 8).foldl max 0

/-- Enter a state of Table 08-1, with events 88, 89 and 99 and the estimate at entry (R217). -/
def setTbState (st : Nat) (d : Dev) : Dev :=
  let old := d.tbState
  if st = old then d
  else
    let d := d.bringDrift
    let p := d.ptp
    let d := d.setPtp { p with errIn := d.errEst, driftIn := p.drift, lockRun := 0, unlockRun := 0,
                               leftLock := if old = TbState.locked then some d.tm.mono else p.leftLock,
                               lockAt := if st = TbState.locked then some d.tm.mono else p.lockAt }
    let d := d.setN Obj.TB_STATE st
    let d := if old = TbState.locked ∨ (old = TbState.acquiring ∧ st ≠ TbState.locked) then d.tbEvent 89 d.slaveSrc else d
    let d := if old = TbState.holdover ∧ st = TbState.freerun then d.tbEvent 99 0xFFFF else d
    if st = TbState.locked then d.tbEvent 88 d.slaveSrc else d

/-! Phase steps (R196). -/

/-- `STEP_PENDING` follows its causes (R203). -/
def stepPending (d : Dev) : Dev := d.setBit Obj.TB_QUALITY 3 (d.ptp.servoDue || decide (0 < d.ptp.softDue))

/-- The first t_j at or after a time. -/
def pulseFrom (d : Dev) (u t : Nat) : Nat :=
  gridFrom (time96Units (d.get (Obj.PG_START u)) / 65536) (d.getN (Obj.PG_PERIOD u)) t

def pulse (d : Dev) (u : Nat) : PulseSt := SMap.get PulseSt.init d.time.pulse u
def setPulse (u : Nat) (x : PulseSt) (d : Dev) : Dev :=
  { d with time := { d.time with pulse := SMap.set PulseSt.init d.time.pulse u x } }

/-- A single pulse starts late (R209). -/
def latePulse (u t : Nat) (d : Dev) : Dev := ((d.setPulse u { due := some t }).inc (Obj.PG_LATE u)).tbEvent 96 u

/-- A generator at a phase step (R209): a pending single pulse passed over starts at the tick; a periodic one goes on with
the first t_j after the step. -/
def pulseStep (u : Nat) (d : Dev) : Dev :=
  let now := fracOf d.tm.now
  if d.getN (Obj.PG_MODE u) = 1 then
    match (d.pulse u).due with
    | some t => if t < now then d.latePulse u now else d
    | none => d
  else if d.getN (Obj.PG_MODE u) = 2 then d.setPulse u { due := some (d.pulseFrom u (now + 1)) }
  else d

/-- Move a time by a signed offset; not below 0. -/
def shiftTime (t : Nat) (off : Int) : Nat := ((t : Int) + off * 65536).toNat

/-- A phase step by an offset in 2⁻¹⁶ ns, with event 91 from a source (R196). No step is made in RUN. (DEDUCED: assumption log
36) -/
def makeStep (off : Int) (src : Nat) (d : Dev) : Dev :=
  let d := { d with tm := { d.tm with now := shiftTime d.tm.now off, lastT := shiftTime d.tm.lastT off,
                                      steps := d.tm.steps + ((shiftTime d.tm.now off : Int) - d.tm.now) } }
  let d := d.setPtp { d.ptp with stepAt := some d.tm.mono }
  let d := d.measReanchor
  let d := (List.range 4).foldl (fun d u => d.pulseStep u) d
  let d := (d.inc Obj.TB_STEP_COUNT).set Obj.TB_LAST_STEP off
  d.tbEvent 91 src

/-- PHASE_STEP (R196): by the servo, or by software. (DEDUCED: assumption log 36) -/
def devPhaseStep (off : Int) (servo : Bool) (d : Dev) : Dev :=
  if d.mode = Mode.run then d
  else
    let d := d.makeStep off (if servo then d.slaveSrc else 0xFFFF)
    let p := d.ptp
    let d := if servo then d.setPtp { p with servoDue := false, after := 2 }
      else d.setPtp { p with softDue := p.softDue - 1 }
    let d := if servo = false ∧ d.tbState = TbState.invalid then d.setTbState TbState.freerun else d
    d.stepPending

/-! The RTC (R211–R213). -/

def setRtc (x : RtcSt) (d : Dev) : Dev := { d with time := { d.time with rtc := x } }

/-- Load the RTC with a time of the time base. -/
def loadRtc (u : Nat) (d : Dev) : Dev :=
  d.setRtc { d.time.rtc with base := u * 32768 / secUnit, at0 := d.tm.mono, lastDisc := some (u * 32768 / secUnit) }

/-- RTC_SET takes effect (R212): the RTC is loaded, the time base by a step. -/
def devRtcSet (v : Int) (d : Dev) : Dev :=
  let u := time96Units v
  let off : Int := ((u : Int) - d.tm.now) / 65536
  let d := d.devPhaseStep off false
  (d.loadRtc u).setN Obj.RTC_STATE 2

/-- RTC_DISCIPLINE (R212): every 64 s while LOCKED. -/
def devRtcDiscipline (drift : F32) (d : Dev) : Dev :=
  if d.tbState ≠ TbState.locked then d
  else
    let d := d.loadRtc (d.second * secUnit)
    let d := d.setRtc { d.time.rtc with measured := true }
    (d.setF Obj.RTC_DRIFT drift).setN Obj.RTC_STATE 2

/-- RTC_OSC_STOP (R211): event 98. -/
def devRtcOscStop (d : Dev) : Dev :=
  let d := d.setRtc { d.time.rtc with lastDisc := none }
  ((d.setN Obj.RTC_STATE 0).inc Obj.RTC_OSC_STOPS).tbEvent 98 0xFFFF

/-- VBAT_LOW (R211): event 98. -/
def devVbatLow (d : Dev) : Dev := (d.setB Obj.RTC_VBAT_LOW true).tbEvent 98 0xFFFF

/-! Addend (R195). -/

/-- The largest addend, ±500 ppm. -/
def addendMax : Int := 4294967

/-- Put an addend in force. -/
def putAddend (a : Int) (d : Dev) : Dev := d.set Obj.TB_ADDEND (max (-addendMax) (min addendMax a))

/-- TB_ADDEND_SET takes effect: the rate correction it stands for becomes the servo's. -/
def devAddendSet (a : Int) (d : Dev) : Dev :=
  (d.putAddend a).setPtp { d.ptp with rho := F64.ofRatio (a * 1000000000) 8589934592 }

/-- One 2 ns tick of the time base (R195); the time base stands still without TIMECLK. (DESIGN CHOICE: assumption log 4) -/
def devTick (d : Dev) : Dev :=
  let step : Int := if d.tm.timeclk then 2 * (nsUnit : Int) + d.get Obj.TB_ADDEND else 0
  { d with tm := { d.tm with now := d.tm.now + step.toNat, mono := d.tm.mono + 2 * nsUnit } }

/-! Peer delay (R200, R205). -/

/-- An egress timestamp from its capture (R205). -/
def tTx (d : Dev) (q : Nat) (c : Int) : Int :=
  c + nsToFrac (d.getF (Obj.PTP_PORT_INT_TX q)) + psToFrac (d.get (Obj.PTP_PORT_TX_CORR q))

/-- An ingress timestamp from its capture (R205). -/
def tRx (d : Dev) (q : Nat) (c : Int) : Int :=
  c - nsToFrac (d.getF (Obj.PTP_PORT_INT_RX q)) - psToFrac (d.get (Obj.PTP_PORT_RX_CORR q))

/-- A binary32 in ns from a time. -/
def nsOf (y : Int) : F32 := F32.ofRatio y 65536

/-! Master selection (R201). -/

/-- Whether the time base's PTP is in use. -/
def ptpOn (d : Dev) : Bool := d.on Obj.PTP_ENABLE

/-- Whether dataset a is better than b: the first difference decides. -/
def betterOrder : List Nat → List Nat → Bool
  | a :: s, b :: t => decide (a < b) || (a == b && betterOrder s t)
  | _, _ => false

/-- The best master on the asCapable ports. -/
def bestMaster (d : Dev) : Option Master :=
  (List.range 4).foldl (fun b q =>
    match (if d.on (Obj.PTP_PORT_AS_CAPABLE q) then (d.port q).master else none), b with
    | some m, some n => if betterOrder m.order n.order then some m else some n
    | some m, none => some m
    | none, b => b) none

/-- The slave port for a master: the fewest stepsRemoved, then the first port. -/
def slaveFor (d : Dev) (gm : Nat) : Option Nat :=
  (List.range 4).foldl (fun b q =>
    match (if d.on (Obj.PTP_PORT_AS_CAPABLE q) then (d.port q).master else none) with
    | some m =>
      if m.gm ≠ gm then b
      else
        match b with
        | some r => (match (d.port r).master with
          | some n => if m.steps < n.steps then some q else some r
          | none => some q)
        | none => some q
    | none => b) none

/-- Report the port states of IEEE 1588. -/
def portStates (d : Dev) : Dev :=
  (List.range 4).foldl (fun d q =>
    let st :=
      if d.ptpOn = false then 0
      else if d.getN Obj.PTP_SLAVE_PORT = q then (if d.tbState = TbState.locked then 4 else 3)
      else match (d.port q).master with
        | some m => if m.gm = d.getN Obj.PTP_GM_ID ∧ d.on (Obj.PTP_PORT_AS_CAPABLE q) then 2 else 1
        | none => 1
    d.setN (Obj.PTP_PORT_STATE q) st) d

/-- The stepsRemoved of the master on a port. -/
def portSteps (d : Dev) (q : Nat) : Nat := ((d.port q).master.map (·.steps)).getD 0

/-- Choose master and slave port anew (R201): a change of grandmaster takes the state to ACQUIRING from every state. Without
PTP in use nothing is chosen. -/
def selectMaster (d : Dev) : Dev :=
  if d.ptpOn = false then d.portStates
  else match d.bestMaster with
  | none => (d.setN Obj.PTP_SLAVE_PORT 0xFF).portStates
  | some m =>
    let old := d.getN Obj.PTP_GM_ID
    let q := (d.slaveFor m.gm).getD 0xFF
    let was := d.getN Obj.PTP_SLAVE_PORT
    let d := (d.setN Obj.PTP_GM_ID m.gm).setN Obj.PTP_STEPS_REMOVED (d.portSteps q)
    let d := d.setN Obj.PTP_SLAVE_PORT q
    let d :=
      if old ≠ 0 ∧ old ≠ m.gm then
        ((d.inc Obj.PTP_GM_CHANGES).tbEvent 90 d.slaveSrc).setTbState TbState.acquiring
      else if was < 4 ∧ was ≠ q then d.setPtp { d.ptp with moved := true }
      else d
    d.portStates

/-- Set or clear asCapable: event 97 once per excursion (R200). -/
def setAsCapable (q : Nat) (v : Bool) (d : Dev) : Dev :=
  let x := d.port q
  let d := d.setB (Obj.PTP_PORT_AS_CAPABLE q) v
  if v then (d.setPort q { x with bad := false }).selectMaster
  else
    let d := d.setPort q { x with bad := true }
    let d := if x.bad then d else d.tbEvent 97 q
    d.selectMaster

/-- What the module's own PTP messages carry: `PTP_DOMAIN` and `PTP_VLAN`. -/
def ptpHdr (d : Dev) : PtpHdr := { domain := d.getN Obj.PTP_DOMAIN, vlan := d.getN Obj.PTP_VLAN }

/-- Whether a message is one for the module (R199): of its domain, untagged or tagged as its own are. (DEDUCED: assumption log 36) -/
def ptpTakes (d : Dev) (h : PtpHdr) : Bool := h == d.ptpHdr

/-- Send a PTP message (R199): peer delay messages to 01-80-C2-00-00-0E, all others to 01-1B-19-00-00-00; the tag; Ethertype
0x88F7; the message type and the domain; then what is shown of the rest. -/
def ptpSend (q : Nat) (peer : Bool) (h : PtpHdr) (type : Byte) (body : List Byte) (d : Dev) : Dev :=
  let dest := if peer then [0x01#8, 0x80#8, 0xC2#8, 0#8, 0#8, 0x0E#8] else [0x01#8, 0x1B#8, 0x19#8, 0#8, 0#8, 0#8]
  let tag := if h.vlan = 0 then [] else bytesBE 2 0x8100 ++ bytesBE 2 h.vlan
  d.send (.ether q .ptp (dest ++ tag ++ bytesBE 2 0x88F7 ++ [type, BitVec.ofNat 8 h.domain] ++ body))

/-- PDELAY_REQ_SEND (R200): once per second. -/
def devPdelayReqSend (q : Nat) (d : Dev) : Dev :=
  let x := d.port q
  if x.reqAt.any (fun t => !d.waited t secUnit) then d else
  let d := d.setPort q { x with reqSeq := (x.reqSeq + 1) % 65536, reqAt := some d.tm.mono }
  d.ptpSend q true d.ptpHdr 2#8 (bytesBE 2 x.reqSeq)

/-- PDELAY_REQ_RECEIVED (R200): the one-step answer carries the turnaround t3 − t2. -/
def devPdelayReqReceived (q : Nat) (h : PtpHdr) (seqId : Nat) (t2 t3 : Int) (d : Dev) : Dev :=
  if d.ptpTakes h = false then d
  else
    let turn := d.tTx q t3 - d.tRx q t2
    d.ptpSend q true h 3#8 (bytesBE 2 seqId ++ bytesBE 8 (turn % 18446744073709551616).toNat)

/-- neighborRateRatio over up to 8 exchanges. -/
def rateRatio (l : List (Int × Int)) : F64 :=
  match l, l.getLast? with
  | (a3, a4) :: _ :: _, some (b3, b4) => if a4 = b4 then F64.one else F64.ofRatio (a3 - b3) (a4 - b4)
  | _, _ => F64.one

/-- PDELAY_RESP_RECEIVED (R200): the mean link delay, its extremes and asCapable. -/
def devPdelayRespReceived (q : Nat) (h : PtpHdr) (twoStep : Bool) (t1 t2 t3 t4 corr : Int) (d : Dev) : Dev :=
  if d.ptpTakes h = false then d
  else
  let own1 := d.tTx q t1
  let own4 := d.tRx q t4
  let turn := if twoStep then t3 - t2 + corr else corr
  let link := Int.fdiv (own4 - own1 - turn) 2
  let x := d.port q
  let r := if twoStep then ((t3, own4) :: x.ratio).take 9 else x.ratio
  let v := nsOf link
  let d := d.setPort q { x with link := link, seen := true, ratio := r, respAt := d.tm.mono }
  let d := d.setF (Obj.PTP_PORT_LINK_DELAY q) v
  let d := d.setF (Obj.PTP_PORT_LINK_MIN q) (if x.seen then F32.min (d.getF (Obj.PTP_PORT_LINK_MIN q)) v else v)
  let d := d.setF (Obj.PTP_PORT_LINK_MAX q) (if x.seen then F32.max (d.getF (Obj.PTP_PORT_LINK_MAX q)) v else v)
  let d := d.setD (Obj.PTP_PORT_RATE_RATIO q) (rateRatio r)
  d.setAsCapable q (decide (link ≤ (d.getN Obj.PTP_PDELAY_TH : Int) * nsFrac))

/-- PDELAY_RESPONSE_TIMEOUT (R200): no valid response for 3 intervals of a second. -/
def devPdelayResponseTimeout (q : Nat) (d : Dev) : Dev :=
  if d.waited (d.port q).respAt (3 * secUnit) then d.setAsCapable q false else d

/-! Announce (R201, R214). -/

/-- PTP_ANNOUNCE_RECEIVED. -/
def devAnnounce (q : Nat) (h : PtpHdr) (m : Master) (utcOffset : Int) (utcValid : Bool) (leap : Nat) (traceable : Bool)
    (inaccuracy : Nat) (d : Dev) : Dev :=
  if d.ptpOn = false ∨ d.ptpTakes h = false then d
  else
    let d := (d.setPort q { d.port q with master := some m }).selectMaster
    if d.getN Obj.PTP_SLAVE_PORT ≠ q then d
    else
      let d := if d.getN Obj.PTP_PROFILE = 1 then d.setN Obj.PTP_GM_INACCURACY inaccuracy else d
      let d := (d.setBit Obj.TB_QUALITY 1 utcValid).setBit Obj.TB_QUALITY 2 traceable
      if d.getN Obj.UTC_SOURCE = 0 then (d.set Obj.UTC_OFFSET utcOffset).setN Obj.UTC_LEAP leap else d

/-! The servo (R202, R203). -/

/-- Put a rate correction in force. -/
def putRho (rho : F64) (d : Dev) : Dev :=
  let a := (F64.val (F64.mul (F64.ofRatio 8589934592 1000000000) rho)).nearest
  (d.putAddend a).setPtp { d.ptp with rho := rho }

/-- Update the rate correction from an offset (R202). `ms` is the Sync interval. -/
def servoUpdate (y : Int) (ms : Nat) (accumulate : Bool) (d : Dev) : Dev :=
  let dt := F64.ofRatio ms 1000
  let yn := offsetNs y
  let rmax := F64.ofInt (d.get Obj.PTP_RATE_MAX)
  let lim := fun (x : F64) => F64.clamp x (F64.neg rmax) rmax
  let p := d.ptp
  let i := if accumulate then
      lim (F64.add p.integral (F64.mul (F64.mul (F64.of32 (d.getF Obj.PTP_KI)) dt) yn))
    else lim p.integral
  let r1 := lim (F64.neg (F64.add (F64.mul (F64.of32 (d.getF Obj.PTP_KP)) yn) i))
  let smax := F64.mul (F64.ofInt (d.get Obj.PTP_SLEW_MAX)) dt
  let r := if d.mode = Mode.run then F64.add p.rho (F64.clamp (F64.sub r1 p.rho) (F64.neg smax) smax) else r1
  (d.setPtp { p with integral := i }).putRho r

/-- The offset alarm of RUN (R203). -/
def runLimit (absNs : Nat) (d : Dev) : Dev :=
  let high := d.mode == Mode.run && decide (d.getN Obj.PTP_RUN_LIMIT < absNs)
  let was := d.bit Obj.TB_QUALITY 0
  let d := d.setBit Obj.TB_QUALITY 0 high
  if high ∧ was = false then (d.tbEvent 92 d.slaveSrc).raiseFault 92 1 0 d.slaveSrc 0 true
  else if was ∧ high = false then d.clearCause 92 d.slaveSrc
  else d

/-- The state machine at a Sync (Table 08-1). `a` is |y| in ns, rounded up. -/
def syncState (a : Nat) (d : Dev) : Dev :=
  let st := d.tbState
  let within := decide (a ≤ d.getN Obj.PTP_LOCK_TH)
  if st = TbState.invalid ∨ st = TbState.rtc ∨ st = TbState.freerun then
    let d := d.setTbState TbState.acquiring
    d.setPtp { d.ptp with lockRun := if within then 1 else 0, integral := F64.zero }
  else if st = TbState.holdover then d.setTbState (if within then TbState.locked else TbState.acquiring)
  else if st = TbState.acquiring then
    let n := if within then d.ptp.lockRun + 1 else 0
    if d.getN Obj.PTP_LOCK_COUNT ≤ n then d.setTbState TbState.locked else d.setPtp { d.ptp with lockRun := n }
  else
    let n := if d.getN Obj.PTP_UNLOCK_TH < a then d.ptp.unlockRun + 1 else 0
    if 3 ≤ n ∨ (d.ptp.moved ∧ within = false) then d.setTbState TbState.acquiring
    else d.setPtp { d.ptp with unlockRun := n }

/-- One Sync of the slave port with its offset y (R202). -/
def servoSync (y : Int) (ms : Nat) (d : Dev) : Dev :=
  let a := (y.natAbs + 65535) / 65536
  let before := d.tbState
  let d := d.setF Obj.PTP_OFFSET (nsOf y)
  let d := d.bringDrift
  let d := d.syncState a
  let d := d.setPtp { d.ptp with ys := (a :: d.ptp.ys).take 8, synced := true, driftSync := d.ptp.drift, moved := false }
  let d := d.runLimit a
  let far := decide (d.getN Obj.PTP_STEP_TH * nsFrac < y.natAbs)
  let steps := far && (before == TbState.acquiring || before == TbState.freerun || before == TbState.rtc
    || before == TbState.invalid)
  let d := d.setPtp { d.ptp with servoDue := steps || (d.ptp.servoDue && far) }
  if d.ptp.servoDue ∧ d.mode ≠ Mode.run then (d.devPhaseStep (-y) true).portStates
  else
    let d := d.stepPending
    let p := d.ptp
    let d :=
      if p.after = 2 then d.setPtp { p with after := 1, afterY := y }
      else if p.after = 1 then
        (d.setPtp { p with after := 0, integral := Config.servoIntegral p.afterY y ms }).servoUpdate y ms false
      else d.servoUpdate y ms true
    d.portStates

/-- PTP_SYNC_RECEIVED (R202): a one-step Sync gives its offset, a two-step one waits for its Follow_Up. -/
def devSync (q : Nat) (h : PtpHdr) (gm : Nat) (twoStep : Bool) (seqId : Nat) (capture origin corr : Int) (ms : Nat) (d : Dev) : Dev :=
  if d.ptpOn = false ∨ d.ptpTakes h = false ∨ d.getN Obj.PTP_SLAVE_PORT ≠ q ∨ d.getN Obj.PTP_GM_ID ≠ gm
      ∨ d.on (Obj.PTP_PORT_AS_CAPABLE q) = false then d
  else
    let t2 := d.tRx q capture
    if twoStep then
      d.setPort q { d.port q with wait := some { gm := gm, seqId := seqId, t2 := t2, corr := corr, interval := ms } }
    else d.servoSync (t2 - origin - corr - (d.port q).link) ms

/-- PTP_FOLLOW_UP_RECEIVED (R202). -/
def devFollowUp (q : Nat) (h : PtpHdr) (gm seqId : Nat) (origin corr : Int) (d : Dev) : Dev :=
  let x := d.port q
  match x.wait with
  | some w =>
    if w.gm = gm ∧ w.seqId = seqId ∧ d.ptpOn ∧ d.ptpTakes h ∧ d.getN Obj.PTP_SLAVE_PORT = q ∧ d.on (Obj.PTP_PORT_AS_CAPABLE q) then
      (d.setPort q { x with wait := none }).servoSync (w.t2 - origin - (w.corr + corr) - x.link) w.interval
    else d
  | none => d

/-- PTP_SYNC_TIMEOUT (R197, R201): no usable Sync for 3 intervals, or announce receipt timeout, on the slave port. -/
def devSyncTimeout (d : Dev) : Dev :=
  let q := d.getN Obj.PTP_SLAVE_PORT
  let gm := d.getN Obj.PTP_GM_ID
  let d := if q < 4 then d.setPort q { d.port q with master := none, wait := none } else d
  match d.slaveFor gm with
  | some r =>
    (((d.setN Obj.PTP_SLAVE_PORT r).setN Obj.PTP_STEPS_REMOVED (d.portSteps r)).setPtp { d.ptp with moved := true }).portStates
  | none =>
    let d :=
      if d.tbState = TbState.locked then d.setTbState TbState.holdover
      else if d.tbState = TbState.acquiring then d.setTbState TbState.freerun
      else d
    d.selectMaster

/-- HOLDOVER_LIMIT_EXCEEDED (R197): event 99. -/
def devHoldoverLimit (d : Dev) : Dev :=
  if d.tbState = TbState.holdover ∧ d.getN Obj.TB_ERR_LIMIT < d.errEst then
    d.setTbState TbState.freerun
  else d

/-- `PTP_ENABLE` becomes 0 (R195, R197): FREERUN, the addend as last in force. The masters heard are forgotten. (DEDUCED:
assumption log 36) -/
def ptpDisabled (d : Dev) : Dev :=
  let d := (List.range 4).foldl (fun d q => d.setPort q { d.port q with master := none, wait := none }) d
  let d := d.setN Obj.PTP_SLAVE_PORT 0xFF
  let d := if d.tbState = TbState.invalid ∨ d.tbState = TbState.rtc then d else d.setTbState TbState.freerun
  d.portStates

/-! The transparent clock (R207). -/

/-- The partner port of a line switch: A0–A1, B0–B1. -/
def switchPort (q : Nat) : Nat := if q % 2 = 0 then q + 1 else q - 1

/-- The message type shown of a forwarded message: Sync 0, Follow_Up 8, any other 0xB as an Announce. (PRESUMED: assumption log
35) -/
def fwdType (kind : Nat) : Byte := if kind < 2 then 0#8 else if kind = 2 then 8#8 else 0x0B#8

/-- TRANSPARENT_CLOCK_FORWARD: kind 0 one-step Sync, 1 two-step Sync, 2 Follow_Up, 3 any other message. A message keeps its
domain and tag. -/
def devForward (qin qout : Nat) (h : PtpHdr) (kind seqId : Nat) (tRxC tTxC corr : Int) (d : Dev) : Dev :=
  if qout ≠ switchPort qin then d
  else
    let res := d.tTx qout tTxC - d.tRx qin tRxC
    let cap := d.on (Obj.PTP_PORT_AS_CAPABLE qin)
    let add := res + (if cap then (d.port qin).link else 0)
    let out := fun (c : Int) (d : Dev) =>
      d.ptpSend qout false h (fwdType kind) (bytesBE 2 seqId ++ bytesBE 8 (c % 18446744073709551616).toNat)
    let count := fun (d : Dev) =>
      let d := d.inc (Obj.PTP_TC_FRAMES qout)
      let d := d.setF (Obj.PTP_TC_RES_MAX qout) (F32.max (d.getF (Obj.PTP_TC_RES_MAX qout)) (nsOf res))
      if cap then d else d.inc (Obj.PTP_TC_NO_LINK qin)
    match kind with
    | 0 => out (corr + add) (count d)
    | 1 =>
      let x := d.port qin
      let d := d.setPort qin { x with fwd := (x.fwd ++ [(qout, seqId, add)]).drop (x.fwd.length + 1 - 4) }
      out corr (count d)
    | 2 =>
      let x := d.port qin
      match x.fwd.find? fun f => f.1 == qout && f.2.1 == seqId with
      | some f => out (corr + f.2.2) (d.setPort qin { x with fwd := x.fwd.filter fun g => !(g.1 == qout && g.2.1 == seqId) })
      | none => out corr d
    | _ => out corr d

/-! Pulse generators (R208, R209). -/

/-- Settings of a generator take effect at their boundary (R209), all together; `rearm` says that mode or start was written. -/
def pulseApply (u : Nat) (rearm : Bool) (d : Dev) : Dev :=
  let earliest := fracOf d.tm.now + 1000 * nsFrac
  match d.getN (Obj.PG_MODE u) with
  | 1 =>
    if rearm then
      let s := time96Units (d.get (Obj.PG_START u)) / 65536
      if s < earliest then d.latePulse u earliest else d.setPulse u { due := some s }
    else d
  | 2 => d.setPulse u { due := some (d.pulseFrom u earliest) }
  | _ => d.setPulse u { due := none }

/-- PG_PULSE (R208): the generator makes the pulse that is due. -/
def devPgPulse (u : Nat) (d : Dev) : Dev :=
  match (d.pulse u).due with
  | none => d
  | some t =>
    let d := d.send (.pulse u t (d.getN (Obj.PG_WIDTH u)) (!d.on (Obj.PG_POLARITY u)))
    let d := d.inc (Obj.PG_FIRED u)
    d.setPulse u { due := if d.getN (Obj.PG_MODE u) = 2 then some (t + d.getN (Obj.PG_PERIOD u)) else none }

/-! Timestamp units (R210). -/

def tsu (d : Dev) (u : Nat) : TsuSt := SMap.get TsuSt.init d.time.tsus u
def setTsu (u : Nat) (x : TsuSt) (d : Dev) : Dev :=
  ({ d with time := { d.time with tsus := SMap.set TsuSt.init d.time.tsus u x } } : Dev).setN (Obj.TSU_FIFO_LEVEL u) x.fifo.length

/-- TSU_EDGE_CAPTURE: an edge held for `width` ns, first seen at `t`. -/
def devTsuEdge (u : Nat) (rising : Bool) (width t : Nat) (d : Dev) : Dev :=
  let want := d.getN (Obj.TSU_EDGE u)
  let taken := want == 3 || (want == 1 && rising) || (want == 2 && !rising)
  if taken = false ∨ width < d.getN (Obj.TSU_MIN_WIDTH u) then d
  else
    let x := d.tsu u
    if 32 ≤ x.fifo.length then
      let d := (d.setTsu u { x with lost := true }).inc (Obj.TSU_OVERFLOW u)
      (d.broken 6).tbEvent 95 u
    else
      let stamp := (((t / 8192 : Nat) : Int) - d.get (Obj.TSU_SKEW u)).toNat * 8192
      let stepped := d.ptp.stepAt == some d.tm.mono
      let e : TsuEntry := { time := time96 (stamp * 65536), edge := if rising then 1 else 0,
                            flags := flagOf stepped 1 + flagOf x.lost 2, seq := x.seq }
      let d := d.setTsu u { fifo := x.fifo ++ [e], lost := false, seq := (x.seq + 1) % 65536 }
      if x.fifo.isEmpty then d.tbEvent 94 u else d
where
  flagOf (b : Bool) (v : Nat) : Nat := if b then v else 0

/-- The bytes of a timestamp entry, in the field order of the manual, little-endian. (DEDUCED: assumption log 36) -/
def tsuBytes (e : TsuEntry) : List Byte :=
  time96LE e.time ++ [BitVec.ofNat 8 e.edge, BitVec.ofNat 8 e.flags] ++ bytesLE 2 e.seq

/-- Take the oldest entry of a unit. -/
def tsuTake (u : Nat) (d : Dev) : Option (List Byte) × Dev :=
  let x := d.tsu u
  match x.fifo with
  | [] => (none, d)
  | e :: t => (some (tsuBytes e), d.setTsu u { x with fifo := t })

/-! UTC (R214). -/

/-- The TAI second that a leap instant of the cycle in progress would begin. -/
def leapSecond (d : Dev) : Nat := (d.tm.now + d.tc * nsUnit) / secUnit

/-- Whether a flagged leap falls due (R214): at D + N for LEAP61, at D + N − 1 for LEAP59. -/
def leapDue (d : Dev) : Bool :=
  let l := d.getN Obj.UTC_LEAP
  let u := Int.fmod ((d.leapSecond : Int) - d.get Obj.UTC_OFFSET) 86400
  (l == 1 && u == 0) || (l == 2 && u == 86399)

/-- LEAP_APPLY: the offset moves, the flag clears, event 93. -/
def devLeapApply (d : Dev) : Dev :=
  if d.leapDue = false then d
  else
    let plus := d.getN Obj.UTC_LEAP == 1
    let n := d.get Obj.UTC_OFFSET
    let p := { d.ptp with leapAt := some d.tm.mono, leapSec := some (d.leapSecond, n, plus) }
    (((d.set Obj.UTC_OFFSET (n + (if plus then 1 else -1))).setN Obj.UTC_LEAP 0).setPtp p).tbEvent 93 0xFFFF

end Dev

/-- Days since 1970-01-01 to year, month, day (the proleptic Gregorian calendar). -/
def civil (days : Int) : Int × Nat × Nat :=
  let z := days + 719468
  let era := Int.fdiv z 146097
  let doe := (z - era * 146097).toNat
  let yoe := (doe - doe / 1460 + doe / 36524 - doe / 146096) / 365
  let doy := doe - (365 * yoe + yoe / 4 - yoe / 100)
  let mp := (5 * doy + 2) / 153
  let dd := doy - (153 * mp + 2) / 5 + 1
  let mm := if mp < 10 then mp + 3 else mp - 9
  (yoe + era * 400 + (if mm ≤ 2 then 1 else 0), mm, dd)

/-- Decimal digits of a number, of a stated width. -/
def digits (w n : Nat) : List Byte := (List.range w).map fun i => BitVec.ofNat 8 (48 + n / 10 ^ (w - 1 - i) % 10)

/-- The 19 characters of `UTC_DATE` for a UTC second count and a seconds field. -/
def dateText (sec : Int) (show60 : Bool) : List Byte :=
  let (y, m, dd) := civil (Int.fdiv sec 86400)
  let s := (Int.fmod sec 86400).toNat
  let ss := if show60 then 60 else s % 60
  digits 4 y.toNat ++ [0x2D#8] ++ digits 2 m ++ [0x2D#8] ++ digits 2 dd ++ [0x54#8] ++ digits 2 (s / 3600) ++ [0x3A#8]
    ++ digits 2 (s / 60 % 60) ++ [0x3A#8] ++ digits 2 ss

/-- `UTC_DATE` now (R214): with LEAP61 flagged, the last second before D + N shows 23:59:60. (DEDUCED: assumption log 36) -/
def Dev.utcDate (d : Dev) : List Byte :=
  let u : Int := (d.second : Int) - d.get Obj.UTC_OFFSET
  dateText u (d.getN Obj.UTC_LEAP == 1 && Int.fmod u 86400 == 86399)

end Sys2Proof.Machine
end

