-- ==== Sys2Proof/Machine/Tidepool.lean ====
section
/-! DEFINITION. Tidepool and travelling-wave location (R219–R240): pools, trigger conditions, records, arrivals, matching
and the positions. Times are in 2⁻¹⁶ ns where not said otherwise. (DEDUCED: assumption log 37) -/

namespace Sys2Proof.Machine

open Sys2Proof

/-- The codes of `TP_STATE`. -/
abbrev TpState.idle : Nat := 0
abbrev TpState.armed : Nat := 1
abbrev TpState.ready : Nat := 2
abbrev TpState.post : Nat := 3
abbrev TpState.done : Nat := 4
abbrev TpState.full : Nat := 5

namespace Dev

def pool (d : Dev) (p : Nat) : TpPool := SMap.get TpPool.init d.tide.pools p
def tpCond (d : Dev) (n : Nat) : TpCond := SMap.get TpCond.init d.tide.conds n
def setTpCond (n : Nat) (x : TpCond) (d : Dev) : Dev :=
  { d with tide := { d.tide with conds := SMap.set TpCond.init d.tide.conds n x } }
def twLine (d : Dev) (l : Nat) : TwLine := SMap.get TwLine.init d.tide.lines l
def setTwLine (l : Nat) (x : TwLine) (d : Dev) : Dev :=
  { d with tide := { d.tide with lines := SMap.set TwLine.init d.tide.lines l x } }

/-- A pool's state, with the objects that report its records. -/
def setPool (p : Nat) (x : TpPool) (d : Dev) : Dev :=
  let d : Dev := { d with tide := { d.tide with pools := SMap.set TpPool.init d.tide.pools p x } }
  d.setN (Obj.TP_SLOT_FULL p) ((List.range 16).foldl (fun n s => if (x.recs.any (·.1 = s)) then n + 2 ^ s else n) 0)

/-- Raise a Tidepool or travelling-wave event with its source (R238). -/
def tpEvent (e src : Nat) (d : Dev) : Dev := d.signalAt Obj.TP_EVENT_SRC e src

/-- Whether the module is a ZA7140-B (R1, R2). -/
def isB (d : Dev) : Bool := d.on Obj.ID_ORDER_CODE

/-! Inputs and capacity (R219, R220). -/

/-- The slots a pool records, in ascending order. -/
def poolSlots (d : Dev) (p : Nat) : List Nat := (List.range 8).filter fun i => (d.getN (Obj.TP_POOL_MASK p)).testBit i

/-- The channels of a pool by position; 0xFF names none. -/
def poolChans (d : Dev) (p : Nat) : List Nat := (d.poolSlots p).map fun i => d.getN (Obj.TP_SLOT_CH i)

/-- C of R220; 0 while the pool records no slot or has no memory. -/
def tpCapacity (d : Dev) (p : Nat) : Nat :=
  let n := (d.poolSlots p).length
  if n = 0 then 0
  else (d.getN (Obj.TP_POOL_MIB p) * 1048576 - d.getN (Obj.TP_SLOTS p) * 128) / (d.getN (Obj.TP_SLOTS p) * 2 * n)

/-- The reports of R220 follow their settings. -/
def tpRefresh (d : Dev) : Dev :=
  let d := (List.range 4).foldl (fun d p => d.setN (Obj.TP_CAPACITY p) (d.tpCapacity p)) d
  d.setN Obj.TP_TOTAL_MIB ((List.range 4).foldl (fun n p => n + d.getN (Obj.TP_POOL_MIB p)) 0)

/-- Whether a write of `v` to `TP_POOL_MIB` keeps the total within the part's limit (R220). -/
def tpMibOk (d : Dev) (p v : Nat) : Bool :=
  decide ((List.range 4).foldl (fun n q => n + (if q = p then v else d.getN (Obj.TP_POOL_MIB q))) 0
    ≤ if d.isB then 32 else 256)

/-- Whether a pool's channels forbid leaving CONFIG (R219). -/
def poolBad (d : Dev) (p : Nat) : Bool :=
  let cs := (d.poolChans p).filter (· < 32)
  cs.any (fun c => !d.on (Obj.MEAS_ENABLE c))
    || cs.any (fun c => d.tOut c false != d.tOut (cs.headD 0) false)
    || cs.any (fun c => d.measAnchor c != d.measAnchor (cs.headD 0))

/-- An enabled line that names the pool and condition of a lower one (R231). -/
def linesBad (d : Dev) : Option Nat :=
  if d.isB then none else (List.range 4).find? fun m => (List.range 4).any fun l =>
    decide (l < m) && d.on (Obj.TW_ENABLE l) && d.on (Obj.TW_ENABLE m)
      && d.getN (Obj.TW_POOL l) == d.getN (Obj.TW_POOL m) && d.getN (Obj.TW_COND l) == d.getN (Obj.TW_COND m)

/-! Thresholds and conditions (R224, R227). -/

/-- A number as the nearest 16-bit fast code, held within the code's range. -/
def code16 (x : F32) : Int :=
  match F32.val x with
  | .fin n m e => saturateCode 16 (Int.fdiv ((FVal.fin n m (e + 1)).floor + 1) 2)
  | .inf n => if n then -32768 else 32767
  | .nan => 0

/-- A value in units of a channel as a fast code (R176, R224); `diff` leaves the offset out. A quotient without a value
(scale and distance both 0) is a free value. -/
def fastCodeOf (d : Dev) (c : Nat) (diff : Bool) (v : F32) : Int × Dev :=
  let x := if diff then v else F32.sub v (d.getF (Obj.MEAS_OFFSET c))
  let q := F32.div (F32.mul x (F32.ofInt 32768)) (d.getF (Obj.MEAS_SCALE c))
  if F32.val q = .nan then
    let (f, d) := d.takeFree
    ((f % 65536 : Nat) - (32768 : Int), d)
  else (code16 q, d)

/-- A condition's settings take effect: its thresholds are converted (R224) and it arms anew. -/
def tpConvert (p c : Nat) (d : Dev) : Dev :=
  let n := 8 * p + c
  let ch := d.getN (Obj.TP_SLOT_CH (d.getN (Obj.TC_SLOT n)))
  if 32 ≤ ch then d.setTpCond n { TpCond.init with armed := false }
  else
    let diff := d.getN (Obj.TC_KIND n) == 4
    let (th, d) := d.fastCodeOf ch diff (d.getF (Obj.TC_TH n))
    let (hi, d) := d.fastCodeOf ch diff (d.getF (Obj.TC_TH_HI n))
    let (hy, d) := d.fastCodeOf ch true (d.getF (Obj.TC_HYST n))
    d.setTpCond n { th := th, hi := hi, hyst := hy, armed := false }

end Dev

/-- The code of a position in a sample. -/
def TpSample.code (x : TpSample) (i : Nat) : Int := x.codes.getD i 0

/-- What a condition compares at the newest of some samples (newest first), and the sign of a difference; none while the
samples do not reach back far enough. -/
def comparedSignal (kind delta i : Nat) (xs : List TpSample) : Option (Int × Bool) :=
  match xs with
  | [] => none
  | x :: _ =>
    if kind = 3 then some ((x.code i).natAbs, decide (x.code i < 0))
    else if kind = 4 then
      match xs[delta]? with
      | some y => some ((x.code i - y.code i).natAbs, decide (x.code i < y.code i))
      | none => none
    else some (x.code i, false)

/-- A crossing: the fraction of a sample in 1/256 and the polarity. -/
structure TpCross where
  frac : Nat
  neg  : Bool
  deriving DecidableEq, Repr

/-- The interpolated fraction of R227, in 1/256, ties upwards. -/
def crossFrac (th a b : Int) : Nat :=
  let num := if b < a then a - th else th - a
  let den := (b - a).natAbs
  (roundUpTies (num * 256) den).toNat

/-- One step of a condition over the samples (newest first): the crossing met, if any, and the condition after it
(Table 09-2). -/
def TpCond.step (x : TpCond) (kind delta i : Nat) (xs : List TpSample) : Option TpCross × TpCond :=
  if kind = 0 then (none, x)
  else if (xs.head?.map fun s => s.bad.getD i true).getD true then (none, { x with armed := false })
  else
    match comparedSignal kind delta i xs, comparedSignal kind delta i xs.tail with
    | some (s, neg), prev =>
      let met : Option TpCross :=
        match prev with
        | none => none
        | some (a, _) =>
          if x.armed = false then none
          else
            match kind with
            | 2 => if x.th < a ∧ s ≤ x.th then some { frac := crossFrac x.th a s, neg := true } else none
            | 5 =>
              if x.th ≤ a ∧ s < x.th then some { frac := crossFrac x.th a s, neg := true }
              else if a ≤ x.hi ∧ x.hi < s then some { frac := crossFrac x.hi a s, neg := false }
              else none
            | _ => if a < x.th ∧ x.th ≤ s then some { frac := crossFrac x.th a s, neg := neg } else none
      let calm :=
        match kind with
        | 2 => decide (x.th < s) && decide (x.th + x.hyst ≤ s)
        | 5 => decide (x.th + x.hyst ≤ s) && decide (s ≤ x.hi - x.hyst)
        | _ => decide (s < x.th) && decide (s ≤ x.th - x.hyst)
      (met, { x with armed := if met.isSome then false else x.armed || calm })
    | none, _ => (none, x)

/-- 2⁻¹⁶ ns in one unit of `MEAS_SKEW` (125 ps). -/
def skewUnit : Int := 8192

namespace Dev

/-- The reference instant of output `m` of a channel's fast path, with `MEAS_SKEW` (R178, R185). -/
def fastRef (d : Dev) (c m : Nat) : Nat :=
  (((((d.measAnchor c).getD 0 + m * d.tOut c false) * nsFrac : Nat) : Int) + d.get (Obj.MEAS_SKEW c) * skewUnit).toNat

/-- The position of a condition's slot in its pool's samples. -/
def condPos (d : Dev) (p c : Nat) : Nat :=
  ((d.poolSlots p).filter (· < d.getN (Obj.TC_SLOT (8 * p + c)))).length

/-- The kind of a condition; one whose slot the pool does not record is never met. -/
def condKind (d : Dev) (p c : Nat) : Nat :=
  if (d.getN (Obj.TP_POOL_MASK p)).testBit (d.getN (Obj.TC_SLOT (8 * p + c))) then d.getN (Obj.TC_KIND (8 * p + c)) else 0

/-! Arming (R221, R222). -/

/-- Whether a record slot is locked by a DOMAIN read (R229). -/
def tpLocked (d : Dev) (p s : Nat) : Bool :=
  d.host.transfers.any fun t => !t.isWrite && t.key == Obj.TP_RECORD p s

/-- The lowest free record slot. -/
def tpFreeSlot (d : Dev) (p : Nat) : Option Nat :=
  (List.range (d.getN (Obj.TP_SLOTS p))).find? fun s => !(d.pool p).recs.any (·.1 = s)

/-- The oldest record slot that is not locked. -/
def tpOldest (d : Dev) (p : Nat) : Option Nat :=
  let rs := (d.pool p).recs.filter fun r => !d.tpLocked p r.1 && decide (r.1 < d.getN (Obj.TP_SLOTS p))
  match rs with
  | [] => none
  | r :: t => some (t.foldl (fun (b : Nat × TpRec) (x : Nat × TpRec) => if x.2.seq < b.2.seq then x else b) r).1

/-- The refusal of an ARM (R221, R222): 0x0F POST_TOO_LARGE, then STATE, then BUSY; 0 when accepted. -/
def tpArmStatus (d : Dev) (p : Nat) : Nat :=
  if (d.tpCapacity p : Int) - 64 < d.getN (Obj.TP_POST p) then Status.postTooLarge
  else if d.getN (Obj.TP_STATE p) ≠ TpState.idle ∧ d.getN (Obj.TP_STATE p) ≠ TpState.done then Status.state
  else if (d.tpFreeSlot p).isNone then Status.busy
  else Status.ok

/-- Take a record slot: pre-trigger filling starts. An overwritten record is gone. -/
def tpTake (p s : Nat) (d : Dev) : Dev :=
  let x := d.pool p
  let d := d.setPool p { x with slot := some s, samples := [], written := 0, trig := none, after := 0, event := false,
                                auto := false, gap := false, full := false, recs := SMap.del x.recs s }
  d.setN (Obj.TP_STATE p) TpState.armed

/-- ARM takes effect (R221, R222). -/
def devTpArm (p : Nat) (d : Dev) : Dev :=
  match (if d.tpArmStatus p = 0 then d.tpFreeSlot p else none) with
  | none => d
  | some s =>
    let x := d.pool p
    (d.setPool p { x with post := d.getN (Obj.TP_POST p), force := false, recent := [] }).tpTake p s

/-- STOP takes effect: the record in progress is discarded, completed ones are kept. -/
def devTpStop (p : Nat) (d : Dev) : Dev :=
  let st := d.getN (Obj.TP_STATE p)
  if st = TpState.idle ∨ st = TpState.done then d
  else
    let x := d.pool p
    let d := d.setPool p { TpPool.init with recs := x.recs, post := x.post }
    d.setN (Obj.TP_STATE p) TpState.idle

/-- FORCE takes effect: in ARMED it is held until READY, in READY the next sample triggers (R224). -/
def devTpForce (p : Nat) (d : Dev) : Dev :=
  let st := d.getN (Obj.TP_STATE p)
  if st = TpState.armed ∨ st = TpState.ready then d.setPool p { d.pool p with force := true } else d

/-- TP_READY: 64 samples have been written since the slot was taken. -/
def devTpReady (p : Nat) (d : Dev) : Dev :=
  if d.getN (Obj.TP_STATE p) = TpState.armed ∧ 64 ≤ (d.pool p).written then
    (d.setPool p { d.pool p with readyAt := d.tm.mono }).setN (Obj.TP_STATE p) TpState.ready
  else d

/-- TP_AUTO_TIMEOUT (R223): in AUTO, `TP_AUTO_TIMEOUT` after READY was entered, the next sample triggers. -/
def devTpAutoTimeout (p : Nat) (d : Dev) : Dev :=
  if d.getN (Obj.TP_STATE p) = TpState.ready ∧ d.getN (Obj.TP_MODE p) = 1
      ∧ d.waited (d.pool p).readyAt (d.getN (Obj.TP_AUTO_TIMEOUT p) * 1000000 * nsUnit) = true then d.setPool p { d.pool p with auto := true }
  else d

/-- A routed event reaches a pool (R224, R423): index 13, when `TP_EVENT_ENABLE` is set and triggers are evaluated. -/
def tpRouted (p : Nat) (d : Dev) : Dev :=
  if d.on (Obj.TP_EVENT_ENABLE p) ∧ d.getN (Obj.TP_STATE p) = TpState.ready then
    d.setPool p { d.pool p with event := true }
  else d

/-! Samples and triggers (R224–R227, R230). -/

/-- The sample of a pool's channels now: their fast codes. -/
def poolSample (d : Dev) (p : Nat) : TpSample :=
  let cs := d.poolChans p
  { codes := cs.map fun c => if c < 32 then d.get (Obj.MEAS_FAST_CODE c) else 0
    bad := cs.map fun c => decide (32 ≤ c) || d.measLoss c || d.bit (Obj.MEAS_STATUS c) MeasBit.settling
    loss := cs.any fun c => decide (c < 32) && d.measLoss c }

/-- Step the eight conditions of a pool over its recent samples: the crossings met, with their conditions. -/
def poolConds (p : Nat) (d : Dev) : List (Nat × TpCross) × Dev :=
  let xs := (d.pool p).recent
  (List.range 8).foldr (fun c (r : List (Nat × TpCross) × Dev) =>
    let n := 8 * p + c
    let (met, x) := (r.2.tpCond n).step (r.2.condKind p c) (r.2.getN (Obj.TC_DELTA_D n)) (r.2.condPos p c) xs
    (match met with
      | some k => (c, k) :: r.1
      | none => r.1, r.2.setTpCond n x)) ([], d)

/-- Fix the trigger sample (R222, R226–R228): `m` is its grid index. -/
def tpTrigger (p m : Nat) (met : List (Nat × TpCross)) (others : List Nat) (d : Dev) : Dev :=
  let x := d.pool p
  let cs := d.poolChans p
  let ref := cs.headD 0
  let rm := d.fastRef ref m
  let step := d.tOut ref false * nsFrac
  let before := x.written - 1
  let nPre := min (d.getN (Obj.TP_PRE p)) (min (d.tpCapacity p - x.post) before)
  let causes := (met.map (·.1) ++ others).foldl (fun n i => n + 2 ^ i) 0
  let (prim, time, neg) : Nat × Nat × Bool :=
    match met with
    | (c, k) :: _ =>
      let ch := d.getN (Obj.TP_SLOT_CH (d.getN (Obj.TC_SLOT (8 * p + c))))
      (c, d.fastRef ch (m - 1) + step * k.frac / 256, k.neg && d.getN (Obj.TC_KIND (8 * p + c)) == 4)
    | [] => (others.headD 15, rm, false)
  let t : TpTrig :=
    { causes := causes, primary := prim, time := time, first := rm - nPre * step, nPre := nPre, neg := neg,
      state := d.tbState, err := d.errEst, step := step, chans := cs,
      scale := cs.map fun c => d.getF (Obj.MEAS_SCALE c), offset := cs.map fun c => d.getF (Obj.MEAS_OFFSET c),
      at0 := d.tm.mono, lines := [] }
  let d := d.setPool p { x with trig := some t, after := 1, samples := x.samples.take (nPre + 1), event := false,
                                auto := false, force := false }
  let d := (d.setN (Obj.TP_PRE_EFF p) nPre).setN (Obj.TP_STATE p) TpState.post
  d.tpEvent (104 + p) p

/-- TP_SAMPLE_WRITTEN (R221, R224–R226, R230): the sample of grid index `m` reaches the pool; `full` says that its write
buffer is full. -/
def devTpSample (p m : Nat) (full : Bool) (d : Dev) : Dev :=
  let st := d.getN (Obj.TP_STATE p)
  let x := d.pool p
  if st ≠ TpState.armed ∧ st ≠ TpState.ready ∧ st ≠ TpState.post then d
  else if full then
    let d := d.setPool p { x with gap := true, full := true }
    if x.full then d else (d.inc (Obj.TP_GAPS p)).broken 6
  else
    let s := d.poolSample p
    let room := st = TpState.post ∧ x.after < x.post
    let x := { x with full := false, recent := (s :: x.recent).take 18 }
    let d := d.setPool p x
    let (met, d) := d.poolConds p
    if st = TpState.post then
      let d := if room then d.setPool p { x with samples := s :: x.samples, after := x.after + 1, written := x.written + 1 }
        else d
      d.add (Obj.TP_TRIG_IGNORED p) met.length
    else
      let early := decide (x.written < 64)
      let x := { x with samples := (s :: x.samples).take (max 1 (d.tpCapacity p)), written := x.written + 1 }
      let d := d.setPool p x
      if st = TpState.armed then (if early then d.add (Obj.TP_TRIG_IGNORED p) met.length else d)
      else
        let others := (if x.event then [13] else []) ++ (if x.auto then [14] else []) ++ (if x.force then [15] else [])
        if met.isEmpty ∧ others.isEmpty then d else d.tpTrigger p m met others

/-! Records (R221, R228, R229). -/

/-- The record in progress as it stands. -/
def tpOpen (d : Dev) (p : Nat) (stepped : Bool) : Option TpRec :=
  let x := d.pool p
  match x.slot, x.trig with
  | some s, some t =>
    some { pool := p, slot := s, seq := d.getN (Obj.TP_RECORDS p) + 1, trig := t, nPost := x.after,
           short := decide (t.nPre < d.getN (Obj.TP_PRE p)), stepped := stepped, gap := x.gap, samples := x.samples.reverse, ended := d.tm.mono }
  | _, _ => none

/-- Complete the record in progress: the header is written and the pool goes on as Table 09-1 says. -/
def tpComplete (p : Nat) (stepped : Bool) (d : Dev) : Dev :=
  match d.tpOpen p stepped with
  | none => d
  | some r =>
    let x := d.pool p
    let d := d.inc (Obj.TP_RECORDS p)
    let d := d.setPool p { x with slot := none, samples := [], trig := none, after := 0,
                                  recs := SMap.ins x.recs r.slot { r with seq := d.getN (Obj.TP_RECORDS p) } }
    let d := d.setN (Obj.TP_LAST_SLOT p) r.slot
    let d :=
      if d.getN (Obj.TP_MODE p) ≠ 2 then d.setN (Obj.TP_STATE p) TpState.done
      else
        match (match d.tpFreeSlot p with
          | some s => some s
          | none => if d.on (Obj.TP_OVERWRITE p) then d.tpOldest p else none) with
        | some s => d.tpTake p s
        | none => d.setN (Obj.TP_STATE p) TpState.full
    d.tpEvent (100 + p) p

/-- TP_RECORD_COMPLETE: `TP_POST` samples from the trigger sample have been written. -/
def devTpRecordComplete (p : Nat) (d : Dev) : Dev :=
  if d.getN (Obj.TP_STATE p) = TpState.post ∧ (d.pool p).post ≤ (d.pool p).after then d.tpComplete p false else d

/-- The pools at a phase step (Table 09-1). -/
def tpPhaseStep (d : Dev) : Dev :=
  (List.range 4).foldl (fun d p =>
    let st := d.getN (Obj.TP_STATE p)
    let x := d.pool p
    let d := d.setPool p { x with recent := [] }
    if st = TpState.armed ∨ st = TpState.ready then
      (d.setPool p { x with samples := [], written := 0, recent := [], auto := false, event := false }).setN
        (Obj.TP_STATE p) TpState.armed
    else if st = TpState.post then d.tpComplete p true
    else d) d

/-- TP_RELEASE takes effect (R229): the slot is free, and a FULL pool takes it. -/
def devTpRelease (p s : Nat) (d : Dev) : Dev :=
  let x := d.pool p
  if x.recs.any (·.1 = s) ∧ d.tpLocked p s = false then
    let d := d.setPool p { x with recs := SMap.del x.recs s }
    if d.getN (Obj.TP_STATE p) = TpState.full ∧ s < d.getN (Obj.TP_SLOTS p) then d.tpTake p s else d
  else d

/-- The completed record of a slot. -/
def tpRecord (d : Dev) (p s : Nat) : Option TpRec := ((d.pool p).recs.find? (·.1 = s)).map (·.2)

end Dev

/-- The 8 entries of a header field, padded with zero. -/
def padTo {α : Type} (n : Nat) (z : α) (l : List α) : List α := (l ++ List.replicate (n - l.length) z).take n

/-- A time in 2⁻¹⁶ ns as the bytes of a TIME96, little-endian. -/
def fracTime (t : Nat) : List Byte := time96LE (time96 (t * 65536))

/-- `FLAGS` of a record header. -/
def TpRec.flags (r : TpRec) : Nat :=
  (if r.short then 1 else 0) + (if r.stepped then 2 else 0) + (if r.gap then 4 else 0)
    + (if r.samples.any (·.loss) then 8 else 0)

/-- The 128 bytes of Table 09-3. -/
def TpRec.header (r : TpRec) : List Byte :=
  let t := r.trig
  bytesLE 4 0x54505231 ++ [BitVec.ofNat 8 r.pool, BitVec.ofNat 8 r.slot, BitVec.ofNat 8 t.chans.length,
      BitVec.ofNat 8 r.flags]
    ++ bytesLE 4 r.seq ++ bytesLE 4 t.nPre ++ bytesLE 4 r.nPost ++ bytesLE 2 t.causes
    ++ [BitVec.ofNat 8 t.primary, BitVec.ofNat 8 t.state] ++ fracTime t.first ++ fracTime t.time
    ++ bytesLE 4 t.step ++ bytesLE 4 (if t.neg then 1 else 0) ++ padTo 8 0#8 (t.chans.map (BitVec.ofNat 8))
    ++ (padTo 8 0#32 t.scale).flatMap (fun f => bytesLE 4 f.toNat)
    ++ (padTo 8 0#32 t.offset).flatMap (fun f => bytesLE 4 f.toNat)

/-- A record as stored (R228). -/
def TpRec.bytes (r : TpRec) : List Byte :=
  r.header ++ r.samples.flatMap fun s => s.codes.flatMap fun c => bytesLE 2 (c % 65536).toNat

/-! Travelling-wave location (R231–R235). -/

/-- The crossings of a condition over a record's samples, oldest first, from a given state on: (sample, crossing). `seen`
holds the samples before, newest first. -/
def crossings (kind delta i : Nat) : TpCond → Nat → List TpSample → List TpSample → List (Nat × TpCross)
  | _, _, _, [] => []
  | x, j, seen, s :: t =>
    let seen := (s :: seen).take 18
    let (met, x) := x.step kind delta i seen
    let rest := crossings kind delta i x (j + 1) seen t
    match met with
    | some k => (j, k) :: rest
    | none => rest

/-- The crossing at sample `n` itself, whatever the arming. -/
def crossAt (x : TpCond) (kind delta i n : Nat) (ss : List TpSample) : Option TpCross :=
  (({ x with armed := true } : TpCond).step kind delta i ((ss.take (n + 1)).reverse.take 18)).1

namespace Dev

/-- The record of a slot of a pool, complete or in progress after its trigger. -/
def tpView (d : Dev) (p s : Nat) : Option TpRec :=
  if (d.pool p).slot = some s then d.tpOpen p false else d.tpRecord p s

/-- The time of a crossing in a record, by the condition's own channel (R227). -/
def crossTime (d : Dev) (p c : Nat) (r : TpRec) (j : Nat) (k : TpCross) : Nat :=
  let ch := d.getN (Obj.TP_SLOT_CH (d.getN (Obj.TC_SLOT (8 * p + c))))
  let skew := (d.get (Obj.MEAS_SKEW ch) - d.get (Obj.MEAS_SKEW (r.trig.chans.headD 0))) * skewUnit
  (((r.trig.first + j * r.trig.step + r.trig.step * k.frac / 256 : Nat) : Int) - r.trig.step + skew).toNat

/-- The line's crossings in a record from sample `from` on, the condition arming from there, and the first of them at or
after a sample. -/
def lineCrossings (d : Dev) (l : Nat) (r : TpRec) (start : Nat) : List (Nat × TpCross) :=
  let p := d.getN (Obj.TW_POOL l)
  let c := d.getN (Obj.TW_COND l)
  let n := 8 * p + c
  crossings (d.condKind p c) (d.getN (Obj.TC_DELTA_D n)) (d.condPos p c) { d.tpCond n with armed := false } start
    ((r.samples.take start).reverse.take 18) (r.samples.drop start)

/-- The local arrival t_own of a line in a record: the sample, the crossing and the time (R232). -/
def lineArrival (d : Dev) (l : Nat) (r : TpRec) : Option (Nat × TpCross × Nat) :=
  let p := d.getN (Obj.TW_POOL l)
  let c := d.getN (Obj.TW_COND l)
  let n := 8 * p + c
  let first : Option (Nat × TpCross) :=
    if r.trig.causes.testBit c then
      (crossAt (d.tpCond n) (d.condKind p c) (d.getN (Obj.TC_DELTA_D n)) (d.condPos p c) r.trig.nPre r.samples).map
        fun k => (r.trig.nPre, k)
    else (d.lineCrossings l r 0).find? fun x => r.trig.nPre ≤ x.1
  first.map fun (j, k) => (j, k, if r.trig.primary = c then r.trig.time else d.crossTime p c r j k)

/-- AMPLITUDE of Table 09-4: the largest compared signal within `TW_BLANK` after the arrival. -/
def twAmplitude (d : Dev) (l : Nat) (r : TpRec) (j : Nat) (t : Nat) : F32 :=
  let p := d.getN (Obj.TW_POOL l)
  let c := d.getN (Obj.TW_COND l)
  let n := 8 * p + c
  let i := d.condPos p c
  let kind := d.condKind p c
  let last := (t + d.getN (Obj.TW_BLANK l) * 1000 * nsFrac - r.trig.first) / r.trig.step
  let vals := ((List.range (last + 1 - j)).map (j + ·)).filterMap fun k =>
    if k < r.samples.length then
      (comparedSignal kind (d.getN (Obj.TC_DELTA_D n)) i ((r.samples.take (k + 1)).reverse.take 18)).map (·.1)
    else none
  let top := vals.foldl max (vals.headD 0)
  let ch := d.getN (Obj.TP_SLOT_CH (d.getN (Obj.TC_SLOT n)))
  let x := F32.mul (d.getF (Obj.MEAS_SCALE ch)) (F32.mul (F32.ofInt top) (F32.ofRatio 1 32768))
  if kind = 4 then x else F32.add x (d.getF (Obj.MEAS_OFFSET ch))

/-- Seconds between two times, in binary64. -/
def secondsOf (x : Int) : F64 := F64.ofRatio x (65536 * 1000000000)

/-- Report a matched pair (R234). (DEDUCED: assumption log 38) -/
def twResult (l : Nat) (own rem : TwArrival) (d : Dev) : Dev :=
  let atA := d.getN (Obj.TW_END l) = 0
  let (a, b) := if atA then (own, rem) else (rem, own)
  let len := d.getD (Obj.TW_LENGTH l)
  let v := d.getD (Obj.TW_VELOCITY l)
  let two := F64.ofInt 2
  let xa := F64.div (F64.add len (F64.mul v (secondsOf ((a.time : Int) - b.time)))) two
  let xo := if atA then xa else F64.sub len xa
  let err := F64.to32 (F64.mul (F64.div v two) (F64.ofRatio (a.err + b.err + 140 : Nat) 1000000000))
  let zone := F64.of32 (d.getF (Obj.TW_END_ZONE l))
  let e64 := F64.of32 err
  let endZone := F64.le (F64.abs xa) zone || F64.le (F64.abs (F64.sub len xa)) zone
  let out := F64.lt xa (F64.neg e64) || F64.gt xa (F64.add len e64)
  let d := ((d.setD (Obj.TW_DE_X_A l) xa).setD (Obj.TW_DE_X_OWN l) xo).setF (Obj.TW_DE_ERR l) err
  let d := d.setN (Obj.TW_DE_FLAGS l)
    ((if endZone then 1 else 0) + (if out then 2 else 0) + (if own.locked && rem.locked then 0 else 4))
  let d := d.setN (Obj.TW_DE_STATUS l) (if (d.twLine l).locals.isEmpty then 2 else 1)
  d.tpEvent 110 l

/-- Whether two arrivals match (R233). -/
def twMatches (d : Dev) (l : Nat) (a b : TwArrival) : Bool :=
  let dt := secondsOf (((a.time : Int) - b.time).natAbs : Nat)
  let win := F64.add (F64.div (d.getD (Obj.TW_LENGTH l)) (d.getD (Obj.TW_VELOCITY l)))
    (F64.ofRatio (d.getN (Obj.TW_MATCH_MARGIN l)) 1000000)
  F64.le dt win

/-- Keep the last 8. -/
def last8 (l : List TwArrival) : List TwArrival := l.drop (l.length - 8)

/-- A new local arrival is matched or waits. -/
def twLocal (l : Nat) (a : TwArrival) (d : Dev) : Dev :=
  let x := d.twLine l
  match x.remotes.findIdx? (d.twMatches l a) with
  | some i =>
    match x.remotes[i]? with
    | some b => (d.setTwLine l { x with remotes := x.remotes.eraseIdx i }).twResult l a b
    | none => d
  | none => (d.setTwLine l { x with locals := last8 (x.locals ++ [a]) }).setN (Obj.TW_DE_STATUS l) 1

/-- A new remote arrival is matched or waits. -/
def twRemote (l : Nat) (a : TwArrival) (d : Dev) : Dev :=
  let x := d.twLine l
  match x.locals.findIdx? (d.twMatches l a) with
  | some i =>
    match x.locals[i]? with
    | some b => (d.setTwLine l { x with locals := x.locals.eraseIdx i }).twResult l b a
    | none => d
  | none => d.setTwLine l { x with remotes := last8 (x.remotes ++ [a]) }

/-- Whether a line is served: enabled, on a ZA7140-F. -/
def twOn (d : Dev) (l : Nat) : Bool := d.on (Obj.TW_ENABLE l) && !d.isB

/-- Note that a line has taken its arrival from the record of a slot. -/
def twTaken (l p s : Nat) (d : Dev) : Dev :=
  let x := d.pool p
  let mark := fun (t : TpTrig) => { t with lines := l :: t.lines }
  d.setPool p
    (if x.slot = some s then { x with trig := x.trig.map mark }
     else { x with recs := x.recs.map fun r => if r.1 = s then (s, { r.2 with trig := mark r.2.trig }) else r })

/-- TW_LOCAL_ARRIVAL (R232): the record of slot `s` of the line's pool is searched, until an arrival is found in it; none when
there is no arrival, else the elapsed time from which its deadline counts (R236): the samples up to t_own + `TW_BLANK` are in
DRAM. (DEDUCED: assumption log 38) -/
def devTwLocalArrival (l s : Nat) (d : Dev) : Option (Nat × Dev) :=
  let p := d.getN (Obj.TW_POOL l)
  if d.twOn l = false then none
  else
    match d.tpView p s with
    | none => none
    | some r =>
      if r.trig.lines.contains l ∨ r.flags / 4 ≠ 0 then none
      else
        match d.lineArrival l r with
        | none => none
        | some (j, k, t) =>
          let due := ((r.trig.at0 : Int) + ((t : Int) - r.trig.time) * 65536).toNat + d.getN (Obj.TW_BLANK l) * 1000 * nsUnit
          let d := (d.twTaken l p s).inc (Obj.TW_ARRIVALS l)
          let locked := decide (r.trig.state = TbState.locked)
          let err := min (r.trig.err + 10) 0xFFFFFFFF
          let rec0 := bytesLE 4 (d.getN (Obj.TW_LINE_ID l))
            ++ [BitVec.ofNat 8 (d.getN (Obj.TW_END l)),
                BitVec.ofNat 8 ((if locked then 1 else 0) + (if k.neg then 2 else 0) + (if r.stepped then 4 else 0))]
            ++ bytesLE 2 (d.getN (Obj.TW_ARRIVALS l) % 65536) ++ fracTime t ++ bytesLE 4 err
            ++ bytesLE 4 (d.twAmplitude l r j t).toNat ++ [BitVec.ofNat 8 (d.getN Obj.HOST_NODE_ID), 0#8, 0#8, 0#8]
          let d := (d.setBlob (Obj.TW_LOCAL_OUT l) rec0).tpEvent 108 l
          some (due, d.twLocal l { time := t, err := err, locked := locked, since := d.tm.mono })

/-- TW_REMOTE_IN takes effect (R233): 32 bytes of Table 09-4. -/
def devTwRemoteIn (l : Nat) (b : List Byte) (d : Dev) : Dev :=
  if d.twOn l = false ∨ b.length ≠ 32 then d
  else if natLE (b.take 4) ≠ d.getN (Obj.TW_LINE_ID l) ∨ (b.getD 4 0).toNat = d.getN (Obj.TW_END l) then
    (d.inc (Obj.TW_REMOTE_REJECTS l)).tpEvent 111 l
  else
    let t := (natLE ((b.drop 8).take 6) * 1000000000 + natLE ((b.drop 14).take 4)) * 65536 + natLE ((b.drop 18).take 2)
    d.twRemote l { time := t, err := natLE ((b.drop 20).take 4), locked := (b.getD 5 0).toNat.testBit 0,
                   since := d.tm.mono }

/-- TW_MATCH_TIMEOUT (R233): the oldest arrival of a line, local or remote, is removed once it has been unmatched for
`TW_MATCH_TIMEOUT`. -/
def devTwMatchTimeout (l : Nat) (isLocal : Bool) (d : Dev) : Dev :=
  let x := d.twLine l
  match if isLocal then x.locals else x.remotes with
  | [] => d
  | a :: t =>
    if d.waited a.since (d.getN (Obj.TW_MATCH_TIMEOUT l) * 1000000 * nsUnit) = false then d
    else if isLocal then
      ((d.setTwLine l { x with locals := t }).setN (Obj.TW_DE_STATUS l) (if t.isEmpty then 3 else 1)).tpEvent 111 l
    else d.setTwLine l { x with remotes := t }

/-- TW_SINGLE_ENDED_RESULT (R235): from the completed record of slot `s` of the line's pool; none when there is no result, else
the elapsed time from which its deadline counts (R236): the record's completion. (DEDUCED: assumption log 38) -/
def devTwSingleEnded (l s : Nat) (d : Dev) : Option (Nat × Dev) :=
  if d.twOn l = false then none
  else
    match d.tpRecord (d.getN (Obj.TW_POOL l)) s with
    | none => none
    | some r =>
      let len := d.getD (Obj.TW_LENGTH l)
      let v := d.getD (Obj.TW_VELOCITY l)
      let report := fun (st : Nat) (d : Dev) => some (r.ended, (d.setN (Obj.TW_SE_STATUS l) st).tpEvent 109 l)
      if r.flags / 2 ≠ 0 then report 4 d
      else
        match d.lineArrival l r with
        | none => none
        | some (_, k, t) =>
          let span := secondsOf ((r.nPost * r.trig.step : Nat) : Int)
          if F64.lt span (F64.div (F64.mul (F64.ofInt 2) len) v) then report 3 d
          else
            let p := d.getN (Obj.TW_POOL l)
            let c := d.getN (Obj.TW_COND l)
            let from0 := t + d.getN (Obj.TW_BLANK l) * 1000 * nsFrac
            let start := (from0 - r.trig.first + r.trig.step - 1) / r.trig.step
            let pol := d.getN (Obj.TW_SE_POLARITY l)
            let ok := fun (x : Nat × TpCross) => pol == 2 || (pol == 0 && x.2.neg == k.neg) || (pol == 1 && x.2.neg != k.neg)
            match (d.lineCrossings l r start).find? ok with
            | none => report 2 d
            | some (j2, k2) =>
              let t2 := d.crossTime p c r j2 k2
              let x := F64.div (F64.mul v (secondsOf ((t2 : Int) - t))) (F64.ofInt 2)
              report 1 ((d.setD (Obj.TW_SE_X l) x).setD (Obj.TW_SE_ALT l) (F64.sub len x))

end Dev

end Sys2Proof.Machine
end

