-- ==== Sys2Proof/Machine/Phasor.lean ====
section
/-! DEFINITION. Synchrophasors (R241–R259): windows, phasors, frequency and ROCOF, the frames of IEEE C37.118.2 and the
commands. Frame layouts the manual leaves to IEEE C37.118.2-2011 are the standard's. (PRESUMED: assumption log 39) -/

namespace Sys2Proof.Machine

open Sys2Proof

/-- A complex number in binary64. -/
structure C64 where
  re : F64
  im : F64
  deriving DecidableEq, Repr

def C64.add (a b : C64) : C64 := { re := F64.add a.re b.re, im := F64.add a.im b.im }
def C64.mul (a b : C64) : C64 :=
  { re := F64.sub (F64.mul a.re b.re) (F64.mul a.im b.im), im := F64.add (F64.mul a.re b.im) (F64.mul a.im b.re) }
def C64.scale (k : F64) (a : C64) : C64 := { re := F64.mul k a.re, im := F64.mul k a.im }
def C64.abs (a : C64) : F64 := F64.sqrt (F64.add (F64.mul a.re a.re) (F64.mul a.im a.im))
def C64.arg (a : C64) : F64 := F64.atan2 a.im a.re

/-- α = e^(j2π/3) of R247, rounded to binary64. -/
def C64.alpha : C64 := { re := 0xBFE0000000000000#64, im := 0x3FEBB67AE8584CAA#64 }

/-- An angle difference taken in (−π, π] (R247). -/
def unwrap (x : F64) : F64 :=
  let k := F64.div (F64.sub F64.pi x) F64.twoPi
  F64.add x (F64.mul F64.twoPi (F64.ofInt (F64.val k).floor))

/-- The estimator rate f_e (R243). -/
def phFe : Nat := 9600

namespace Dev

def phStream (d : Dev) (q : Nat) : PhStream := SMap.get PhStream.init d.ph.streams q
def setPhStream (q : Nat) (x : PhStream) (d : Dev) : Dev :=
  { d with ph := { d.ph with streams := SMap.set PhStream.init d.ph.streams q x } }
def phSet (d : Dev) (s : Nat) : PhSet := SMap.get PhSet.init d.ph.sets s
def setPhSet (s : Nat) (x : PhSet) (d : Dev) : Dev :=
  { d with ph := { d.ph with sets := SMap.set PhSet.init d.ph.sets s x } }

/-- Raise a phasor event with its source (R257). -/
def phEvent (e src : Nat) (d : Dev) : Dev := d.signalAt Obj.PH_EVENT_SRC e src

/-- f_nom in Hz (R242). -/
def fNom (d : Dev) : Nat := if d.on Obj.PH_F_NOM then 60 else 50

/-- Whether the engine is in use: PH_ENABLE on a ZA7140-F. -/
def phOn (d : Dev) : Bool := d.on Obj.PH_ENABLE && !d.isB

/-- Whether an enabled stream carries a set. -/
def phCarries (d : Dev) (q s : Nat) : Bool := d.on (Obj.PHS_ENABLE q) && (d.getN (Obj.PHS_SETS q)).testBit s

/-- The sets a stream carries, in ascending order. -/
def phSetsOf (d : Dev) (q : Nat) : List Nat :=
  (List.range 4).filter fun s => d.phCarries q s && d.on (Obj.PH_SET_ENABLE s)

/-- The rate at which a set is estimated (R246). -/
def phRate (d : Dev) (s : Nat) : Nat :=
  (List.range 4).foldl (fun m q => if d.phCarries q s then max m (d.getN (Obj.PHS_RATE q)) else m) 0

/-- Whether a set is M-class. -/
def phM (d : Dev) (s : Nat) : Bool := d.on (Obj.PH_CLASS s)

/-- The reporting rates of Table 10-1 for a class at f_nom. -/
def phRates (d : Dev) (m : Bool) : List Nat :=
  if d.fNom = 50 then [10, 25, 50] ++ (if m then [] else [100, 200])
  else [10, 12, 15, 20, 30, 60] ++ (if m then [] else [120, 240])

/-- Whether Table 10-1 gives a rate to a stream: at f_nom, and as M-class when a set it names is M-class. (DEDUCED: assumption log 40) -/
def phRateOk (d : Dev) (q n : Nat) : Bool :=
  (d.phRates ((List.range 4).any fun s => (d.getN (Obj.PHS_SETS q)).testBit s && d.phM s)).contains n

/-- N of a set's window (R245). -/
def phN (d : Dev) (s : Nat) : Nat := if d.phM s then 8 * phFe / max 1 (d.phRate s) + 1 else 2 * phFe / d.fNom + 1

/-- T_d of a set in grid points (Table 10-1). -/
def phTd (d : Dev) (s : Nat) : Nat := if d.phM s then phFe / (2 * max 1 (d.phRate s)) else phFe / (4 * d.fNom)

/-- w[j] of a set's window (R245). -/
def phWeight (d : Dev) (s j : Nat) : F64 :=
  let n := d.phN s
  let mid := (n - 1) / 2
  if d.phM s then
    let ham := F64.sub 0x3FE147AE147AE148#64
      (F64.mul 0x3FDD70A3D70A3D71#64 (F64.cos (F64.div (F64.mul F64.twoPi (F64.ofInt j)) (F64.ofInt (n - 1 : Nat)))))
    let x := F64.ofRatio (2 * (d.phRate s : Int) * ((j : Int) - mid)) (5 * phFe)
    let sinc := if j = mid then F64.one else
      let px := F64.mul F64.pi x
      F64.div (F64.sin px) px
    F64.mul ham sinc
  else F64.sub F64.one (F64.ofRatio (2 * ((j : Int) - mid).natAbs) (n + 1 : Nat))

/-- x(t_j): a channel's fine outputs resampled linearly at grid point `g` of TAI second `sec`, in engineering units
(R243), interpolated in binary32 between the y of two outputs as R179 does; none where the outputs do not reach. -/
def phPoint (d : Dev) (c sec : Nat) (g : Int) : Option F64 :=
  let t : Int := (sec * 1000000000 * nsFrac * phFe : Nat) + g * (1000000000 * nsFrac : Nat)
  let ref := fun (r : Nat) => (((r * nsFrac : Nat) : Int) + d.get (Obj.MEAS_SKEW c) * skewUnit) * phFe
  let step : Int := d.tOut c true * nsFrac * phFe
  let value := fun (x : CycleSample) => F64.of32 (d.sampleValue c true x)
  let rec go : List (Nat × Int) → Option F64
    | (r1, c1) :: (r0, c0) :: rest =>
      if ref r1 = t then some (value ⟨c1, c1, 0, 1⟩)
      else if ref r0 ≤ t ∧ t < ref r1 then
        if ref r1 - ref r0 = step then
          some (value ⟨c0, c1, (t - ref r0).toNat, step.toNat⟩)
        else none
      else go ((r0, c0) :: rest)
    | [(r1, c1)] => if ref r1 = t then some (value ⟨c1, c1, 0, 1⟩) else none
    | [] => none
  go (d.measCh c).hist

/-- The phasor of one channel of a set at a grid point, before its corrections (R244). -/
def phRaw (d : Dev) (s c sec : Nat) (g : Int) : Option C64 :=
  let n := d.phN s
  let pts : List (Nat × Int) := (List.range n).map fun (j : Nat) => (j, g + (j : Int) - (((n - 1) / 2 : Nat) : Int))
  let sum := pts.foldl (fun (acc : Option (F64 × C64)) (x : Nat × Int) =>
    match acc, d.phPoint c sec x.2 with
    | some (sw, z), some v =>
      let w := d.phWeight s x.1
      let a := F64.div (F64.mul F64.twoPi (F64.ofInt ((x.2 * d.fNom) % phFe))) (F64.ofInt phFe)
      let wv := F64.mul w v
      some (F64.add sw w, z.add { re := F64.mul wv (F64.cos a), im := F64.neg (F64.mul wv (F64.sin a)) })
    | _, _ => none) (some (F64.zero, { re := F64.zero, im := F64.zero }))
  sum.map fun (sw, z) => z.scale (F64.div 0x3FF6A09E667F3BCD#64 sw)

/-- The magnitude response of a channel's fine path at a frequency (R177): sinc, FIR and notch. (DEDUCED: assumption log 40) -/
def fineGain (d : Dev) (c : Nat) (f : F64) : F64 :=
  let tm := F64.ofRatio (d.tMclk c) 1000000000
  let r := d.getN (Obj.MEAS_FINE_OSR c)
  let dirichlet := fun (k : Nat) (t : F64) =>
    let a := F64.mul (F64.mul F64.pi f) t
    F64.abs (F64.div (F64.sin (F64.mul a (F64.ofInt k))) (F64.mul (F64.ofInt k) (F64.sin a)))
  let sinc := Nat.repeat (fun x => F64.mul x (dirichlet r tm)) (d.getN (Obj.MEAS_FINE_ORDER c)) F64.one
  let fir := if d.getN (Obj.MEAS_FIR_DEC c) = 0 then F64.one else
    let h := firCoefs 32 (d.blob (Obj.MEAS_FIR_COEF c))
    let step := F64.mul (F64.mul F64.twoPi f) (F64.mul tm (F64.ofInt r))
    let terms := (h.zip (List.range 32)).map fun (x, i) =>
      F64.mul (F64.ofInt x) (F64.cos (F64.mul step (F64.ofRatio (63 - 2 * (i : Int)) 2)))
    F64.abs (F64.div (F64.mul (F64.ofInt 2) (terms.foldl F64.add F64.zero)) (F64.ofInt 8388608))
  let m := d.getN (Obj.MEAS_NOTCH_M c)
  let notch := if m ≤ 1 then F64.one else dirichlet m (F64.ofRatio (d.tOut c true) 1000000000)
  F64.mul (F64.mul sinc fir) notch

/-- The window's gain at Δf (R245). (DEDUCED: assumption log 40) -/
def windowGain (d : Dev) (s : Nat) (df : F64) : F64 :=
  let n := d.phN s
  let mid := (n - 1) / 2
  let (num, den) := (List.range n).foldl (fun (a : F64 × F64) j =>
    let w := d.phWeight s j
    let ang := F64.div (F64.mul (F64.mul F64.twoPi df) (F64.ofInt ((j : Int) - mid))) (F64.ofInt phFe)
    (F64.add a.1 (F64.mul w (F64.cos ang)), F64.add a.2 w)) (F64.zero, F64.zero)
  F64.div num den

end Dev

/-- One estimate of a set: A, B, C and positive sequence, frequency and ROCOF. -/
structure PhEstimate where
  ph    : List C64
  f     : F64
  rocof : F64
  deriving DecidableEq, Repr

/-- X1 of R247. -/
def posSeq (a b c : C64) : C64 :=
  ((a.add (C64.alpha.mul b)).add ((C64.alpha.mul C64.alpha).mul c)).scale (F64.ofRatio 1 3)

namespace Dev

/-- The estimate of a set at grid point `g` of TAI second `sec` (R244–R247). (DEDUCED: assumption log 40) -/
def phEstimate (d : Dev) (s sec : Nat) (g : Int) : Option PhEstimate :=
  let cs := [d.getN (Obj.PH_CH_A s), d.getN (Obj.PH_CH_B s), d.getN (Obj.PH_CH_C s)]
  let raw := fun (h : Int) => match cs.filterMap fun c => d.phRaw s c sec h with
    | [a, b, c] => some (a, b, c)
    | _ => none
  let td := d.phTd s
  match raw (g - td), raw g, raw (g + td) with
  | some (a0, b0, c0), some (a, b, c), some (a1, b1, c1) =>
    let p0 := (posSeq a0 b0 c0).arg
    let p := (posSeq a b c).arg
    let p1 := (posSeq a1 b1 c1).arg
    let up := unwrap (F64.sub p1 p)
    let dn := unwrap (F64.sub p p0)
    let tds := F64.ofRatio td phFe
    let f := F64.add (F64.ofInt d.fNom) (F64.div (F64.add up dn) (F64.mul (F64.mul (F64.ofInt 2) F64.twoPi) tds))
    let ro := F64.div (F64.sub up dn) (F64.mul F64.twoPi (F64.mul tds tds))
    let w := d.windowGain s (F64.sub f (F64.ofInt d.fNom))
    let fix := fun (x : C64) (c : Nat) => x.scale (F64.div F64.one (F64.mul (d.fineGain c f) w))
    let xa := fix a (cs.getD 0 0)
    let xb := fix b (cs.getD 1 0)
    let xc := fix c (cs.getD 2 0)
    some { ph := [xa, xb, xc, posSeq xa xb xc], f := f, rocof := ro }
  | _, _, _ => none

/-- Whether f lies within f_nom ± 5 Hz. -/
def phInRange (d : Dev) (f : F64) : Bool :=
  F64.le (F64.abs (F64.sub f (F64.ofInt d.fNom))) (F64.ofInt 5)

/-- Whether a set's channels are all VALID and not SETTLING (Table 10-3). -/
def phChannelsOk (d : Dev) (s : Nat) : Bool :=
  [d.getN (Obj.PH_CH_A s), d.getN (Obj.PH_CH_B s), d.getN (Obj.PH_CH_C s)].all fun c =>
    d.bit (Obj.MEAS_STATUS c) MeasBit.valid && !d.bit (Obj.MEAS_STATUS c) MeasBit.settling

/-- Table 10-2: the code of FRACSEC and that of STAT for an error estimate in ns. -/
def timeQuality (d : Dev) : Nat × Nat :=
  let e := d.errEst
  if d.tbState = TbState.invalid then (0xF, 7)
  else if e ≤ 1 then (1, 1) else if e ≤ 10 then (2, 1) else if e ≤ 100 then (3, 1) else if e ≤ 1000 then (4, 2)
  else if e ≤ 10000 then (5, 3) else if e ≤ 100000 then (6, 4) else if e ≤ 1000000 then (7, 5)
  else if e ≤ 10000000 then (8, 6) else if e ≤ 100000000 then (9, 7) else if e ≤ 1000000000 then (0xA, 7)
  else (0xB, 7)

/-- Unlocked time of Table 10-3. -/
def unlockedCode (d : Dev) : Nat :=
  if d.tbState = TbState.locked then 0
  else match d.ptp.leftLock with
    | none => 3
    | some t =>
      let s := (d.tm.mono - t) / secUnit
      if s < 10 then 0 else if s < 100 then 1 else if s < 1000 then 2 else 3

/-- STAT of a block (R254). -/
def phStat (d : Dev) (error : Bool) : Nat :=
  (if error then 0xC000 else 0) + (if d.tbState = TbState.locked then 0 else 0x2000) + d.timeQuality.2 * 64
    + d.unlockedCode * 16

/-- The SOC of a report in TAI second `sec` (R248), under the offset in force in that second: in the 23:59:60 second it repeats
the preceding value. -/
def phSoc (d : Dev) (sec : Nat) : Nat :=
  let now : Int × Bool := (d.get Obj.UTC_OFFSET, d.getN Obj.UTC_LEAP == 1)
  let (off, leap) : Int × Bool := match d.ptp.leapSec with
    | some (s, n, plus) => if sec < s then (n, plus && sec + 1 == s) else now
    | none => now
  let u : Int := (sec : Int) - off
  ((if leap && Int.fmod u 86400 == 86399 then u - 1 else u) % 4294967296).toNat

/-- The time-quality byte, FRACSEC [31:24] (R248). -/
def phQuality (d : Dev) : Nat :=
  let leapt := match d.ptp.leapAt with
    | some t => decide (d.tm.mono < t + 86400 * secUnit)
    | none => false
  (if leapt then 64 else 0) + (if d.getN Obj.UTC_LEAP = 0 then 0 else 32) + (if d.getN Obj.UTC_LEAP = 2 then 16 else 0)
    + d.timeQuality.1

/-- A frame of IEEE C37.118.2: SYNC, size, IDCODE, SOC, FRACSEC, the body and CHK. (PRESUMED: assumption log 39) -/
def phFrame (sync idcode soc frac : Nat) (body : List Byte) : List Byte :=
  let l := bytesBE 2 sync ++ bytesBE 2 (16 + body.length) ++ bytesBE 2 idcode ++ bytesBE 4 soc ++ bytesBE 4 frac ++ body
  l ++ bytesBE 2 (crcBytes 16 0x1021 0xFFFF 0 l)

/-- What a report says of one set: estimate, whether its data error stands, whether its values are NaN. -/
def phReport (d : Dev) (s sec n fs : Nat) : Option PhEstimate × Bool :=
  let g : Int := (n * (phFe / max 1 fs) : Nat)
  match (if d.phChannelsOk s then d.phEstimate s sec g else none) with
  | none => (none, true)
  | some e => (some e, !d.phInRange e.f)

/-- Two F32 of a phasor. -/
def phPair (polar : Bool) (x : C64) : F32 × F32 :=
  if polar then (F64.to32 x.abs, F64.to32 x.arg) else (F64.to32 x.re, F64.to32 x.im)

/-- A PMU block (R251, R254). -/
def phBlock (d : Dev) (polar : Bool) (r : Option PhEstimate × Bool) : List Byte :=
  let ps := match r.1 with
    | some e => e.ph.map (phPair polar)
    | none => List.replicate 4 (F32.qnan, F32.qnan)
  let (f, ro) := match r.1 with
    | some e => (F64.to32 e.f, F64.to32 e.rocof)
    | none => (F32.qnan, F32.qnan)
  bytesBE 2 (d.phStat r.2) ++ ps.flatMap (fun x => bytesBE 4 x.1.toNat ++ bytesBE 4 x.2.toNat) ++ bytesBE 4 f.toNat
    ++ bytesBE 4 ro.toNat

/-- Take a report into a set's objects, once per instant (`PH_LAST`, `PH_INVALID_COUNT`, event 113). -/
def phTake (s sec n fs : Nat) (r : Option PhEstimate × Bool) (d : Dev) : Dev :=
  let at9600 := n * (phFe / max 1 fs)
  let x := d.phSet s
  if x.last = some (sec, at9600) then d
  else
    let d := d.setPhSet s { last := some (sec, at9600), error := r.2 }
    let ps := match r.1 with
      | some e => e.ph.map (phPair true)
      | none => List.replicate 4 (F32.qnan, F32.qnan)
    let (f, ro) := match r.1 with
      | some e => (e.f, F64.to32 e.rocof)
      | none => (F64.qnan, F32.qnan)
    let t := sec * secUnit + at9600 * secUnit / phFe
    let d := d.setBlob (Obj.PH_LAST s)
      (ps.flatMap (fun p => bytesLE 4 p.1.toNat ++ bytesLE 4 p.2.toNat) ++ bytesLE 8 f.toNat ++ bytesLE 4 ro.toNat
        ++ bytesLE 2 (d.phStat r.2) ++ time96LE (time96 t))
    let d := if r.2 then d.inc (Obj.PH_INVALID_COUNT s) else d
    if r.2 = x.error then d else d.phEvent 113 s

/-- Send a datagram from `PH_UDP_PORT` (R252), which is shown after the destination. -/
def phSend (dest frame : List Byte) (d : Dev) : Dev :=
  d.hostSend 0 .phasor (dest ++ bytesBE 2 (d.getN Obj.PH_UDP_PORT)) frame

/-- Whether the engine estimates (R255). -/
def phRuns (d : Dev) : Bool := d.phOn && d.mode != Mode.boot && d.mode != Mode.config

/-- A report instant as a time. -/
def phInstant (d : Dev) (q sec n : Nat) : Nat := sec * secUnit + n * secUnit / max 1 (d.getN (Obj.PHS_RATE q))

/-- T_w/2 + T_d of a stream's sets: the span of a report beyond its instant. -/
def phSpan (d : Dev) (q : Nat) : Nat :=
  (d.phSetsOf q).foldl (fun m s => max m (((d.phN s - 1) / 2 + d.phTd s) * secUnit / phFe)) 0

/-- t_avail of a stream's sets (R250): the largest fine-path availability of their channels under the INTERP form. -/
def phAvail (d : Dev) (q : Nat) : Nat :=
  (d.phSetsOf q).foldl (fun m s => (List.range 3).foldl (fun m i => max m (d.interpAvail (d.getN (Obj.PH_CH_A s + i)) * nsUnit)) m) 0

/-- The instant at which a frame that has not left is dropped (R250). -/
def phLimit (d : Dev) (q sec n : Nat) : Nat := d.phInstant q sec n + d.phSpan q + d.phAvail q + 2000000 * nsUnit

/-- Whether a stream sends the frame of a report, its time aside (R253, R255, R256, R329): it is on, under time, not stopped, and
neither the last report nor one before the stream's start comes again. -/
def phSends (d : Dev) (q sec n : Nat) : Bool :=
  let x := d.phStream q
  let later := match x.last with
    | some (s0, n0) => decide (s0 < sec ∨ (s0 = sec ∧ n0 < n))
    | none => true
  d.on (Obj.PHS_STATE q) && d.tbState != TbState.invalid && !(d.ph.stopped && d.getN Obj.PH_UNLOCK_ACTION == 1) && later
    && decide (x.since ≤ (d.phInstant q sec n : Int) - d.tm.steps) && !d.standby

/-- A frame past its limit is dropped (R250): its stream goes on from it. -/
def phDrop (q sec n : Nat) (d : Dev) : Dev :=
  let d := d.setPhStream q { d.phStream q with last := some (sec, n) }
  ((d.inc (Obj.PHS_LATE q)).broken 6).phEvent 115 q

/-- A return to LOCKED ends the stop, at the first report instant after it (R255). -/
def phResume (q sec n : Nat) (d : Dev) : Dev :=
  let back := match d.ptp.lockAt with
    | some t => d.tbState == TbState.locked && decide (t + (d.tm.now - d.phInstant q sec n) ≤ d.tm.mono)
    | none => false
  if back then { d with ph := { d.ph with stopped := false } } else d

/-- PH_FRAME_READY (R250): report `n` of TAI second `sec` of stream `q`, once its span can have ended. -/
def devPhFrameReady (q sec n : Nat) (d : Dev) : Dev :=
  let fs := d.getN (Obj.PHS_RATE q)
  if d.phRuns = false ∨ d.on (Obj.PHS_ENABLE q) = false ∨ fs ≤ n
      ∨ d.tm.now + d.tc * nsUnit < d.phInstant q sec n + d.phSpan q then d
  else
    let reps := (d.phSetsOf q).map fun s => (s, d.phReport s sec n fs)
    let e := (reps.foldl (fun d x => d.phTake x.1 sec n fs x.2) d).phResume q sec n
    if e.phSends q sec n = false then e
    else if d.phLimit q sec n < d.tm.now then e.phDrop q sec n
    else
      let body := reps.flatMap fun x => d.phBlock (d.on (Obj.PHS_POLAR q)) x.2
      let frame := phFrame 0xAA01 (d.getN (Obj.PHS_IDCODE q)) (d.phSoc sec)
        (d.phQuality * 16777216 + n * 12000000 / fs) body
      let e := e.setPhStream q { e.phStream q with last := some (sec, n) }
      (e.inc (Obj.PHS_FRAMES q)).phSend (e.phStream q).dest frame

/-- PH_FRAME_DROPPED (R250): the data frame of a report has not left by its limit. -/
def devPhFrameDropped (q sec n : Nat) (d : Dev) : Dev :=
  if d.phRuns = false ∨ d.on (Obj.PHS_ENABLE q) = false ∨ d.getN (Obj.PHS_RATE q) ≤ n ∨ d.phSends q sec n = false
      ∨ d.tm.now + d.tc * nsUnit < d.phLimit q sec n then d
  else d.phDrop q sec n

/-- PH_UNLOCK_STOP (R255): the time base has been outside LOCKED for `PH_UNLOCK_STOP`, since reset if never locked. -/
def devPhUnlockStop (d : Dev) : Dev :=
  if d.getN Obj.PH_UNLOCK_ACTION = 1 ∧ d.tbState ≠ TbState.locked
      ∧ d.waited (d.ptp.leftLock.getD 0) (d.getN Obj.PH_UNLOCK_STOP * secUnit) = true then
    { d with ph := { d.ph with stopped := true } }
  else d

/-! Commands (R252, R253). -/

/-- The stream an IDCODE names. -/
def phByIdcode (d : Dev) (idcode : Nat) : Option Nat :=
  if d.phOn then (List.range 4).find? fun q => d.on (Obj.PHS_ENABLE q) && d.getN (Obj.PHS_IDCODE q) == idcode else none

/-- Whether a stream allows a source address (16 bytes). -/
def phAllows (d : Dev) (q : Nat) (addr : List Byte) : Bool :=
  (List.range 4).any fun i => ((d.blob (Obj.PHS_ALLOW q)).drop (16 * i)).take 16 == addr

/-- Whether a datagram reaches the engine: it is in use, and the datagram came to `PH_UDP_PORT` (R252). -/
def phHears (d : Dev) (udp : Nat) : Bool := d.phOn && d.getN Obj.PH_UDP_PORT == udp

/-- The first enabled stream: it counts a frame whose IDCODE names none. (DESIGN CHOICE: assumption log 85) -/
def phFirst (d : Dev) : Nat := ((List.range 4).find? fun q => d.on (Obj.PHS_ENABLE q)).getD 0

/-- Reject a command frame: counted at the stream its IDCODE names, event 114 (R253). -/
def phReject (q : Option Nat) (d : Dev) : Dev :=
  let q := q.getD d.phFirst
  (d.inc (Obj.PHS_CMD_REJECT q)).phEvent 114 q

/-- Act on an accepted command; reject it otherwise. -/
def phCommand (udp idcode : Nat) (addr : List Byte) (act : Nat → Dev → Dev) (d : Dev) : Dev :=
  if d.phHears udp = false then d
  else match d.phByIdcode idcode with
  | some q => if d.phAllows q addr then act q d else d.phReject (some q)
  | none => d.phReject none

/-- Turn a stream on towards a destination, or off (Table 10-4). -/
def phSwitch (q : Nat) (dest : Option (List Byte)) (d : Dev) : Dev :=
  let d := match dest with
    | some a => d.setPhStream q { d.phStream q with dest := a }
    | none => d
  (d.setB (Obj.PHS_STATE q) dest.isSome).phEvent 112 q

/-- An address and port as the 18 bytes of a destination. -/
def phDest (addr : List Byte) (port : Nat) : List Byte := padTo 16 0#8 addr ++ bytesBE 2 port

/-- PH_CMD_DATA_OFF. -/
def devPhDataOff (udp idcode : Nat) (addr : List Byte) (d : Dev) : Dev :=
  d.phCommand udp idcode addr fun q d => d.phSwitch q none

/-- PH_CMD_DATA_ON. -/
def devPhDataOn (udp idcode : Nat) (addr : List Byte) (port : Nat) (d : Dev) : Dev :=
  d.phCommand udp idcode addr fun q d => d.phSwitch q (some (phDest addr port))

/-- SOC and FRACSEC of a frame sent now. -/
def phNow (d : Dev) : Nat × Nat :=
  (d.phSoc d.second, d.phQuality * 16777216 + (d.tm.now % secUnit) * 12000000 / secUnit)

/-- Answer a command with a frame. -/
def phAnswer (sync : Nat) (addr : List Byte) (port : Nat) (body : List Byte) (q : Nat) (d : Dev) : Dev :=
  let (soc, frac) := d.phNow
  d.phSend (phDest addr port) (phFrame sync (d.getN (Obj.PHS_IDCODE q)) soc frac body)

/-- PH_CMD_HEADER. -/
def devPhHeader (udp idcode : Nat) (addr : List Byte) (port : Nat) (d : Dev) : Dev :=
  d.phCommand udp idcode addr fun q d => d.phAnswer 0xAA11 addr port (d.blob Obj.PH_HEADER) q

/-- The text of a string in ASCII codes. -/
def ascii (s : String) : List Byte := s.toList.map fun c => BitVec.ofNat 8 c.toNat

/-- The phasor names of a set (R251). -/
def phNames (d : Dev) (s : Nat) : List (List Byte) :=
  let k := if d.on (Obj.PH_KIND s) then "I" else "V"
  [ascii (k ++ "A"), ascii (k ++ "B"), ascii (k ++ "C"), ascii (k ++ "1")]

/-- FORMAT: floating values; bit 0 polar. -/
def phFormat (d : Dev) (q : Nat) : Nat := 14 + (if d.on (Obj.PHS_POLAR q) then 1 else 0)

/-- The tail of a configuration block: FNOM and CFGCNT. -/
def phTail (d : Dev) : List Byte := bytesBE 2 (if d.fNom = 50 then 1 else 0) ++ bytesBE 2 (d.getN Obj.PH_CFG_CNT)

/-- The body of a CFG-2 frame. (PRESUMED: assumption log 39) -/
def cfg2Body (d : Dev) (q : Nat) : List Byte :=
  let ss := d.phSetsOf q
  bytesBE 4 12000000 ++ bytesBE 2 ss.length
    ++ ss.flatMap (fun s =>
        padTo 16 0x20#8 (d.blob (Obj.PH_STN s)) ++ bytesBE 2 (d.getN (Obj.PH_IDCODE s)) ++ bytesBE 2 (d.phFormat q)
          ++ bytesBE 2 4 ++ bytesBE 2 0 ++ bytesBE 2 0 ++ (d.phNames s).flatMap (padTo 16 0x20#8)
          ++ (List.replicate 4 (bytesBE 4 (if d.on (Obj.PH_KIND s) then 0x01000000 else 0))).flatten ++ d.phTail)
    ++ bytesBE 2 (d.getN (Obj.PHS_RATE q))

/-- T_w of a set in µs (Table 10-1). -/
def phWindowUs (d : Dev) (s : Nat) : Nat := if d.phM s then 8000000 / max 1 (d.phRate s) else 2000000 / d.fNom

/-- The body of a CFG-3 frame (R252); PHSCALE names the component of each phasor: phase A, B, C, positive sequence. (PRESUMED:
assumption log 39) -/
def cfg3Body (d : Dev) (q : Nat) : List Byte :=
  let ss := d.phSetsOf q
  let name := fun (b : List Byte) => BitVec.ofNat 8 b.length :: b
  bytesBE 2 0 ++ bytesBE 4 12000000 ++ bytesBE 2 ss.length
    ++ ss.flatMap (fun s =>
        name (d.blob (Obj.PH_STN s)) ++ bytesBE 2 (d.getN (Obj.PH_IDCODE s)) ++ padTo 16 0#8 (d.blob (Obj.PH_GPMUID s))
          ++ bytesBE 2 (d.phFormat q) ++ bytesBE 2 4 ++ bytesBE 2 0 ++ bytesBE 2 0 ++ (d.phNames s).flatMap name
          ++ [4, 5, 6, 1].flatMap (fun k => bytesBE 4 ((if d.on (Obj.PH_KIND s) then 0x00000800 else 0) + k * 256)
              ++ bytesBE 4 F32.one.toNat ++ bytesBE 4 0)
          ++ bytesBE 4 (d.getN Obj.PH_LAT) ++ bytesBE 4 (d.getN Obj.PH_LON) ++ bytesBE 4 (d.getN Obj.PH_ELEV)
          ++ [if d.phM s then 0x4D#8 else 0x50#8] ++ bytesBE 4 (d.phWindowUs s) ++ bytesBE 4 (d.phWindowUs s / 2) ++ d.phTail)
    ++ bytesBE 2 (d.getN (Obj.PHS_RATE q))

/-- PH_CMD_CFG2. -/
def devPhCfg2 (udp idcode : Nat) (addr : List Byte) (port : Nat) (d : Dev) : Dev :=
  d.phCommand udp idcode addr fun q d => d.phAnswer 0xAA31 addr port (d.cfg2Body q) q

/-- PH_CMD_CFG3. -/
def devPhCfg3 (udp idcode : Nat) (addr : List Byte) (port : Nat) (d : Dev) : Dev :=
  d.phCommand udp idcode addr fun q d => d.phAnswer 0xAA51 addr port (d.cfg3Body q) q

/-- PH_CMD_IGNORED: a frame whose CHK fails is dropped as any other that fails its checks; an accepted command the module
does not support is counted (Table 10-4). -/
def devPhIgnored (udp idcode : Nat) (addr : List Byte) (chkOk : Bool) (d : Dev) : Dev :=
  if chkOk then d.phCommand udp idcode addr fun q d => d.inc (Obj.PHS_CMD_REJECT q)
  else if d.phHears udp = false then d
  else d.phReject (d.phByIdcode idcode)

/-! CONFIG (R241, R246, R252, R253). -/

/-- The set that forbids leaving CONFIG, whether or not the engine is in use. -/
def phBad (d : Dev) : Option Nat :=
  if d.isB then none else (List.range 4).find? fun s =>
    d.on (Obj.PH_SET_ENABLE s) &&
      (let cs := [d.getN (Obj.PH_CH_A s), d.getN (Obj.PH_CH_B s), d.getN (Obj.PH_CH_C s)]
       cs.any (fun c => decide (32 ≤ c) || !d.on (Obj.MEAS_ENABLE c) || d.tOut c true != d.tOut (cs.headD 0) true
          || decide (10417 ≤ d.tOut c true))
        || !cs.Nodup
        || (d.phM s && (List.range 4).any fun q => d.phCarries q s && d.getN (Obj.PHS_RATE q) != d.phRate s))

/-- A phasor object takes a new value: a change in CONFIG counts at the exit from it (R252). -/
def phWritten (d : Dev) : Dev :=
  if d.mode = Mode.config then { d with ph := { d.ph with changed := true } } else d

/-- The engine as the module leaves CONFIG: CFG_CNT counts, spontaneous streams start. -/
def phLeaveConfig (d : Dev) : Dev :=
  let d := if d.ph.changed then d.setN Obj.PH_CFG_CNT ((d.getN Obj.PH_CFG_CNT + 1) % 65536) else d
  let d : Dev := { d with ph := { d.ph with changed := false } }
  if d.phOn = false then d
  else (List.range 4).foldl (fun d q =>
    if d.on (Obj.PHS_ENABLE q) ∧ d.getN (Obj.PHS_MODE q) = 1 then
      let d := d.setPhStream q { d.phStream q with since := (d.tm.now : Int) - d.tm.steps }
      if d.on (Obj.PHS_STATE q) then d.setPhStream q { d.phStream q with dest := d.blob (Obj.PHS_DEST q) }
      else d.phSwitch q (some (d.blob (Obj.PHS_DEST q)))
    else d) d

end Dev

end Sys2Proof.Machine
end

