-- ==== Sys2Proof/Machine/Stable.lean ====
section
/-! DEFINITION. Task cores and the Stable (R260–R279): releases, stalls, grants, prefetch slots, completions, deadlines
and the Tideline. (DEDUCED: assumption log 41) -/

namespace Sys2Proof.Machine

open Sys2Proof

/-- The codes of `TASK_STATE` (Table 11-2). -/
abbrev TaskState.disabled : Nat := 0
abbrev TaskState.waiting : Nat := 1
abbrev TaskState.ready : Nat := 2
abbrev TaskState.slotted : Nat := 3
abbrev TaskState.running : Nat := 4

/-- The kinds of Table 11-8. -/
abbrev TlKind.release : Nat := 0
abbrev TlKind.grant : Nat := 1
abbrev TlKind.complete : Nat := 2
abbrev TlKind.engine : Nat := 3
abbrev TlKind.miss : Nat := 4
abbrev TlKind.overBudget : Nat := 5
abbrev TlKind.overlap : Nat := 6
abbrev TlKind.slot : Nat := 7
abbrev TlKind.user : Nat := 8
abbrev TlKind.drop : Nat := 9

namespace Dev

def task (d : Dev) (t : Nat) : TaskSt := SMap.get TaskSt.init d.stb.tasks t
def setTask (t : Nat) (x : TaskSt) (d : Dev) : Dev :=
  { d with stb := { d.stb with tasks := SMap.set TaskSt.init d.stb.tasks t x } }
def core (d : Dev) (c : Nat) : CoreSt := SMap.get CoreSt.init d.stb.cores c
def setCore (c : Nat) (x : CoreSt) (d : Dev) : Dev :=
  { d with stb := { d.stb with cores := SMap.set CoreSt.init d.stb.cores c x } }
def taskState (d : Dev) (t : Nat) : Nat := d.getN (Obj.TASK_STATE t)
/-- The stall of a task: vendor descriptors are the sequencer runtime's in stall 14 and the other services' in stall 15 (R262). -/
def taskStall (d : Dev) (t : Nat) : Nat := if t < 960 then d.getN (Obj.TASK_STALL t) else if t = 960 then 14 else 15
def fifo (d : Dev) (st : Nat) : List Nat := SMap.get [] d.stb.fifos st
def setFifo (st : Nat) (l : List Nat) (d : Dev) : Dev :=
  ({ d with stb := { d.stb with fifos := SMap.set [] d.stb.fifos st l } } : Dev).setN (Obj.STALL_READY st) l.length

/-- Raise a Stable event with its source (R277). -/
def stbEvent (e src : Nat) (d : Dev) : Dev := d.signalAt Obj.STB_EVENT_SRC e src

/-- The enabled descriptors, from the objects listed. -/
def enabledTasks (d : Dev) : List Nat :=
  d.objs.filterMap fun (k, v) =>
    if k % 256 = 1 ∧ 0x5400 ≤ k / 256 ∧ k / 256 < 0x5800 ∧ v = 1 then some (k / 256 - 0x5400) else none

/-! The Tideline (R274, R275). -/

/-- A record of Table 11-7. -/
def tlBytes (d : Dev) (kind source task stall dep data : Nat) : List Byte :=
  bytesLE 4 ((d.tm.now % secUnit) / nsUnit) ++ bytesLE 2 (d.second % 65536)
    ++ [BitVec.ofNat 8 kind, BitVec.ofNat 8 source] ++ bytesLE 2 task ++ [BitVec.ofNat 8 stall, BitVec.ofNat 8 dep]
    ++ bytesLE 4 data

/-- Whether a record passes the filters of R275. -/
def tlPasses (d : Dev) (kind source stall : Nat) : Bool :=
  d.on Obj.TL_ENABLE && d.bit Obj.TL_KIND_MASK kind
    && d.bit Obj.TL_SOURCE_MASK (if source = 0xFF then 15 else source)
    && (stall == 0xFF || d.bit Obj.TL_STALL_MASK stall)

/-- The records that go into the buffer for one action: after a drop, a DROP record first. -/
def tlRecords (d : Dev) (kind source task stall dep data : Nat) : List (List Byte) :=
  (if d.stb.tlLost ≠ 0 ∧ d.tlPasses TlKind.drop 0xFF 0xFF then
      [d.tlBytes TlKind.drop 0xFF 0xFFFF 0xFF 0 d.stb.tlLost] else [])
    ++ [d.tlBytes kind source task stall dep data]

/-- Write one Tideline record into the buffer, or drop it (R275). -/
def tideline (kind source task stall dep data : Nat) (d : Dev) : Dev :=
  if d.tlPasses kind source stall = false then d
  else
    let rs := d.tlRecords kind source task stall dep data
    if d.stb.tlBuf.length + rs.length ≤ 256 then
      { d with stb := { d.stb with tlBuf := d.stb.tlBuf ++ rs, tlLost := 0, tlFull := false } }
    else
      let was := d.stb.tlFull
      let d : Dev := { d with stb := { d.stb with tlLost := d.stb.tlLost + 1, tlFull := true } }
      let d := (d.inc Obj.TL_DROPPED).broken 10
      if was then d else d.stbEvent 122 (noSource 122)

/-- A record about a task. -/
def tlTask (kind source t data : Nat) (d : Dev) : Dev :=
  d.tideline kind source t (d.taskStall t) (d.getN (Obj.TASK_DEP t)) data

/-- Move one buffered record to the ring: its place in the ring, or none where it is dropped (R275). (PRESUMED: assumption log
73) -/
def tlPlace (d : Dev) : Option Nat × Dev :=
  let size := d.getN Obj.TL_SIZE
  let wr := d.getN Obj.TL_WR_PTR
  if size < 16 then (none, d)
  else if size ≤ d.stb.unread ∧ d.getN Obj.TL_MODE = 1 then (none, d.inc Obj.TL_DROPPED)
  else
    let full := decide (size ≤ d.stb.unread)
    let d := d.setN Obj.TL_WR_PTR ((wr + 16) % size)
    let d := if full then d.setN Obj.TL_RD_PTR ((wr + 16) % size) else d
    let before := d.stb.unread
    let after := if full then before else before + 16
    let d : Dev := { d with stb := { d.stb with unread := after } }
    let mark := d.getN Obj.TL_WATERMARK
    (some wr, if mark ≠ 0 ∧ before < mark ∧ mark ≤ after then d.stbEvent 123 (noSource 123) else d)

/-- Empty the buffer: the bytes for the ring at their DRAM addresses (Table 11-1). -/
def tlFlush (d : Dev) : List (Nat × List Byte) × Dev :=
  let rs := d.stb.tlBuf
  let d : Dev := { d with stb := { d.stb with tlBuf := [] } }
  rs.foldl (fun (r : List (Nat × List Byte) × Dev) b =>
    match r.2.tlPlace with
    | (some off, d) => (r.1 ++ [(0x40000000 + (d.getN Obj.TL_BASE + off) % 0x40000000, b)], d)
    | (none, d) => (r.1, d)) ([], d)

/-- `TL_RD_PTR` takes a new value: the unread bytes follow. -/
def tlReadPtr (d : Dev) : Dev :=
  let size := max 1 (d.getN Obj.TL_SIZE)
  { d with stb := { d.stb with unread := (d.getN Obj.TL_WR_PTR + size - d.getN Obj.TL_RD_PTR % size) % size } }

/-! Release (R263–R266). -/

/-- Append a task to the tail of its stall's FIFO, or put it at its head. -/
def enqueue (t : Nat) (head : Bool) (d : Dev) : Dev :=
  let st := d.taskStall t
  (d.setFifo st (if head then t :: d.fifo st else d.fifo st ++ [t])).setN (Obj.TASK_STATE t) TaskState.ready

/-- A release of the scan's descriptor while a scan runs (R281): held, the next scan starts late; dropped, a scan is skipped. -/
def scanOverlap (kind : Nat) (d : Dev) : Dev :=
  if kind = 1 then ((d.inc Obj.SEQ_LATE).broken 9).signalAt Obj.SEQ_EVENT_SRC 128 (noSource 128)
  else if kind = 2 then (d.inc Obj.SEQ_SKIPPED).signalAt Obj.SEQ_EVENT_SRC 129 (noSource 129)
  else d

/-- A release of a task (R264, R266): READY, or merged, held or dropped. `src` is that of Table 11-8. -/
def taskRelease (t src : Nat) (d : Dev) : Dev :=
  let st := d.taskState t
  let x := d.task t
  if st = TaskState.waiting then
    let d := d.setTask t { x with relAt := d.tm.mono, missed := false, overB := false }
    (d.enqueue t false).tlTask TlKind.release 0xFF t src
  else
    let kind := if st = TaskState.ready ∨ st = TaskState.slotted then 0 else if x.pend.isNone then 1 else 2
    let d := if kind = 1 then d.setTask t { x with pend := some d.tm.mono } else d
    let d := if t = 960 then d.scanOverlap kind else d
    let d := (d.inc (Obj.TASK_OVERLAPS t)).stbEvent 118 t
    d.tlTask TlKind.overlap 0xFF t kind

/-- One decrement of `TASK_DEP` (R264); a STANDBY module releases the vendor stalls only (R329). -/
def taskDecrement (t src : Nat) (d : Dev) : Dev :=
  let m := d.mode
  if d.on (Obj.TASK_ENABLE t) = false ∨ d.taskState t = TaskState.disabled ∨ (d.task t).off ∨ m = 0
      ∨ d.bit (Obj.TASK_MODES t) (m - 1) = false ∨ (d.standby ∧ d.taskStall t < 14) then d
  else
    let n := d.getN (Obj.TASK_DEP t)
    if n ≤ 1 then (d.setN (Obj.TASK_DEP t) (d.getN (Obj.TASK_DEP_INIT t))).taskRelease t src
    else d.setN (Obj.TASK_DEP t) (n - 1)

/-- Decrement every successor of a list (R264, R270). -/
def decrementAll (ts : List Nat) (d : Dev) : Dev :=
  ts.foldl (fun d t => if t < 1024 then d.taskDecrement t 3 else d) d

/-- Take a task out of its FIFO or slot. -/
def unqueue (t : Nat) (d : Dev) : Dev :=
  let st := d.taskStall t
  let d := d.setFifo st ((d.fifo st).filter (· != t))
  (List.range 8).foldl (fun d c =>
    if (d.core c).slot = some t then
      (d.setCore c { d.core c with slot := none }).setWin c { d.win c with pend := (d.win c).pend &&& ~~~(BitVec.ofNat 64 (2 ^ 63)) }
    else d) d

/-- Arm the timed release of a task from a time on, in 2⁻¹⁶ ns (R265). -/
def armTask (t start : Nat) (d : Dev) : Dev :=
  let first := gridFrom (time96Units (d.get (Obj.TASK_START t)) / 65536) (d.getN (Obj.TASK_PERIOD t)) start
  d.setTask t { d.task t with next := if d.getN (Obj.TASK_RELEASE t) = 1 then first else start }

/-- Arm it as the descriptor is enabled at its apply boundary: a TIME task from 1 µs later on, a CYCLE task from the boundary
on. (DEDUCED: assumption log 41) -/
def armEnabled (t : Nat) (d : Dev) : Dev :=
  d.armTask t (fracOf d.tm.now + (if d.getN (Obj.TASK_RELEASE t) = 1 then 1000 * nsFrac else 0))

/-- A phase step re-arms the timed releases at the first instant after it (R265). -/
def taskPhaseStep (d : Dev) : Dev := d.enabledTasks.foldl (fun d t => d.armTask t (fracOf d.tm.now + 1)) d

/-- Whether the instant of a timed release can have come. -/
def instantDue (d : Dev) (u : Nat) : Bool := decide (u ≤ fracOf d.tm.now + d.tc * nsFrac)

/-- `TASK_ENABLE` takes effect (Table 11-2). -/
def taskEnabled (t : Nat) (d : Dev) : Dev :=
  let st := d.taskState t
  let x := d.task t
  if d.on (Obj.TASK_ENABLE t) then
    if st = TaskState.disabled then
      ((d.setN (Obj.TASK_STATE t) TaskState.waiting).setN (Obj.TASK_DEP t) (d.getN (Obj.TASK_DEP_INIT t))).armEnabled t
    else if x.off then
      ((d.setTask t { x with off := false }).setN (Obj.TASK_DEP t) (d.getN (Obj.TASK_DEP_INIT t))).armEnabled t
    else d
  else if st = TaskState.disabled then d
  else if st = TaskState.running then d.setTask t { x with off := true, pend := none }
  else ((d.unqueue t).setTask t { x with pend := none }).setN (Obj.TASK_STATE t) TaskState.disabled

/-- TASK_TIME_RELEASE (R265): the next instant of a TIME task, once it can have come. -/
def devTaskTimeRelease (t : Nat) (d : Dev) : Dev :=
  let x := d.task t
  if d.getN (Obj.TASK_RELEASE t) = 1 ∧ d.taskState t ≠ TaskState.disabled ∧ d.instantDue x.next = true then
    (d.setTask t { x with next := x.next + max 1 (d.getN (Obj.TASK_PERIOD t)) }).taskDecrement t 0
  else d

/-- TASK_CYCLE_RELEASE (R265): at T_k + `TASK_CYC_OFFSET`, once in each of the cycles with (s·C + k) mod N = 0. -/
def devTaskCycleRelease (t : Nat) (d : Dev) : Dev :=
  let k := (d.tm.lastT % secUnit) / (d.tc * nsUnit)
  let n := d.tm.lastT / secUnit * (1000000000 / d.tc) + k
  let inst := fracOf d.tm.lastT + d.getN (Obj.TASK_CYC_OFFSET t) * nsFrac
  let x := d.task t
  if d.getN (Obj.TASK_RELEASE t) = 2 ∧ n % max 1 (d.getN (Obj.TASK_CYC_N t)) = 0 ∧ x.next ≤ inst then
    (d.setTask t { x with next := inst + 1 }).taskDecrement t 1
  else d

/-- An event reaches the Stable (R265, R422). -/
def stbRouted (e : Nat) (d : Dev) : Dev :=
  d.enabledTasks.foldl (fun d t =>
    if d.getN (Obj.TASK_RELEASE t) = 3 ∧ d.getN (Obj.TASK_EVENT t) = e then d.taskDecrement t 2 else d) d

/-! Selection and grants (R267–R269). -/

/-- The first READY task of a stall a core may run. -/
def readyFor (d : Dev) (st c : Nat) : Option Nat := (d.fifo st).find? fun t => d.bit (Obj.TASK_CORES t) c

def credit (d : Dev) (st : Nat) : Int := SMap.get 0 d.stb.credit st
def addCredit (st : Nat) (v : Int) (d : Dev) : Dev :=
  { d with stb := { d.stb with credit := SMap.set 0 d.stb.credit st (d.credit st + v) } }

/-- Smooth weighted round-robin over the stalls for a core (R267): the task, with the credits after the choice. -/
def selectTask (c : Nat) (d : Dev) : Option Nat × Dev :=
  let cands := (List.range 16).filterMap fun st => (d.readyFor st c).map fun t => (st, t)
  let d := cands.foldl (fun (d : Dev) (x : Nat × Nat) => d.addCredit x.1 (d.get (Obj.STALL_WEIGHT x.1))) d
  let total := cands.foldl (fun (n : Int) (x : Nat × Nat) => n + d.get (Obj.STALL_WEIGHT x.1)) 0
  match cands with
  | [] => (none, d)
  | x :: rest =>
    let best := rest.foldl (fun (b : Nat × Nat) (y : Nat × Nat) =>
      if d.credit b.1 < d.credit y.1 then y else b) x
    let d := d.addCredit best.1 (-total)
    (some best.2, d.setFifo best.1 ((d.fifo best.1).filter (· != best.2)))

/-- The value of Table 11-4. -/
def ztaskValue (t st : Nat) (slot : Bool) : Nat := 0x80000000 + (if slot then 0x40000000 else 0) + st * 1024 + t

/-- A task begins to run on a core: the read returns its number. -/
def beginTask (c t : Nat) (slot : Bool) (d : Dev) : Dev :=
  let st := d.taskStall t
  let d := d.setTask t { d.task t with grantAt := d.tm.mono, overB := false }
  let d := d.setCore c { d.core c with held := some t, heldAt := d.tm.mono, wdt := false }
  let d := (d.setN (Obj.TASK_STATE t) TaskState.running).inc (Obj.STALL_GRANTS st)
  let d := (d.inc (Obj.CORE_GRANTS c)).setN (Obj.CORE_STATE c) 2
  (d.setN (Obj.CORE_TASK c) t).send (.core c (ztaskValue t st slot))

/-- The prefetch signal of a core, local line 63 (R269). -/
def setPrefetchLine (c : Nat) (v : Bool) (d : Dev) : Dev :=
  let b := BitVec.ofNat 64 (2 ^ 63)
  let p := (d.win c).pend
  d.setWin c { d.win c with pend := if v then p ||| b else p &&& ~~~b }

/-- A core takes the task of its slot. -/
def takePrefetch (c t : Nat) (d : Dev) : Dev :=
  let d := (d.setCore c { d.core c with slot := none }).setPrefetchLine c false
  (d.beginTask c t true).tlTask TlKind.slot 0xFF t 1

/-- Whether a core's `zdone` write is stalled behind its holding register. -/
def doneStalled (d : Dev) (c : Nat) : Bool := d.stb.waiting.any (·.prod == c)

/-- A core asks no longer. -/
def notAsking (c : Nat) (d : Dev) : Dev := { d with stb := { d.stb with asking := d.stb.asking.filter (·.1 != c) } }

/-- A core begins to ask; `same`, in the core clock in which the last one began. -/
def nowAsking (c : Nat) (same : Bool) (d : Dev) : Dev :=
  let n := if same then d.stb.askClk else d.stb.askClk + 1
  ({ d with stb := { d.stb with asking := d.stb.asking ++ [(c, n)], askClk := n } } : Dev).setN (Obj.CORE_STATE c) 1

/-- The read of `ztask` ends without a grant. -/
def endAsk (c : Nat) (d : Dev) : Dev :=
  let d := d.notAsking c
  (d.setN (Obj.CORE_STATE c) 3).send (.core c 0)

/-- Whether an enabled interrupt is pending at a core (R423). -/
def irqPending (d : Dev) (c : Nat) : Bool := ((d.win c).pend &&& (d.win c).enable) != 0#64

/-- ZTASK (R267, R268): a core reads `ztask`; `ended` says that an interrupt or a debug halt ends the read, `same` that it began in
the core clock of the read before. -/
def devZtask (c : Nat) (ended same : Bool) (d : Dev) : Dev :=
  let x := d.core c
  if x.held.isSome then d.send (.coreTrap c 0x7C0)
  else
    match x.slot with
    | some t => d.takePrefetch c t
    | none =>
      if ended ∨ d.irqPending c then d.endAsk c
      else if d.stb.asking.any (·.1 = c) then d
      else d.nowAsking c same

/-- The asking core that is served first: the longest wait among those with an eligible task, the lowest core number among
equal waits. -/
def nextAsking (d : Dev) : Option Nat :=
  let able := d.stb.asking.filter fun x => (List.range 16).any fun st => (d.readyFor st x.1).isSome
  match able with
  | [] => none
  | x :: t => some (t.foldl (fun b y => if y.2 < b.2 ∨ (y.2 = b.2 ∧ y.1 < b.1) then y else b) x).1

/-- TASK_GRANT (R267): one grant, `latency` core clocks after the task and the core were there. -/
def devTaskGrant (latency : Nat) (d : Dev) : Dev :=
  match d.nextAsking with
  | none => d
  | some c =>
    match d.selectTask c with
    | (none, _) => d
    | (some t, d) =>
      ((d.notAsking c).beginTask c t false).tlTask TlKind.grant 0xFF t latency

/-- PREFETCH_SLOT_FILL (R269): after every asking core has been served. -/
def devPrefetchFill (c : Nat) (d : Dev) : Dev :=
  let x := d.core c
  if x.pref = false ∨ x.slot.isSome ∨ d.nextAsking.isSome then d
  else
    match d.selectTask c with
    | (none, _) => d
    | (some t, d) =>
      let d := (d.setCore c { d.core c with slot := some t, slotAt := d.tm.mono }).setN (Obj.TASK_STATE t) TaskState.slotted
      (d.setPrefetchLine c true).tlTask TlKind.slot 0xFF t 0

/-- Answer a core with an object of the task it holds. -/
def heldWord (c : Nat) (k : Nat → Nat) (d : Dev) : Dev :=
  match (d.core c).held with
  | some t => d.send (.core c (d.getN (k t)))
  | none =>
    let (f, d) := d.takeFree
    d.send (.core c (f % 4294967296))

/-- ZTPOLL (R269): the slot's task without stalling, or 0. A core that holds a task leaves the slot. The other CSRs of Table 11-3
that a core reads without effect answer beside it: argument and entry of the held task, free values without one, and the state
of `zpref`. -/
def devZtpoll (c : Nat) (csr : TaskCsr) (d : Dev) : Dev :=
  let x := d.core c
  match csr with
  | .ztpoll =>
    match x.slot, x.held with
    | some t, none => d.takePrefetch c t
    | _, _ => d.send (.core c 0)
  | .zpref => d.send (.core c ((if x.pref then 1 else 0) + (if x.slot.isSome then 0x80000000 else 0)))
  | .ztarg => d.heldWord c Obj.TASK_ARG
  | .ztentry => d.heldWord c Obj.TASK_ENTRY

/-- ZPREF (R269): bit 0 enables the slot. -/
def devZpref (c v : Nat) (d : Dev) : Dev := d.setCore c { d.core c with pref := v.testBit 0 }

/-- PREFETCH_RECLAIM (R269): a task slotted for `STB_PREFETCH_RECLAIM` returns to the head of its stall, event 119. -/
def devPrefetchReclaim (c : Nat) (d : Dev) : Dev :=
  match (d.core c).slot with
  | none => d
  | some t =>
    if d.waited (d.core c).slotAt (d.getN Obj.STB_PREFETCH_RECLAIM * nsUnit) = false then d
    else
    let d := (d.setCore c { d.core c with slot := none }).setPrefetchLine c false
    ((d.enqueue t true).tlTask TlKind.slot 0xFF t 2).stbEvent 119 t

/-! Completions (R270, R271). -/

/-- Whether a producer's holding register is full. -/
def holds (d : Dev) (p : Nat) : Bool := d.stb.holding.any (·.prod == p)

/-- A core lets go of its task. -/
def releaseCore (c : Nat) (d : Dev) : Dev :=
  let x := d.core c
  let d := d.setCore c { x with held := none, wdt := false, busy := x.busy + (d.tm.mono - max x.heldAt x.loadFrom) }
  let d := (d.setN (Obj.CORE_STATE c) 3).setN (Obj.CORE_TASK c) 0xFFFF
  if d.hasCause 120 c then d.clearCause 120 c else d

/-- Put a completion into its producer's holding register. -/
def intoHolding (x : Compl) (d : Dev) : Dev :=
  let d : Dev := { d with stb := { d.stb with holding := d.stb.holding ++ [x] } }
  if x.prod < 8 then d.releaseCore x.prod else d

/-- Move the lowest full holding register to the queue, and the completion held at its source after it. -/
def collectOne (d : Dev) : Dev :=
  if 16 ≤ d.stb.queue.length then d
  else
    match (List.range 13).filterMap fun p => d.stb.holding.find? (·.prod == p) with
    | [] => d
    | x :: _ =>
      let n := d.stb.queue.length + 1
      let d : Dev := { d with stb := { d.stb with holding := d.stb.holding.filter (·.prod != x.prod),
                                                  queue := d.stb.queue ++ [x] } }
      let d := d.setN Obj.STB_QUEUE_PEAK (max n (d.getN Obj.STB_QUEUE_PEAK))
      let d := if n = 12 then d.stbEvent 125 x.prod else d
      match d.stb.waiting.find? (·.prod == x.prod) with
      | none => d
      | some y =>
        let d : Dev := { d with stb := { d.stb with waiting := d.stb.waiting.erase y } }
        d.intoHolding y

/-- Let the collector work until the queue is full or the registers are empty. -/
def collect (d : Dev) : Dev := Nat.repeat collectOne 32 d

/-- A producer posts a completion: into its holding register, or held at the source while that is full. The collector works
when the dependence unit next takes a completion, so those posted in between enter the queue lowest index first. (DEDUCED:
assumption log 41) -/
def post (x : Compl) (d : Dev) : Dev :=
  if d.holds x.prod then { d with stb := { d.stb with waiting := d.stb.waiting ++ [x] } }
  else d.intoHolding x

/-- An engine, a DMA channel or the sequencer runtime posts its completion (Table 11-5). -/
def postEngine (p : Nat) (d : Dev) : Dev := d.post { prod := p, task := none, status := 0 }

/-- ZDONE (R271). -/
def devZdone (c status : Nat) (d : Dev) : Dev :=
  match (d.core c).held with
  | none => (d.inc Obj.STB_BAD_DONE).stbEvent 121 c
  | some t =>
    if d.doneStalled c then d
    else
      let d := d.setN (Obj.TASK_STATUS_LAST t) (status % 4294967296)
      let d := if status = 0 then d else d.stbEvent 124 t
      d.post { prod := c, task := some t, status := status % 4294967296 }

/-- The successors of a task or a producer. -/
def succsOf (d : Dev) (x : Compl) : List Nat :=
  (List.range 8).map fun i => match x.task with
    | some t => d.getN (Obj.TASK_SUCC t i)
    | none => d.getN (Obj.STB_PROD_SUCC (x.prod - 8) i)

/-- Elapsed ns since a time, held in 32 bits. -/
def nsSince (d : Dev) (t0 : Nat) : Nat := min 0xFFFFFFFF ((d.tm.mono - t0) / nsUnit)

/-- A task's run ends: it waits, is READY for a held release, or is DISABLED (Table 11-2). -/
def endRun (t status c : Nat) (d : Dev) : Dev :=
  let x := d.task t
  let resp := d.nsSince x.relAt
  let d := (d.inc (Obj.TASK_RUNS t)).setN (Obj.TASK_RESP_LAST t) resp
  let d := d.setN (Obj.TASK_RESP_MAX t) (max resp (d.getN (Obj.TASK_RESP_MAX t)))
  let d :=
    let y := { x with pend := none, missed := false, overB := false, off := false }
    if x.off then (d.setTask t y).setN (Obj.TASK_STATE t) TaskState.disabled
    else
      match x.pend with
      | some r => (d.setTask t { y with relAt := r }).enqueue t false
      | none => (d.setTask t y).setN (Obj.TASK_STATE t) TaskState.waiting
  d.tlTask TlKind.complete c t status

/-- COMPLETION_ACCEPTED (R270): the collector has moved what waits, and the oldest completion of the queue is taken. -/
def devCompletionAccepted (d : Dev) : Dev :=
  let d := d.collect
  match d.stb.queue with
  | [] => d
  | x :: q =>
    let d : Dev := { d with stb := { d.stb with queue := q } }
    let d := match x.task with
      | some t => d.endRun t x.status x.prod
      | none =>
        let d := d.inc (Obj.STB_PROD_COUNT (x.prod - 8))
        d.tideline TlKind.engine x.prod 0xFFFF 0xFF 0 (d.getN (Obj.STB_PROD_COUNT (x.prod - 8)))
    (d.decrementAll (d.succsOf x)).collect

/-! CSR writes, deadlines and budgets (R268, R272). -/

/-- ZTRACE. -/
def devZtrace (c v : Nat) (d : Dev) : Dev :=
  match (d.core c).held with
  | some t => d.tlTask TlKind.user c t (v % 4294967296)
  | none => d.tideline TlKind.user c 0xFFFF 0xFF 0 (v % 4294967296)

/-- ZSEV: bit 0 raises event 126, bit 1 event 127. -/
def devZsev (c v : Nat) (d : Dev) : Dev :=
  let d := if v.testBit 0 then d.stbEvent 126 c else d
  if v.testBit 1 then d.stbEvent 127 c else d

/-- A deadline passes (R272): counted, at rank 7, event 116, with a record of the response time. -/
def countMiss (t resp : Nat) (d : Dev) : Dev :=
  (((d.inc (Obj.TASK_MISSES t)).broken 7).stbEvent 116 t).tlTask TlKind.miss 0xFF t resp

/-- TASK_DEADLINE_MISS: the response time reaches `TASK_DEADLINE` while the task waits or runs, once per release. -/
def devTaskMiss (t : Nat) (d : Dev) : Dev :=
  let st := d.taskState t
  let x := d.task t
  if d.getN (Obj.TASK_DEADLINE t) = 0 ∨ st = TaskState.disabled ∨ st = TaskState.waiting ∨ x.missed
      ∨ d.waited x.relAt (d.getN (Obj.TASK_DEADLINE t) * nsUnit) = false then d
  else (d.setTask t { x with missed := true }).countMiss t (d.nsSince x.relAt)

/-- TASK_OVER_BUDGET: the running time reaches `TASK_BUDGET`, once per run. -/
def devTaskOverBudget (t : Nat) (d : Dev) : Dev :=
  let x := d.task t
  let runs := (List.range 8).any fun c => (d.core c).held == some t
  if d.getN (Obj.TASK_BUDGET t) = 0 ∨ runs = false ∨ x.overB
      ∨ d.waited x.grantAt (d.getN (Obj.TASK_BUDGET t) * nsUnit) = false then d
  else
    let d := (d.setTask t { x with overB := true }).inc (Obj.TASK_OVER_BUDGET t)
    (d.stbEvent 117 t).tlTask TlKind.overBudget 0xFF t (d.nsSince x.grantAt)

/-- CORE_WATCHDOG: a core has held a task for `STB_CORE_WDT`: event 120 and an L2 record, once per hold. -/
def devCoreWatchdog (c : Nat) (d : Dev) : Dev :=
  let x := d.core c
  if d.getN Obj.STB_CORE_WDT = 0 ∨ x.held.isNone ∨ x.wdt
      ∨ d.waited x.heldAt (d.getN Obj.STB_CORE_WDT * 1000 * nsUnit) = false then d
  else ((d.setCore c { x with wdt := true }).stbEvent 120 c).raiseFault 120 2 0 c (x.held.getD 0xFFFF) true

/-! The travelling-wave service's tasks (R236, R262). -/

/-- The vendor descriptor of a line's task: 0 local arrival, 1 single-ended, 2 double-ended. (DESIGN CHOICE: assumption log 86) -/
def twTask (l k : Nat) : Nat := 961 + 3 * l + k

/-- The deadline of a line's task in ns (R236). -/
def twDeadline (k : Nat) : Nat := match k with | 0 => 200000 | 1 => 2000000 | _ => 1000000

/-- A run of a line's task that was due from an elapsed time on: its response, and a miss when that reaches the deadline. -/
def twRan (l k : Nat) (r : Option (Nat × Dev)) (d : Dev) : Dev :=
  match r with
  | none => d
  | some (due, e) =>
    let t := twTask l k
    let resp := e.nsSince due
    let e := (e.inc (Obj.TASK_RUNS t)).setN (Obj.TASK_RESP_LAST t) resp
    let e := e.setN (Obj.TASK_RESP_MAX t) (max resp (e.getN (Obj.TASK_RESP_MAX t)))
    if twDeadline k ≤ resp then e.countMiss t resp else e

/-- `TW_ENABLE` is in force: the line's three tasks are in use, released by the service itself. -/
def twEnabled (l : Nat) (d : Dev) : Dev :=
  (List.range 3).foldl (fun d k =>
    let t := twTask l k
    let d := d.setN (Obj.TASK_DEADLINE t) (if d.twOn l then twDeadline k else 0)
    (d.setB (Obj.TASK_ENABLE t) (d.twOn l)).setN (Obj.TASK_STATE t)
      (if d.twOn l then TaskState.waiting else TaskState.disabled)) d

/-- `CORE_LOAD` of the second that ends. -/
def coreLoads (d : Dev) : Dev :=
  (List.range 8).foldl (fun d c =>
    let x := d.core c
    let now := d.tm.mono
    let busy := x.busy + (if x.held.isSome then now - max x.heldAt x.loadFrom else 0)
    let d := if now = x.loadFrom then d else d.setF (Obj.CORE_LOAD c) (F32.ofRatio busy ((now - x.loadFrom : Nat) : Int))
    d.setCore c { x with busy := 0, loadFrom := now }) d

/-- `STALL_WEIGHT` is applied: the credits are cleared (R267). -/
def stallWeighted (d : Dev) : Dev := { d with stb := { d.stb with credit := [] } }

/-- The task cores leave reset, at the end of BOOT. -/
def startCores (d : Dev) : Dev :=
  (List.range 8).foldl (fun d c => (d.setN (Obj.CORE_STATE c) 3).setCore c { CoreSt.init with loadFrom := d.tm.mono }) d

/-! Admission of the task set (R273). -/

/-- The period of a TIME or CYCLE task in 2⁻¹⁶ ns. -/
def taskPeriod (d : Dev) (t : Nat) : Nat :=
  if d.getN (Obj.TASK_RELEASE t) = 1 then d.getN (Obj.TASK_PERIOD t) else d.getN (Obj.TASK_CYC_N t) * d.tc * nsFrac

/-- The enabled TIME and CYCLE tasks. -/
def timedTasks (d : Dev) : List Nat :=
  d.enabledTasks.filter fun t => d.getN (Obj.TASK_RELEASE t) == 1 || d.getN (Obj.TASK_RELEASE t) == 2

/-- Whether the load of some tasks exceeds a limit on some cores: Σ budget/period > limit · cores, exactly. -/
def loadOver (d : Dev) (ts : List Nat) (cores : Nat) : Bool :=
  let (num, den) := ts.foldl (fun (a : Nat × Nat) t =>
    let p := max 1 (d.taskPeriod t)
    (a.1 * p + d.getN (Obj.TASK_BUDGET t) * nsFrac * a.2, a.2 * p)) (0, 1)
  match F32.val (d.getF Obj.STB_UTIL_MAX) with
  | .fin _ m e => decide (den * cores * m * 2 ^ e.toNat < num * 2 ^ (-e).toNat)
  | _ => false

/-- Ones in a mask of 8. -/
def ones8 (m : Nat) : Nat := ((List.range 8).filter m.testBit).length

/-- The TASKS check: the highest descriptor of a failing set, none when the task set passes. -/
def tasksFail (d : Dev) : Option Nat :=
  let ts := d.timedTasks
  let bad := ts.filter fun t =>
    let dl := d.getN (Obj.TASK_DEADLINE t)
    dl != 0 && (decide (dl < d.getN (Obj.TASK_BUDGET t)) || decide (d.taskPeriod t < dl * nsFrac))
  let sets := ts.filterMap fun u =>
    let m := d.getN (Obj.TASK_CORES u)
    let inM := ts.filter fun t => d.getN (Obj.TASK_BUDGET t) != 0 && (d.getN (Obj.TASK_CORES t) &&& m) == d.getN (Obj.TASK_CORES t)
    if d.loadOver inM (ones8 m) then some (inM.foldl max 0) else none
  match bad ++ sets with
  | [] => none
  | x :: r => some (r.foldl max x)

end Dev

end Sys2Proof.Machine
end

