-- ==== Sys2Proof/Machine/FieldIO.lean ====
section
/-! DEFINITION. Field channels (R382–R392): inputs, outputs, the common fault bit, switch-off, the L+ thresholds and the
load survey. (DEDUCED: assumption log 42) -/

namespace Sys2Proof.Machine

open Sys2Proof

/-- The bits of `FIO_STATUS` (Table 16-3). -/
abbrev FioBit.fault : Nat := 0
abbrev FioBit.sag : Nat := 1
abbrev FioBit.offLatched : Nat := 2
abbrev FioBit.inValid : Nat := 3
abbrev FioBit.linkOk : Nat := 4
abbrev FioBit.survey : Nat := 5

/-- A mask of the channels for which something holds. -/
def mask16 (p : Nat → Bool) : Nat := (List.range 16).foldl (fun n c => if p c then n + 2 ^ c else n) 0

namespace Dev

def setFio (x : FioSt) (d : Dev) : Dev := { d with fio := x }

/-- Raise a field event with its source (R404). -/
def fioEvent (e src : Nat) (d : Dev) : Dev := d.signalAt Obj.FIO_EVENT_SRC e src

/-- Whether a channel is an output (R382). -/
def fioIsOut (d : Dev) (c : Nat) : Bool := d.bit Obj.FIO_DIR c

/-- Whether a channel is commanded on (R385). -/
def fioCommanded (d : Dev) (c : Nat) : Bool :=
  d.fioIsOut c && d.bit Obj.FIO_OUT c && d.on Obj.FIO_OUT_ENABLE && !d.outputsHeld && d.mode != Mode.boot

/-- Let the drivers follow: a channel in current limit or thermal shutdown does not drive its load (R385, R386, R391). -/
def fioDrive (d : Dev) : Dev :=
  let m := mask16 fun c => d.fioCommanded c && !d.fio.limit.testBit c && !d.fio.thermal.testBit c
  if m = d.fio.drive then d else (d.setFio { d.fio with drive := m }).send (.pins 2 m)

/-- Let `FAULT` follow its causes (R387): a change raises event 173. -/
def fioFault (d : Dev) : Dev :=
  let v := d.fio.dis != 0 || d.fio.limit != 0 || d.fio.thermal != 0 || d.bit Obj.FIO_STATUS FioBit.sag
  if v = d.bit Obj.FIO_STATUS FioBit.fault then d
  else
    let d := d.setBit Obj.FIO_STATUS FioBit.fault v
    let d := if v then d.inc Obj.FIO_FAULT_COUNT else d
    d.fioEvent 173 (noSource 173)

/-- The state of an input changes (R384): event 172. -/
def fioChange (c : Nat) (v : Bool) (t : Int) (d : Dev) : Dev :=
  ((d.setBit Obj.FIO_IN c v).set (Obj.FIO_IN_TIME c) t).fioEvent 172 c

/-- One channel at a frame: an output shows its readback, an input without debounce its sample; an input with debounce
notes the first sample at a level that differs (R384, R390). -/
def fioSample (c : Nat) (level readback : Bool) (d : Dev) : Dev :=
  if d.fioIsOut c then d.setBit Obj.FIO_IN c readback
  else if d.bit Obj.FIO_STATUS FioBit.inValid = false then d.setBit Obj.FIO_IN c false
  else if level = d.bit Obj.FIO_IN c then d.setFio { d.fio with since := SMap.del d.fio.since c }
  else if d.getN (Obj.FIO_DEBOUNCE c) = 0 then d.fioChange c level d.now96
  else if d.fio.since.any (·.1 = c) then d
  else d.setFio { d.fio with since := SMap.ins d.fio.since c (d.now96, d.tm.mono) }

/-- Whether an output's readback disagrees with its command (R387). -/
def fioDisagrees (d : Dev) (readback c : Nat) : Bool := d.fioIsOut c && readback.testBit c != d.fioCommanded c

/-- FIELD_DIE_FRAME (R383): the sampled levels, the readback, L+ and the channels in current limit. A readback that disagrees
with its command begins a disagreement, one that agrees ends it (R387). The link runs from REFCLK (Table 19-7). -/
def devFieldDieFrame (levels readback : Nat) (lplus : F32) (limit : Nat) (d : Dev) : Dev :=
  if d.tm.refclk = false then d else
  let d := (d.setF Obj.FIO_LPLUS lplus).setBit Obj.FIO_STATUS FioBit.linkOk true
  let d := d.setFio { d.fio with
    raw := levels % 65536
    linkAt := d.tm.mono
    limit := mask16 fun c => limit.testBit c && d.fioIsOut c
    dis := mask16 fun c => d.fio.dis.testBit c && d.fioDisagrees readback c
    disAt := (List.range 16).filterMap fun c =>
      if d.fioDisagrees readback c then some (c, (d.fio.disAt.lookup c).getD d.tm.mono) else none }
  let d := (List.range 16).foldl (fun d c => d.fioSample c (levels.testBit c) (readback.testBit c)) d
  d.fioDrive.fioFault

/-- INPUT_DEBOUNCE_EXPIRY (R384): the samples have differed for `FIO_DEBOUNCE`. -/
def devInputDebounce (c : Nat) (d : Dev) : Dev :=
  match d.fio.since.lookup c with
  | none => d
  | some (t, at_) =>
    if d.waited at_ (d.getN (Obj.FIO_DEBOUNCE c) * 1000 * nsUnit) = false then d else
    let level := d.fio.raw.testBit c
    let d := d.setFio { d.fio with since := SMap.del d.fio.since c }
    if d.fioIsOut c ∨ d.bit Obj.FIO_STATUS FioBit.inValid = false ∨ level = d.bit Obj.FIO_IN c then d
    else d.fioChange c level t

/-- OUTPUT_DISAGREEMENT (R387): an output's pin has disagreed with its command for 5 ms. -/
def devOutputDisagreement (c : Nat) (d : Dev) : Dev :=
  if d.fioIsOut c ∧ (d.fio.disAt.lookup c).any (d.waitedField · (5000000 * nsUnit)) then
    (d.setFio { d.fio with dis := mask16 fun i => d.fio.dis.testBit i || i == c }).fioFault
  else d

/-- OUTPUT_THERMAL_SHUTDOWN (R386). -/
def devOutputThermal (c : Nat) (d : Dev) : Dev :=
  if d.fioCommanded c ∧ d.fio.thermal.testBit c = false then
    (d.setFio { d.fio with thermal := mask16 fun i => d.fio.thermal.testBit i || i == c
                           thermAt := SMap.ins d.fio.thermAt c d.tm.mono }).fioDrive.fioFault
  else d

/-- OUTPUT_RETRY (R386): the switch is tried again 100 ms after switching off. -/
def devOutputRetry (c : Nat) (d : Dev) : Dev :=
  if (d.fio.thermAt.lookup c).any (d.waitedField · (100000000 * nsUnit)) then
    (d.setFio { d.fio with thermal := mask16 fun i => d.fio.thermal.testBit i && i != c
                           thermAt := SMap.del d.fio.thermAt c }).fioDrive.fioFault
  else d

/-- Switch every output off and latch them off (R389). The latch keeps its first cause. -/
def fioLatchOff (cause : Nat) (d : Dev) : Dev :=
  let d := d.set Obj.FIO_OUT_ENABLE 0
  if d.bit Obj.FIO_STATUS FioBit.offLatched then d.fioDrive
  else
    let d := (d.setBit Obj.FIO_STATUS FioBit.offLatched true).setN Obj.FIO_SHUTDOWN_CAUSE cause
    d.fioDrive.fioEvent 175 cause

/-- SAG (R389, R390): L+ below 15.0 V for 50 µs. Input states read 0, without change events. -/
def devSag (d : Dev) : Dev :=
  let d := d.setBit Obj.FIO_STATUS FioBit.inValid false
  let d := d.setN Obj.FIO_IN (mask16 fun c => d.fioIsOut c && d.bit Obj.FIO_IN c)
  let d := d.setFio { d.fio with since := [] }
  (d.fioEvent 174 1).fioLatchOff 1

/-- FIELD_LINK_LOSS (R389): no frame for 2 ms. -/
def devFieldLinkLoss (d : Dev) : Dev :=
  if d.waitedField d.fio.linkAt (2000000 * nsUnit) then (d.setBit Obj.FIO_STATUS FioBit.linkOk false).fioLatchOff 2 else d

/-- APP_WDT_EXPIRY (R389): no kick for the time, counted from reset where there was none. (DEDUCED: assumption log 42) -/
def devAppWdtExpiry (d : Dev) : Dev :=
  if d.on Obj.FIO_APP_WDT ∧ d.waitedField d.fio.kickAt (d.getN Obj.FIO_APP_WDT * 1000000 * nsUnit) then
    (d.setFio { d.fio with wdt := true }).fioLatchOff 3
  else d

/-- FIO_APP_KICK takes effect. -/
def devAppKick (d : Dev) : Dev := d.setFio { d.fio with wdt := false, kickAt := d.tm.mono }

/-- LPLUS_LOW_WARN (R390): below 18.0 V for 1 ms. -/
def devLplusLow (d : Dev) : Dev := ((d.setBit Obj.FIO_STATUS FioBit.sag true).fioEvent 174 0).fioFault

/-- LPLUS_RECOVER (R390): back above 19.0 V; the debounce restarts from the sampled levels. -/
def devLplusRecover (d : Dev) : Dev :=
  let d := (d.setBit Obj.FIO_STATUS FioBit.sag false).setBit Obj.FIO_STATUS FioBit.inValid true
  let d := d.setFio { d.fio with
    since := (List.range 16).filterMap fun c =>
      if !d.fioIsOut c && d.fio.raw.testBit c != d.bit Obj.FIO_IN c then some (c, (d.now96, d.tm.mono)) else none }
  (d.fioEvent 174 2).fioFault

/-- L+ below 19.0 V, as last reported. -/
def lplusLow (d : Dev) : Bool := F32.lt (d.getF Obj.FIO_LPLUS) 0x41980000#32

/-- The refusal of a write to `FIO_OUT_ENABLE` (R388, R389). -/
def fioEnableStatus (d : Dev) (v : Int) : Nat :=
  if v = 0 then Status.ok
  else if d.bit Obj.FIO_STATUS FioBit.survey then Status.busy
  else if d.lplusLow ∨ d.bit Obj.FIO_STATUS FioBit.linkOk = false ∨ d.fio.wdt then Status.state
  else Status.ok

/-- A write of `FIO_OUT_ENABLE` takes effect: 1 clears the latch and its cause. -/
def fioEnabled (d : Dev) : Dev :=
  if d.on Obj.FIO_OUT_ENABLE then
    ((d.setBit Obj.FIO_STATUS FioBit.offLatched false).setN Obj.FIO_SHUTDOWN_CAUSE 0).fioDrive
  else d.fioDrive

/-- A STORE to a field output sets or clears its one bit (R385). -/
def fioStore (org : Origin) (c : Nat) (v : Bool) (d : Dev) : Dev :=
  if d.bit Obj.FIO_OUT c = v then d
  else
    let old := d.get Obj.FIO_OUT
    let d := (d.setBit Obj.FIO_OUT c v).fioDrive
    d.logWrite org Obj.FIO_OUT (.num old) (.num (d.get Obj.FIO_OUT))

/-! The load survey (R388). -/

/-- The refusal of a survey. -/
def surveyStatus (d : Dev) : Nat :=
  if d.on Obj.FIO_OUT_ENABLE ∨ d.lplusLow then Status.state else Status.ok

/-- The output channels from `c` on. -/
def surveyNext (d : Dev) (c : Nat) : Option Nat := (List.range 16).find? fun i => decide (c ≤ i) && d.fioIsOut i

/-- The survey ends with a state and the source of event 175. -/
def surveyEnd (st src : Nat) (d : Dev) : Dev :=
  let d := (d.setFio { d.fio with survey := none }).setBit Obj.FIO_STATUS FioBit.survey false
  (d.setN Obj.FIO_SURVEY_STATE st).fioEvent 175 src

/-- A survey starts: no channel is measured yet. -/
def devSurveyStart (d : Dev) : Dev :=
  let d := (List.range 16).foldl (fun d c => d.setN (Obj.FIO_LOAD_CLASS c) 0) d
  let d := (d.setBit Obj.FIO_STATUS FioBit.survey true).setN Obj.FIO_SURVEY_STATE 1
  match d.surveyNext 0 with
  | some c => d.setFio { d.fio with survey := some c, surveyAt := d.tm.mono }
  | none => d.surveyEnd 2 0x0100

/-- The class of Table 16-2: the pin voltage before the test current, and the resistance. -/
def surveyClass (before r : F32) : Nat :=
  if F32.ge before 0x40A00000#32 then 1
  else if F32.lt r 0x40A00000#32 then 2
  else if F32.lt r 0x42400000#32 then 3
  else if F32.lt r 0x44960000#32 then 4
  else 5

/-- SURVEY_CHANNEL_DONE: the 5 ms of the test current end; the pin voltages of the channel in progress before and with the
10 mA. -/
def devSurveyChannel (before after : F32) (d : Dev) : Dev :=
  match d.fio.survey with
  | none => d
  | some c =>
    if d.waited d.fio.surveyAt (5000000 * nsUnit) = false then d else
    let r := F32.mul after (F32.ofInt 100)
    let d := (d.setF (Obj.FIO_LOAD c) r).setN (Obj.FIO_LOAD_CLASS c) (surveyClass before r)
    match d.surveyNext (c + 1) with
    | some n => d.setFio { d.fio with survey := some n, surveyAt := d.tm.mono }
    | none => d.surveyEnd 2 0x0100

/-- SURVEY_ABORT: L+ fell below 15.0 V. -/
def devSurveyAbort (d : Dev) : Dev := if d.fio.survey.isSome then d.surveyEnd 3 0x0101 else d

end Dev

end Sys2Proof.Machine
end

