-- ==== Sys2Proof/Machine/Pwm.lean ====
section
/-! DEFINITION. The local PWM (R393–R404): periods, compare edges with dead time, shadow transfers, masks and trips.
Timers 0–5 are centre-aligned pairs, timers 6–9 edge-aligned channels. (DEDUCED: assumption log 43) -/

namespace Sys2Proof.Machine

open Sys2Proof

namespace Dev

def timer (d : Dev) (t : Nat) : PwmTimer := SMap.get PwmTimer.init d.pwm.timers t
def setTimer (t : Nat) (x : PwmTimer) (d : Dev) : Dev :=
  { d with pwm := { d.pwm with timers := SMap.set PwmTimer.init d.pwm.timers t x } }

/-- Raise a PWM event with its source (R404). -/
def pwmEvent (e src : Nat) (d : Dev) : Dev := d.signalAt Obj.PWM_EVENT_SRC e src

/-- The timer of a channel and whether the channel is its member B (R393). -/
def pwmOf (n : Nat) : Nat × Bool := if n < 12 then (n / 2, n % 2 == 1) else (n - 6, false)

/-- The channels of a timer. -/
def pwmChannels (t : Nat) : List Nat := if t < 6 then [2 * t, 2 * t + 1] else [t + 6]

/-- The code of the lowest applied mask set that names a channel (R398); 0 none. -/
def pwmMask (d : Dev) (n : Nat) : Nat :=
  match (List.range 4).find? fun m =>
      d.on (Obj.PWM_MASK_ACTIVE m) && d.getN (Obj.PWM_MASK_DEF m) / 4 ^ n % 4 != 0 with
  | some m => d.getN (Obj.PWM_MASK_DEF m) / 4 ^ n % 4
  | none => 0

/-- The level of a channel: 0 low, 1 high, 2 high impedance. A trip overrides masks, a mask the timer (R398, R399). -/
def pwmLevel (d : Dev) (n : Nat) : Nat :=
  let (t, isB) := pwmOf n
  let x := d.timer t
  let idle := if d.bit (Obj.PWM_IDLE t) (if isB then 1 else 0) then 1 else 0
  let trip := d.getN (Obj.PWM_TRIP_STATE t) / (if isB then 4 else 1) % 4
  if x.hold then min trip 2
  else
    match d.pwmMask n with
    | 1 => 0
    | 2 => 1
    | 3 => idle
    | _ =>
      match x.frozen.find? (·.1 = n) with
      | some (_, v) => v
      | none =>
        if x.run = false ∨ d.outputsHeld then idle
        else if (if isB then x.b else x.a) then 1 else 0

/-- The levels of the sixteen outputs, two bits each. -/
def pwmLevels (d : Dev) : Nat := (List.range 16).foldl (fun s n => s + d.pwmLevel n * 4 ^ n) 0

/-- Let the pins follow. -/
def pwmPins (d : Dev) : Dev :=
  let l := d.pwmLevels
  if l = d.pwm.levels then d else ({ d with pwm := { d.pwm with levels := l } } : Dev).send (.pins 3 l)

/-- P of a timer, in 62.5 ps (R394, R395). -/
def pwmP (d : Dev) (t : Nat) : Nat := 32 * d.getN (Obj.PWM_PER_ACT t)

/-- 62.5 ps in 2⁻¹⁶ ns. -/
def pwmUnit : Nat := 4096

/-- T of a timer for a period of `n` ticks, in 2⁻¹⁶ ns (R394, R395). -/
def pwmT (t n : Nat) : Nat := (if t < 6 then 4 else 2) * n * nsFrac

/-- The first period start of an edge timer at or after a time (R395). -/
def pwmFrom (d : Dev) (t u : Nat) : Nat :=
  gridFrom (time96Units (d.get (Obj.PWM_START t)) / 65536) (pwmT t (d.getN (Obj.PWM_PERIOD t))) u

/-- Arm a timer at the boundary of its enable: a centre timer starts there, an edge timer with its first start 1 µs later or
after (R394, R395). -/
def pwmArm (t : Nat) (d : Dev) : Dev :=
  let now := fracOf d.tm.now
  d.setTimer t { d.timer t with next := some (if t < 6 then now else d.pwmFrom t (now + 1000 * nsFrac)) }

/-- Transfer the shadows of a timer (R396, R397). -/
def pwmTransfer (t : Nat) (d : Dev) : Dev :=
  let x := d.timer t
  let d := d.setTimer t { x with wPer := false, wCmp := false, wDt := false, commit := false, dt := d.getN (Obj.PWM_DT t) }
  let d := d.setN (Obj.PWM_PER_ACT t) (d.getN (Obj.PWM_PERIOD t))
  d.setN (Obj.PWM_CMP_ACT t) (min (d.getN (Obj.PWM_CMP t)) (d.pwmP t))

/-- Transfer at a period start as `PWM_LOAD_MODE` decides: a split or a commit is reported (R397). -/
def pwmLoad (t : Nat) (d : Dev) : Dev :=
  let x := d.timer t
  if d.on (Obj.PWM_LOAD_MODE t) then
    if x.commit then (d.pwmTransfer t).pwmEvent 189 t else d
  else if x.wPer ∨ x.wCmp ∨ x.wDt then
    let d := d.pwmTransfer t
    if x.wPer ∧ x.wCmp = false then (d.setBit Obj.PWM_SPLIT t true).pwmEvent 186 t else d
  else d

/-- The members removed by dead time this period: A, B (R394). -/
def pwmRemoved (d : Dev) (t : Nat) : Bool × Bool :=
  let p := d.pwmP t
  let c := d.getN (Obj.PWM_CMP_ACT t)
  let dt := (d.timer t).dt
  if c = 0 ∨ c = p ∨ 6 ≤ t then (false, false) else (decide (2 * (p - c) ≤ dt), decide (2 * c ≤ dt))

/-- The period event of a timer. -/
def pwmPeriodEvent (t : Nat) (d : Dev) : Dev := d.pwmEvent (176 + t) t

/-- The outputs at a period start, whose instant is `at_`. A period that changed lasts from the last start. (DEDUCED:
assumption log 43) -/
def pwmBegin (t at_ : Nat) (d : Dev) : Dev :=
  let x := d.timer t
  let p := d.pwmP t
  let c := d.getN (Obj.PWM_CMP_ACT t)
  let x := { x with start := at_, next := some (at_ + pwmT t (d.getN (Obj.PWM_PER_ACT t))), edges := 0, run := true,
                    starts := x.starts + 1, hold := x.hold && d.bit Obj.PWM_TRIP_FLAG t, frozen := [] }
  if 6 ≤ t then d.setTimer t { x with a := c != 0, b := false, rising := none, restart := false }
  else if c = 0 then d.setTimer t { x with a := true, b := false, rising := none, restart := false }
  else if c = p then d.setTimer t { x with a := false, b := true, rising := none, restart := false }
  else if x.restart ∨ x.starts = 1 then
    let gone := (d.pwmRemoved t).2
    d.setTimer t { x with a := false, b := x.dt == 0 && !gone, rising := if x.dt = 0 ∨ gone then none else some true,
                          riseAt := at_ + x.dt * pwmUnit, restart := false }
  else d.setTimer t x

/-- PWM_PERIOD_START (R394–R397, R401), when its instant can have come; `top` is the top of a centre timer's count instead. -/
def devPwmPeriodStart (t : Nat) (top : Bool) (d : Dev) : Dev :=
  match (d.timer t).next with
  | none => d
  | some at_ =>
  if 10 ≤ t ∨ d.bit Obj.PWM_ENABLE t = false then d
  else if top then
    if t < 6 ∧ d.on (Obj.PWM_EV_POINT t) ∧ (d.timer t).run ∧ d.instantDue ((d.timer t).start + d.pwmP t * pwmUnit)
        ∧ (d.timer t).starts % max 1 (d.getN (Obj.PWM_PRESCALE t)) = 0 then d.pwmPeriodEvent t
    else d
  else if d.instantDue at_ = false then d
  else
    let d := if (d.timer t).run then d.pwmLoad t else d.pwmTransfer t
    let d := (d.inc (Obj.PWM_PERIODS t)).pwmBegin t at_
    let gone := (d.pwmRemoved t).1 || (d.pwmRemoved t).2
    let x := d.timer t
    let d := d.setTimer t { x with removed := gone }
    let d := if gone ∧ x.removed = false then d.pwmEvent 190 t else d
    let d := if (t < 6 ∧ d.on (Obj.PWM_EV_POINT t)) ∨ x.starts % max 1 (d.getN (Obj.PWM_PRESCALE t)) ≠ 0 then d
      else d.pwmPeriodEvent t
    d.pwmPins

/-- A member rises at an instant: at once without dead time, after it otherwise, not at all when its pulse is removed. -/
def pwmRise (t : Nat) (isB : Bool) (at_ : Nat) (x : PwmTimer) (d : Dev) : Dev :=
  let gone := if isB then (d.pwmRemoved t).2 else (d.pwmRemoved t).1
  if gone then d.setTimer t x
  else if x.dt = 0 then d.setTimer t (if isB then { x with b := true } else { x with a := true })
  else d.setTimer t { x with rising := some isB, riseAt := at_ + x.dt * pwmUnit }

/-- The instant of the next edge of a timer in its period (R394, R395): the end of a dead time, C after the start, or for a
centre timer's second edge C before the next start. -/
def pwmEdgeAt (d : Dev) (t : Nat) (deadTimeEnd : Bool) : Nat :=
  let x := d.timer t
  let c := d.getN (Obj.PWM_CMP_ACT t) * pwmUnit
  if deadTimeEnd then x.riseAt
  else if t < 6 ∧ x.edges ≠ 0 then x.start + (2 * d.pwmP t * pwmUnit - c)
  else x.start + c

/-- PWM_COMPARE_EDGE (R394–R396): the count reaches the compare, or the dead time of a rising edge ends; never before its
instant can have come. -/
def devPwmCompareEdge (t : Nat) (deadTimeEnd : Bool) (d : Dev) : Dev :=
  let x := d.timer t
  let c := d.getN (Obj.PWM_CMP_ACT t)
  let at_ := d.pwmEdgeAt t deadTimeEnd
  if 10 ≤ t ∨ x.run = false ∨ c = 0 ∨ c = d.pwmP t ∨ d.instantDue at_ = false then d
  else if deadTimeEnd then
    (match x.rising with
      | some true => d.setTimer t { x with b := true, rising := none }
      | some false => d.setTimer t { x with a := true, rising := none }
      | none => d).pwmPins
  else if 6 ≤ t then (d.setTimer t { x with a := false, edges := 1 }).pwmPins
  else if x.edges = 0 then (d.pwmRise t false at_ { x with b := false, rising := none, edges := 1 }).pwmPins
  else if x.edges = 1 then (d.pwmRise t true at_ { x with a := false, rising := none, edges := 2 }).pwmPins
  else d

/-! Trips (R399, R400). -/

/-- The trip sources active now: the pins, the Breakwater latch, the filtered trip inputs. -/
def pwmSources (d : Dev) : Nat :=
  d.pwm.pins % 4 + (if d.on Obj.BW_LATCHED then 4 else 0) + (d.getN Obj.BW_CAUSES / 256 % 16) * 8

/-- Trip one timer: its outputs go to their trip state and a running dead time is aborted. -/
def pwmTripTimer (t : Nat) (d : Dev) : Dev :=
  let x := d.timer t
  let d := d.setTimer t { x with hold := true, a := false, b := false, rising := none, restart := false }
  ((d.setBit Obj.PWM_TRIP_FLAG t true).inc Obj.PWM_TRIP_COUNT).pwmEvent 187 t

/-- Carry newly active sources to the timers that select them. -/
def pwmTrips (d : Dev) : Dev :=
  let now := d.pwmSources
  if now = d.pwm.active then d
  else
    let rise := now &&& (127 - d.pwm.active)
    let d : Dev := { d with pwm := { d.pwm with active := now } }
    ((List.range 10).foldl (fun d t =>
      if d.getN (Obj.PWM_TRIP_SRC t) &&& rise ≠ 0 then d.pwmTripTimer t else d) d).pwmPins

/-- PWM_TRIP: a trip pin changes (the other sources are carried from Breakwater). -/
def devPwmTrip (pin : Nat) (active : Bool) (d : Dev) : Dev :=
  let rest := d.pwm.pins % 4 - (if d.pwm.pins.testBit pin then 2 ^ pin else 0)
  ({ d with pwm := { d.pwm with pins := if active then rest + 2 ^ pin else rest } } : Dev).pwmTrips

/-- The refusal of a clear (R400): any source selected by any named timer is active. -/
def pwmClearStatus (d : Dev) (v : Nat) : Nat :=
  if (List.range 10).any fun t => v.testBit t && d.getN (Obj.PWM_TRIP_SRC t) &&& d.pwmSources != 0 then Status.tripActive
  else Status.ok

/-- A clear takes effect: the flags clear; the trip state holds until the next period start. -/
def devPwmTripClear (v : Nat) (d : Dev) : Dev :=
  ((List.range 10).foldl (fun d t =>
    if v.testBit t ∧ d.bit Obj.PWM_TRIP_FLAG t then
      let x := d.timer t
      let d := d.setBit Obj.PWM_TRIP_FLAG t false
      if x.run then d.setTimer t { x with restart := true } else d.setTimer t { x with hold := false }
    else d) d).pwmPins

/-! Masks (R398). -/

/-- Whether a definition forces both members of a pair high. -/
def pwmMaskBad (v : Nat) : Bool := (List.range 6).any fun t => v / 16 ^ t % 16 == 10

/-- Apply a mask set: event 188. -/
def devPwmMaskApply (m : Nat) (d : Dev) : Dev :=
  if d.on (Obj.PWM_MASK_ACTIVE m) then d
  else ((d.setB (Obj.PWM_MASK_ACTIVE m) true).pwmEvent 188 m).pwmPins

/-- Release a mask set: its timers hold their levels until their next period start and restart there (R400). -/
def devPwmMaskRelease (m : Nat) (d : Dev) : Dev :=
  if d.on (Obj.PWM_MASK_ACTIVE m) = false then d
  else
    let chans := (List.range 16).filter fun n => d.getN (Obj.PWM_MASK_DEF m) / 4 ^ n % 4 != 0
    let before := d
    let d := d.setB (Obj.PWM_MASK_ACTIVE m) false
    let d := (List.range 10).foldl (fun d t =>
      let x := d.timer t
      let mine := (pwmChannels t).filter chans.contains
      if mine.isEmpty ∨ x.run = false ∨ x.hold then d
      else d.setTimer t { x with a := false, b := false, rising := none, restart := true,
                                 frozen := (pwmChannels t).map fun n => (n, before.pwmLevel n) }) d
    (d.pwmEvent 188 m).pwmPins

/-! Settings (R394, R395, R397). -/

/-- A shadow of a timer takes a new value: 1 period, 2 compare, 3 dead time. -/
def pwmShadow (t which : Nat) (d : Dev) : Dev :=
  let x := d.timer t
  d.setTimer t (if which = 1 then { x with wPer := true } else if which = 2 then { x with wCmp := true } else { x with wDt := true })

/-- PWM_COMMIT takes effect. -/
def devPwmCommit (t : Nat) (d : Dev) : Dev :=
  if d.on (Obj.PWM_LOAD_MODE t) then d.setTimer t { d.timer t with commit := true } else d

/-- PWM_ENABLE takes effect: a stopped timer drives its idle levels; a started one begins at its first period start. -/
def pwmEnabled (d : Dev) : Dev :=
  ((List.range 10).foldl (fun d t =>
    let x := d.timer t
    if d.bit Obj.PWM_ENABLE t then
      if x.run ∨ x.next.isSome then d
      else ((d.setTimer t { x with starts := 0, edges := 0 }).setN (Obj.PWM_PERIODS t) 0).pwmArm t
    else if x.run ∨ x.next.isSome then
      d.setTimer t { PwmTimer.init with wPer := x.wPer, wCmp := x.wCmp, wDt := x.wDt, hold := x.hold }
    else d) d).pwmPins

/-- PWM_SPLIT takes effect: the bits written 1 clear. -/
def pwmSplitCleared (old v : Nat) (d : Dev) : Dev :=
  d.setN Obj.PWM_SPLIT (mask16 fun t => old.testBit t && !v.testBit t)

/-- The timers at a phase step (R395): centre timers begin anew at the next cycle boundary; an edge timer goes on with the
first of its starts after the step, as a periodic pulse does (R209), and its pulse in progress keeps its length. (DEDUCED:
assumption log 43) -/
def pwmPhaseStep (d : Dev) : Dev :=
  ((List.range 10).foldl (fun d t =>
    let x := d.timer t
    if x.next.isNone then d
    else if t < 6 then d.setTimer t { x with run := false, next := none, a := false, b := false, rising := none, edges := 0 }
    else d.setTimer t { x with next := some (d.pwmFrom t (fracOf d.tm.now + 1)),
                               start := ((x.start : Int) + d.get Obj.TB_LAST_STEP).toNat }) d).pwmPins

/-- A cycle boundary (R395): the enabled centre timers that wait for one start there. -/
def pwmBoundary (d : Dev) : Dev :=
  if d.getN Obj.PWM_ENABLE = 0 then d
  else
    (List.range 6).foldl (fun d t =>
      if d.bit Obj.PWM_ENABLE t ∧ (d.timer t).next.isNone then d.pwmArm t else d) d

end Dev

end Sys2Proof.Machine
end

