-- ==== Sys2Proof/Machine/Sequencer.lean ====
section
/-! DEFINITION. Block programs and the sequencer (R280–R297): the image and its validation, the block library, the scan,
stations, and exchange. (DEDUCED: assumption log 45) -/

namespace Sys2Proof.Machine

open Sys2Proof

/-! Values (R283). -/

namespace SVal

def bool (b : Bool) : SVal := { ty := 0, bits := if b then 1#32 else 0#32 }
/-- An integer, saturated at the limits of I32. -/
def int (i : Int) : SVal := { ty := 1, bits := BitVec.ofInt 32 (max (-2147483648) (min 2147483647 i)) }
def float (f : F32) : SVal := { ty := 2, bits := f }
def word (n : Nat) : SVal := { ty := 3, bits := BitVec.ofNat 32 n }

/-- The exact value of a binary32 (subnormals kept). -/
def f32 (x : F32) : FVal := FFmt.b32s.unpack x.toNat
/-- A value rounded to binary32. -/
def ofF (v : FVal) : F32 := BitVec.ofNat 32 (FFmt.b32s.pack v)

/-- An input read as BOOL: non-zero reads as 1. -/
def toBool (x : SVal) : Bool :=
  if x.ty = 2 then (match f32 x.bits with
    | .fin _ m _ => m != 0
    | _ => true)
  else x.bits != 0#32

/-- An input read as I32; an F32 to the nearest, saturated. -/
def toInt (x : SVal) : Int :=
  if x.ty = 2 then (match f32 x.bits with
    | .inf true => -2147483648
    | .inf false => 2147483647
    | v => max (-2147483648) (min 2147483647 v.nearest))
  else x.bits.toInt

/-- An input read as F32. -/
def toF (x : SVal) : F32 := if x.ty = 2 ∨ x.ty = 3 then x.bits else ofF (FVal.ofInt x.bits.toInt)

/-- Whether a block with these operands computes in F32 (R283). -/
def anyF (l : List SVal) : Bool := l.any (·.ty == 2)

def fadd (x y : F32) : F32 := ofF ((f32 x).add (f32 y))
def fneg (x : F32) : F32 := ofF (f32 x).neg
def fsub (x y : F32) : F32 := ofF ((f32 x).add (f32 y).neg)
def fmul (x y : F32) : F32 := ofF ((f32 x).mul (f32 y))
def fdiv (x y : F32) : F32 := BitVec.ofNat 32 (FFmt.b32s.divV (f32 x) (f32 y))
def flt (x y : F32) : Bool := (f32 x).cmp (f32 y) == some .lt
def feq (x y : F32) : Bool := (f32 x).cmp (f32 y) == some .eq

end SVal

/-! The library (R287, R288, Table 12-3). -/

/-- What a block reads: inputs, its state, t_s and Δ in µs. -/
structure SeqIn where
  x  : List SVal
  st : List Int
  ts : Nat
  dt : Nat

/-- What a block gives: outputs, state, whether a domain error stands. -/
structure SeqOut where
  outs : List SVal
  st   : List Int
  err  : Bool

namespace SeqIn

def i (b : SeqIn) (k : Nat) : SVal := b.x.getD k (SVal.word 0)
def b (s : SeqIn) (k : Nat) : Bool := (s.i k).toBool
def n (s : SeqIn) (k : Nat) : Int := (s.i k).toInt
def f (s : SeqIn) (k : Nat) : F32 := (s.i k).toF
def s (x : SeqIn) (k : Nat) : Int := x.st.getD k 0
/-- A preset time in µs: a negative one reads as 0. -/
def pt (s : SeqIn) (k : Nat) : Int := max 0 (s.n k) * 1000

end SeqIn

/-- A state bit. -/
def bitI (b : Bool) : Int := if b then 1 else 0

/-- A result without state. -/
def pureOut (v : SVal) (err : Bool := false) : SeqOut := { outs := [v], st := [], err := err }

/-- An elapsed time in µs as I32 milliseconds. -/
def msOut (us : Int) : SVal := SVal.int (us / 1000)

/-- TON and TOF (R287): TON times its input, TOF (`inv`) the inverted one. State: start, ET, and M, the input of the scan before.
(PRESUMED: assumption log 44) -/
def timerStep (x : SeqIn) (inv : Bool) : SeqOut :=
  let run := x.b 0 != inv
  let ran := (x.s 2 != 0) != inv
  let start := if run && !ran then (x.ts : Int) else x.s 0
  let et := if run then min ((x.ts : Int) - start) (x.pt 1) else 0
  let full := run && decide (x.pt 1 ≤ et)
  { outs := [SVal.bool (full != inv), msOut et], st := [start, et, bitI (x.b 0)], err := false }

/-- TP (R287). State: start, ET, M, Q. (PRESUMED: assumption log 44) -/
def pulseBlock (x : SeqIn) : SeqOut :=
  let rise := x.b 0 && x.s 2 == 0
  let fire := rise && x.s 3 == 0
  let start := if fire then (x.ts : Int) else x.s 0
  let q := (fire || x.s 3 != 0) && decide ((x.ts : Int) - start < x.pt 1)
  let et := if q || x.s 3 != 0 then min ((x.ts : Int) - start) (x.pt 1) else if x.b 0 then min (x.s 1) (x.pt 1) else 0
  { outs := [SVal.bool q, msOut et], st := [start, et, bitI (x.b 0), bitI q], err := false }

/-- TONR (R287). State: start, ET, M. -/
def tonrBlock (x : SeqIn) : SeqOut :=
  let et0 := if x.b 0 && x.s 2 != 0 then x.s 1 + x.dt else x.s 1
  let et := if x.b 2 then 0 else min et0 (x.pt 1)
  { outs := [SVal.bool (decide (x.pt 1 ≤ et)), msOut et], st := [x.s 0, et, bitI (x.b 0)], err := false }

/-- A counter value held in I32. -/
def satI (i : Int) : Int := max (-2147483648) (min 2147483647 i)

/-- CTU, CTD, CTUD (IEC 61131-3 pins). State: CV, then M of each count input. (PRESUMED: assumption log 44) -/
def counterBlock (ty : Nat) (x : SeqIn) : SeqOut :=
  let edge := fun (k m : Nat) => x.b k && x.s m == 0
  if ty = 0x0D then
    let cv := if x.b 1 then 0 else satI (x.s 0 + bitI (edge 0 1))
    { outs := [SVal.bool (decide (x.n 2 ≤ cv)), SVal.int cv], st := [cv, bitI (x.b 0)], err := false }
  else if ty = 0x0E then
    let cv := if x.b 1 then x.n 2 else satI (x.s 0 - bitI (edge 0 1))
    { outs := [SVal.bool (decide (cv ≤ 0)), SVal.int cv], st := [cv, bitI (x.b 0)], err := false }
  else
    let cv := if x.b 2 then 0 else if x.b 3 then x.n 4 else satI (x.s 0 + bitI (edge 0 1) - bitI (edge 1 2))
    { outs := [SVal.bool (decide (x.n 4 ≤ cv)), SVal.bool (decide (cv ≤ 0)), SVal.int cv],
      st := [cv, bitI (x.b 0), bitI (x.b 1)], err := false }

/-- EQ, NE, GT, GE, LT, LE. -/
def compareBlock (ty : Nat) (x : SeqIn) : SeqOut :=
  let (lt, eq, gt) :=
    if SVal.anyF [x.i 0, x.i 1] then
      (SVal.flt (x.f 0) (x.f 1), SVal.feq (x.f 0) (x.f 1), SVal.flt (x.f 1) (x.f 0))
    else (decide (x.n 0 < x.n 1), decide (x.n 0 = x.n 1), decide (x.n 1 < x.n 0))
  pureOut (SVal.bool (match ty with
    | 0x10 => eq
    | 0x11 => !eq
    | 0x12 => gt
    | 0x13 => gt || eq
    | 0x14 => lt
    | _ => lt || eq))

/-- ADD, SUB, MUL, DIV, MOD. -/
def arithBlock (ty : Nat) (x : SeqIn) : SeqOut :=
  let fl := SVal.anyF [x.i 0, x.i 1] && ty != 0x1A
  if fl then
    let a := x.f 0
    let c := x.f 1
    match ty with
    | 0x16 => pureOut (SVal.float (SVal.fadd a c))
    | 0x17 => pureOut (SVal.float (SVal.fsub a c))
    | 0x18 => pureOut (SVal.float (SVal.fmul a c))
    | _ => if SVal.feq c 0#32 then pureOut (SVal.float 0#32) true else pureOut (SVal.float (SVal.fdiv a c))
  else
    let a := x.n 0
    let c := x.n 1
    match ty with
    | 0x16 => pureOut (SVal.int (a + c))
    | 0x17 => pureOut (SVal.int (a - c))
    | 0x18 => pureOut (SVal.int (a * c))
    | 0x19 => if c = 0 then pureOut (SVal.int 0) true else pureOut (SVal.int (a.tdiv c))
    | _ => if c = 0 then pureOut (SVal.int 0) true else pureOut (SVal.int (a.tmod c))

/-- ABS, NEG, MIN, MAX. -/
def unaryBlock (ty : Nat) (x : SeqIn) : SeqOut :=
  let two := ty == 0x1D || ty == 0x1E
  if SVal.anyF (if two then [x.i 0, x.i 1] else [x.i 0]) then
    let a := x.f 0
    let c := x.f 1
    pureOut (SVal.float (match ty with
      | 0x1B => a &&& 0x7FFFFFFF#32
      | 0x1C => SVal.fneg a
      | 0x1D => if SVal.flt c a then c else a
      | _ => if SVal.flt a c then c else a))
  else
    let a := x.n 0
    let c := x.n 1
    pureOut (SVal.int (match ty with
      | 0x1B => (a.natAbs : Int)
      | 0x1C => -a
      | 0x1D => min a c
      | _ => max a c))

/-- LIMIT: mx when mn > mx. -/
def limitBlock (x : SeqIn) : SeqOut :=
  if SVal.anyF [x.i 0, x.i 1, x.i 2] then
    let lo := x.f 0
    let v := x.f 1
    let hi := x.f 2
    pureOut (SVal.float (if SVal.flt hi lo then hi else if SVal.flt v lo then lo else if SVal.flt hi v then hi else v))
  else pureOut (SVal.int (if x.n 2 < x.n 0 then x.n 2 else max (x.n 0) (min (x.n 2) (x.n 1))))

/-- BAND, BOR, BXOR, SHIFT on I32. -/
def bitBlock (ty : Nat) (x : SeqIn) : SeqOut :=
  let a := BitVec.ofInt 32 (x.n 0)
  let c := BitVec.ofInt 32 (x.n 1)
  let r := match ty with
    | 0x25 => a &&& c
    | 0x26 => a ||| c
    | 0x27 => a ^^^ c
    | _ => if 0 ≤ x.n 1 then a <<< (x.n 1).toNat else a >>> (-(x.n 1)).toNat
  pureOut { ty := 1, bits := r }

/-- SCALE: a linear map in F32, clamped to the output range. -/
def scaleBlock (x : SeqIn) : SeqOut :=
  let lo := x.f 3
  let hi := x.f 4
  if SVal.feq (x.f 1) (x.f 2) then pureOut (SVal.float lo) true
  else
    let y := SVal.fadd lo (SVal.fdiv (SVal.fmul (SVal.fsub (x.f 0) (x.f 1)) (SVal.fsub hi lo)) (SVal.fsub (x.f 2) (x.f 1)))
    let a := if SVal.flt hi lo then hi else lo
    let c := if SVal.flt hi lo then lo else hi
    pureOut (SVal.float (if SVal.flt y a then a else if SVal.flt c y then c else y))

/-- Δ in ms as F32. -/
def deltaMs (us : Nat) : F32 := F32.ofRatio us 1000

/-- HYST, RAMP, FILT, BLINK, SAH. State: q; y; y; start, ET, M; y. -/
def memoryBlock (ty : Nat) (x : SeqIn) (y : SVal) : SeqOut :=
  let yf : F32 := BitVec.ofInt 32 (x.s 0)
  match ty with
  | 0x2A =>
    let fl := SVal.anyF [x.i 0, x.i 1, x.i 2]
    let ge := fun (a c : Nat) => if fl then !SVal.flt (x.f a) (x.f c) && (SVal.f32 (x.f a)).cmp (SVal.f32 (x.f c)) != none
      else decide (x.n c ≤ x.n a)
    let q := if ge 0 1 then true else if ge 2 0 then false else x.s 0 != 0
    { outs := [SVal.bool q], st := [bitI q], err := false }
  | 0x2B =>
    let step := SVal.fmul (x.f 1) (F32.ofRatio x.dt 1000000)
    let step := if SVal.flt step 0#32 then 0#32 else step
    let d := SVal.fsub (x.f 0) yf
    let r := if SVal.flt step d then SVal.fadd yf step
      else if SVal.flt d (SVal.fneg step) then SVal.fsub yf step else x.f 0
    { outs := [SVal.float r], st := [(r.toNat : Int)], err := false }
  | 0x2C =>
    let dt := deltaMs x.dt
    let r := if SVal.feq (x.f 1) 0#32 then x.f 0
      else SVal.fadd yf (SVal.fdiv (SVal.fmul (SVal.fsub (x.f 0) yf) dt) (SVal.fadd (x.f 1) dt))
    { outs := [SVal.float r], st := [(r.toNat : Int)], err := false }
  | 0x2D =>
    let start := if x.b 0 && x.s 2 == 0 then (x.ts : Int) else x.s 0
    let on := x.pt 1
    let q := x.b 0 && decide (((x.ts : Int) - start) % (on + x.pt 2) < on)
    { outs := [SVal.bool q], st := [start, (x.ts : Int) - start, bitI (x.b 0)], err := false }
  | _ =>
    let r : SVal := if x.b 1 then x.i 0 else { y with bits := yf }
    { outs := [r], st := [(r.bits.toNat : Int)], err := false }

/-- One evaluation of a block. `y` is its first output of the last scan. -/
def seqBlock (ty : Nat) (x : SeqIn) (y : SVal) : SeqOut :=
  if ty = 0x01 then pureOut (SVal.bool (x.b 0 && x.b 1 && x.b 2 && x.b 3))
  else if ty = 0x02 then pureOut (SVal.bool (x.b 0 || x.b 1 || x.b 2 || x.b 3))
  else if ty = 0x03 then pureOut (SVal.bool (x.b 0 != x.b 1))
  else if ty = 0x04 then pureOut (SVal.bool (!x.b 0))
  else if ty = 0x05 then
    let q := x.b 0 || (x.s 0 != 0 && !x.b 1)
    { outs := [SVal.bool q], st := [bitI q], err := false }
  else if ty = 0x06 then
    let q := !x.b 1 && (x.b 0 || x.s 0 != 0)
    { outs := [SVal.bool q], st := [bitI q], err := false }
  else if ty = 0x07 then { outs := [SVal.bool (x.b 0 && x.s 0 == 0)], st := [bitI (x.b 0)], err := false }
  else if ty = 0x08 then { outs := [SVal.bool (!x.b 0 && x.s 0 != 0)], st := [bitI (x.b 0)], err := false }
  else if ty = 0x09 then timerStep x false
  else if ty = 0x0A then timerStep x true
  else if ty = 0x0B then pulseBlock x
  else if ty = 0x0C then tonrBlock x
  else if ty ≤ 0x0F then counterBlock ty x
  else if ty ≤ 0x15 then compareBlock ty x
  else if ty ≤ 0x1A then arithBlock ty x
  else if ty ≤ 0x1E then unaryBlock ty x
  else if ty = 0x1F then limitBlock x
  else if ty = 0x20 then pureOut (if x.b 0 then x.i 2 else x.i 1)
  else if ty = 0x21 then
    let k := x.n 0
    if 0 ≤ k ∧ k ≤ 3 then pureOut (x.i (k.toNat + 1)) else pureOut (x.i 1) true
  else if ty = 0x22 then pureOut (SVal.float (SVal.ofF (FVal.ofInt (x.n 0))))
  else if ty = 0x23 then
    match SVal.f32 (x.f 0) with
    | .fin n m e =>
      let r := (FVal.fin n m e).nearest
      if r < -2147483648 ∨ 2147483647 < r then pureOut (SVal.int 0) true else pureOut (SVal.int r)
    | _ => pureOut (SVal.int 0) true
  else if ty = 0x24 then pureOut (SVal.int (bitI (x.b 0)))
  else if ty ≤ 0x28 then bitBlock ty x
  else if ty = 0x29 then scaleBlock x
  else if ty = 0x2E then { outs := [x.i 0, SVal.bool (x.b 1)], st := [], err := false }
  else if ty = 0x2F then { outs := [SVal.bool (x.b 0)], st := [bitI (x.b 0)], err := false }
  else memoryBlock ty x y

/-- The cost of a type in ns (Table 12-3). -/
def seqCost (ty : Nat) : Nat :=
  if ty ≤ 0x04 then 40 else if ty ≤ 0x08 then 50 else if ty ≤ 0x0C then 120 else if ty ≤ 0x0F then 90
  else if ty ≤ 0x15 then 40 else if ty ≤ 0x1A then 50 else if ty ≤ 0x1E then 40 else if ty = 0x1F then 50
  else if ty = 0x20 then 40 else if ty = 0x21 then 50 else if ty ≤ 0x28 then 40 else if ty = 0x29 then 90
  else if ty = 0x2A then 50 else if ty ≤ 0x2C then 80 else if ty = 0x2D then 90 else if ty = 0x2E then 60
  else if ty = 0x2F then 150 else 40

/-- The inputs a type reads as BOOL when they are NONE: AND4 reads 1 (Table 12-3). -/
def noneInput (ty : Nat) : SVal := if ty = 0x01 then SVal.bool true else SVal.word 0

/-! The image (R289, R290). -/

/-- A little-endian field. -/
def fieldLE (b : List Byte) (off n : Nat) : Nat := natLE ((b.drop off).take n)

/-- One instance record. -/
def parseInst (b : List Byte) : SeqInst :=
  { id := fieldLE b 0 2, ty := fieldLE b 2 1, dest := fieldLE b 4 4,
    ins := (List.range 6).map fun i => (fieldLE b (8 + 8 * i) 4, fieldLE b (12 + 8 * i) 4)
    init := (List.range 4).map fun i => fieldLE b (0x38 + 4 * i) 4
    dflt := (List.range 4).map fun i => fieldLE b (0x48 + 4 * i) 4 }

/-- One variable record. -/
def parseVar (b : List Byte) : SeqVar := { pv := fieldLE b 0 2, ty := fieldLE b 2 1, init := fieldLE b 4 4 }

/-- Records of a fixed size, from an offset. -/
def records (size : Nat) : Nat → List Byte → List (List Byte)
  | 0, _ => []
  | n + 1, b => b.take size :: records size n (b.drop size)

/-- A program read from an image whose structure holds. -/
def parseProg (b : List Byte) : SeqProg :=
  { version := fieldLE b 0x0C 4
    insts := (records 88 (fieldLE b 0x10 2) (b.drop 0x40)).map parseInst
    vars := (records 8 (fieldLE b 0x12 2) (b.drop (0x40 + 88 * fieldLE b 0x10 2))).map parseVar }

/-- Whether magic, revision, offsets and length hold (error FORMAT). -/
def imageShape (b : List Byte) : Bool :=
  let n := fieldLE b 0x10 2
  let v := fieldLE b 0x12 2
  decide (68 ≤ b.length) && fieldLE b 0 4 == 0x53514231 && fieldLE b 4 2 == 1 && fieldLE b 0x14 4 == 0x40
    && fieldLE b 0x18 4 == 0x40 + 88 * n && fieldLE b 0x1C 4 == b.length && b.length == 0x40 + 88 * n + 8 * v + 4

/-- The object a reference of class OBJ names: its key. -/
def refKey (r : Nat) : Nat := r / 4096 % 65536 * 256 + r / 16 % 256

/-- The key of PVj (R285). -/
def pvKey (j : Nat) : Nat := (0x8100 + j / 64) * 256 + j % 64 + 1

namespace Dev

/-- Whether an object exists for a program: on this part (R2), and of the variables those that the image declares (R285). -/
def progObj (d : Dev) (p : SeqProg) (k : Nat) : Option ObjRow :=
  let ix := k / 256
  if d.isB ∧ 0x4E00 ≤ ix ∧ ix < 0x5400 then none
  else if 0x8100 ≤ ix ∧ ix < 0x8180 ∧ (p.vars.any fun v => pvKey v.pv == k) = false then none
  else objRow? ix (k % 256)

/-- Whether an object has a number a reference can read. -/
def refObj (d : Dev) (p : SeqProg) (k : Nat) : Bool := match d.progObj p k with
  | some r => !r.type.isBlob && r.type != .time96 && r.acc != .wo
  | none => false

/-- Whether a reference is good in a program (R284, BAD_REF). -/
def refGood (d : Dev) (p : SeqProg) (r : Nat) : Bool :=
  match r / 2 ^ 28 with
  | 0 => true
  | 1 => true
  | 2 => let o := r / 256 % 256
    decide (1 ≤ o) && decide (o ≤ 4) && p.insts.any (·.id == r / 65536 % 4096)
  | 3 => p.vars.any (·.pv == r % 8192)
  | 4 => d.on (Obj.STN_ENABLE (r / 2 ^ 23 % 32)) && decide (r / 2048 % 8 ≤ 5)
  | 5 => d.on (Obj.STN_ENABLE (r / 2 ^ 23 % 32))
  | 6 => true
  | 7 => d.refObj p (refKey r)
  | 8 => decide (1 ≤ r % 16) && decide (r % 16 ≤ 5)
  | _ => false

/-- Whether a STORE's destination is good (R291, BAD_REF). -/
def destGood (d : Dev) (p : SeqProg) (r : Nat) : Bool :=
  match r / 2 ^ 28 with
  | 3 => p.vars.any (·.pv == r % 8192)
  | 4 => d.on (Obj.STN_ENABLE (r / 2 ^ 23 % 32)) && decide (r / 2048 % 8 ≤ 5)
  | 6 => true
  | 7 => match d.progObj p (refKey r) with
    | some o => o.cls == .live && o.acc != .ro && !o.type.isBlob && decide (refKey r / 256 < 0xC000)
    | none => false
  | _ => false

/-- What a STORE's destination names (R291), less the bits its class does not read. -/
def destName (r : Nat) : Nat × Nat :=
  (r / 2 ^ 28, match r / 2 ^ 28 with
    | 3 => r % 8192
    | 4 => if r / 2048 % 8 = 0 then r % 2 ^ 28 / 2048 else r % 2 ^ 28 / 2 ^ 17 * 128 + r / 2048 % 8
    | 6 => r % 16
    | 7 => refKey r
    | _ => r)

/-- The validation of an image: the error of Table 12-6 and the first failing instance. -/
def validateImage (d : Dev) (b : List Byte) : Nat × Nat :=
  if imageShape b = false then (1, 0xFFFF)
  else if fieldLE b (b.length - 4) 4 ≠ crc32 (b.take (b.length - 4)) then (2, 0xFFFF)
  else
    let p := parseProg b
    let rec dup : List Nat → List Nat → Option Nat
      | _, [] => none
      | seen, x :: t => if seen.contains x then some x else dup (x :: seen) t
    let stores := p.insts.filter (·.ty == 0x2E)
    let fail := fun (code : Nat) (f : SeqInst → Bool) => (p.insts.find? f).map fun i => (code, i.id)
    match dup [] (p.insts.map (·.id)) with
    | some i => (3, i)
    | none =>
      if (dup [] (p.vars.map (·.pv))).isSome then (3, 0xFFFF)
      else
        match fail 4 (fun i => i.ty == 0 || decide (0x30 < i.ty)) with
        | some r => r
        | none =>
          match fail 5 (fun i => !i.ins.all (fun x => d.refGood p x.1) || (i.ty == 0x2E && !d.destGood p i.dest)) with
          | some r => r
          | none =>
            if 4096 < p.insts.length ∨ 8192 < p.vars.length ∨ 64 < (stores.filter (·.dest / 2 ^ 28 == 7)).length then
              (6, 0xFFFF)
            else
              match fail 7 (fun i => i.ty == 0x2F && (i.ins.getD 1 (0, 0)).1 / 2 ^ 28 == 1 && decide (3 < (i.ins.getD 1 (0, 0)).2)) with
              | some r => r
              | none =>
                let rec dupDest : List (Nat × Nat) → List SeqInst → Option Nat
                  | _, [] => none
                  | seen, x :: t => if seen.contains (destName x.dest) then some x.id else dupDest (destName x.dest :: seen) t
                match dupDest [] stores with
                | some i => (8, i)
                | none => (0, 0xFFFF)

/-! Commands (R282, R290, R294, R295). -/

def setSeq (x : SeqSt) (d : Dev) : Dev := { d with seq := x }

/-- Raise a sequencer event with its source. -/
def seqEvent (e src : Nat) (d : Dev) : Dev := d.signalAt Obj.SEQ_EVENT_SRC e src

/-- A new image lands in the staging area. -/
def seqStage (b : List Byte) (d : Dev) : Dev := d.setSeq { d.seq with staged := b, valid := none }

/-- VALIDATE (R290); a valid image takes an EMPTY runtime to STOPPED. -/
def devSeqValidate (d : Dev) : Dev :=
  let (e, i) := d.validateImage d.seq.staged
  let d := (d.setN Obj.SEQ_IMG_ERR e).setN Obj.SEQ_IMG_ERR_INST i
  if e = 0 then
    let d := d.setSeq { d.seq with valid := some (parseProg d.seq.staged) }
    if d.getN Obj.SEQ_STATE = 0 then d.setN Obj.SEQ_STATE 1 else d
  else d.setSeq { d.seq with valid := none }

/-- C_scan of a program in ns (R282). -/
def cScan (d : Dev) (p : SeqProg) : Nat :=
  15000 + p.insts.foldl (fun n i => n + seqCost i.ty) 0
    + 3000 * ((List.range 32).filter fun n => d.on (Obj.STN_ENABLE n)).length

/-- Whether a scan work fits a period in ms (R282). -/
def scanFits (d : Dev) (c period : Nat) : Bool :=
  match F32.val (d.getF Obj.SEQ_LOAD_MAX) with
  | .fin _ m e => decide (c * 2 ^ (-e).toNat ≤ period * 1000000 * m * 2 ^ e.toNat)
  | _ => false

/-- Descriptor 960 for a scan work and period, as the task check of R273 sees it. -/
def seqTask (c period : Nat) (d : Dev) : Dev :=
  let d := (d.setN (Obj.TASK_BUDGET 960) c).setN (Obj.TASK_DEADLINE 960) (period * 1000000)
  let d := (d.setN (Obj.TASK_PERIOD 960) (period * 1000000 * nsFrac)).setN (Obj.TASK_CORES 960) (d.getN Obj.SEQ_CORES)
  ((d.setN (Obj.TASK_RELEASE 960) 1).setN (Obj.TASK_STALL 960) 14).setN (Obj.TASK_ENABLE 960) 1

/-- The admission of a program at a period (R282): the reason of Table 01-4 and its detail; none when it passes. -/
def seqAdmit (d : Dev) (p : SeqProg) (period : Nat) : Option (Nat × Nat) :=
  let c := d.cScan p
  match (d.seqTask c period).tasksFail with
  | some t => some (7, t)
  | none => if d.scanFits c period then none else some (8, p.insts.length)

/-- The initial data of an instance. -/
def seqFresh (i : SeqInst) (status : Nat) : SeqData :=
  { outs := i.dflt.map SVal.word, st := i.init.map fun n => (BitVec.ofNat 32 n).toInt, status := status }

/-- A program is in force: its version, scan work and descriptor. -/
def seqInstall (p : SeqProg) (d : Dev) : Dev :=
  let c := d.cScan p
  let d := (d.setN Obj.SEQ_VERSION p.version).setN Obj.SEQ_C_SCAN c
  d.seqTask c (d.getN Obj.SEQ_PERIOD)

/-- START takes effect (R294). -/
def devSeqStart (d : Dev) : Dev :=
  match d.seq.valid with
  | none => d
  | some p =>
    let d := d.seq.prog.vars.foldl (fun d v => d.set (pvKey v.pv) 0) d
    let d := p.vars.foldl (fun d v => d.setN (pvKey v.pv) v.init) d
    let d := d.setSeq { d.seq with prog := p, data := p.insts.map fun i => (i.id, seqFresh i 0), prev := none,
                                   swapped := false, dropped := [], tx := [] }
    let d := (d.setN Obj.SEQ_SCAN_COUNT 0).setN Obj.SEQ_STATE 2
    (d.seqInstall p).taskEnabled 960

end Dev

/-- A value for a BOOL bit, byte, half word or word of an image (R291): the low-order bits. -/
def imageValue (fmt : Nat) (x : SVal) : Nat :=
  match fmt with
  | 1 => (x.toInt % 256).toNat
  | 2 => (x.toInt % 65536).toNat
  | 3 => (x.toInt % 65536).toNat
  | 4 => (x.toInt % 4294967296).toNat
  | _ => x.toF.toNat

/-- Write a field of a station's output image. -/
def imageStore (img : List Byte) (byte bit fmt : Nat) (x : SVal) : List Byte :=
  let img := Sys2Proof.Machine.padTo 64 0#8 img
  if fmt = 0 then
    let b := (img.getD byte 0#8).toNat
    let b := b - (if b.testBit bit then 2 ^ bit else 0) + (if x.toBool then 2 ^ bit else 0)
    img.set byte (BitVec.ofNat 8 b)
  else
    let bs := bytesLE (if fmt = 1 then 1 else if fmt ≤ 3 then 2 else 4) (imageValue fmt x)
    ((List.range bs.length).foldl (fun (l : List Byte) i => l.set (byte + i) (bs.getD i 0#8)) img).take 64

/-- Read a field of a station's input image (Table 12-2). -/
def imageRead (img : List Byte) (byte bit fmt : Nat) : SVal :=
  let at0 := fun (n : Nat) => natLE ((img.drop byte).take n)
  match fmt with
  | 0 => SVal.bool ((at0 1).testBit bit)
  | 1 => SVal.int (at0 1)
  | 2 => SVal.int (BitVec.ofNat 16 (at0 2)).toInt
  | 3 => SVal.int (at0 2)
  | 4 => SVal.int (BitVec.ofNat 32 (at0 4)).toInt
  | _ => SVal.float (BitVec.ofNat 32 (at0 4))

/-- A value in a declared type of a variable. -/
def varValue (ty : Nat) (x : SVal) : Nat :=
  match ty with
  | 0 => if x.toBool then 1 else 0
  | 1 => (x.toInt % 4294967296).toNat
  | _ => x.toF.toNat

/-- A number for an object of a type: an OBJ destination takes the value converted to its type. -/
def objValue (ty : OType) (x : SVal) : Int :=
  match ty with
  | .f32 => (x.toF.toNat : Int)
  | .f64 => ((F64.ofVal (SVal.f32 x.toF)).toNat : Int)
  | .bool => if x.ty = 1 then x.toInt else if x.toBool then 1 else 0
  | _ => if x.ty = 2 then (SVal.f32 x.bits).nearest else x.toInt

/-- The writer of a STORE to a field output. -/
def Origin.sequencer (inst : Nat) : Origin :=
  { origin := 2, role := 0xFF, port := 0xFF, originId := inst, user := 0xFFFF, addr := [] }

namespace Dev

/-- A station's output image being built. -/
def stnTx (d : Dev) (n : Nat) : List Byte := SMap.get (d.blob (Obj.STN_OUT_IMAGE n)) d.seq.tx n

/-- Write a destination other than an OBJ (R291). -/
def seqStore (inst dest : Nat) (x : SVal) (d : Dev) : Dev :=
  match dest / 2 ^ 28 with
  | 3 =>
    match d.seq.prog.vars.find? (·.pv == dest % 8192) with
    | some v => d.setN (pvKey v.pv) (varValue v.ty x)
    | none => d
  | 4 =>
    let n := dest / 2 ^ 23 % 32
    d.setSeq { d.seq with tx := SMap.ins d.seq.tx n (imageStore (d.stnTx n) (dest / 2 ^ 17 % 64) (dest / 2 ^ 14 % 8) (dest / 2048 % 8) x) }
  | 6 => d.fioStore (Origin.sequencer inst) (dest % 16) x.toBool
  | _ => d

/-- STOP takes effect (R294): every STORE destination other than an OBJ takes its DEF1. -/
def devSeqStop (d : Dev) : Dev :=
  let d := (d.seq.prog.insts.filter (·.ty == 0x2E)).foldl (fun d i => d.seqStore i.id i.dest (SVal.word (i.dflt.getD 0 0))) d
  let d := d.seq.tx.foldl (fun d x => d.setBlob (Obj.STN_OUT_IMAGE x.1) x.2) d
  let d := (d.setSeq { d.seq with tx := [] }).setN Obj.SEQ_STATE 1
  (d.setN (Obj.TASK_ENABLE 960) 0).taskEnabled 960

/-- EXCHANGE takes effect (R295). -/
def devSeqExchange (d : Dev) : Dev :=
  match d.seq.valid with
  | none => d
  | some p =>
    let old := d.seq.prog
    let kept := fun (i : SeqInst) => old.insts.any fun o => o.id == i.id && o.ty == i.ty
    let data := p.insts.map fun i =>
      match (if kept i then d.seq.data.find? (·.1 = i.id) else none) with
      | some (_, x) => (i.id, { x with status := x.status % 2 + 2 })
      | none => (i.id, seqFresh i 4)
    let gone := old.insts.filter fun o => o.ty == 0x2E && o.dest / 2 ^ 28 != 7 &&
      !(p.insts.any fun i => i.id == o.id && i.ty == o.ty)
    let d := (old.vars.filter fun v => !p.vars.any (·.pv == v.pv)).foldl (fun d v => d.set (pvKey v.pv) 0) d
    let d := (p.vars.filter fun v => !old.vars.any (·.pv == v.pv)).foldl (fun d v => d.setN (pvKey v.pv) v.init) d
    let d := d.setSeq { d.seq with prog := p, data := data, swapped := true,
                                   dropped := d.seq.dropped ++ gone.map fun o => (o.dest, o.dflt.getD 0 0) }
    d.seqInstall p

/-- `SEQ_PERIOD` takes effect (R282): the scan work admitted, and a running program's descriptor, armed on the new period. (DEDUCED:
assumption log 45) -/
def seqPeriodWritten (d : Dev) : Dev :=
  let c := d.cScan d.seq.prog
  let d := d.setN Obj.SEQ_C_SCAN c
  if d.getN Obj.SEQ_STATE = 2 then (d.seqTask c (d.getN Obj.SEQ_PERIOD)).armEnabled 960 else d

/-- `SEQ_CORES` takes effect (R280): the cores of descriptor 960. -/
def seqCoresWritten (d : Dev) : Dev := d.setN (Obj.TASK_CORES 960) (d.getN Obj.SEQ_CORES)

/-- The refusal of a command of `SEQ_CMD` (R294), before admission. -/
def seqCmdStatus (d : Dev) (v : Nat) : Nat :=
  let st := d.getN Obj.SEQ_STATE
  if v = 2 then (if st = 1 ∧ d.seq.valid.isSome then Status.ok else Status.state)
  else if v = 3 then (if st = 2 then Status.ok else Status.state)
  else if v = 4 then (if st = 2 ∧ d.seq.valid.isSome then Status.ok else Status.state)
  else Status.ok

/-! Stations (R292). -/

/-- A station's input frame arrives. -/
def stationInput (n : Nat) (data : List Byte) (d : Dev) : Dev :=
  if d.on (Obj.STN_ENABLE n) = false then d
  else
    let d := d.setSeq { d.seq with rx := SMap.ins d.seq.rx n (padTo 64 0#8 (data.take (d.getN (Obj.STN_LEN_IN n))))
                                   heard := SMap.ins d.seq.heard n d.tm.mono }
    let q := d.getN (Obj.STN_QUALITY n)
    let d := d.set (Obj.STN_QUALITY n) 0
    if q = 1 then d.seqEvent 131 n else d

/-- STATION_TIMEOUT: no input frame within `STN_TIMEOUT` of the last. -/
def devStationTimeout (n : Nat) (d : Dev) : Dev :=
  if d.on (Obj.STN_ENABLE n) ∧ d.getN (Obj.STN_QUALITY n) = 0
      ∧ d.waited (SMap.get 0 d.seq.heard n) (d.getN (Obj.STN_TIMEOUT n) * 1000000 * nsUnit) = true then
    ((d.set (Obj.STN_QUALITY n) 1).inc (Obj.STN_DROPOUTS n)).seqEvent 130 n
  else d

/-- The one-shot transmission of a station's output frame completed. -/
def stationSent (n : Nat) (ok : Bool) (d : Dev) : Dev := if ok then d else d.inc (Obj.STN_TX_FAIL n)

/-! The scan (R280). -/

/-- The scan clock in µs (R286): the time base with every phase step removed. -/
def scanClock (d : Dev) : Nat := ((d.tm.now : Int) - d.tm.steps).toNat / (1000 * nsUnit)

/-- What a reference reads (Table 12-2). `d0` is the module as latched at t_s, `dt` Δ in µs, `read` the value of an
object; OUT references read the data as evaluated so far. -/
def seqRef (d0 : Dev) (read : Nat → Int) (dt ty : Nat) (data : List (Nat × SeqData)) (r c : Nat) : SVal :=
  match r / 2 ^ 28 with
  | 1 => SVal.word c
  | 2 =>
    match data.find? (·.1 = r / 65536 % 4096) with
    | some (_, x) => x.outs.getD (r / 256 % 256 - 1) (SVal.word 0)
    | none => SVal.word 0
  | 3 =>
    match d0.seq.prog.vars.find? (·.pv == r % 8192) with
    | some v => { ty := min v.ty 2, bits := BitVec.ofInt 32 (d0.get (pvKey v.pv)) }
    | none => SVal.word 0
  | 4 => imageRead (d0.blob (Obj.STN_IN_IMAGE (r / 2 ^ 23 % 32))) (r / 2 ^ 17 % 64) (r / 2 ^ 14 % 8) (r / 2048 % 8)
  | 5 => SVal.int (d0.get (Obj.STN_QUALITY (r / 2 ^ 23 % 32)))
  | 6 => SVal.bool (d0.bit Obj.FIO_IN (r % 16))
  | 7 =>
    let k := refKey r
    match objRow? (k / 256) (k % 256) with
    | some o =>
      let v := read k
      if o.type = .f32 then SVal.float (BitVec.ofInt 32 v)
      else if o.type = .f64 then SVal.float (SVal.ofF (F64.val (BitVec.ofInt 64 v)))
      else SVal.int v
    | none => SVal.word 0
  | 8 =>
    match r % 16 with
    | 1 => SVal.float (deltaMs dt)
    | 2 => SVal.int (d0.get Obj.SEQ_SCAN_COUNT)
    | 3 => SVal.bool (d0.getN Obj.SEQ_SCAN_COUNT == 1)
    | 4 => SVal.int (d0.second % 2147483648 : Nat)
    | 5 => SVal.int d0.mode
    | _ => SVal.word 0
  | _ => noneInput ty

/-- The type a constant takes at an input (R283): F32 in the blocks that work in F32, I32 where an input is a time, a count or a
bit pattern, and with the other operands of an arithmetic or comparison block. -/
def constFloat (ty k : Nat) (others : List SVal) : Bool :=
  if ty = 0x29 ∨ ty = 0x2B ∨ ty = 0x23 then true
  else if ty = 0x2C then k == 0
  else ((decide (0x10 ≤ ty ∧ ty ≤ 0x1F) && ty != 0x1A) || ty == 0x2A) && SVal.anyF others

/-- The inputs with the constants among them typed. -/
def adaptConst (ty : Nat) (l : List SVal) : List SVal :=
  if ty = 0x20 ∨ ty = 0x21 ∨ ty = 0x2E ∨ ty = 0x30 then l
  else (l.zip (List.range l.length)).map fun (x, k) =>
    if x.ty = 3 then { x with ty := if constFloat ty k l then 2 else 1 } else x

/-- The number of inputs of a type (Table 12-3). -/
def seqArity (ty : Nat) : Nat :=
  if ty = 0x01 ∨ ty = 0x02 then 4 else if ty = 0x04 ∨ ty = 0x07 ∨ ty = 0x08 then 1
  else if ty = 0x0C ∨ ty = 0x0D ∨ ty = 0x0E then 3 else if ty = 0x0F then 5
  else if ty = 0x1B ∨ ty = 0x1C then 1 else if ty = 0x1F ∨ ty = 0x20 then 3 else if ty = 0x21 then 5
  else if 0x22 ≤ ty ∧ ty ≤ 0x24 then 1 else if ty = 0x29 then 5 else if ty = 0x2A ∨ ty = 0x2D then 3 else 2

/-- The level of an ALARM: above 3 is taken as 3 (R291). -/
def alarmLevel (x : SVal) : Nat := min 3 (max 0 x.toInt).toNat

/-- Evaluate one instance (R280): its data, and events 132 and 134. -/
def seqEval (d0 : Dev) (read : Nat → Int) (ts dt : Nat) (i : SeqInst) (d : Dev) : Dev :=
  match d.seq.data.find? (·.1 = i.id) with
  | none => d
  | some (_, x) =>
    let xs := ((i.ins.take (seqArity i.ty)).map fun r => seqRef d0 read dt i.ty d.seq.data r.1 r.2)
    let xs := adaptConst i.ty xs
    let r := seqBlock i.ty { x := xs, st := x.st, ts := ts, dt := dt } (x.outs.getD 0 (SVal.word 0))
    let was := x.status % 2 == 1
    let y : SeqData := { outs := padTo 4 (SVal.word 0) r.outs, st := padTo 4 0 r.st,
                         status := x.status / 2 * 2 + (if r.err then 1 else 0) }
    let d := d.setSeq { d.seq with data := d.seq.data.map fun z => if z.1 = i.id then (i.id, y) else z }
    let d := if r.err ∧ was = false then d.seqEvent 134 i.id else d
    if i.ty ≠ 0x2F then d
    else
      let now := (xs.getD 0 (SVal.word 0)).toBool
      let before := x.st.getD 0 0 != 0
      if now ∧ before = false then
        (d.seqEvent 132 i.id).raiseFault 132 (alarmLevel (xs.getD 1 (SVal.word 0))) 0 i.id 0 true
      else if before ∧ now = false then d.clearCause 132 i.id
      else d

end Dev

/-- What a scan leaves to be submitted: OBJ writes (instance, key, value) and station output frames. -/
structure SeqOutputs where
  objs   : List (Nat × Nat × SVal)
  frames : List (Nat × List Byte)

namespace Dev

/-- The input phase (R280): the stations' images are latched. -/
def seqLatch (d : Dev) : Dev :=
  (List.range 32).foldl (fun d n =>
    if d.on (Obj.STN_ENABLE n) then
      d.setBlob (Obj.STN_IN_IMAGE n) (if d.getN (Obj.STN_QUALITY n) = 2 then List.replicate 64 0#8
        else SMap.get (List.replicate 64 0#8) d.seq.rx n)
    else d) d

/-- The valid CAN FD lengths. -/
def fdLength (n : Nat) : Nat := if n ≤ 8 then n else ([12, 16, 20, 24, 32, 48, 64].find? (n ≤ ·)).getD 64

/-- The output phase (R280, R291, R293): the destinations in instance order, as their STOREs read them, and the station
frames. -/
def seqOutput (d : Dev) : SeqOutputs × Dev :=
  let d := d.seq.dropped.foldl (fun d x => d.seqStore 0xFFFF x.1 (SVal.word x.2)) d
  let d := d.setSeq { d.seq with dropped := [] }
  let (objs, d) := (d.seq.prog.insts.filter (·.ty == 0x2E)).foldl (fun (r : List (Nat × Nat × SVal) × Dev) i =>
    let v := fun k => match r.2.seq.data.find? (·.1 = i.id) with
      | some (_, x) => x.outs.getD k (SVal.word 0)
      | none => SVal.word 0
    if (v 1).toBool = false then r
    else if i.dest / 2 ^ 28 = 7 then (r.1 ++ [(i.id, refKey i.dest, v 0)], r.2)
    else (r.1, r.2.seqStore i.id i.dest (v 0))) ([], d)
  let d := d.seq.tx.foldl (fun d x => d.setBlob (Obj.STN_OUT_IMAGE x.1) x.2) d
  let d := d.setSeq { d.seq with tx := [] }
  let (frames, d) := (List.range 32).foldl (fun (r : List (Nat × List Byte) × Dev) n =>
    if r.2.on (Obj.STN_ENABLE n) = false then r
    else if r.2.getN (Obj.STN_QUALITY n) = 0 then
      let len := r.2.getN (Obj.STN_LEN_OUT n)
      (r.1 ++ [(n, padTo (fdLength len) 0#8 ((r.2.blob (Obj.STN_OUT_IMAGE n)).take len))], r.2)
    else (r.1, r.2.inc (Obj.STN_OUT_DISCARDED n))) ([], d)
  ({ objs := objs, frames := frames }, d)

/-- SEQ_SCAN (R280) but for the submission of its outputs: `durNs` is the scan's duration, `read` reads an object. -/
def devSeqScan (durNs : Nat) (read : Dev → Nat → Int) (d : Dev) : SeqOutputs × Dev :=
  if d.getN Obj.SEQ_STATE ≠ 2 ∨ d.mode = Mode.boot ∨ d.standby then ({ objs := [], frames := [] }, d)
  else
    let ts := d.scanClock
    let dt := match d.seq.prev with
      | some p => ts - p
      | none => 0
    let d := (d.inc Obj.SEQ_SCAN_COUNT).seqLatch
    let d := if d.seq.swapped then
        (d.setN Obj.SEQ_EXCH_SCAN (d.getN Obj.SEQ_SCAN_COUNT)).seqEvent 133 (noSource 133)
      else d
    let d := d.setSeq { d.seq with prev := some ts, swapped := false }
    let d0 := d
    let d := d.seq.prog.insts.foldl (fun d i => seqEval d0 (read d0) ts dt i d) d
    let (out, d) := d.seqOutput
    (out, (d.setN Obj.SEQ_SCAN_LAST (min 0xFFFFFFFF durNs)).postEngine 12)

/-- The instance view of R297: type, status, outputs, state of an instance; `b` is the subindex less the base. -/
def seqView (d : Dev) (id b : Nat) : Int :=
  match d.seq.prog.insts.find? (·.id == id), d.seq.data.find? (·.1 = id) with
  | some i, some (_, x) =>
    if b = 1 then i.ty else if b = 2 then x.status
    else if b ≤ 6 then if i.ty = 0x2E then 0 else ((x.outs.getD (b - 3) (SVal.word 0)).bits.toNat : Int)
    else (x.st.getD (b - 7) 0) % 4294967296
  | _, _ => 0

end Dev

end Sys2Proof.Machine
end

