-- ==== Sys2Proof/Machine/Can.lean ====
section
/-! DEFINITION. CAN FD (R406–R419): reception into the user rings and the station path, one-shot transmission, completion
records, error states and bus-off recovery. (PRESUMED: assumption log 46) -/

namespace Sys2Proof.Machine

open Sys2Proof

/-- The codes of `CAN_STATE`. -/
abbrev CanState.errorActive : Nat := 0
abbrev CanState.warning : Nat := 1
abbrev CanState.errorPassive : Nat := 2
abbrev CanState.busOff : Nat := 3
abbrev CanState.off : Nat := 4

/-- Bytes to be written to a memory: address and data. -/
abbrev MemWrite := Nat × List Byte

namespace Dev

def can (d : Dev) (c : Nat) : CanCtl := SMap.get CanCtl.init d.cans c

/-- A controller's state, with the report of its pending requests. -/
def setCan (c : Nat) (x : CanCtl) (d : Dev) : Dev :=
  ({ d with cans := SMap.set CanCtl.init d.cans c x } : Dev).setN (Obj.CAN_TX_PENDING c)
    ((List.range 32).foldl (fun n b => if x.reqs.any (·.buf == b) then n + 2 ^ b else n) 0)

/-- Raise a CAN event with its controller (R419). -/
def canEvent (e c : Nat) (d : Dev) : Dev := d.signalAt Obj.CAN_EVENT_SRC e c

def canState (d : Dev) (c : Nat) : Nat := d.getN (Obj.CAN_STATE c)

/-- A change of `CAN_STATE` raises event 168 + c (R414). -/
def setCanState (c st : Nat) (d : Dev) : Dev :=
  if d.canState c = st then d else (d.setN (Obj.CAN_STATE c) st).canEvent (168 + c) c

/-- The state the error counters give (R414). -/
def canStateOf (tec rec0 : Nat) : Nat :=
  if 127 < tec ∨ 127 < rec0 then CanState.errorPassive
  else if 96 ≤ tec ∨ 96 ≤ rec0 then CanState.warning
  else CanState.errorActive

/-- Put a completion into the queue of 64 (R413): the oldest is dropped from a full queue. -/
def canComplete (c : Nat) (r : CanReq) (time : Int) (status err : Nat) (d : Dev) : Dev :=
  let x := d.can c
  let e : CanDone := { time := time, buf := r.buf, status := status, err := err, tec := min 255 (d.getN (Obj.CAN_TEC c)) }
  let full := decide (64 ≤ x.done.length)
  let d := d.setCan c { x with reqs := x.reqs.filter (·.buf != r.buf), done := (if full then x.done.drop 1 else x.done) ++ [e],
                               attempt := if (x.attempt.map (·.1)) = some r.buf then none else x.attempt }
  let d := if full then d.inc (Obj.CAN_DONE_LOST c) else d
  let d := if status = 0 then d else d.canEvent 171 c
  match r.station with
  | some n => d.stationSent n (status == 0)
  | none => d

/-- Every pending request completes with BUS_OFF, in ascending buffer number (R414). -/
def canFlush (c : Nat) (d : Dev) : Dev :=
  (List.range 32).foldl (fun d b =>
    match (d.can c).reqs.find? (·.buf == b) with
    | some r => d.canComplete c r d.now96 3 0
    | none => d) d

/-- A request is written to its buffer; while the controller is bus-off it completes at once. -/
def canRequest (c : Nat) (r : CanReq) (d : Dev) : Dev :=
  let x := d.can c
  let d := d.setCan c { x with reqs := x.reqs.filter (·.buf != r.buf) ++ [r] }
  if d.canState c = CanState.busOff then d.canComplete c r d.now96 3 0 else d

/-- Put waiting station frames into free vendor buffers 24–31. -/
def canStations (c : Nat) (d : Dev) : Dev :=
  Nat.repeat (fun d =>
    match (d.can c).stations, (List.range 8).find? fun i => !(d.can c).reqs.any (·.buf == 24 + i) with
    | (n, data) :: rest, some i =>
      let d := d.setCan c { d.can c with stations := rest }
      d.canRequest c { buf := 24 + i, id := d.getN (Obj.STN_ID_OUT n), flags := 3, data := data, station := some n,
                       at_ := d.tm.mono }
    | _, _ => d) 32 d

/-- Send a station's output frame on its bus (R293). -/
def stationSend (n : Nat) (data : List Byte) (d : Dev) : Dev :=
  let c := d.getN (Obj.STN_BUS n)
  (d.setCan c { d.can c with stations := (d.can c).stations ++ [(n, data)] }).canStations c

/-- The controller goes bus-off (R414). -/
def canBusOff (c : Nat) (d : Dev) : Dev :=
  let d := (d.inc (Obj.CAN_BUS_OFFS c)).setCanState c CanState.busOff
  let d := d.setCan c { d.can c with attempt := none, joined := false, recover := false }
  (d.canFlush c).canStations c

/-- The error counters take new values: the state of an enabled controller follows (R414). -/
def canCounters (c tec rec0 : Nat) (d : Dev) : Dev :=
  let d := (d.setN (Obj.CAN_TEC c) (min 256 tec)).setN (Obj.CAN_REC c) (min 128 rec0)
  if 255 < tec then d.canBusOff c
  else if d.on (Obj.CAN_ENABLE c) then d.setCanState c (canStateOf tec rec0)
  else d

/-- Whether a controller takes part in the bus. -/
def canOn (d : Dev) (c : Nat) : Bool :=
  d.on (Obj.CAN_ENABLE c) && (d.can c).joined && d.canState c != CanState.busOff

/-- CAN_ENABLE takes effect. A controller switched off leaves the bus; its attempt still ends, as none is made twice (R412),
and one that is bus-off stays so until it recovers (R415). (DEDUCED: assumption log 88) -/
def canEnabled (c : Nat) (d : Dev) : Dev :=
  let d := if d.on (Obj.CAN_ENABLE c) then d else d.setCan c { d.can c with joined := false }
  if d.canState c = CanState.busOff then d
  else if d.on (Obj.CAN_ENABLE c) then d.setCanState c (canStateOf (d.getN (Obj.CAN_TEC c)) (d.getN (Obj.CAN_REC c)))
  else d.setCanState c CanState.off

/-- CAN_BUS_INTEGRATION (R406): 11 consecutive recessive bits were seen. -/
def devCanIntegration (c : Nat) (d : Dev) : Dev :=
  if d.on (Obj.CAN_ENABLE c) ∧ d.canState c ≠ CanState.busOff then d.setCan c { d.can c with joined := true } else d

/-! Reception (R410, R411). -/

/-- Unread entries of the user ring. -/
def canUnread (d : Dev) (c : Nat) : Nat :=
  let n := max 1 (d.getN (Obj.CAN_RX_LEN c))
  (d.getN (Obj.CAN_RX_WR c) + n - d.getN (Obj.CAN_RX_RD c) % n) % n

/-- The address of a ring entry in shared SRAM (Table 11-1). (PRESUMED: assumption log 73) -/
def canEntryAddr (d : Dev) (c i : Nat) : Nat :=
  0x10000000 + (d.getN (Obj.CAN_RX_BASE c) + 96 * i) % 0x80000

/-- The bytes of Table 17-3. -/
def canEntry (time : Int) (id len flags seq : Nat) (data : List Byte) : List Byte :=
  time96LE time ++ bytesLE 4 id ++ [BitVec.ofNat 8 len, BitVec.ofNat 8 flags] ++ bytesLE 2 seq
    ++ List.replicate 12 0#8 ++ padTo 64 0#8 data

/-- Store a frame in the user ring, or drop it (R411). `flags` holds bits 0–4 of Table 17-3. -/
def canStore (c : Nat) (time : Int) (id flags : Nat) (data : List Byte) (d : Dev) : List MemWrite × Dev :=
  let x := d.can c
  let seq := (x.seq + 1) % 65536
  let n := max 1 (d.getN (Obj.CAN_RX_LEN c))
  let wr := d.getN (Obj.CAN_RX_WR c)
  if (wr + 1) % n = d.getN (Obj.CAN_RX_RD c) % n then
    let d := (d.setCan c { x with seq := seq, lost := true }).inc (Obj.CAN_RX_LOST c)
    ([], if x.lost then d else d.canEvent 170 c)
  else
    let e := canEntry time id data.length (flags + if x.lost then 32 else 0) x.seq data
    let before := d.canUnread c
    let d := (d.setCan c { x with seq := seq, lost := false }).setN (Obj.CAN_RX_WR c) ((wr + 1) % n)
    let mark := d.getN (Obj.CAN_RX_WATERMARK c)
    let d := if mark ≠ 0 ∧ before < mark ∧ mark ≤ d.canUnread c then d.canEvent 170 c else d
    ([(d.canEntryAddr c wr, e)], d)

/-- The timestamp of a start of frame at `t` (2⁻¹⁶ ns): less `CAN_RX_SKEW`, to 12.5 ns (R410). -/
def canTime (d : Dev) (c : Nat) (t : Nat) : Int :=
  let u := ((t : Int) - d.get (Obj.CAN_RX_SKEW c) * skewUnit).toNat / 819200 * 819200
  time96 (u * 65536)

/-- CAN_FRAME_RECEIVED (R410): flags are bits 0–3 of Table 17-3; a valid frame lowers REC as ISO 11898-1:2015 lays down. -/
def devCanReceived (c : Nat) (t id flags : Nat) (data : List Byte) (d : Dev) : List MemWrite × Dev :=
  if d.canOn c = false then ([], d)
  else
    let r := d.getN (Obj.CAN_REC c)
    let (r, d) := if 127 < r then
        let (f, d) := d.takeFree
        (119 + f % 9, d)
      else (r - 1, d)
    let d := d.canCounters c (d.getN (Obj.CAN_TEC c)) r
    let d := if flags.testBit 3 then d
      else (List.range 32).foldl (fun d n =>
        if d.on (Obj.STN_ENABLE n) ∧ d.getN (Obj.STN_BUS n) = c ∧ d.getN (Obj.STN_ID_IN n) = id then d.stationInput n data
        else d) d
    d.canStore c (d.canTime c t) id (flags % 16) data

/-- CAN_RECEIVE_ERROR (R414): a protocol exception goes to bus integration with REC unchanged; an error raises REC by 1, or
by 8 in the cases ISO 11898-1:2015 names. -/
def devCanReceiveError (c : Nat) (exception byEight : Bool) (d : Dev) : Dev :=
  if d.canOn c = false then d
  else if exception then d.setCan c { d.can c with joined := false }
  else d.canCounters c (d.getN (Obj.CAN_TEC c)) (d.getN (Obj.CAN_REC c) + if byEight then 8 else 1)

/-! Transmission (R412, R413). -/

/-- The identifier as arbitration orders it: a base identifier counts as its 11 bits and 18 recessive bits. -/
def canKey (id : Nat) : Nat := if id.testBit 31 then id % 536870912 else id % 2048 * 262144 + 262143

/-- The refusal of a transmit request (R412): 72 bytes. -/
def canTxStatus (d : Dev) (c : Nat) (b : List Byte) : Nat :=
  let buf := (b.getD 0 0#8).toNat
  let fl := (b.getD 1 0#8).toNat
  let len := (b.getD 2 0#8).toNat
  if b.length ≠ 72 ∨ 32 ≤ buf then Status.range
  else if 24 ≤ buf then Status.readOnly
  else if 8 ≤ fl ∨ (fl.testBit 0 = false ∧ (8 < len ∨ fl.testBit 1)) ∨ fdLength len ≠ len ∨ 64 < len then Status.range
  else if (d.can c).reqs.any (·.buf == buf) then Status.busy
  else Status.ok

/-- CAN_TX takes effect: a base identifier is its low 11 bits. (DEDUCED: assumption log 88) -/
def devCanTx (c : Nat) (b : List Byte) (d : Dev) : Dev :=
  let fl := (b.getD 1 0#8).toNat
  let word := natLE ((b.drop 4).take 4)
  let id := if fl.testBit 2 then word % 536870912 + 0x80000000 else word % 2048
  d.canRequest c { buf := (b.getD 0 0#8).toNat, id := id, flags := fl, data := (b.drop 8).take (b.getD 2 0#8).toNat,
                   station := none, at_ := d.tm.mono }

/-- The pending request that enters arbitration. -/
def canNext (d : Dev) (c : Nat) : Option CanReq :=
  match (List.range 32).filterMap fun b => (d.can c).reqs.find? (·.buf == b) with
  | [] => none
  | r :: t => some (t.foldl (fun (b : CanReq) x => if canKey x.id < canKey b.id then x else b) r)

/-- CAN_ARBITRATION (R412): at bus idle the pending request of lowest identifier, at `t` (2⁻¹⁶ ns); `won` says that it
wins. -/
def devCanArbitration (c : Nat) (won : Bool) (t : Nat) (d : Dev) : Dev :=
  let x := d.can c
  if d.canOn c = false ∨ x.attempt.isSome ∨ d.getN (Obj.CAN_MODE c) = 1 ∨ d.standby then d
  else
    match (if won then d.canNext c else none) with
    | none => d
    | some r =>
      let d := d.setCan c { x with attempt := some (r.buf, t) }
      if d.getN (Obj.CAN_MODE c) = 2 then d else d.send (.can c r.id r.flags r.data)

/-- Whether an error may leave TEC unchanged (R416, ISO 11898-1:2015): a stuff error during arbitration, and an
acknowledgement error without a dominant bit in the passive error flag. -/
def canExempt (d : Dev) (c err : Nat) : Bool := err == 2 || (err == 4 && d.canState c == CanState.errorPassive)

/-- The attempt of a request that began at `t` ends with an error of Table 17-4 (0 none) and a new TEC (R413, R414): it
completes, the state follows, and a frame sent well is echoed (R410). -/
def canEnd (c : Nat) (r : CanReq) (t err tec : Nat) (d : Dev) : List MemWrite × Dev :=
  let d := d.setN (Obj.CAN_TEC c) (min 256 tec)
  let status := if err = 0 then 0 else if 255 < tec then 3 else if err = 4 then 1 else 2
  let d := d.canComplete c r (time96 (t * 65536)) status err
  let d := (d.canCounters c tec (d.getN (Obj.CAN_REC c))).canStations c
  if err = 0 ∧ d.on (Obj.CAN_RX_ECHO c) then
    let seen := (if r.flags.testBit 0 then 1 else 0) + (if r.flags.testBit 1 then 2 else 0) + 16
    d.canStore c (d.canTime c t) r.id seen r.data
  else ([], d)

/-- CAN_ATTEMPT_END (R413, R414): `err` is that of Table 17-4, 0 none; `exempt` says that the case is one in which TEC stays;
`loop` is the loop delay, where the frame got as far as its measurement: above 127 periods it ends the frame with a bit
error (R409). -/
def devCanAttemptEnd (c err : Nat) (exempt : Bool) (loop : Option Nat) (d : Dev) : List MemWrite × Dev :=
  let x := d.can c
  match x.attempt with
  | none => ([], d)
  | some (b, t) =>
    match x.reqs.find? (·.buf == b) with
    | none => ([], d.setCan c { x with attempt := none })
    | some r =>
      let loop := if r.flags % 4 = 3 then loop else none
      let err := if loop.any (127 < ·) then 1 else err
      let d := match loop with
        | some n => d.setN (Obj.CAN_TDC_VALUE c) (min 255 n)
        | none => d
      let tec := d.getN (Obj.CAN_TEC c)
      d.canEnd c r t err (if err = 0 then tec - 1 else if exempt ∧ d.canExempt c err then tec else tec + 8)

/-- CAN_TX_TIMEOUT (R412): a request has been pending for that time. -/
def devCanTxTimeout (c b : Nat) (d : Dev) : Dev :=
  let x := d.can c
  match x.reqs.find? (·.buf == b) with
  | some r =>
    if (x.attempt.map (·.1)) = some b ∨ d.waited r.at_ (d.getN (Obj.CAN_TX_TIMEOUT c) * 1000 * nsUnit) = false then d
    else (d.canComplete c r d.now96 4 0).canStations c
  | none => d

/-- CAN_TX_ABORT takes effect: the named pending requests but one whose attempt has begun. -/
def devCanTxAbort (c mask : Nat) (d : Dev) : Dev :=
  (List.range 24).foldl (fun d b =>
    match (d.can c).reqs.find? (·.buf == b) with
    | some r => if mask.testBit b ∧ ((d.can c).attempt.map (·.1)) ≠ some b then d.canComplete c r d.now96 5 0 else d
    | none => d) d

/-! Recovery (R415). -/

/-- CAN_RECOVER takes effect at a bus-off controller. -/
def devCanRecover (c : Nat) (d : Dev) : Dev :=
  if d.canState c = CanState.busOff then d.setCan c { d.can c with recover := true } else d

/-- CAN_RECOVERY_COMPLETE. -/
def devCanRecoveryComplete (c : Nat) (d : Dev) : Dev :=
  if d.canState c = CanState.busOff ∧ (d.can c).recover ∧ d.on (Obj.CAN_ENABLE c) then
    let d := d.setCan c { d.can c with recover := false, joined := true }
    ((d.set (Obj.CAN_TEC c) 0).set (Obj.CAN_REC c) 0).setCanState c CanState.errorActive
  else d

/-- The bytes of a completion record (Table 17-4). -/
def canDoneBytes (e : CanDone) : List Byte :=
  time96LE e.time ++ [BitVec.ofNat 8 e.buf, BitVec.ofNat 8 e.status, BitVec.ofNat 8 e.err, BitVec.ofNat 8 e.tec]

/-- Take the oldest completion record. -/
def canTakeDone (c : Nat) (d : Dev) : List Byte × Dev :=
  match (d.can c).done with
  | [] => ([], d)
  | e :: t => (canDoneBytes e, d.setCan c { d.can c with done := t })

/-! Bit timing (R408, R409). -/

/-- Clock periods in a bit of the nominal and of the data phase. -/
def canBits (d : Dev) (c : Nat) : Nat × Nat :=
  (d.getN (Obj.CAN_NBRP c) * (1 + d.getN (Obj.CAN_NTSEG1 c) + d.getN (Obj.CAN_NTSEG2 c)),
   d.getN (Obj.CAN_DBRP c) * (1 + d.getN (Obj.CAN_DTSEG1 c) + d.getN (Obj.CAN_DTSEG2 c)))

/-- Whether the timing of a controller breaks a condition of R408 or R409. -/
def canTimingBad (d : Dev) (c : Nat) : Bool :=
  let (n, f) := d.canBits c
  decide (n < 80) || decide (f < 10) || decide (n < f) || (!d.on (Obj.CAN_TDC_ENABLE c) && decide (f < 40))
    || decide (d.getN (Obj.CAN_NTSEG2 c) < d.getN (Obj.CAN_NSJW c)) || decide (d.getN (Obj.CAN_DTSEG2 c) < d.getN (Obj.CAN_DSJW c))

end Dev

end Sys2Proof.Machine
end

