-- ==== Sys2Proof/Machine/Modulation.lean ====
section
/-! DEFINITION. Arm modulation and cell balancing (R97–R121): the reducer, sort keys, the odd–even sorter, the limiter and
band, level and selection, the fractional edge and carry, command formation, and the commit of a run's commands. (DEDUCED: assumption log 29) -/

namespace Sys2Proof.Machine

open Sys2Proof

/-- 125 ps as a fraction: t · 125 ps in seconds, in binary64. -/
def unitSeconds (t : Int) : F64 := F64.ofRatio t 8000000000

/-! The insertion a command makes over time (Table 03-4, R102). -/

/-- +1 for INSERT, −1 for INSERT_NEG, 0 otherwise. -/
def sigma (state : Nat) : Int := if state = 2 then 1 else if state = 3 then -1 else 0

/-- The signed insertion a command leaves in effect, from `prior` before it. -/
def endSigma (c : BitVec 48) (prior : Int) : Int :=
  if Rodal.cState c = 4 then prior else if Rodal.cEdge c = 2 then 0 else sigma (Rodal.cState c)

/-- The part of [lo, hi) below x. -/
def below (lo hi x : Int) : Int := max 0 (min hi x - lo)

/-- Signed insertion time of a command over [lo, hi) after its apply instant, in 125 ps. A HOLD command counts the insertion
it keeps. (DEDUCED: assumption log 29) -/
def insertSpan (c : BitVec 48) (prior lo hi : Int) : Int :=
  let s := sigma (Rodal.cState c)
  let off : Int := Rodal.cOffset c
  let len := max 0 (hi - lo)
  let early := below lo hi off
  if Rodal.cState c = 4 then prior * len
  else if Rodal.cEdge c = 1 then prior * early + s * (len - early)
  else if Rodal.cEdge c = 2 then s * early
  else s * len

namespace Dev

/-- The internal state of a modulation engine. -/
def modEng (d : Dev) (a : Nat) : ModSt := SMap.get ModSt.init d.mods a
def setModEng (a : Nat) (x : ModSt) (d : Dev) : Dev := { d with mods := SMap.set ModSt.init d.mods a x }

/-- τ_i of R102 in 125 ps: the commands of frames k − 1 (up to A_k) and k (from A_k) over [S_k, A_{k+1}). -/
def insertionTime (d : Dev) (n : Nat) : Int :=
  let c := d.cell n
  let tc : Int := 8 * d.tc
  let span : Int := 8 * ((d.getN Obj.CYC_SAMPLE_LEAD : Int) + d.getN Obj.CYC_APPLY_DELAY)
  let lo := tc - span
  c.prior * max 0 (-lo) + insertSpan c.prevCmd c.prior (max 0 lo) tc
    + insertSpan c.cmd (endSigma c.prevCmd c.prior) 0 tc

/-! Keys (R102). -/

/-- The largest key, 65,535.996 V in 1/256 V. -/
def keyMax : Int := 16777215

/-- A key from a voltage in binary64: the nearest unit, ties upwards, saturated; none for a NaN. -/
def keyOf (k : F64) : Option Nat :=
  match F64.val k with
  | .nan => none
  | .inf true => some 0
  | .inf false => some keyMax.toNat
  | .fin n m e => some (max 0 (min keyMax ((FVal.floor (FVal.add (.fin n m (e + 9)) (.fin false 1 0))) / 2))).toNat

/-- v_i + I_PRED · τ_i / C_i in binary64. -/
def predictKey (d : Dev) (a n : Nat) : F64 :=
  let v := F64.ofRatio (d.cell n).vcap 16
  let i := F64.of32 (d.getF (Obj.MOD_ORD_I_PRED a))
  let c := F64.ofRatio (d.getN (Obj.CELL_CAPACITANCE n)) 1000000
  F64.add v (F64.div (F64.mul i (unitSeconds (d.insertionTime n))) c)

/-- Store a key and report it. -/
def putKey (n k : Nat) (d : Dev) : Dev :=
  (d.setCell n { d.cell n with key := k }).setF (Obj.CELL_KEY n) (F32.ofRatio k 256)

/-- Form the key of one cell; a cell without a valid VCAP keeps its own (R102). -/
def formKey (a n : Nat) (d : Dev) : Dev :=
  if (d.cell n).vValid = false then d
  else if d.getN (Obj.MOD_KEY_MODE a) = 0 then d.putKey n ((d.cell n).vcap * 16)
  else
    match keyOf (d.predictKey a n) with
    | some k => d.putKey n k
    | none =>
      let (v, d) := d.takeFree
      d.putKey n (v % 16777216)

end Dev

/-! The sorter (R104, R105). -/

/-- Compare and exchange the pairs from the head on: equal keys are never exchanged. -/
def swapPairs (key : Nat → Nat) : List Nat → List Nat
  | x :: y :: t => if key y < key x then y :: x :: swapPairs key t else x :: y :: swapPairs key t
  | l => l

/-- One pass over the pair set of the parity. -/
def sorterPass (key : Nat → Nat) (parity : Bool) (l : List Nat) : List Nat :=
  if parity then
    match l with
    | x :: t => x :: swapPairs key t
    | [] => []
  else swapPairs key l

/-- P passes, alternating. -/
def sorterPasses (key : Nat → Nat) : Nat → Bool → List Nat → List Nat × Bool
  | 0, par, l => (l, par)
  | p + 1, par, l => sorterPasses key p (!par) (sorterPass key par l)

/-! Disorder (R106). -/

/-- W: the largest amount by which a key exceeds a later one. -/
def disorder (keys : List Nat) : Nat :=
  (keys.foldl (fun (w, top) k => (max w (top - k), max top k)) (0, 0)).1

/-- Adjacent pairs out of order. -/
def descents : List Nat → Nat
  | x :: y :: t => (if y < x then 1 else 0) + descents (y :: t)
  | _ => 0

/-- The largest and the least of a list. -/
def listMax (l : List Nat) : Nat := l.foldl max 0
def listMin : List Nat → Nat
  | [] => 0
  | x :: t => t.foldl min x

/-- ε: the error at the selection boundary, n_f cells from the end `up` names; 0 where one side is empty. (DEDUCED: assumption
log 29) -/
def boundaryErr (keys : List Nat) (nf : Nat) (up : Bool) : Nat :=
  let m := keys.length
  if nf = 0 ∨ m ≤ nf then 0
  else if up then listMax (keys.take nf) - listMin (keys.drop nf)
  else listMax (keys.take (m - nf)) - listMin (keys.drop (m - nf))

/-- The sum of a list. -/
def natSum (l : List Nat) : Nat := l.foldl (fun s x => s + x) 0

/-! Level and selection (R107–R113). -/

/-- A sum of keys as a value: 1/256 V. -/
def keySum (s : Nat) : FVal := .ofScaled s (-8)

/-- Whether a sum of keys does not exceed u. -/
def sumFits (s : Nat) (u : F64) : Bool :=
  match (keySum s).cmp (F64.val u) with
  | some .gt => false
  | some _ => true
  | none => false

/-- n_f: the largest count whose prefix sum does not exceed u (R111). -/
def levelCount (u : F64) : Nat → List Nat → Nat
  | _, [] => 0
  | s, k :: t => if sumFits (s + k) u then levelCount u (s + k) t + 1 else 0

/-- Take cells in order while there is room and the condition holds, skipping those taken. -/
def growFull (nf : Nat) (p : Nat → Bool) (e full : List Nat) : List Nat :=
  e.foldl (fun f c => if f.length < nf ∧ p c ∧ f.contains c = false then f ++ [c] else f) full

/-- What the selector reads of the arm: keys, settled states, whether a cell is pinned, t_mti. -/
structure SelView where
  key     : Nat → Nat
  settled : Nat → Nat
  pinned  : Nat → Bool
  tmti    : Nat → Nat

/-- The result of a selection. -/
structure Selected where
  full      : List Nat
  frac      : Option Nat
  nf        : Nat
  overrides : Nat

/-- FULL and the fractional candidate (R111), from the eligible cells in order from the selection end. `up` says that the
lowest keys come first, `band` is b in volts, `tc4` a quarter of Tc in ns. -/
def selectFull (v : SelView) (ins nf : Nat) (up : Bool) (band : F32) (tc4 : Nat) (e : List Nat) : Selected :=
  let pinIn := fun c => v.pinned c && v.settled c == ins
  let pinOut := fun c => v.pinned c && v.settled c != ins
  let held := e.filter pinIn
  let full0 := held.take nf
  let kb : Int := if nf = 0 then 0 else v.key (e.getD (nf - 1) 0)
  let ahead := fun (c : Nat) => if up then kb - v.key c else (v.key c : Int) - kb
  let inBand := fun (x : Int) => match (FVal.ofScaled x (-8)).cmp (F32.val band) with
    | some .gt => false
    | _ => true
  let full1 := growFull nf (fun c => !pinOut c && !inBand (ahead c)) e full0
  let near := fun (c : Nat) => inBand (ahead c) && inBand (-(ahead c))
  let full2 := growFull nf (fun c => !pinOut c && near c && v.settled c == ins) e full1
  let full3 := growFull nf (fun c => !pinOut c && near c) e full2
  let full4 := growFull nf (fun c => !pinOut c) e full3
  let full5 := growFull nf (fun _ => true) e full4
  { full := full5, nf := nf,
    frac := e.find? fun c => !full5.contains c && decide (v.tmti c ≤ tc4) && decide (0 < v.key c),
    overrides := (held.length - full0.length) + (full5.length - full4.length) }

/-- t_p and its OFFSET of R113, in 125 ps, from the duty d, Tc and t_fmin in ns. -/
def fracOffset (duty : F64) (tc fmin : Nat) : Nat :=
  let tp := F64.mul duty (F64.ofInt tc)
  let f := F64.ofInt fmin
  let tp := if F64.lt tp (F64.div f (F64.ofInt 2)) then F64.zero else if F64.lt tp f then f else tp
  let top := F64.ofInt ((tc : Int) - fmin)
  let tp := if F64.gt tp top then top else tp
  match F64.val tp with
  | .fin n m e => min (8 * tc - 1) ((FVal.floor (FVal.add (.fin n m (e + 4)) (.fin false 1 0))) / 2).toNat
  | _ => 0

namespace Dev

/-- Whether a cell is eligible for an insertion state (R110). -/
def eligible (d : Dev) (a ins n : Nat) : Bool :=
  d.cellState n == CellState.present && (d.cell n).vValid &&
    (if ins = 3 then d.getN (Obj.CELL_TYPE n) == 1
     else d.getN (Obj.CELL_TYPE n) == 0 || d.on (Obj.MOD_FB_POSITIVE a))

/-- Σ over the HELD cells of σ_i · v_i, in 1/16 V (R100). -/
def heldSum (d : Dev) (a : Nat) : Int :=
  (d.armCells a).foldl (fun s n =>
    if d.cellState n = CellState.held then s + sigma ((d.cell n).rx.status % 8) * (d.cell n).vcap else s) 0

/-- Whether the four orders are numbers (R119). -/
def ordersOk (d : Dev) (a : Nat) : Bool :=
  (d.getF (Obj.MOD_ORD_U_REF a)).isFinite && (d.getF (Obj.MOD_ORD_U_CIRC a)).isFinite &&
    (d.getF (Obj.MOD_ORD_U_BAL a)).isFinite && (d.getF (Obj.MOD_ORD_I_PRED a)).isFinite

/-- u*_sel in binary64 (R99, R100). -/
def orderSel (d : Dev) (a : Nat) : F64 :=
  let u := F64.add (F64.add (F64.of32 (d.getF (Obj.MOD_ORD_U_REF a))) (F64.of32 (d.getF (Obj.MOD_ORD_U_CIRC a))))
    (F64.of32 (d.getF (Obj.MOD_ORD_U_BAL a)))
  F64.sub (F64.add u (F64.of32 (d.getF (Obj.MOD_CARRY a)))) (F64.ofRatio (d.heldSum a) 16)

/-- Sort key generation and the P passes of an arm group (R102, R104, R105). -/
def sortArm (a : Nat) (d : Dev) : Dev :=
  let d := (d.armCells a).foldl (fun d n => d.formKey a n) d
  let m := d.modEng a
  let p := d.getN (Obj.MOD_SORT_PASSES a)
  let (l, par) := sorterPasses (fun n => (d.cell n).key) p m.parity m.rank
  let total := min 4294967295 (d.getN (Obj.MOD_PASSES_TOTAL a) + p)
  let d := d.setN (Obj.MOD_PASSES_TOTAL a) total
  let reached := !m.sorted && decide (d.armCount a ≤ total)
  let d := d.setModEng a { m with rank := l, parity := par, sorted := m.sorted || reached }
  let d := (l.zip (List.range l.length)).foldl (fun d (n, i) => d.setN (Obj.CELL_RANK n) i) d
  if reached then d.signal (59 + a) a else d

/-- Load the ranked arrays in ascending cell number, as the module leaves CONFIG (R105); the first pass compares the pairs
(2j, 2j+1). (DESIGN CHOICE: assumption log 84) -/
def devSorterLoad (a : Nat) (d : Dev) : Dev :=
  let l := d.armCells a
  let d := d.setModEng a { d.modEng a with rank := l, parity := false, sorted := false }
  let d := d.setN (Obj.MOD_PASSES_TOTAL a) 0
  (l.zip (List.range l.length)).foldl (fun d (n, i) => d.setN (Obj.CELL_RANK n) i) d

/-- Report the disorder figures over the eligible cells in array order, as register values for the commit (R106). -/
def disorderRegs (d : Dev) (a ins nf : Nat) (up : Bool) : List (Nat × Int) × F32 :=
  let keys := ((d.modEng a).rank.filter (d.eligible a ins)).map fun n => (d.cell n).key
  let w := F32.ofRatio (disorder keys) 256
  ([(Obj.MOD_DISORDER a, (w.toNat : Int)), (Obj.MOD_DESCENTS a, (descents keys : Int)),
    (Obj.MOD_BOUNDARY_ERR a, ((F32.ofRatio (boundaryErr keys nf up) 256).toNat : Int)),
    (Obj.MOD_N_ELIG a, (keys.length : Int))], w)

/-- Whether W_k lies above its limit (R106). -/
def disorderAbove (d : Dev) (a : Nat) (w : F32) : Bool := F32.gt w (d.getF (Obj.MOD_DISORDER_LIMIT a))

/-- A command without its SEQ. -/
def command (n state edge offset : Nat) : Nat × BitVec 48 := (n, Rodal.mkCommand (n % 64) state edge offset 0 false false)

/-- The command of a cell that is not PRESENT (Table 04-4); none for a PRESENT one. -/
def roleCommand (d : Dev) (n : Nat) : Option (Nat × BitVec 48) :=
  if d.cellState n = CellState.present then none
  else if d.cellState n = CellState.held then some (command n 4 0 0)
  else some (command n 0 0 0)

/-- The settled states a set of commands leaves: HOLD keeps the cell's own, a pulse ends in BYPASS (R107). -/
def settledOf (d : Dev) (cmds : List (Nat × BitVec 48)) : List (Nat × Nat) :=
  cmds.map fun (n, c) =>
    (n, if Rodal.cState c = 4 then (d.cell n).settled else if Rodal.cEdge c = 2 then 1 else Rodal.cState c)

/-- Leave the result of a run for its commit (R33): event 51 + a with it, once per excursion of W_k (R106). -/
def stageRun (a ins : Nat) (cmds : List (Nat × BitVec 48)) (regs : List (Nat × Int)) (w : F32) (counts events : List Nat)
    (satRun : Bool) (d : Dev) : Dev :=
  let above := d.disorderAbove a w
  let m := d.modEng a
  let dis := if above && !m.disRun then [51 + a] else []
  let st : ModStage :=
    { cmds := cmds, settled := d.settledOf cmds, ins := ins, regs := regs, counts := counts, events := events ++ dis,
      satRun := satRun, disRun := above, invalid := 0 }
  d.setModEng a { m with stage := some st }

/-- Register values of an arm that selects nothing; `MOD_DIRECTION` keeps its value. (DESIGN CHOICE: assumption log 84) -/
def idleRegs (a : Nat) (u : F64) : List (Nat × Int) :=
  [(Obj.MOD_U_SEL a, ((F64.to32 u).toNat : Int)), (Obj.MOD_LEVEL a, 0), (Obj.MOD_N_FULL a, 0),
   (Obj.MOD_FRAC_CELL a, 0xFFFF), (Obj.MOD_FRAC_OFFSET a, 0), (Obj.MOD_CARRY a, 0)]

/-- The command of a cell of a BLOCKED arm group (R69, R91, Table 04-4): HOLD for a HELD cell, but for an L3 or L4 reaction,
which reaches every cell as BLOCKED (R435). (DEDUCED: assumption log 77) -/
def blockedCommand (d : Dev) (a n : Nat) : Nat × BitVec 48 :=
  if d.cellState n = CellState.held ∧ (d.armTarget a).2 < 3 then command n 4 0 0 else command n 0 0 0

/-- The run of a BLOCKED arm group: it selects nothing, and its figures are those of INSERT at n_f = 0. (DESIGN CHOICE: assumption log 84) -/
def runBlocked (a : Nat) (d : Dev) : Dev :=
  let (dis, w) := d.disorderRegs a 2 0 true
  d.stageRun a 0 ((d.armCells a).map fun n => d.blockedCommand a n) (idleRegs a (d.orderSel a) ++ dis) w [] [] false

/-- The insertion state of an order and the magnitude to reach (R110): `zeroed` when a negative order is taken as 0. -/
def insertionOf (d : Dev) (a : Nat) (u : F64) : Nat × F64 × Bool :=
  if F64.ge u F64.zero then (2, u, false)
  else if d.on (Obj.MOD_NEG_ENABLE a) then (3, F64.abs u, false)
  else (2, F64.zero, true)

/-- The smallest number of cells, lowest keys first, whose key sum reaches u (R116); all when none does. -/
def countBlocking (u : F64) (key : Nat → Nat) : Nat → List Nat → List Nat
  | _, [] => []
  | s, n :: t =>
    match (keySum s).cmp (F64.val u) with
    | some .lt => n :: countBlocking u key (s + key n) t
    | _ => []

/-- The run of a CHARGING arm group (R116). -/
def runCharging (a : Nat) (d : Dev) : Dev :=
  let u := d.orderSel a
  let (ins, mag, _) := d.insertionOf a u
  let e := (d.modEng a).rank.filter (d.eligible a ins)
  let blk := countBlocking mag (fun n => (d.cell n).key) 0 e
  let cmds := (d.armCells a).map fun n =>
    (d.roleCommand n).getD (command n (if blk.contains n then 0 else 1) 0 0)
  let (dis, w) := d.disorderRegs a ins 0 true
  d.stageRun a 0 cmds (idleRegs a u ++ dis) w [] [] false

/-- The selection direction (R103): true for the lowest keys first. -/
def direction (d : Dev) (a : Nat) (u : F64) (zeroed : Bool) : Bool :=
  let i := d.getF (Obj.MOD_ORD_I_PRED a)
  let prev := decide (0 < d.get (Obj.MOD_DIRECTION a))
  if F32.lt (F32.abs i) (d.getF (Obj.MOD_I_DEADBAND a)) ∨ F32.isZero i ∨ zeroed ∨ F64.eq u F64.zero then prev
  else F32.isNeg i == F64.lt u F64.zero

/-- The carry of R114 from the error in volts: clamped to ±RED_V_MEAN; whether it was clamped. -/
def carryOf (d : Dev) (a ins : Nat) (e : F64) : F32 × Bool :=
  if d.on (Obj.MOD_CARRY_ENABLE a) = false then (F32.zero, false)
  else
    let c := F64.to32 (if ins = 3 then F64.neg e else e)
    let lim := d.getF (Obj.RED_V_MEAN a)
    if F32.gt c lim then (lim, true) else if F32.lt c lim.neg then (lim.neg, true) else (c, false)

/-- The run of an ACTIVE arm group (R103, R106–R116). -/
def runActive (a : Nat) (d : Dev) : Dev :=
  let u0 := d.orderSel a
  let (ins, u, zeroed) := d.insertionOf a u0
  let up := d.direction a u0 zeroed
  let m := d.modEng a
  let ranked := m.rank.filter (d.eligible a ins)
  let e := if up then ranked else ranked.reverse
  let key := fun n => (d.cell n).key
  let total := natSum (e.map key)
  let above := (F64.val u).cmp (keySum total) == some .gt
  let saturated := above || zeroed
  let nf := if zeroed then 0 else levelCount u 0 (e.map key)
  let lim := d.dwellLimit a
  let pinned0 := fun n => decide (d.getN (Obj.CELL_DWELL n) < lim)
  let opposite := fun n => m.ins != 0 && m.ins != ins && (d.cell n).settled == m.ins
  let released := ((d.armCells a).filter fun n => pinned0 n && opposite n).length
  let view : SelView := { key := key, settled := fun n => (d.cell n).settled,
                          pinned := fun n => pinned0 n && !opposite n, tmti := fun n => (d.cell n).tmti }
  let tc := d.tc
  let sel := selectFull view ins nf up (d.getF (Obj.MOD_BAND a)) (tc / 4) e
  let sumFull := natSum (sel.full.map key)
  let full := F64.ofRatio sumFull 256
  let frac := if saturated then none else sel.frac
  let rem := F64.sub u full
  let (vf, off) := match frac with
    | some n =>
      let vf := F64.ofRatio (key n) 256
      (vf, fracOffset (F64.clamp (F64.div rem vf) F64.zero F64.one) tc (max (d.getN (Obj.MOD_FRAC_MIN a)) (d.cell n).tmti))
    | none => (F64.zero, 0)
  let tcF := F64.ofInt tc
  let err := F64.div (F64.sub (F64.mul u tcF) (F64.add (F64.mul full tcF) (F64.mul vf (F64.ofRatio off 8)))) tcF
  let (carry, clamped) := if saturated then (F32.zero, false) else d.carryOf a ins err
  let lvl : Nat := if zeroed then 0 else (2 * (8 * tc * sel.full.length + off) + 8 * tc) / (16 * tc)
  let cmds := (d.armCells a).map fun n =>
    (d.roleCommand n).getD
      (if sel.full.contains n then command n ins 0 0
       else if frac = some n ∧ off ≠ 0 then command n ins 2 off
       else command n 1 0 0)
  let (dis, w) := d.disorderRegs a ins nf up
  let freed := sel.overrides + released
  let once := fun (b : Bool) (k : Nat) => if b then [k] else []
  let counts := List.replicate freed (Obj.MOD_LIM_OVERRIDES a) ++ once saturated (Obj.MOD_SAT_COUNT a)
    ++ once clamped (Obj.MOD_CARRY_CLAMPS a) ++ once (!saturated && frac.isNone) (Obj.MOD_FRAC_NONE a)
  let events := List.replicate freed (53 + a) ++ once (saturated && !m.satRun) (49 + a) ++ once clamped (61 + a)
  d.stageRun a ins cmds
    ([(Obj.MOD_U_SEL a, ((F64.to32 u0).toNat : Int)), (Obj.MOD_LEVEL a, if ins = 3 then -(lvl : Int) else (lvl : Int)),
      (Obj.MOD_N_FULL a, (sel.full.length : Int)), (Obj.MOD_FRAC_CELL a, ((frac.getD 0xFFFF : Nat) : Int)),
      (Obj.MOD_FRAC_OFFSET a, (off : Int)), (Obj.MOD_CARRY a, (carry.toNat : Int)),
      (Obj.MOD_DIRECTION a, if up then 1 else -1)] ++ dis)
    w counts events saturated

/-- An order that is no number (Table 04-7): the previous commands of the present cells repeat with a new SEQ; the count, the
event and the records follow at the commit. -/
def runInvalid (a : Nat) (d : Dev) : Dev :=
  let m := d.modEng a
  let cmds := (d.armCells a).map fun n =>
    let c := (d.cell n).cmd
    if d.getN (Obj.MOD_ARM_STATE a) = 0 then d.blockedCommand a n
    else (d.roleCommand n).getD (command n (Rodal.cState c) (Rodal.cEdge c) (Rodal.cOffset c))
  let st : ModStage :=
    { cmds := cmds, settled := [], ins := m.ins, regs := [], counts := [Obj.MOD_ORDER_INVALID a], events := [57 + a],
      satRun := m.satRun, disRun := m.disRun, invalid := m.invalid + 1 }
  d.setModEng a { m with stage := some st }

/-- The run of one modulation engine on the orders in use (R118), with or without configured positions. -/
def runArm (a : Nat) (d : Dev) : Dev :=
  let d := d.sortArm a
  if d.ordersOk a = false then d.runInvalid a
  else if d.getN (Obj.MOD_ARM_STATE a) = 0 then d.runBlocked a
  else if d.getN (Obj.MOD_ARM_STATE a) = 1 then d.runCharging a
  else d.runActive a

/-- Both modulation engines run (R118). -/
def devModulate (d : Dev) : Dev := (d.runArm 0).runArm 1

/-! Commit (R33, R116, R435). -/

/-- Take a settled state at the commit: a change restarts the dwell counter and counts (R107). -/
def settle1 (a : Nat) (x : Nat × Nat) (d : Dev) : Dev :=
  let (n, st) := x
  let c := d.cell n
  if st = c.settled then d.setN (Obj.CELL_DWELL n) (min 65535 (d.getN (Obj.CELL_DWELL n) + 1))
  else
    let d := d.setCell n { c with settled := st }
    ((d.set (Obj.CELL_DWELL n) 0).inc (Obj.CELL_SWITCHES n)).inc (Obj.MOD_SWITCHES a)

/-- Move the command history of a cell on by one frame (R102). -/
def shiftCommand (n : Nat) (c : BitVec 48) (d : Dev) : Dev :=
  let x := d.cell n
  d.setCell n { x with prior := endSigma x.prevCmd x.prior, prevCmd := x.cmd, cmd := c }

/-- Commit one command: SEQ advances, but for an EMPTY or ABSENT position, which is sent 0 (R69); CLEAR_FAULT goes with a
BLOCKED command where it is due: in a join (R93), and to every present cell after a reset of the latch (R311). -/
def commitCommand (x : Nat × BitVec 48) (d : Dev) : Dev :=
  let (n, c) := x
  let y := d.cell n
  let st := d.cellState n
  let clear := Rodal.cState c == 0 && (y.clear || (inUse st && decide (0 < d.cyc.clearFrames)))
  let seq := if st = CellState.empty ∨ st = CellState.absent then 0 else (Rodal.cSeq y.cmd + 1) % 8
  let d := if clear then d.setCell n { y with clear := false } else d
  d.shiftCommand n (Rodal.mkCommand (n % 64) (Rodal.cState c) (Rodal.cEdge c) (Rodal.cOffset c) seq clear false)

/-- The records of a run with an invalid order (Table 04-7): L2; and L3 on the arm group from `CYC_OVR_LIMIT` consecutive
ones on, where no L3 or L4 reaction stands on it. (DESIGN CHOICE: assumption log 84) -/
def invalidRecords (a n : Nat) (d : Dev) : Dev :=
  if n = 0 then d
  else
    let d := d.raiseFault (57 + a) 2 0 a 0 false
    if d.getN Obj.CYC_OVR_LIMIT ≤ n ∧ (d.armTarget a).2 < 3 then d.raiseFault 0x0103 3 (2 ^ a) a 0 false else d

/-- Commit the staged run of an arm group: an arm that has become BLOCKED sends BLOCKED (R435). -/
def commitArm (a : Nat) (d : Dev) : Dev :=
  let m := d.modEng a
  match m.stage with
  | none => d
  | some st =>
    let blocked := d.getN (Obj.MOD_ARM_STATE a) == 0
    let cmds := if blocked then st.cmds.map fun (n, _) => d.blockedCommand a n else st.cmds
    let settled := if blocked then d.settledOf cmds else st.settled
    let d := st.regs.foldl (fun d (k, v) => d.set k v) d
    let d := if blocked then d.set (Obj.MOD_CARRY a) 0 else d
    let d := settled.foldl (fun d x => d.settle1 a x) d
    let d := cmds.foldl (fun d x => d.commitCommand x) d
    let d := d.setModEng a { m with stage := none, ins := if blocked then 0 else st.ins, satRun := st.satRun,
                                    disRun := st.disRun, invalid := st.invalid }
    let d := st.counts.foldl (fun d k => d.inc k) d
    (st.events.foldl (fun d e => d.signal e a) d).invalidRecords a st.invalid

/-- Fill the banks the next boundary sends from the commands committed (R58). -/
def fillBanks (d : Dev) : Dev :=
  upTo 32 (fun s d =>
    if d.positions s = 0 then d
    else d.setStrand s { d.strand s with next := some ((d.strandCells s).map fun n => (d.cell n).cmd) }) d

/-- Commit the run of both engines (R33). -/
def devCommitRun (d : Dev) : Dev :=
  let d := ((d.commitArm 0).commitArm 1).fillBanks
  { d with cyc := { d.cyc with clearFrames := d.cyc.clearFrames - 1 } }

/-- Abandon the run of an arm group (R33): the array stays as the passes left it, the frame repeats. -/
def abandonArm (a : Nat) (d : Dev) : Dev :=
  let d := d.setModEng a { d.modEng a with stage := none }
  (d.armCells a).foldl (fun d n => d.shiftCommand n (d.cell n).cmd) d

/-! The reducer (R117). -/

/-- Whether the reducer counts a cell. -/
def counted (d : Dev) (n : Nat) : Bool :=
  (d.cellState n == CellState.present && (d.cell n).vValid) || d.cellState n == CellState.held

/-- ½ · C_i · v_i² in binary64, J. -/
def cellEnergy (d : Dev) (n : Nat) : F64 :=
  let v := F64.ofRatio (d.cell n).vcap 16
  F64.mul (F64.div (F64.ofRatio (d.getN (Obj.CELL_CAPACITANCE n)) 1000000) (F64.ofInt 2)) (F64.mul v v)

/-- Reduce the cell table of an arm group into Table 04-5. -/
def reduceArm (a : Nat) (d : Dev) : Dev :=
  let cs := (d.armCells a).filter d.counted
  let fb := cs.filter fun n => d.getN (Obj.CELL_TYPE n) == 1
  let v := fun n => (d.cell n).vcap
  let sum := fun (l : List Nat) => natSum (l.map v)
  let energy := fun (l : List Nat) => l.foldl (fun s n => F64.add s (d.cellEnergy n)) F64.zero
  let ins : Int := cs.foldl (fun s n => s + sigma ((d.cell n).rx.status % 8) * (v n : Int)) 0
  let lo := cs.foldl (fun b n => match b with
    | some x => if v n < v x then some n else some x
    | none => some n) none
  let hi := cs.foldl (fun b n => match b with
    | some x => if v x < v n then some n else some x
    | none => some n) none
  let f := fun (k : Nat) (x : F64) (d : Dev) => d.setF k (F64.to32 x)
  let d1 := d.setN (Obj.RED_N_COUNTED a) cs.length
  let d1 := f (Obj.RED_V_SUM a) (F64.ofRatio (sum cs) 16) d1
  let d1 := f (Obj.RED_V_MEAN a)
    (if cs.isEmpty then F64.zero else F64.div (F64.ofRatio (sum cs) 16) (F64.ofInt cs.length)) d1
  let d1 := f (Obj.RED_V_MIN a) (F64.ofRatio ((lo.map v).getD 0) 16) d1
  let d1 := f (Obj.RED_V_MAX a) (F64.ofRatio ((hi.map v).getD 0) 16) d1
  let d1 := (d1.setN (Obj.RED_MIN_CELL a) (lo.getD 0xFFFF)).setN (Obj.RED_MAX_CELL a) (hi.getD 0xFFFF)
  let d1 := f (Obj.RED_W_SUM a) (energy cs) d1
  let d1 := f (Obj.RED_W_HB a) (energy (cs.filter fun n => d.getN (Obj.CELL_TYPE n) != 1)) d1
  let d1 := f (Obj.RED_W_FB a) (energy fb) d1
  let d1 := f (Obj.RED_V_INS a) (F64.ofRatio ins 16) d1
  let d1 := f (Obj.RED_V_SUM_FB a) (F64.ofRatio (sum fb) 16) d1
  d1.setN (Obj.RED_N_FB a) fb.length

/-! Arm enable (R101). -/

/-- Why a write of `MOD_ARM_ENABLE` is refused with STATE: fewer than N_arm passes, a count of R92 above N_red, or an
L3 or L4 reaction on the arm group. (DEDUCED: assumption log 30) -/
def armEnableRefused (d : Dev) (a : Nat) (v : Int) : Bool :=
  v != 0 && (decide (d.getN (Obj.MOD_PASSES_TOTAL a) < d.armCount a) || decide (d.getN (Obj.MOD_N_RED a) < d.unusable a)
    || d.l4 || d.bit Obj.FM_ARM_L3 a)

end Dev

end Sys2Proof.Machine
end

