-- ==== Sys2Proof/Machine/Breakwater.lean ====
section
/-! DEFINITION. Breakwater, the guard cores and the safety layer (R298–R325): causes, latch and outputs, the guard functions
of Table 13-2, the lock-out reset, the safety parameter sets and proof test, and safety frames with their subscriptions. (DEDUCED: assumption log 47) -/

namespace Sys2Proof.Machine

open Sys2Proof

/-- The cause bits of Table 13-1 beside the comparators (0–7) and the trip inputs (8–11). -/
abbrev BwCause.guard : Nat := 12
abbrev BwCause.remote : Nat := 13
abbrev BwCause.pair : Nat := 14
abbrev BwCause.self : Nat := 15

/-- The number whose bit i is `p i`, for i below n. -/
def maskOf (n : Nat) (p : Nat → Bool) : Nat := (List.range n).foldl (fun m i => if p i then m + 2 ^ i else m) 0

/-- The bits of `a` that `b` lacks. -/
def newBits (n a b : Nat) : Nat := maskOf n fun i => a.testBit i && !b.testBit i

/-- The lowest bit set in a cause bitmap; 0xFF none. -/
def lowestBit (m : Nat) : Nat := ((List.range 16).find? m.testBit).getD 0xFF

/-- The objects of a safety parameter set, in table order (R313). (DEDUCED: assumption log 48) -/
def safetyKeys : List Nat :=
  (List.range 8).flatMap (fun i => [Obj.BWC_ENABLE i, Obj.BWC_LO i, Obj.BWC_HI i, Obj.BWC_FILTER i])
  ++ (List.range 4).flatMap (fun n => [Obj.TRIPIN_ENABLE n, Obj.TRIPIN_FILTER n, Obj.TRIPIN_DISC_TIME n])
  ++ [Obj.BW_INJECT_MODE, Obj.BW_INJECT_MIN, Obj.BW_PAIR_LINK_TRIP, Obj.GD_ENABLE, Obj.GD_VCAP_MAX, Obj.GD_VCAP_MIN,
      Obj.GD_I_CH0, Obj.GD_I_CH1, Obj.GD_I_MAX, Obj.GD_VDC_CH, Obj.GD_VDC_MAX]
  ++ (List.range 16).flatMap fun m =>
      [Obj.SLS_ENABLE m, Obj.SLS_SRC_ID m, Obj.SLS_DST_ID m, Obj.SLS_TIMEOUT m, Obj.SLS_LOSS_REACTION m, Obj.SLS_TRIP_ACCEPT m]

/-- The CRC-32 of a parameter set: its values in table order, four bytes big-endian each. (DEDUCED: assumption
log 48) -/
def safetyCrc (f : Nat → Int) : Nat := crc32 (safetyKeys.flatMap fun k => bytesBE 4 (f k % 4294967296).toNat)

namespace Dev

/-- A value of the active parameter set (R313). -/
def act (d : Dev) (k : Nat) : Int := SMap.get (objDefault k) d.bw.act k
def actN (d : Dev) (k : Nat) : Nat := (d.act k).toNat
def actF (d : Dev) (k : Nat) : F32 := BitVec.ofInt 32 (d.act k)
def actOn (d : Dev) (k : Nat) : Bool := d.act k != 0

def setBw (x : BwSt) (d : Dev) : Dev := { d with bw := x }

/-- The CRC of the edit set (`BW_SET_CRC`) and of the active set (`BW_SET_ACTIVE_CRC`). -/
def editCrc (d : Dev) : Nat := safetyCrc d.get
def activeCrc (d : Dev) : Nat := safetyCrc d.act

/-- Raise an event 136–145 with its input, function or subscription number (R323). -/
def bwEvent (e src : Nat) (d : Dev) : Dev := d.signalAt Obj.BW_EVENT_SRC e src

/-! Causes, latch and outputs (R303–R305). -/

/-- The causes that may latch: a comparator, trip input or PAIR by its enable, the others always (R303). -/
def bwEnabled (d : Dev) (b : Nat) : Bool :=
  if b < 8 then d.actOn (Obj.BWC_ENABLE b)
  else if b < 12 then d.actOn (Obj.TRIPIN_ENABLE (b - 8))
  else if b = BwCause.pair then d.actOn Obj.BW_PAIR_LINK_TRIP
  else true

/-- REMOTE is present while a subscription that accepts trips last acted on one, or is LOST with reaction BLOCK (R318). -/
def remoteTrip (d : Dev) : Bool :=
  (List.range 16).any fun m =>
    (d.actOn (Obj.SLS_TRIP_ACCEPT m) && d.on (Obj.SLS_REMOTE_TRIP m))
      || (d.getN (Obj.SLS_STATE m) == 2 && d.actN (Obj.SLS_LOSS_REACTION m) == 5)

/-- SELF (Table 13-1): power-up not released, heartbeat lost, or guard function RC_CLOCK or PARAM active. (DEDUCED: assumption
log 49) -/
def selfCause (d : Dev) : Bool := d.bw.powerUp || d.bw.hbLost || d.bit Obj.GD_CAUSE 7 || d.bit Obj.GD_CAUSE 8

/-- The causes present after filtering (`BW_CAUSES`). -/
def bwCauses (d : Dev) : Nat :=
  maskOf 16 fun b =>
    d.bwEnabled b && (d.bw.raw.testBit b || (b == BwCause.guard && d.getN Obj.GD_CAUSE != 0)
      || (b == BwCause.remote && d.remoteTrip) || (b == BwCause.self && d.selfCause))

/-- Whether the block pattern is injected (R299, R305). -/
def injects (d : Dev) : Bool :=
  d.bw.force || (d.on Obj.BW_STATE
    && (d.actN Obj.BW_INJECT_MODE == 1 || d.bw.minOpen || d.getN Obj.BW_CAUSES != 0))

/-- Let the outputs follow the latch and the guard force (R305): the lanes and the BLOCK pins, high for "run permitted". -/
def bwOutputs (d : Dev) : Dev :=
  let inj := d.injects
  let d := if inj = d.on Obj.BW_INJECTING then d
    else (d.setB Obj.BW_INJECTING inj).send (.pins 4 (if inj then 1 else 0))
  let pins := if d.on Obj.BW_STATE ∨ d.bw.force then 0 else 3
  let d := if pins = d.getN Obj.BW_PIN_READBACK then d else (d.setN Obj.BW_PIN_READBACK pins).send (.pins 0 pins)
  d.healthRefresh

/-! Safety frames sent (R315, R316). -/

/-- `SL_CRC` over bytes 0x00–0x1F (R315). -/
def slCrc (b : List Byte) : Nat := crcBytes 32 0x741B8CD7 0xFFFFFFFF 0xFFFFFFFF b

/-- The PDU of Table 13-5: kind 1 HEARTBEAT, 2 TRIP. -/
def safetyPdu (d : Dev) (kind : Nat) : List Byte :=
  let flags := (if d.on Obj.BW_STATE then 1 else 0) + (if d.getN Obj.TB_STATE = 3 then 2 else 0)
    + (if d.mode = Mode.lockout then 4 else 0)
  let b := bytesBE 1 1 ++ bytesBE 1 kind ++ bytesBE 2 d.bw.txSeq ++ bytesBE 4 (d.getN Obj.SL_ID)
    ++ bytesBE 4 (d.getN Obj.SL_DST_ID) ++ time96BE d.now96 ++ bytesBE 1 flags ++ bytesBE 1 (d.getN Obj.HOST_NODE_ID)
    ++ bytesBE 2 (d.getN Obj.BW_LATCHED) ++ bytesBE 2 (d.getN Obj.BW_LOR_SEQ) ++ bytesBE 2 0
  b ++ bytesBE 4 (slCrc b)

/-- The Ethernet frame of R315, padded to 60 bytes without its FCS. -/
def safetyFrame (d : Dev) (kind : Nat) : List Byte :=
  let vlan := d.getN Obj.SL_VLAN
  let mac := d.blob Obj.HOST_MAC
  let h := [0x03#8, 0x5A#8, 0x4F#8, 0x53#8, 0x4C#8, 0x00#8] ++ (mac ++ List.replicate (6 - mac.length) 0#8)
    ++ (if vlan = 0 then [] else bytesBE 2 0x8100 ++ bytesBE 2 (7 * 8192 + vlan)) ++ bytesBE 2 0x88B5
  let f := h ++ d.safetyPdu kind
  f ++ List.replicate (60 - f.length) 0#8

/-- Send a safety frame with identical bytes on the four ports (R316). -/
def sendSafety (kind : Nat) (d : Dev) : Dev :=
  let f := d.safetyFrame kind
  let d := (((d.send (.ether 0 .safety f)).send (.ether 1 .safety f)).send (.ether 2 .safety f)).send (.ether 3 .safety f)
  d.setBw { d.bw with txSeq := (d.bw.txSeq + 1) % 65536 }

/-- Whether an instant of the heartbeat grid (R316) can have come `lateNs` ago: (TAI second) + j·`SL_PERIOD` +
(node − 1)·`SL_PERIOD`/64, the grid beginning anew in each second. The model's time stands at the start of the cycle in
progress, so the instant may lie up to one Tc after it. (DEDUCED: assumption log 67) -/
def heartbeatDue (d : Dev) (lateNs : Nat) : Bool :=
  let p := d.getN Obj.SL_PERIOD * 1000 * nsUnit
  let o := (d.getN Obj.HOST_NODE_ID - 1) * p / 64
  let x := (d.tm.now - lateNs * nsUnit) % secUnit
  let next := if x ≤ o then o else o + (x - o + p - 1) / p * p
  let next := if next < secUnit then next else secUnit + o
  decide (next ≤ x + d.tc * nsUnit)

/-- SAFETY_HEARTBEAT_SEND (R316): the HEARTBEAT of an instant of the grid; a frame later than 1.0 µs counts. -/
def devSafetyHeartbeat (lateNs : Nat) (d : Dev) : Dev :=
  if d.on Obj.SL_ENABLE = false ∨ d.heartbeatDue lateNs = false then d
  else
    let d := d.sendSafety 1
    if 1000 < lateNs then (d.inc Obj.SL_TX_LATE).broken 4 else d

/-- Entry to LATCHED (R304) with the causes of one oscillator clock. -/
def bwEntry (bits : Nat) (d : Dev) : Dev :=
  let first := lowestBit bits
  let d := (d.setN Obj.BW_STATE 1).setN Obj.BW_LATCHED (d.getN Obj.BW_LATCHED ||| bits)
  let d := (d.setN Obj.BW_FIRST_CAUSE first).set Obj.BW_LATCH_TIME d.now96
  let d := (d.setN Obj.BW_LOR_SEQ ((d.getN Obj.BW_LOR_SEQ + 1) % 65536)).inc Obj.BW_LATCH_COUNT
  let d := d.setBw { d.bw with minOpen := true, latchAt := d.tm.mono }
  let d := (d.bwEvent 136 first).raiseFault 136 4 0 first 0 false
  let d := d.bwOutputs
  if d.on Obj.SL_ENABLE ∧ d.on Obj.SL_TRIP_SEND ∧ d.standby = false then d.sendSafety 2 else d

/-- Add causes to a set latch (R304): event 137 for each bit it gains. -/
def bwAdd (bits : Nat) (d : Dev) : Dev :=
  (List.range 16).foldl (fun d b =>
    if bits.testBit b ∧ d.bit Obj.BW_LATCHED b = false then (d.setBit Obj.BW_LATCHED b true).bwEvent 137 b else d) d

/-- Of some causes, those that reach half A (0) or B (1): a trip input by its active pins (R301), a pulse already over and
every other cause reach both. -/
def bwReaching (d : Dev) (half bits : Nat) : Nat :=
  maskOf 16 fun b => bits.testBit b &&
    (decide (b < 8) || decide (12 ≤ b) || d.getN (Obj.TRIPIN_STATE (b - 8)) == 0 || d.bit (Obj.TRIPIN_STATE (b - 8)) half)

/-- Causes set their bits in the latch of each half they reach (R304). -/
def bwHalves (bits : Nat) (d : Dev) : Dev :=
  d.setBw { d.bw with halfA := d.bw.halfA ||| d.bwReaching 0 bits, halfB := d.bw.halfB ||| d.bwReaching 1 bits }

/-- Latch causes that have become active (R304); nothing latches without the oscillator. -/
def bwLatch (bits : Nat) (d : Dev) : Dev :=
  if bits = 0 ∨ d.bw.rcDead then d
  else if d.on Obj.BW_STATE then (d.bwHalves bits).bwAdd bits
  else (d.bwHalves bits).bwEntry bits

/-- Form the causes anew, latch those that appear, and let the outputs follow. -/
def bwRefresh (d : Dev) : Dev :=
  let now := d.bwCauses
  let added := newBits 16 now (d.getN Obj.BW_CAUSES)
  ((d.setN Obj.BW_CAUSES now).bwLatch added).bwOutputs

/-- BW_CAUSE_ACTIVE (R301, R304): a filtered cause becomes active; `pins` are those of a trip input. -/
def devBwCause (c pins : Nat) (d : Dev) : Dev :=
  let d := if 8 ≤ c ∧ c < 12 then d.setN (Obj.TRIPIN_STATE (c - 8)) pins else d
  let d := (d.setBw { d.bw with raw := if d.bw.raw.testBit c then d.bw.raw else d.bw.raw + 2 ^ c }).bwRefresh
  if d.bit Obj.BW_LATCHED c ∧ d.bwEnabled c ∧ d.bw.rcDead = false then d.bwHalves (2 ^ c) else d

/-- BW_CAUSE_INACTIVE (R301, R303): a cause goes away; SELF with the heartbeat running again. (DEDUCED: assumption log 49) -/
def devBwCauseGone (c : Nat) (d : Dev) : Dev :=
  let d := if 8 ≤ c ∧ c < 12 then d.set (Obj.TRIPIN_STATE (c - 8)) 0 else d
  let d := d.setBw { d.bw with
    raw := if d.bw.raw.testBit c then d.bw.raw - 2 ^ c else d.bw.raw
    hbLost := if c = BwCause.self then false else d.bw.hbLost }
  d.bwRefresh

/-- t_f of an input in ns. -/
def bwFilter (d : Dev) (i : Nat) : Nat := if i < 8 then d.actN (Obj.BWC_FILTER i) else d.actN (Obj.TRIPIN_FILTER (i - 8))

/-- GLITCH_REJECTED (R302): a pulse of at least 11 ns that the filter rejects counts; one of at least 1.05·t_f + 11 ns is
always latched. -/
def devGlitch (i width : Nat) (d : Dev) : Dev :=
  if width < 11 then d
  else if 105 * d.bwFilter i + 1100 ≤ 100 * width then d.bwLatch (if d.bwEnabled i then 2 ^ i else 0)
  else d.inc (if i < 8 then Obj.BWC_GLITCHES i else Obj.TRIPIN_GLITCHES (i - 8))

/-- TRIPIN_DISCREPANCY (R301). -/
def devTripinDiscrepancy (n pins : Nat) (d : Dev) : Dev :=
  ((d.setN (Obj.TRIPIN_STATE n) pins).inc (Obj.TRIPIN_DISC_COUNT n)).bwEvent 142 n

/-- BLOCK_PIN_READBACK_MISMATCH (R305): event 142 and the guard force. -/
def devPinMismatch (levels : Nat) (d : Dev) : Dev :=
  let drive := if d.on Obj.BW_STATE ∨ d.bw.force then 0 else 3
  if levels = drive then d.setN Obj.BW_PIN_READBACK levels
  else
    let pin := if levels % 2 = drive % 2 then 1 else 0
    let d := d.bwEvent 142 pin
    let d := (d.setBw { d.bw with force := true }).bwOutputs
    d.setN Obj.BW_PIN_READBACK levels

/-- INJECTION_END (R305): TIMED injection ends once its minimum has passed and no cause is present. -/
def devInjectionEnd (d : Dev) : Dev :=
  if d.on Obj.BW_STATE ∧ d.actN Obj.BW_INJECT_MODE = 0 ∧ d.getN Obj.BW_CAUSES = 0
      ∧ d.waited d.bw.latchAt (d.actN Obj.BW_INJECT_MIN * 1000 * nsUnit) = true then
    (d.setBw { d.bw with minOpen := false }).bwOutputs
  else d

/-! Guard functions (R307). -/

/-- Set a guard function active or not: becoming active raises event 140 with its number. -/
def guardSet (f : Nat) (v : Bool) (d : Dev) : Dev :=
  if d.bit Obj.GD_CAUSE f = v then d
  else
    let d := d.setBit Obj.GD_CAUSE f v
    if v then d.bwEvent 140 f else d

/-- Let the guard force and the cause follow the functions: the force is released when none is active. -/
def guardApply (d : Dev) : Dev := (d.setBw { d.bw with force := d.on Obj.GD_CAUSE }).bwRefresh

/-- The channels functions 2 and 3 use. -/
def guardChannels (d : Dev) : List Nat :=
  let en := d.actN Obj.GD_ENABLE
  ((if en.testBit 2 then [d.actN Obj.GD_I_CH0, d.actN Obj.GD_I_CH1] else [])
    ++ (if en.testBit 3 then [d.actN Obj.GD_VDC_CH] else [])).filter (· < 32)

/-- Whether |x| of a channel's fine cycle sample lies above a limit. -/
def guardAbove (d : Dev) (ch : Nat) (abs : Bool) (limit : F32) : Bool :=
  decide (ch < 32) && (let x := d.cycleSample ch true; F32.gt (if abs then F32.abs x else x) limit)

/-- Functions 0 to 3 at t_in (Table 13-2). -/
def guardFn (d : Dev) (f : Nat) : Bool :=
  (d.actN Obj.GD_ENABLE).testBit f &&
  match f with
  | 0 => (List.range 32).any fun s => (d.strandCells s).any fun n =>
      d.cellState n == CellState.present && F32.gt (d.getF (Obj.CELL_VCAP n)) (d.actF Obj.GD_VCAP_MAX)
  | 1 => [0, 1].any fun a => d.getN (Obj.MOD_ARM_STATE a) == 2 && (d.armCells a).any fun n =>
      d.counted n && F32.lt (d.getF (Obj.CELL_VCAP n)) (d.actF Obj.GD_VCAP_MIN)
  | 2 => d.guardAbove (d.actN Obj.GD_I_CH0) true (d.actF Obj.GD_I_MAX)
      || d.guardAbove (d.actN Obj.GD_I_CH1) true (d.actF Obj.GD_I_MAX)
  | _ => d.guardAbove (d.actN Obj.GD_VDC_CH) false (d.actF Obj.GD_VDC_MAX)

/-- The guard cores' evaluation at t_in, in every mode but BOOT (R307). -/
def guardEval (d : Dev) : Dev :=
  if d.mode = Mode.boot then d
  else
    let chs := d.guardChannels
    let bad := fun ch => !d.bit (Obj.MEAS_STATUS ch) MeasBit.valid
    let miss := (chs.eraseDups).map fun ch => (ch, if bad ch then SMap.get 0 d.bw.miss ch + 1 else 0)
    let fn := d.guardFn
    let lost := miss.any fun (_, n) => decide (2 ≤ n)
    let d := d.setBw { d.bw with miss := miss.foldl (fun m (c, n) => SMap.set 0 m c n) [] }
    let d := [0, 1, 2, 3].foldl (fun d f => d.guardSet f (fn f)) d
    (d.guardSet 4 lost).guardApply

/-- GUARD_CROSS_CHECK (R307, function 5): judged while the latch is set. -/
def devGuardCrossCheck (laneMissing pinHigh : Bool) (d : Dev) : Dev :=
  if d.on Obj.BW_STATE = false then d
  else if laneMissing ∨ pinHigh then
    let d := (d.broken 1).inc Obj.GD_XCHECK_FAIL
    ((d.bwEvent 141 5).guardSet 5 true).guardApply
  else (d.guardSet 5 false).guardApply

/-- GUARD_HEARTBEAT_LOSS (R303): SELF latches. -/
def devGuardHeartbeatLoss (d : Dev) : Dev := (d.setBw { d.bw with hbLost := true }).bwRefresh

/-- GUARD_PARAM_CHECK (R307, function 8). -/
def devGuardParamCheck (same : Bool) (d : Dev) : Dev := (d.guardSet 8 (!same)).guardApply

/-- GUARD_RC_CLOCK_CHECK (R307, function 7): without the oscillator the guard force blocks, and SELF latches when the clock
returns (Table 13-11), with every cause then present. -/
def devGuardRcCheck (khz : Nat) (d : Dev) : Dev :=
  let dead := d.bw.rcDead
  if khz = 0 then ((d.setBw { d.bw with rcDead := true }).guardSet 7 true).guardApply
  else
    let d := d.setBw { d.bw with rcDead := false }
    let d := if dead then d.bwLatch (d.bwCauses ||| (2 ^ BwCause.self + 2 ^ BwCause.guard)) else d
    (d.guardSet 7 (decide (khz < 95000 ∨ 105000 < khz))).guardApply

/-- Function 6 (Table 13-2): frames are due and no cycle boundary comes (R456). -/
def guardCycle (v : Bool) (d : Dev) : Dev := (d.guardSet 6 v).guardApply

/-! The lock-out reset (R309–R312). -/

/-- The status R309 gives a write of `BW_LOR`; `session` says that an authenticated session of role Engineer or higher
writes. -/
def lorStatus (d : Dev) (session : Bool) (v : Int) : Nat :=
  if session = false then Status.role
  else if v ≠ d.get Obj.BW_LOR_SEQ then Status.seq
  else if d.getN Obj.BW_CAUSES ≠ 0 then Status.tripActive
  else if d.on Obj.BW_STATE = false ∨ (d.on Obj.BW_LOR_STRAP ∧ d.on Obj.BW_LOR_ARMED = false) then Status.state
  else Status.ok

/-- A refused reset counts (R309). -/
def lorRefused (d : Dev) : Dev := (d.inc Obj.BW_LOR_REFUSED).bwEvent 139 (noSource 139)

/-- Clear both latches, end the injection and release the pins. -/
def bwClear (d : Dev) : Dev :=
  let d := (d.set Obj.BW_STATE 0).set Obj.BW_LATCHED 0
  (d.setBw { d.bw with minOpen := false, halfA := 0, halfB := 0 }).bwOutputs

/-- A completed lock-out reset (R311), less the release of LOCKOUT. -/
def lorDone (d : Dev) : Dev :=
  let d := (d.set Obj.BW_LOR_ARMED 0).bwClear
  let d := d.bwEvent 138 (noSource 138)
  { d with cyc := { d.cyc with clearFrames := 8 } }

/-- LOR_N_PULSE (R310): with the strap set, a low phase of 100 ms to 10 s arms the reset. (DESIGN CHOICE: assumption log 51) -/
def devLorPulse (lowMs highMs : Nat) (d : Dev) : Dev :=
  if d.on Obj.BW_LOR_STRAP = false then d
  else if d.bw.lorStuck ∧ highMs < 1000 then d
  else
    let d := d.setBw { d.bw with lorStuck := false }
    if 100 ≤ lowMs ∧ lowMs ≤ 10000 then (d.setBw { d.bw with armedAt := d.tm.mono }).set Obj.BW_LOR_ARMED 1 else d

/-- LOR_N_TOO_LONG (R310). (DESIGN CHOICE: assumption log 51) -/
def devLorTooLong (d : Dev) : Dev :=
  if d.on Obj.BW_LOR_STRAP = false then d else (d.setBw { d.bw with lorStuck := true }).bwEvent 139 (noSource 139)

/-- LOR_WINDOW_EXPIRY (R310): `BW_LOR_WINDOW` after the reset was armed. -/
def devLorExpiry (d : Dev) : Dev :=
  if d.waited d.bw.armedAt (d.getN Obj.BW_LOR_WINDOW * secUnit) then d.set Obj.BW_LOR_ARMED 0 else d

/-- POWER_UP_RELEASE (R312): with the heartbeat running SELF clears; without another cause the latch clears, otherwise R304
applies as at an entry. A set that fails its CRC keeps SELF. -/
def devPowerUpRelease (crcOk : Bool) (d : Dev) : Dev :=
  if d.bw.powerUp = false ∨ crcOk = false ∨ d.bw.hbLost then d
  else
    let d := d.setBw { d.bw with powerUp := false }
    let now := d.bwCauses
    let d := d.setN Obj.BW_CAUSES now
    if now = 0 then d.bwClear.bwEvent 138 0 else (d.bwHalves now).bwEntry now

/-! Parameter sets and proof test (R313, R314). -/

/-- BW_SET_ACTIVATE takes effect: the edit set becomes active, and is copied to the former active set. -/
def devSetActivate (d : Dev) : Dev :=
  let act := safetyKeys.foldl (fun m k => SMap.set (objDefault k) m k (d.get k)) []
  let d := d.setN Obj.BW_SET_ACTIVE (1 - d.getN Obj.BW_SET_ACTIVE)
  (d.setBw { d.bw with act := act }).bwRefresh

/-- Latch one input as its test forces it: pin A (8–11) or B (12–15) of a trip input reads active for the while. -/
def bwForce (v : Nat) (d : Dev) : Dev :=
  if v < 8 then d.bwLatch (2 ^ v)
  else
    let k := Obj.TRIPIN_STATE ((v - 8) % 4)
    let pins := d.getN k
    ((d.setN k (pins ||| (if v < 12 then 1 else 2))).bwLatch (2 ^ (8 + (v - 8) % 4))).setN k pins

/-- BW_TEST takes effect (R314): one input is forced and latches as a real cause; the time measured is a free value. -/
def devBwTest (v : Nat) (d : Dev) : Dev :=
  let i := if v < 8 then v else 8 + (v - 8) % 4
  if d.bwEnabled i = false then d
  else if d.on Obj.BW_STATE then d.bwForce v
  else
    let (t, d) := d.takeFree
    (d.setN Obj.BW_TEST_RESULT (t % 4294967296)).bwForce v

/-! Safety frames received (R317–R319). -/

def safeSub (d : Dev) (m : Nat) : SubSt := SMap.get SubSt.init d.bw.subs m
def setSafeSub (m : Nat) (x : SubSt) (d : Dev) : Dev := d.setBw { d.bw with subs := SMap.set SubSt.init d.bw.subs m x }

/-- Fields of a PDU (Table 13-5). -/
def pduField (b : List Byte) (at_ n : Nat) : Nat := natBE ((b.drop at_).take n)
def pduTime (b : List Byte) : Nat :=
  pduField b 0x0C 6 * secUnit + pduField b 0x12 4 * nsUnit + pduField b 0x16 2 * 65536

/-- The enabled subscription whose identities a PDU carries. -/
def pduSub (d : Dev) (b : List Byte) : Option Nat :=
  (List.range 16).find? fun m =>
    d.actOn (Obj.SLS_ENABLE m) && d.actN (Obj.SLS_SRC_ID m) == pduField b 4 4 && d.actN (Obj.SLS_DST_ID m) == pduField b 8 4

/-- Checks 4 and 5 of R317 for a subscription, for a copy received at `rx`. (DEDUCED: assumption log 50) -/
def copyOk (d : Dev) (m : Nat) (lan rx : Nat) (b : List Byte) : Bool :=
  let x := d.safeSub m
  let seq := pduField b 2 2
  let partner := x.wins.any fun w => w.seq == seq && w.lan != lan
  let repeated := x.wins.any fun w => w.seq == seq && w.lan == lan
  let seqOk := d.getN (Obj.SLS_STATE m) == 0 || partner || (match x.last with
    | some (s, _, _) => (let k := (seq + 65536 - s) % 65536; decide (1 ≤ k ∧ k ≤ 16))
    | none => true)
  let age : Int := d.getN Obj.SL_AGE_MAX * 1000 * nsUnit
  let within := fun (x : Int) => decide (-age ≤ x ∧ x ≤ age)
  let rx : Int := rx
  let t : Int := pduTime b
  let timeOk :=
    if (pduField b 0x18 1).testBit 1 ∧ d.getN Obj.TB_STATE = 3 then within (rx - t)
    else match x.last with
      | some (_, t0, r0) => within ((rx - r0) - (t - t0))
      | none => true
  seqOk && timeOk && !repeated

/-- A rejected copy (R317). -/
def copyReject (m : Option Nat) (d : Dev) : Dev :=
  match m with
  | some m => (d.inc (Obj.SLS_REJECTS m)).bwEvent 143 m
  | none => d.bwEvent 143 (noSource 143)

/-- Act on a frame's TRIP flag (R318): set, REMOTE and event 145 where the subscription accepts trips. (DEDUCED: assumption log
50) -/
def actTrip (m : Nat) (trip : Bool) (d : Dev) : Dev :=
  let d := d.setB (Obj.SLS_REMOTE_TRIP m) trip
  let d := d.bwRefresh
  if trip ∧ d.actOn (Obj.SLS_TRIP_ACCEPT m) then d.bwEvent 145 m else d

/-- Accept a frame whose copies match, the second received at `rx` (R318, R319). -/
def acceptFrame (m rx : Nat) (b : List Byte) (d : Dev) : Dev :=
  let x := d.safeSub m
  let st := d.getN (Obj.SLS_STATE m)
  let d := d.setSafeSub m { x with last := some (pduField b 2 2, pduTime b, rx), heard := d.tm.mono }
  let d := d.setN (Obj.SLS_STATE m) 1
  let d := if st = 2 then (d.bwEvent 144 m).clearCause 144 m else d
  let trip := (pduField b 0x18 1).testBit 0
  if trip then d.bwRefresh else d.actTrip m false

/-- The receiver's part of a copy from a LAN, received at `rx` (R317, R318). (DEDUCED: assumption log 50) -/
def safetyCopy (lan rx : Nat) (b : List Byte) (d : Dev) : Dev :=
  let m := d.pduSub b
  let formOk := b.length = 36 ∧ slCrc (b.take 32) = pduField b 0x20 4 ∧ pduField b 0 1 = 1
    ∧ (pduField b 1 1 = 1 ∨ pduField b 1 1 = 2)
  match m with
  | none => d.copyReject none
  | some m =>
    if ¬ formOk ∨ d.copyOk m lan rx b = false then d.copyReject (some m)
    else
      let d := if (pduField b 0x18 1).testBit 0 then d.actTrip m true else d
      let x := d.safeSub m
      let seq := pduField b 2 2
      match x.wins.find? (·.seq == seq) with
      | none => d.setSafeSub m { x with wins := x.wins ++ [{ seq := seq, lan := lan, pdu := b, at_ := d.tm.mono }] }
      | some w =>
        let d := d.setSafeSub m { x with wins := x.wins.filter (·.seq != seq) }
        if w.pdu = b then d.acceptFrame m rx b
        else (d.inc (Obj.SLS_MISMATCH m)).bwEvent 143 m

/-- SAFETY_FRAME_RECEIVED (R316–R318): the line switch forwards the frame, `head` before its PDU, to the opposite line port, and
the receiver takes the copy, received at `t` (2⁻¹⁶ ns). (DEDUCED: assumption log 50) -/
def devSafetyReceived (port t : Nat) (head b : List Byte) (d : Dev) : Dev :=
  (d.send (.ether (switchPort port) .safety (head ++ b))).safetyCopy (port / 2) (t * 65536) b

/-- SAFETY_WINDOW_EXPIRY (R318): the oldest window of a subscription closes after 200 µs without a partner copy. -/
def devSafetyWindowExpiry (m : Nat) (d : Dev) : Dev :=
  let x := d.safeSub m
  match x.wins with
  | [] => d
  | w :: ws =>
    if d.waited w.at_ (200000 * nsUnit) then (d.setSafeSub m { x with wins := ws }).inc (Obj.SLS_SINGLE m) else d

/-- SUBSCRIPTION_LOST (R319): `SLS_TIMEOUT` after the last accepted frame. -/
def devSubscriptionLost (m : Nat) (d : Dev) : Dev :=
  if d.getN (Obj.SLS_STATE m) ≠ 1 ∨ d.waited (d.safeSub m).heard (d.actN (Obj.SLS_TIMEOUT m) * 1000 * nsUnit) = false then d
  else
    let d := (d.setN (Obj.SLS_STATE m) 2).bwEvent 144 m
    let r := d.actN (Obj.SLS_LOSS_REACTION m)
    if r = 5 then d.bwRefresh else d.raiseFault 144 r 0 m 0 true

/-! Derived values. -/

/-- The guard reaction bound of Table 13-3, Tc + t_lead + t_in + 1 µs, for a t_in in ns. -/
def guardBound (d : Dev) (tIn : Nat) : Nat := d.tc + d.getN Obj.CYC_SAMPLE_LEAD + tIn + 1000

end Dev

end Sys2Proof.Machine
end

