-- ==== Sys2Proof/Machine/Blocks.lean ====
section
/-! DEFINITION. The block catalogue of the loop engine (R124, R125, R132–R142, R151, R152): arity, cost and the run of one
instance. Signals are binary32, state is binary64. (DEDUCED: assumption log 32) -/

namespace Sys2Proof.Machine

open Sys2Proof

/-! Table 05-5. -/

/-- The number of inputs of a type. -/
def blockInputs (t : Nat) : Nat :=
  match t with
  | 0x01 => 2 | 0x02 => 4 | 0x03 => 2 | 0x04 => 2 | 0x05 => 1 | 0x06 => 1 | 0x07 => 1 | 0x08 => 3 | 0x09 => 1
  | 0x0A => 3 | 0x0B => 1 | 0x0C => 1 | 0x0D => 1 | 0x0E => 1 | 0x0F => 1 | 0x10 => 1 | 0x11 => 3 | 0x12 => 4
  | 0x13 => 3 | 0x14 => 3 | 0x15 => 3 | 0x16 => 4 | 0x17 => 4 | 0x18 => 2 | 0x19 => 4 | 0x1A => 4 | 0x1B => 6
  | 0x1C => 3 | 0x1D => 2 | 0x1E => 2 | 0x1F => 4 | _ => 0

/-- The positions of the required inputs of a type. -/
def blockRequired (t : Nat) : List Nat :=
  match t with
  | 0x03 => [0, 1] | 0x04 => [0, 1] | 0x08 => [2] | 0x12 => [0, 1] | 0x13 => [0, 1] | 0x14 => [0, 1, 2]
  | 0x15 => [0, 1] | 0x16 => [0, 1, 2, 3] | 0x17 => [0, 1, 2, 3] | 0x18 => [0, 1] | 0x19 => [0, 1] | 0x1A => [0, 1]
  | 0x1B => [0, 2, 3, 5] | 0x1C => [0, 1] | 0x1D => [0, 1] | 0x1F => [] | 0x00 => [] | _ => [0]

/-- The number of outputs of a type. -/
def blockOutputs (t : Nat) : Nat :=
  match t with
  | 0x00 => 0 | 0x06 => 2 | 0x0A => 2 | 0x12 => 3 | 0x13 => 3 | 0x14 => 3 | 0x15 => 3 | 0x16 => 2 | 0x17 => 2
  | 0x18 => 8 | 0x19 => 6 | 0x1A => 6 | 0x1B => 3 | 0x1C => 2 | 0x1D => 2 | 0x1F => 0 | _ => 1

/-- The cost of a type in engine clocks. -/
def blockCost (t : Nat) : Nat :=
  match t with
  | 0x01 => 6 | 0x02 => 8 | 0x03 => 6 | 0x04 => 14 | 0x05 => 14 | 0x06 => 16 | 0x07 => 4 | 0x08 => 4 | 0x09 => 6
  | 0x0A => 6 | 0x0B => 8 | 0x0C => 4 | 0x0D => 8 | 0x0E => 8 | 0x0F => 12 | 0x10 => 10 | 0x11 => 10 | 0x12 => 14
  | 0x13 => 20 | 0x14 => 8 | 0x15 => 8 | 0x16 => 10 | 0x17 => 10 | 0x18 => 34 | 0x19 => 10 | 0x1A => 10 | 0x1B => 24
  | 0x1C => 10 | 0x1D => 10 | 0x1E => 18 | 0x1F => 4 | _ => 0

/-- Whether a mode lies in the range of its type. -/
def blockModeOk (t m : Nat) : Bool :=
  match t with
  | 0x0C => decide (1 ≤ m) && decide (m ≤ 16)
  | 0x10 => decide (1 ≤ m) && decide (m ≤ 64)
  | 0x19 => decide (2 ≤ m) && decide (m ≤ 4)
  | 0x1A => decide (2 ≤ m) && decide (m ≤ 4)
  | 0x1E => decide (m ≤ 15)
  | 0x1F => decide (m ≤ 1)
  | _ => true

/-- Whether a parameter's value lies in the range of its type (R134, R141, Table 06-3). -/
def blockParOk (t j : Nat) (v : F32) : Bool :=
  let inR := fun (lo hi : F32) => F32.le lo v && F32.le v hi
  let n := fun (k : Int) => F32.ofInt k
  match t, j with
  | 0x0B, 0 => F32.ge v F32.zero
  | 0x0B, 1 => F32.ge v F32.zero
  | 0x1B, 0 => F32.gt v F32.zero
  | 0x1B, 2 => inR F32.zero F32.one
  | 0x1E, 0 => inR (F32.ofRatio 1 2) (n 1000)
  | 0x1E, 1 => inR F32.zero (n 2)
  | 0x1E, 2 => inR F32.zero F32.one
  | 0x1E, 3 => inR F32.zero (F32.ofRatio 1 4)
  | 0x1E, 4 => inR F32.zero (n 255) && F32.eq v (n (F32.val v).floor)
  | 0x1E, 5 => F32.gt v F32.zero
  | 0x1E, 6 => F32.ge v F32.zero
  | 0x1E, 7 => inR F32.zero (n 10)
  | _, _ => true

/-! Flags (Table 05-7). -/

abbrev LeFlag.nonfinite : Nat := 1
abbrev LeFlag.saturated : Nat := 2
abbrev LeFlag.domain : Nat := 4
abbrev LeFlag.limitsInv : Nat := 8
abbrev LeFlag.tracking : Nat := 16
abbrev LeFlag.pllLocked : Nat := 32
abbrev LeFlag.freqClamped : Nat := 64
abbrev LeFlag.resetDone : Nat := 128

/-- A flag when its condition holds. -/
def flagIf (b : Bool) (f : Nat) : Nat := if b then f else 0

/-- What the run of an instance reads: inputs, which are connected, parameters, mode, the previous states, outputs, buffer
and lock, Ts and T_p, the selector it is bound to (R151): whether a MINSEL, whether it is the winner, y_sel; and for an
ARM_MODEL whether its measured current is substituted by its own prior (R165). -/
structure BlockIn where
  x      : List F32
  conn   : List Bool
  par    : List F32
  mode   : Nat
  st     : List F64
  out    : List F32
  buf    : List F64
  timer  : Nat
  locked : Bool
  ts     : F64
  tp     : F64
  bound  : Option (Bool × Bool × F32)
  held   : Bool

namespace BlockIn

/-- An input and a parameter as the engine reads them (R124). -/
def in32 (b : BlockIn) (j : Nat) : F32 := F32.canon (b.x.getD j F32.zero)
def in64 (b : BlockIn) (j : Nat) : F64 := F64.of32 (b.in32 j)
def p32 (b : BlockIn) (j : Nat) : F32 := F32.canon (b.par.getD j F32.zero)
def p64 (b : BlockIn) (j : Nat) : F64 := F64.of32 (b.p32 j)
def s (b : BlockIn) (j : Nat) : F64 := b.st.getD j F64.zero
def isConn (b : BlockIn) (j : Nat) : Bool := b.conn.getD j false

/-- A run that changes no state. -/
def keep (b : BlockIn) (out : List F32) (flags : Nat) : InstRun :=
  { st := b.st, out := out, flags := flags, buf := b.buf, timer := b.timer, locked := b.locked }

end BlockIn

/-- The flags of a limit (Table 05-7): the output stands at one of its limits; lo > hi. -/
def limitFlags (at_ inv : Bool) : Nat := flagIf at_ LeFlag.saturated + flagIf inv LeFlag.limitsInv

/-- clamp of R132 in binary32, with sat of R134 and its flags. -/
def limit32 (v lo hi : F32) : F32 × Int × Nat :=
  let inv := F32.gt lo hi
  let y := if inv then hi else F32.clamp v lo hi
  (y, if F32.gt v hi then 1 else if F32.lt v lo then -1 else 0, limitFlags (F32.eq y lo || F32.eq y hi) inv)

/-- clamp of R132 in binary64, with sat of R134 and its flags. -/
def limit64 (v lo hi : F64) : F64 × Int × Nat :=
  let inv := F64.gt lo hi
  let y := if inv then hi else F64.clamp v lo hi
  (y, if F64.gt v hi then 1 else if F64.lt v lo then -1 else 0, limitFlags (F64.eq y lo || F64.eq y hi) inv)

/-- √3 and √3/2 and 2/3 as binary32. -/
def root3 : F32 := 0x3FDDB3D7#32
def halfRoot3 : F32 := 0x3F5DB3D7#32
def twoThirds : F32 := F32.ofRatio 2 3

/-- Half a binary32. -/
def half32 (x : F32) : F32 := F32.mul x 0x3F000000#32

/-- Whether a tracking input is at or above 0.5. -/
def atHalf (x : F32) : Bool := F32.ge x 0x3F000000#32

/-- An angle wrapped into [−π, π) (R139): whole turns are taken off exactly, and the rest is rounded once. The binary64 π
lies below π, so the rest never leaves the interval. (DEDUCED: assumption log 31) -/
def wrapPi (x : F64) : F64 :=
  match F64.val x, F64.val F64.pi with
  | .fin n m e, .fin _ p ep =>
    let lo := min e ep
    let v := signedMant n (m * 2 ^ (e - lo).toNat)
    let half : Int := p * 2 ^ (ep - lo).toNat
    let r := v - 2 * half * Int.fdiv (v + half) (2 * half)
    if r = v then x else F64.ofVal (.ofScaled r lo)
  | _, _ => F64.qnan

/-- Whole cycles of Tc in a time of seconds, rounded up; 0 for a negative or non-finite time. -/
def ceilCycles (t : F32) (tc : Nat) : Nat :=
  match F32.val t with
  | .fin false m e =>
    if 0 ≤ e then (m * 2 ^ e.toNat * 1000000000 + tc - 1) / tc
    else
      let den := tc * 2 ^ (-e).toNat
      (m * 1000000000 + den - 1) / den
  | _ => 0

/-! The arithmetic blocks (R133, R134, R138, R140, R142). -/

def blkAdd (b : BlockIn) : InstRun :=
  b.keep [F32.fma (b.p32 1) (b.in32 1) (F32.fma (b.p32 0) (b.in32 0) (b.p32 2))] 0

def blkSum4 (b : BlockIn) : InstRun :=
  let t := F32.mul (b.p32 0) (b.in32 0)
  let t := F32.fma (b.p32 1) (b.in32 1) t
  let t := F32.fma (b.p32 2) (b.in32 2) t
  let t := F32.fma (b.p32 3) (b.in32 3) t
  b.keep [F32.add t (b.p32 4)] 0

def blkMul (b : BlockIn) : InstRun := b.keep [F32.mul (F32.mul (b.p32 0) (b.in32 0)) (b.in32 1)] 0

def blkDiv (b : BlockIn) : InstRun :=
  if F32.lt (F32.abs (b.in32 1)) (b.p32 0) || !(b.in32 1).isFinite then b.keep [b.p32 1] LeFlag.domain
  else b.keep [F32.div (b.in32 0) (b.in32 1)] 0

def blkSqrt (b : BlockIn) : InstRun :=
  if F32.isNeg (b.in32 0) then b.keep [F32.zero] LeFlag.domain else b.keep [F32.sqrt (b.in32 0)] 0

def blkSinCos (b : BlockIn) : InstRun :=
  b.keep [F64.to32 (F64.sinEngine (b.in64 0)), F64.to32 (F64.cosEngine (b.in64 0))] 0

def blkAbs (b : BlockIn) : InstRun := b.keep [F32.abs (b.in32 0)] 0

def blkSel (b : BlockIn) : InstRun := b.keep [if atHalf (b.in32 2) then b.in32 0 else b.in32 1] 0

def blkCmp (b : BlockIn) : InstRun :=
  b.keep [if F32.gt (b.in32 0) (b.p32 0) then F32.one else if F32.lt (b.in32 0) (b.p32 1) then F32.zero
          else b.out.getD 0 F32.zero] 0

def blkLim (b : BlockIn) : InstRun :=
  let lo := if b.isConn 1 then b.in32 1 else b.p32 0
  let hi := if b.isConn 2 then b.in32 2 else b.p32 1
  let (y, sat, flags) := limit32 (b.in32 0) lo hi
  b.keep [y, F32.ofInt sat] flags

def blkRate (b : BlockIn) : InstRun :=
  let dn := F64.neg (F64.mul (b.p64 1) b.ts)
  let up := F64.mul (b.p64 0) b.ts
  let y := F64.add (b.s 0) (F64.clamp (F64.sub (b.in64 0) (b.s 0)) dn up)
  { b.keep [F64.to32 y] 0 with st := [y] }

def blkDelay (b : BlockIn) : InstRun :=
  let full := List.replicate (b.mode - b.buf.length) F64.zero ++ b.buf
  { b.keep [F64.to32 (full.headD F64.zero)] 0 with buf := full.tail ++ [b.in64 0] }

def blkClarke (b : BlockIn) : InstRun :=
  let bc := F32.add (b.in32 1) (b.in32 2)
  b.keep [F32.mul twoThirds (F32.sub (b.in32 0) (half32 bc)),
          F32.div (F32.sub (b.in32 1) (b.in32 2)) root3,
          F32.div (F32.add (F32.add (b.in32 0) (b.in32 1)) (b.in32 2)) (F32.ofInt 3)] 0

def blkIClarke (b : BlockIn) : InstRun :=
  let h := F32.neg (half32 (b.in32 0))
  let r := F32.mul halfRoot3 (b.in32 1)
  b.keep [F32.add (b.in32 0) (b.in32 2), F32.add (F32.add h r) (b.in32 2), F32.add (F32.sub h r) (b.in32 2)] 0

def blkPark (b : BlockIn) : InstRun :=
  b.keep [F32.fma (b.in32 1) (b.in32 2) (F32.mul (b.in32 0) (b.in32 3)),
          F32.fma (b.in32 1) (b.in32 3) (F32.neg (F32.mul (b.in32 0) (b.in32 2)))] 0

def blkIPark (b : BlockIn) : InstRun :=
  b.keep [F32.fma (F32.neg (b.in32 1)) (b.in32 2) (F32.mul (b.in32 0) (b.in32 3)),
          F32.fma (b.in32 1) (b.in32 3) (F32.mul (b.in32 0) (b.in32 2))] 0

/-- MINSEL and MAXSEL (R140): a tie goes to the lowest input number. -/
def blkSelect (isMin : Bool) (b : BlockIn) : InstRun :=
  let better := fun (u v : F32) => if isMin then F32.lt u v else F32.gt u v
  let w := (List.range (min 4 b.mode)).foldl (fun w j => if better (b.in32 j) (b.in32 w) then j else w) 0
  let y := b.in32 w
  b.keep [y, F32.ofInt ((w : Int) + 1), y, y, y, y] LeFlag.tracking

def blkCirc (b : BlockIn) : InstRun :=
  b.keep [F32.fma (F32.neg (b.p32 0)) (b.in32 2) (half32 (F32.add (b.in32 0) (b.in32 1))),
          F32.sub (b.in32 0) (b.in32 1)] 0

/-! The filters (R135). -/

/-- a = exp(−2π · f_c · Ts). -/
def BlockIn.pole (b : BlockIn) : F64 :=
  F64.exp (F64.neg (F64.mul (F64.mul F64.twoPi (b.p64 0)) b.ts))

/-- LPF1 on a state. -/
def BlockIn.lpf (b : BlockIn) (y x : F64) : F64 :=
  if F32.isZero (b.p32 0) then x else F64.add (F64.mul b.pole y) (F64.mul (F64.sub F64.one b.pole) x)

def blkLpf1 (b : BlockIn) : InstRun :=
  let y := b.lpf (b.s 0) (b.in64 0)
  { b.keep [F64.to32 y] 0 with st := [y] }

def blkHpf1 (b : BlockIn) : InstRun :=
  let y := if F32.isZero (b.p32 0) then F64.zero
    else F64.mul b.pole (F64.sub (F64.add (b.s 0) (b.in64 0)) (b.s 1))
  { b.keep [F64.to32 y] 0 with st := [y, b.in64 0] }

def blkBiquad (b : BlockIn) : InstRun :=
  let x := b.in64 0
  let y := F64.add (F64.mul (b.p64 0) x) (b.s 0)
  let s1 := F64.add (F64.sub (F64.mul (b.p64 1) x) (F64.mul (b.p64 3) y)) (b.s 1)
  let s2 := F64.sub (F64.mul (b.p64 2) x) (F64.mul (b.p64 4) y)
  { b.keep [F64.to32 y] 0 with st := [s1, s2] }

def blkMavg (b : BlockIn) : InstRun :=
  let full := List.replicate (b.mode - b.buf.length) F64.zero ++ b.buf
  let s := F64.sub (F64.add (b.s 0) (b.in64 0)) (full.headD F64.zero)
  { b.keep [F64.to32 (F64.div s (F64.ofInt b.mode))] 0 with st := [s], buf := full.tail ++ [b.in64 0] }

def blkEnergy (b : BlockIn) : InstRun :=
  let w1 := b.lpf (b.s 0) (F64.add (b.in64 0) (b.in64 1))
  let w2 := b.lpf (b.s 1) (F64.sub (b.in64 0) (b.in64 1))
  { b.keep [F64.to32 w1, F64.to32 w2] 0 with st := [w1, w2] }

/-! The controllers (R136, R137, R151, R152). -/

/-- The integrand of a bound loser: held towards y_sel (R152). -/
def towards (isMin : Bool) (v y : F64) : F64 := if isMin then F64.min v y else F64.max v y

def blkInteg (b : BlockIn) : InstRun :=
  let lo := b.p64 1
  let hi := b.p64 2
  let step := F64.add (b.s 0) (F64.mul (F64.mul (b.p64 0) b.ts) (b.in64 0))
  let (raw, trk) := match b.bound with
    | some (isMin, win, y) => if win then (step, false) else (towards isMin step (F64.of32 y), true)
    | none => if atHalf (b.in32 1) then (b.in64 2, true) else (step, false)
  let (y, _, flags) := limit64 raw lo hi
  { b.keep [F64.to32 y] (flags + flagIf trk LeFlag.tracking) with st := [y] }

def blkPi (b : BlockIn) : InstRun :=
  let lo := b.p64 2
  let hi := b.p64 3
  let e := F64.sub (b.in64 0) (b.in64 1)
  let kpe := F64.mul (b.p64 0) e
  let i1 := F64.add (b.s 0) (F64.mul (F64.mul (b.p64 1) b.ts) e)
  let held := fun (v : F64) => (limit64 v (F64.sub lo kpe) (F64.sub hi kpe)).1
  let (un, i, trk) := match b.bound with
    | some (isMin, win, y) =>
      if win then (F64.add kpe i1, held i1, false)
      else
        let i := held (towards isMin i1 (F64.sub (F64.of32 y) kpe))
        (F64.add kpe i, i, true)
    | none =>
      if atHalf (b.in32 3) then (b.in64 2, F64.sub (b.in64 2) kpe, true) else (F64.add kpe i1, held i1, false)
  let (u, sat, flags) := limit64 un lo hi
  { b.keep [F64.to32 u, F32.ofInt sat, F64.to32 e] (flags + flagIf trk LeFlag.tracking) with st := [i] }

def blkPr (b : BlockIn) : InstRun :=
  let two := F64.ofInt 2
  let w0 := F64.mul (b.p64 3) (if b.isConn 2 then b.in64 2 else b.p64 4)
  let fast := F64.gt (F64.mul w0 b.ts) (F64.div F64.pi two)
  let wh := if fast then F64.div F64.pi (F64.mul two b.ts) else w0
  let w := F64.mul (F64.div two b.ts) (F64.sin (F64.div (F64.mul wh b.ts) two))
  let e := F64.sub (b.in64 0) (b.in64 1)
  let d1 := F64.sub (F64.sub (F64.mul (b.p64 1) e) (F64.mul w (b.s 1))) (F64.mul (F64.mul two (b.p64 2)) (b.s 0))
  let x1 := F64.add (b.s 0) (F64.mul b.ts d1)
  let x2 := F64.add (b.s 1) (F64.mul (F64.mul b.ts w) x1)
  let un := F64.sub (F64.add (F64.mul (b.p64 0) e) (F64.mul (F64.cos (b.p64 5)) x1)) (F64.mul (F64.sin (b.p64 5)) x2)
  let (u, sat, flags) := limit64 un (b.p64 6) (b.p64 7)
  let y1 := if sat = 0 then x1 else b.s 0
  let y2 := if sat = 0 then x2 else b.s 1
  { b.keep [F64.to32 u, F64.to32 y1, F64.to32 y2] (flags + flagIf fast LeFlag.freqClamped) with st := [y1, y2] }

/-- PLL (R139, Table 05-6). `tc` is Tc in ns. -/
def blkPll (tc : Nat) (b : BlockIn) : InstRun :=
  let al := b.in64 0
  let be := b.in64 1
  let m := F64.sqrt (F64.add (F64.mul al al) (F64.mul be be))
  let vmin := b.p64 4
  let q := F64.add (F64.neg (F64.mul al (F64.sinEngine (b.s 0)))) (F64.mul be (F64.cosEngine (b.s 0)))
  let seen := F64.ge m vmin
  let e := if seen then F64.div q m else F64.zero
  let lim := F64.mul F64.twoPi (b.p64 3)
  let i := (limit64 (F64.add (b.s 1) (F64.mul (F64.mul (b.p64 2) b.ts) e)) (F64.neg lim) lim).1
  let w := F64.add (F64.mul F64.twoPi (b.p64 0))
    (limit64 (F64.add (F64.mul (b.p64 1) e) i) (F64.neg lim) lim).1
  let th := wrapPi (F64.add (b.s 0) (F64.mul b.ts w))
  let el := b.p64 5
  let toward := if b.locked then !seen || F64.ge (F64.abs e) (F64.mul (F64.ofInt 2) el) else seen && F64.lt (F64.abs e) el
  let timer := if toward then b.timer + 1 else 0
  let flip := toward && decide (max 1 (ceilCycles (b.p32 6) tc) ≤ timer)
  let locked := b.locked != flip
  { st := [th, i], buf := b.buf, timer := if flip then 0 else timer, locked := locked,
    flags := flagIf locked LeFlag.pllLocked + flagIf (F64.isNeg lim) LeFlag.limitsInv,
    out := [F64.to32 th, F64.to32 w, F64.to32 (F64.sinEngine th), F64.to32 (F64.cosEngine th), F64.to32 m,
            if locked then F32.one else F32.zero, F64.to32 (wrapPi (F64.add th (F64.mul w b.tp))),
            F64.to32 (F64.div w F64.twoPi)] }

/-- The prior of ARM_MODEL (R141): î + (Ts/L)·(u_n − u_ins − R·î). -/
def armPrior (ts l r i un ui : F64) : F64 :=
  F64.add i (F64.mul (F64.div ts l) (F64.sub (F64.sub un ui) (F64.mul r i)))

def blkArmModel (b : BlockIn) : InstRun :=
  let l := b.p64 0
  let r := b.p64 1
  let prior := armPrior b.ts l r (b.s 0) (b.s 1) (b.s 2)
  let res := if b.held then F64.zero else F64.sub (b.in64 2) prior
  let i := F64.add prior (F64.mul (b.p64 2) res)
  let un := F64.add (F64.mul (b.p64 3) (b.in64 3)) (F64.mul (b.p64 4) (b.in64 4))
  let drive := F64.sub (F64.sub un (F64.add (b.in64 0) (b.in64 1))) (F64.mul r i)
  let ip := F64.add i (F64.mul (F64.div b.tp (F64.mul (F64.ofInt 2) l)) drive)
  { b.keep [F64.to32 i, F64.to32 ip, F64.to32 res] 0 with st := [i, un, b.in64 5] }

/-- The run of an instance by its type, before the check of R125; REP and ORDER are run by the engine. -/
def runBlock (tc t : Nat) (b : BlockIn) : InstRun :=
  match t with
  | 0x01 => blkAdd b | 0x02 => blkSum4 b | 0x03 => blkMul b | 0x04 => blkDiv b | 0x05 => blkSqrt b
  | 0x06 => blkSinCos b | 0x07 => blkAbs b | 0x08 => blkSel b | 0x09 => blkCmp b | 0x0A => blkLim b
  | 0x0B => blkRate b | 0x0C => blkDelay b | 0x0D => blkLpf1 b | 0x0E => blkHpf1 b | 0x0F => blkBiquad b
  | 0x10 => blkMavg b | 0x11 => blkInteg b | 0x12 => blkPi b | 0x13 => blkPr b | 0x14 => blkClarke b
  | 0x15 => blkIClarke b | 0x16 => blkPark b | 0x17 => blkIPark b | 0x18 => blkPll tc b
  | 0x19 => blkSelect true b | 0x1A => blkSelect false b | 0x1B => blkArmModel b | 0x1C => blkCirc b
  | 0x1D => blkEnergy b | _ => b.keep [] 0

/-- Refuse a run that would make a binary64 state non-finite (R125): the states are kept, every output is the quiet NaN. -/
def refuseNonfinite (t : Nat) (b : BlockIn) (r : InstRun) : InstRun :=
  if r.st.all F64.isFinite then r
  else
    { b.keep (List.replicate (blockOutputs t) F32.qnan) (LeFlag.nonfinite + flagIf b.locked LeFlag.pllLocked) with
      st := b.st }

end Sys2Proof.Machine
end

