-- ==== Sys2Proof/Machine/LoopEngine.lean ====
section
/-! DEFINITION. The loop engine (R122–R161): signal references, the static schedule and validation, the vector stage, one
run of the program with its repetitive channels, commit, resets and starts. (DEDUCED: assumption log 32) -/

namespace Sys2Proof.Machine

open Sys2Proof

/-! Signal references (Table 05-2). -/

/-- Whether a reference may be written (R127): no reserved class or item, no instance whose type is NONE. -/
def refOk (typeOf : Nat → Nat) (r : Nat) : Bool :=
  let item := r % 4096
  match r / 4096 with
  | 0 => item == 0
  | 1 => typeOf (item / 8) != 0
  | 8 => typeOf (item / 8) != 0
  | 2 => decide (item < 32)
  | 3 => decide (item < 32)
  | 4 => decide (item < 32) && decide (1 ≤ item % 16) && decide (item % 16 ≤ 13)
  | 5 => decide (item < 32) && decide (1 ≤ item % 16) && decide (item % 16 ≤ 5)
  | 6 => decide (item < 1024)
  | 7 => decide (1 ≤ item) && decide (item ≤ 5)
  | _ => false

namespace Dev

def leType (d : Dev) (i : Nat) : Nat := d.getN (Obj.LE_TYPE i)
def leMode (d : Dev) (i : Nat) : Nat := d.getN (Obj.LE_MODE i)
def leIn (d : Dev) (i j : Nat) : Nat := d.getN (Obj.LE_IN i j)
def lePar (d : Dev) (i j : Nat) : F32 := d.getF (Obj.LE_PAR i j)

/-- The instances of the loop program in program order (R126). -/
def leInsts (d : Dev) : List Nat := (List.range 512).filter fun i => d.leType i != 0

/-- The references of an instance's inputs. -/
def leRefs (d : Dev) (i : Nat) : List Nat := (List.range (blockInputs (d.leType i))).map (d.leIn i)

def leAux (d : Dev) (i : Nat) : InstAux := SMap.get InstAux.init d.loop.aux i
def setLeAux (i : Nat) (x : InstAux) (d : Dev) : Dev :=
  { d with loop := { d.loop with aux := SMap.set InstAux.init d.loop.aux i x } }

/-! Schedule and validation (R130, R131). -/

/-- One placed instance: number, pipeline, start, end. -/
abbrev Placed : Type := Nat × Nat × Nat × Nat

/-- The end of an instance already placed; 0 when it is not. -/
def placedEnd (l : List Placed) (i : Nat) : Nat :=
  match l.find? (·.1 = i) with
  | some (_, _, _, e) => e
  | none => 0

/-- The first clock at which a pipeline is free. -/
def pipeFree (l : List Placed) (p : Nat) : Nat :=
  l.foldl (fun m (_, q, _, e) => if q = p then max m e else m) 0

/-- Place one instance (R130). -/
def place (d : Dev) (l : List Placed) (i : Nat) : List Placed :=
  let ready := (d.leRefs i).foldl (fun m r =>
    if r / 4096 = 1 ∧ r % 4096 / 8 < i then max m (placedEnd l (r % 4096 / 8)) else m) 0
  let p := (List.range 4).foldl (fun b q => if pipeFree l q < pipeFree l b then q else b) 0
  let s := max (pipeFree l p) ready
  l ++ [(i, p, s, s + blockCost (d.leType i))]

/-- The static schedule. -/
def leSchedule (d : Dev) : List Placed := d.leInsts.foldl (fun l i => d.place l i) []

/-- L_sched. -/
def lSched (l : List Placed) : Nat := l.foldl (fun m (_, _, _, e) => max m e) 0

/-- The error of Table 05-4 of one instance; 0 none. -/
def leInstErr (d : Dev) (is : List Nat) (i : Nat) : Nat :=
  let t := d.leType i
  let m := d.leMode i
  let earlier := fun (ty : Nat) => is.filter fun j => decide (j < i) && d.leType j == ty
  if (blockRequired t).any fun j => d.leIn i j / 4096 == 0 then 1
  else if (d.leRefs i).any fun r => (r / 4096 == 1 || r / 4096 == 8) && d.leType (r % 4096 / 8) == 0 then 2
  else if t = 0x1F ∧ (earlier 0x1F).any fun j => d.leMode j == m then 3
  else if t = 0x1E ∧ (earlier 0x1E).any fun j => d.leMode j == m then 4
  else if blockModeOk t m = false then 5
  else if t = 0x10 ∧ 32 ≤ (earlier 0x10).length then 6
  else 0

/-- The validation error and the lowest failing instance (R131). -/
def leCheck (d : Dev) : Nat × Nat :=
  let is := d.leInsts
  match is.find? fun i => d.leInstErr is i != 0 with
  | some i => (d.leInstErr is i, i)
  | none => if is.any fun i => d.leType i == 0x1F then (0, 0xFFFF) else (7, 0xFFFF)

/-- Validate the program and report the schedule (R130, R131). -/
def devLeValidate (d : Dev) : Dev :=
  let (err, inst) := d.leCheck
  let is := d.leInsts
  let sch := d.leSchedule
  let ls := lSched sch
  let crit := match sch.find? fun (_, _, _, e) => e = ls with
    | some (i, _, _, _) => i
    | none => 0xFFFF
  let d := d.setN Obj.LE_PROG_STATE (if is.isEmpty then 0 else if err = 0 then 1 else 2)
  let d := (d.setN Obj.LE_PROG_ERR err).setN Obj.LE_PROG_ERR_INST inst
  let d := ((d.setN Obj.LE_L_SCHED ls).setN Obj.LE_CRIT_INST crit).setN Obj.LE_N_INSTANCES is.length
  sch.foldl (fun d (i, p, s, _) => (d.setN (Obj.LE_START i) s).setN (Obj.LE_PIPE i) p) d

/-! The vector stage (R129). -/

/-- The weight of a cell in Σ 1/C_i: its settled state in frame k, or the fractional cell by t_p/Tc. -/
def vecWeight (d : Dev) (n : Nat) : F64 :=
  let c := d.cell n
  let cap := d.getN (Obj.CELL_CAPACITANCE n)
  if cap = 0 then F64.zero
  else if Rodal.cEdge c.cmd = 2 ∧ sigma (Rodal.cState c.cmd) ≠ 0 then
    F64.mul (F64.ofRatio (Rodal.cOffset c.cmd) (8 * d.tc)) (F64.ofRatio 1000000 cap)
  else if sigma c.settled ≠ 0 then F64.ofRatio 1000000 cap
  else F64.zero

/-- The vector-stage outputs of an arm group. -/
def vectorStage (a : Nat) (d : Dev) : Dev :=
  let cs := d.armCells a
  let pos := cs.filter (d.eligible a 2)
  let neg := cs.filter (d.eligible a 3)
  let v := fun (l : List Nat) => F32.ofRatio (natSum (l.map fun n => (d.cell n).vcap) : Nat) 16
  let inv := F64.to32 (cs.foldl (fun s n => F64.add s (d.vecWeight n)) F64.zero)
  let d := ((d.setF (Obj.LE_VEC a 0) inv).setF (Obj.LE_VEC a 1) (v pos)).setF (Obj.LE_VEC a 2) (v neg)
  (d.setN (Obj.LE_VEC_N a 0) pos.length).setN (Obj.LE_VEC_N a 1) neg.length

/-! A run (R122–R128). -/

/-- Tc + t_lead + D_app in ns (R17). -/
def tpNs (d : Dev) : Nat := d.tc + d.getN Obj.CYC_SAMPLE_LEAD + d.getN Obj.CYC_APPLY_DELAY

/-- The x̂ that stands for a channel, when an entry in HOLD_MODEL substitutes it (R165). -/
def substitute (d : Dev) (c : Nat) : Option F32 :=
  match (List.range 16).find? fun e =>
      d.getN (Obj.SV_STATE e) == 1 && d.getN (Obj.SV_CHANNEL e) == c && (SMap.get SvSt.init d.svs e).subst with
  | some e => some (d.getF (Obj.SV_SUBST e))
  | none => none

/-- What a FINE or FAST reference reads. -/
def channelValue (d : Dev) (c : Nat) (fine : Bool) : F32 := (d.substitute c).getD (d.cycleSample c fine)

/-- What a RED reference reads: subindex `k` of 0x3040+a. -/
def redValue (d : Dev) (a k : Nat) : F32 :=
  let key := Obj.RED_N_COUNTED a + (k - 1)
  if k = 1 ∨ k = 6 ∨ k = 7 ∨ k = 13 then F32.ofInt (d.get key) else d.getF key

/-- What a VEC reference reads. -/
def vecValue (d : Dev) (a k : Nat) : F32 :=
  if k = 4 ∨ k = 5 then F32.ofInt (d.get (Obj.LE_VEC_N a (k - 4))) else d.getF (Obj.LE_VEC a (k - 1))

/-- What a MOD reference reads. -/
def modValue (d : Dev) (k : Nat) : F32 :=
  match k with
  | 1 => F32.ofRatio d.tc 1000000000
  | 2 => F32.ofRatio d.tpNs 1000000000
  | 3 => F32.ofInt (d.get Obj.CYC_INDEX)
  | 4 => F32.ofInt ((d.tm.lastT / secUnit % 65536 : Nat) : Int)
  | 5 => F32.ofRatio 1000000000 d.tc
  | _ => F32.zero

/-- What a reference other than INST and PREV reads as the prologue finds it (Table 05-2). -/
def sourceValue (d : Dev) (r : Nat) : F32 :=
  let item := r % 4096
  match r / 4096 with
  | 2 => d.channelValue item true
  | 3 => d.channelValue item false
  | 4 => d.redValue (item / 16) (item % 16)
  | 5 => d.vecValue (item / 16) (item % 16)
  | 6 => d.getF (Obj.LV (item / 64) (item % 64))
  | 7 => d.modValue item
  | _ => F32.zero

/-- The prologue's snapshot (R123, R128): every source the program reads, and T_p, keep their values for the whole run. -/
def loopSnapshot (d : Dev) : Dev :=
  let refs := (d.leInsts.flatMap d.leRefs).filter fun r => decide (2 ≤ r / 4096 ∧ r / 4096 ≤ 7)
  let snap := refs.foldl (fun l r => if l.any (·.1 == r) then l else l ++ [(r, d.sourceValue r)]) []
  { d with loop := { d.loop with snap := snap, tp := d.tpNs } }

/-- The value an input reads in a run (R126, R127, R128): `done` holds the instances of this run. -/
def inputValue (d : Dev) (done : List (Nat × InstRun)) (i r : Nat) : F32 :=
  let item := r % 4096
  match r / 4096 with
  | 1 =>
    let j := item / 8
    match (if j < i then done.find? (·.1 = j) else none) with
    | some (_, x) => x.out.getD (item % 8) F32.zero
    | none => d.getF (Obj.LE_OUT j (item % 8))
  | 8 => d.getF (Obj.LE_OUT (item / 8) (item % 8))
  | _ => match d.loop.snap.find? (·.1 = r) with
    | some (_, v) => v
    | none => F32.zero

/-- The selector an instance is bound to, and the input its output 1 feeds (R151). -/
def boundTo (d : Dev) (i : Nat) : Option (Nat × Nat) :=
  let t := d.leType i
  let r := if t = 0x12 then d.leIn i 3 else if t = 0x11 then d.leIn i 1 else 0
  let sel := r % 4096 / 8
  let ts := d.leType sel
  if (r / 4096 = 1 ∨ r / 4096 = 8) ∧ r % 8 = 1 ∧ i < sel ∧ (ts = 0x19 ∨ ts = 0x1A) then
    match (List.range (min 4 (d.leMode sel))).find? fun j =>
        let q := d.leIn sel j
        (q / 4096 == 1 || q / 4096 == 8) && q % 4096 / 8 == i && q % 8 == 0 with
    | some j => some (sel, j)
    | none => none
  else none

/-- What a bound instance takes from its selector (R151): MINSEL or not, whether it is the winner, y_sel. -/
def bindingOf (d : Dev) (i : Nat) : Option (Bool × Bool × F32) :=
  match d.boundTo i with
  | none => none
  | some (sel, j) =>
    let isMin := d.leType sel == 0x19
    if (d.leAux sel).fresh then some (isMin, j == 0, d.getF (Obj.LE_OUT i 0))
    else some (isMin, F32.eq (d.getF (Obj.LE_OUT sel 1)) (F32.ofInt ((j : Int) + 1)), d.getF (Obj.LE_OUT sel 0))

/-- Whether the measured current of an ARM_MODEL is its own prior (R165): a supervision entry in HOLD_MODEL that names the
instance substitutes the channel its input 3 reads. -/
def modelHeld (d : Dev) (i : Nat) : Bool :=
  let r := d.leIn i 2
  d.leType i == 0x1B && (r / 4096 == 2 || r / 4096 == 3) && (List.range 16).any fun e =>
    d.getN (Obj.SV_STATE e) == 1 && d.getN (Obj.SV_CHANNEL e) == r % 4096 && d.getN (Obj.SV_MODEL_INST e) == i
      && (SMap.get SvSt.init d.svs e).subst

/-- The inputs of the run of instance i. -/
def blockIn (d : Dev) (done : List (Nat × InstRun)) (i : Nat) : BlockIn :=
  let refs := d.leRefs i
  let aux := d.leAux i
  { x := refs.map (d.inputValue done i), conn := refs.map fun r => r / 4096 != 0,
    par := (List.range 8).map (d.lePar i), mode := d.leMode i,
    st := (List.range 4).map fun j => d.getD (Obj.LE_STATE i j),
    out := (List.range 8).map fun j => d.getF (Obj.LE_OUT i j), buf := aux.buf, timer := aux.timer,
    locked := d.bit (Obj.LE_FLAGS i) 5, ts := d.ts, tp := F64.ofRatio d.loop.tp 1000000000, bound := d.bindingOf i,
    held := d.modelHeld i }

/-! The repetitive controller (R156–R161). -/

def rep (d : Dev) (c : Nat) : RepCh := SMap.get RepCh.init d.reps c
def setRep (c : Nat) (x : RepCh) (d : Dev) : Dev := { d with reps := SMap.set RepCh.init d.reps c x }

/-- A channel's memory at an index. -/
def repMem (d : Dev) (c i : Nat) : F64 := SMap.get F64.zero (d.rep c).mem i

/-- L_c = ceil(1 / (f · Tc)); 0 for f = 0 (R156). -/
def repLength (d : Dev) (c : Nat) : Nat :=
  match F32.val (d.getF (Obj.REP_F_MIN c)) with
  | .fin false m e =>
    if m = 0 then 0
    else
      let num := 1000000000 * 2 ^ (-e).toNat
      let den := m * 2 ^ e.toNat * d.tc
      (num + den - 1) / den
  | _ => 0

/-- round(1 / (f · Tc)); none for f = 0. -/
def repPeriod (d : Dev) (f : F32) : Option Nat :=
  match F32.val f with
  | .fin false m e =>
    if m = 0 then none
    else
      let num := 1000000000 * 2 ^ (-e).toNat
      let den := m * 2 ^ e.toNat * d.tc
      some ((2 * num + den) / (2 * den))
  | _ => none

/-- The REP instance of a channel. -/
def repInst (d : Dev) (c : Nat) : Option Nat := d.leInsts.find? fun i => d.leType i == 0x1E && d.leMode i == c

/-- Raise a supervision event with its source (R168). -/
def supEvent (e src : Nat) (d : Dev) : Dev := d.signalAt Obj.SUP_EVENT_SRC e src

/-- N of a channel from f in force (R158, R159): a change keeps the memory and takes the pointer modulo N. -/
def repRefresh (c : Nat) (d : Dev) : Dev :=
  match d.repInst c with
  | none => d
  | some i =>
    let lc := d.getN (Obj.REP_LEN c)
    let raw := d.repPeriod (d.lePar i 0)
    let n := min lc (max 16 (raw.getD lc))
    let d := (d.setN (Obj.REP_N c) n).setBit (Obj.REP_STATUS c) 1 (raw != some n)
    d.setRep c { d.rep c with ptr := (d.rep c).ptr % (max 1 n) }

/-- The pointers advance at a boundary while frames are sent (R158). -/
def repBoundary (d : Dev) : Dev :=
  (List.range 16).foldl (fun d c =>
    let n := d.getN (Obj.REP_N c)
    if n = 0 then d else d.setRep c { d.rep c with ptr := ((d.rep c).ptr + 1) % n }) d

/-- Zero a channel's memory (R161). -/
def repZero (c : Nat) (d : Dev) : Dev := d.setRep c { d.rep c with mem := [], stage := none }

/-- Whether a channel has a cause to be frozen in a run (R160). -/
def repCause (d : Dev) (c : Nat) (b : BlockIn) : Bool :=
  let frz := b.p32 6
  let arm := d.getN (Obj.REP_ARM c)
  atHalf (b.in32 1) || (F32.gt frz F32.zero && F32.gt (F32.abs (b.in32 0)) frz) || !(b.in32 0).isFinite
    || (arm < 2 && d.getN (Obj.MOD_ARM_STATE arm) != 2)
    || (List.range 16).any fun e => (d.getN (Obj.REP_SV_MASK c)).testBit e && d.getN (Obj.SV_STATE e) != 0

/-- Change the frozen bit of a channel: event 47 (R160). -/
def repFreeze (c : Nat) (v : Bool) (d : Dev) : Dev :=
  if d.bit (Obj.REP_STATUS c) 0 = v then d else (d.setBit (Obj.REP_STATUS c) 0 v).supEvent 47 c

/-- The run of a REP instance (R158, R160): what it changes waits for the commit (R33). -/
def runRep (b : BlockIn) (d : Dev) : InstRun × Dev :=
  let c := b.mode
  let x := d.rep c
  let cause := d.repCause c b
  let n := max 1 (d.getN (Obj.REP_N c))
  let left := if cause then ceilCycles (b.p32 7) d.tc else x.left
  let frozen := cause || decide (0 < left)
  let m := (F32.val (b.p32 4)).floor.toNat
  let raw := d.repMem c ((x.ptr + m) % n)
  let lim := b.p64 5
  let (u, sat, _) := limit64 raw (F64.neg lim) lim
  let zero := frozen && d.getN (Obj.REP_FREEZE_OUT c) == 1
  let sat := !zero && sat != 0
  let a := b.p64 3
  let mix := F64.add (F64.add (F64.mul a (d.repMem c ((x.ptr + n - 1) % n)))
      (F64.mul (F64.sub F64.one (F64.mul (F64.ofInt 2) a)) (d.repMem c x.ptr)))
    (F64.mul a (d.repMem c ((x.ptr + 1) % n)))
  let new := F64.add (F64.mul (b.p64 2) mix) (F64.mul (b.p64 1) (b.in64 0))
  let bad := !frozen && !F64.isFinite new
  let st : RepStage :=
    { write := if frozen || bad then none else some (x.ptr, new), frozen := frozen, cause := cause, sat := sat,
      left := if cause then left else left - 1 }
  let d := d.setRep c { x with stage := some st }
  if bad then (b.keep [F32.qnan] LeFlag.nonfinite, d)
  else (b.keep [if zero then F32.zero else F64.to32 u] (flagIf sat LeFlag.saturated), d)

/-- Commit the run of a channel (R33, R158, R160). -/
def commitRep (c : Nat) (d : Dev) : Dev :=
  match (d.rep c).stage with
  | none => d
  | some st =>
    let d := (d.repFreeze c st.frozen).setBit (Obj.REP_STATUS c) 2 st.sat
    let d := if st.frozen then d.inc (Obj.REP_FROZEN_CYCLES c) else d
    let x : RepCh := { d.rep c with left := st.left, cause := st.cause, stage := none }
    match st.write with
    | some (k, v) => (d.setRep c { x with mem := SMap.set F64.zero x.mem k v }).inc (Obj.REP_LEARN_CYCLES c)
    | none => d.setRep c x

/-- The release hold-off of a frozen channel expires (R160). -/
def devRepRelease (c : Nat) (d : Dev) : Dev :=
  if (d.rep c).cause ∨ (d.rep c).left ≠ 0 then d else d.repFreeze c false

/-- Write the connected inputs of an ORDER instance to the orders (R143). -/
def runOrder (b : BlockIn) (d : Dev) : Dev :=
  (List.range 4).foldl (fun d j => if b.isConn j then d.setF (Obj.MOD_ORD_U_REF b.mode + j) (b.in32 j) else d) d

/-! The run and its events (R145, R148, R153). -/

/-- Raise a loop event with its lowest instance (R148). -/
def leEvent (e inst : Nat) (d : Dev) : Dev := d.signalAt Obj.LE_EVENT_INST e inst

/-- Run one instance. -/
def runInst (i : Nat) (d : Dev) : Dev :=
  let t := d.leType i
  let b := d.blockIn d.loop.stage i
  let (r, d) :=
    if t = 0x1E then d.runRep b
    else if t = 0x1F then (b.keep [] 0, d.runOrder b)
    else (refuseNonfinite t b (runBlock d.tc t b), d)
  let r := if d.loop.resets.contains i then { r with flags := r.flags + LeFlag.resetDone } else r
  { d with loop := { d.loop with stage := d.loop.stage ++ [(i, r)] } }

/-- The lowest instance of the run that meets a condition, and the event for it. -/
def firstEvent (e : Nat) (p : Nat → InstRun → Bool) (d : Dev) : Dev :=
  match d.loop.stage.find? fun (i, r) => p i r with
  | some (i, _) => d.leEvent e i
  | none => d

/-- Count the refused states of a run (R125): one record for each instance, one event with the lowest. -/
def nonfiniteRun (d : Dev) : Dev :=
  let d := d.firstEvent 33 fun _ r => r.flags % 2 == 1
  d.loop.stage.foldl (fun d (i, r) =>
    if r.flags % 2 = 1 then (d.inc (Obj.LE_NONFINITE i)).raiseFault 33 1 0 i 0 false else d) d

/-- Whether an instance is a selector. -/
def isSelector (d : Dev) (i : Nat) : Bool := d.leType i == 0x19 || d.leType i == 0x1A

/-- Count the handovers of a run (R153): a selector that has not run since the module left CONFIG has no previous win. -/
def handovers (d : Dev) : Dev :=
  d.loop.stage.foldl (fun d (i, r) =>
    if d.isSelector i ∧ F32.isZero (d.getF (Obj.LE_OUT i 1)) = false ∧ r.out.getD 1 F32.zero ≠ d.getF (Obj.LE_OUT i 1) then
      ((d.inc Obj.SUP_HANDOVERS).setN Obj.SUP_HANDOVER_INST i).supEvent 40 i
    else d) d

/-- Run the loop program (R122): every instance in program order, then the events of the run. -/
def devLoopRun (d : Dev) : Dev :=
  let d := { d with loop := { d.loop with stage := [] } }
  let d := d.leInsts.foldl (fun d i => d.runInst i) d
  let d := d.handovers
  let d := d.nonfiniteRun
  let d := d.firstEvent 34 fun i r => d.leType i == 0x18 && r.locked && !d.bit (Obj.LE_FLAGS i) 5
  let d := d.firstEvent 35 fun i r => d.leType i == 0x18 && !r.locked && d.bit (Obj.LE_FLAGS i) 5
  d.firstEvent 37 fun i r =>
    (d.leType i == 0x0A || d.leType i == 0x12) && !F32.isZero (d.lePar i 7) && r.flags / 2 % 2 == 1
      && !d.bit (Obj.LE_FLAGS i) 1

/-! Commit and abandon (R33). -/

/-- Put a list of values into consecutive objects. -/
def putFrom (k : Nat) : List Int → Dev → Dev
  | [], d => d
  | v :: t, d => putFrom (k + 1) t (d.set k v)

/-- Commit the result of one instance. -/
def commitInst (x : Nat × InstRun) (d : Dev) : Dev :=
  let (i, r) := x
  let d := putFrom (Obj.LE_STATE i 0) (r.st.map fun v => (v.toNat : Int)) d
  let d := putFrom (Obj.LE_OUT i 0) (r.out.map fun v => (v.toNat : Int)) d
  let d := d.setN (Obj.LE_FLAGS i) r.flags
  d.setLeAux i { buf := r.buf, timer := r.timer, fresh := false }

/-- Commit the staged run of the loop engine: event 38. -/
def commitLoop (d : Dev) : Dev :=
  let first := match d.loop.stage with
    | (i, _) :: _ => i
    | [] => 0xFFFF
  let d := d.loop.stage.foldl (fun d x => d.commitInst x) d
  let d := (List.range 16).foldl (fun d c => d.commitRep c) d
  let d := { d with loop := { d.loop with stage := [], resets := [] } }
  ((d.inc Obj.LE_COMMIT_COUNT).set Obj.LE_RUN_CYCLE (d.get Obj.CYC_INDEX)).leEvent 38 first

/-- Abandon the staged run (R33). -/
def abandonLoop (d : Dev) : Dev :=
  let d := (List.range 16).foldl (fun d c => if (d.rep c).stage.isSome then d.setRep c { d.rep c with stage := none } else d) d
  { d with loop := { d.loop with stage := [] } }

/-! Starts and resets (R139, R144, R145, R161). -/

/-- The INIT objects of an instance. -/
def initKeys (i : Nat) : List Nat := (List.range 4).map (Obj.LE_INIT i)

/-- Give an instance its INIT values, clear its buffer and unlock its PLL. -/
def initInst (i : Nat) (d : Dev) : Dev :=
  let d := d.applyHeld (initKeys i)
  let d := (List.range 4).foldl (fun d j => d.set (Obj.LE_STATE i j) (d.get (Obj.LE_INIT i j))) d
  let d := d.setLeAux i { buf := [], timer := 0, fresh := d.isSelector i }
  d.setBit (Obj.LE_FLAGS i) 5 false

/-- LE_RESET takes effect at its boundary (R145); event 39 follows once for the instances reset there. -/
def devLeReset (i : Nat) (d : Dev) : Dev :=
  let d := d.initInst i
  let d := if d.leType i = 0x1E then
      (d.repZero (d.leMode i)).setRep (d.leMode i) { (d.repZero (d.leMode i)).rep (d.leMode i) with ptr := 0 }
    else d
  { d with loop := { d.loop with resets := d.loop.resets ++ [i] } }

/-- The loop engine starts as the module leaves CONFIG: states at INIT, outputs 0, PLLs UNLOCKED. -/
def startLoop (d : Dev) : Dev :=
  let d := { d with loop := { d.loop with stage := [], resets := [] } }
  d.leInsts.foldl (fun d i =>
    let d := (d.initInst i).setN (Obj.LE_FLAGS i) 0
    (List.range 8).foldl (fun d j => d.set (Obj.LE_OUT i j) 0) d) d

/-- L_c of every channel as the configuration is admitted (R156), and N. -/
def startReps (d : Dev) : Dev :=
  let d := (List.range 16).foldl (fun d c => d.setN (Obj.REP_LEN c) (min 65535 (d.repLength c))) d
  let d := d.setN Obj.SUP_REP_BYTES (natSum ((List.range 16).map fun c => 8 * d.repLength c))
  (List.range 16).foldl (fun d c => d.repRefresh c) d

/-- The channel and detail R156 refuses a configuration for (reason REP_MEMORY); none when it is admitted. -/
def repRefusal (d : Dev) : Option Nat :=
  let named := fun (c : Nat) => (d.repInst c).isSome
  match (List.range 16).find? fun c => (named c && d.repLength c == 0) || decide (24000 < d.repLength c) with
  | some c => some c
  | none => if 2097152 < natSum ((List.range 16).map fun c => 8 * d.repLength c) then some 15 else none

end Dev

end Sys2Proof.Machine
end

