-- ==== Sys2Proof/Machine/Supervision.lean ====
section
/-! DEFINITION. Feedback supervision (R162–R166) and overrun observation (R167). (DEDUCED: assumption log 33) -/

namespace Sys2Proof.Machine

open Sys2Proof

/-- The states of `SV_STATE`. -/
abbrev SvState.normal : Nat := 0
abbrev SvState.hold : Nat := 1
abbrev SvState.tripped : Nat := 2

namespace Dev

def sv (d : Dev) (e : Nat) : SvSt := SMap.get SvSt.init d.svs e
def setSv (e : Nat) (x : SvSt) (d : Dev) : Dev := { d with svs := SMap.set SvSt.init d.svs e x }

/-- The ARM_MODEL instance of an entry. -/
def svModel (d : Dev) (e : Nat) : Option Nat :=
  let i := d.getN (Obj.SV_MODEL_INST e)
  if i < 512 ∧ d.leType i = 0x1B then some i else none

/-- Cause 4 of Table 06-4. Of two entries that name one model and both hold, the one that entered later has it. -/
def svModelCause (d : Dev) (e : Nat) : Bool :=
  match d.svModel e with
  | none => false
  | some i =>
    d.bit (Obj.LE_FLAGS i) 0 || (List.range 16).any fun f =>
      f != e && d.svModel f == some i && d.getN (Obj.SV_STATE f) == 1 &&
        (d.getN (Obj.SV_STATE e) != 1 || decide (d.getN (Obj.SV_HOLD_CYCLES e) < d.getN (Obj.SV_HOLD_CYCLES f))
          || (d.getN (Obj.SV_HOLD_CYCLES e) == d.getN (Obj.SV_HOLD_CYCLES f) && decide (f < e)))

/-- HELD cells of the entry's arm group. -/
def svHeld (d : Dev) (e : Nat) : Nat :=
  let a := d.getN (Obj.SV_ARM e)
  if a < 2 then ((d.armCells a).filter fun n => d.cellState n == CellState.held).length else 0

/-- The causes of bits 0–2 and 4, sampled in the prologue (R163). -/
def svCauses (d : Dev) (e : Nat) : Nat :=
  let c := d.getN (Obj.SV_CHANNEL e)
  let has := decide (c < 32)
  let miss := d.getN (Obj.SV_CELL_MISS_MAX e)
  flagIf (has && d.measLoss c) 1
    + flagIf (has && decide (d.getN (Obj.SV_FREEZE_K e) ≤ d.getN (Obj.MEAS_SAME_COUNT c))) 2
    + flagIf (miss != 0xFFFF && decide (miss < d.svHeld e)) 4 + flagIf (d.svModelCause e) 16

/-- Trip an entry (Table 06-5): TRIPPED, L4, event 43. -/
def svTrip (e cause : Nat) (d : Dev) : Dev :=
  let d := if d.getN (Obj.SV_STATE e) = 1 then d.clearCause 41 e else d
  let d := (d.setN (Obj.SV_STATE e) SvState.tripped).setN (Obj.SV_CAUSE e) cause
  let d := d.setSv e { d.sv e with tripDue := false, subst := false }
  (d.supEvent 43 e).raiseFault 43 4 0 e 0 false

/-- Bring an entry to NORMAL with its counts and window cleared. -/
def svNormal (e : Nat) (d : Dev) : Dev :=
  let d := if d.getN (Obj.SV_STATE e) = 1 then d.clearCause 41 e else d
  let d := (d.setN (Obj.SV_STATE e) SvState.normal).setN (Obj.SV_HOLD_CYCLES e) 0
  d.setSv e { d.sv e with window := [], saved := none, agree := 0, subst := false, tripDue := false, causes := 0 }

/-- Raise the excursion events of loss and freeze (R163). -/
def svExcursions (e causes : Nat) (d : Dev) : Dev :=
  let x := d.sv e
  let loss := causes.testBit 0
  let frz := causes.testBit 1
  let d := d.setSv e { x with lossEx := loss, freezeEx := frz }
  let d := if frz ∧ x.freezeEx = false then d.supEvent 45 e else d
  if loss ∧ x.lossEx = false then d.supEvent 46 e else d

/-- The prologue of one entry (R164, R165). -/
def svPrologue (e : Nat) (d : Dev) : Dev :=
  if d.on (Obj.SV_ENABLE e) = false then d
  else
    let causes := d.svCauses e
    let d := d.svExcursions e causes
    let x := d.sv e
    let d := d.setSv e { x with saved := none, causes := causes }
    let st := d.getN (Obj.SV_STATE e)
    let signal := causes % 4 != 0
    if st = 0 ∧ causes % 8 ≠ 0 then
      if d.getN (Obj.SV_REACTION e) = 0 then
        ((d.setN (Obj.SV_STATE e) SvState.tripped).setN (Obj.SV_CAUSE e) causes).setSv e { d.sv e with tripDue := true }
      else
        let d := (d.setN (Obj.SV_STATE e) SvState.hold).setN (Obj.SV_CAUSE e) causes
        let d := (d.setN (Obj.SV_HOLD_CYCLES e) 1).inc (Obj.SV_HOLD_ENTRIES e)
        let d := d.setSv e { d.sv e with subst := signal, agree := 0 }
        (d.supEvent 41 e).raiseFault 41 2 0 e 0 true
    else if st = 1 then
      if causes.testBit 4 then d.svTrip e causes
      else d.setSv e { d.sv e with subst := (d.sv e).subst || signal }
    else d

/-- The prologue of every entry, in CHARGE, READY and RUN (R162). -/
def svPrologues (d : Dev) : Dev :=
  if d.mode = Mode.charge ∨ d.mode = Mode.ready ∨ d.mode = Mode.run then
    (List.range 16).foldl (fun d e => d.svPrologue e) d
  else d

/-- The class of the model's input 3: FAST or FINE. -/
def svFine (d : Dev) (e : Nat) : Bool :=
  match d.svModel e with
  | some i => d.leIn i 2 / 4096 != 3
  | none => true

/-- Judge the residual of an entry in NORMAL (R163, R164): the window with the run in it decides, whatever this run's own
residual. Every cause of the run is recorded. -/
def svResidual (e : Nat) (res : F32) (d : Dev) : Dev :=
  let x := d.sv e
  let th := d.getF (Obj.SV_RES_TH e)
  let above := F32.gt th F32.zero && F32.gt (F32.abs res) th
  let w := (above :: x.window).take 64
  let d := d.setSv e { x with window := w, saved := some x.window }
  let d := if above then d.inc (Obj.SV_RES_EXCEED e) else d
  let n := ((w.take (d.getN (Obj.SV_RES_WINDOW e))).filter id).length
  if F32.gt th F32.zero = true ∧ d.getN (Obj.SV_RES_COUNT e) ≤ n then
    if d.getN (Obj.SV_RES_REACTION e) = 1 then d.svTrip e (8 + x.causes)
    else
      let d := (d.setSv e { d.sv e with window := [], saved := none }).setN (Obj.SV_CAUSE e) (8 + x.causes)
      (d.supEvent 44 e).raiseFault 44 1 0 e 0 false
  else d

/-- The epilogue of one entry (R164, R165): a trip due, the residual, the agreement of a held measurement. -/
def svEpilogue (e : Nat) (d : Dev) : Dev :=
  if d.on (Obj.SV_ENABLE e) = false then d
  else
    let res := match d.svModel e with
      | some i => (d.loop.stage.find? (·.1 = i)).map fun (_, r) => r.out.getD 2 F32.zero
      | none => none
    let d := match res with
      | some r => d.setF (Obj.SV_RES_LAST e) r
      | none => d
    let x := d.sv e
    let st := d.getN (Obj.SV_STATE e)
    if x.tripDue then d.svTrip e (d.getN (Obj.SV_CAUSE e))
    else if st = 0 ∧ x.causes % 8 = 0 then
      match res with
      | some r => d.svResidual e r
      | none => d
    else if st = 1 then
      let c := d.getN (Obj.SV_CHANNEL e)
      let diff := F32.abs (F32.sub (d.cycleSample c (d.svFine e)) (d.getF (Obj.SV_SUBST e)))
      let ok := x.causes % 8 == 0 && F32.le diff (d.getF (Obj.SV_RES_TH e))
      d.setSv e { x with agree := if ok then min 65535 (x.agree + 1) else 0 }
    else d

/-- The epilogue of every entry. -/
def svEpilogues (d : Dev) : Dev :=
  if d.mode = Mode.charge ∨ d.mode = Mode.ready ∨ d.mode = Mode.run then
    (List.range 16).foldl (fun d e => d.svEpilogue e) d
  else d

/-- Stage x̂ for the next run from the committed state of the model (R165). -/
def svStage (d : Dev) : Dev :=
  (List.range 16).foldl (fun d e =>
    match d.svModel e with
    | some i =>
      if d.on (Obj.SV_ENABLE e) then
        let s := fun j => d.getD (Obj.LE_STATE i j)
        d.setF (Obj.SV_SUBST e)
          (F64.to32 (armPrior d.ts (F64.of32 (d.lePar i 0)) (F64.of32 (d.lePar i 1)) (s 0) (s 1) (s 2)))
      else d
    | none => d) d

/-- An abandoned run leaves the residual windows as they were (R163: committed runs only): where its epilogue had judged the
residual, the window before it returns. -/
def svAbandon (d : Dev) : Dev :=
  (List.range 16).foldl (fun d e =>
    match (d.sv e).saved with
    | some w => d.setSv e { d.sv e with window := w, saved := none }
    | none => d) d

/-- The residuals of a committed run stay in the windows (R163). -/
def svCommit (d : Dev) : Dev :=
  (List.range 16).foldl (fun d e => if (d.sv e).saved.isSome then d.setSv e { d.sv e with saved := none } else d) d

/-- The hold counts at a boundary (R164). -/
def svBoundary (d : Dev) : Dev :=
  (List.range 16).foldl (fun d e =>
    if d.getN (Obj.SV_STATE e) = 1 then d.setN (Obj.SV_HOLD_CYCLES e) (min 65535 (d.getN (Obj.SV_HOLD_CYCLES e) + 1)) else d) d

/-- The hold count of an entry reaches `SV_HOLD_MAX` (R164): it trips. -/
def devSvHoldMaxReached (e : Nat) (d : Dev) : Dev :=
  if d.getN (Obj.SV_STATE e) = 1 ∧ d.getN (Obj.SV_HOLD_MAX e) ≤ d.getN (Obj.SV_HOLD_CYCLES e) then
    d.svTrip e (d.getN (Obj.SV_CAUSE e))
  else d

/-- An entry completes its agreeing runs (R164): NORMAL, by a transition without a cause, the window restarts, event 42. -/
def devSvRecover (e : Nat) (d : Dev) : Dev :=
  if d.getN (Obj.SV_STATE e) = 1 ∧ d.on (Obj.SV_RECOVER e) ∧ d.getN (Obj.SV_RECOVER e) ≤ (d.sv e).agree then
    ((d.svNormal e).setN (Obj.SV_CAUSE e) 0).supEvent 42 e
  else d

/-- Entries return from TRIPPED as the module leaves LOCKOUT (R164). -/
def svRelease (d : Dev) : Dev :=
  (List.range 16).foldl (fun d e => if d.getN (Obj.SV_STATE e) = 2 then d.svNormal e else d) d

/-- Every entry is NORMAL in CONFIG (R164). -/
def svConfig (d : Dev) : Dev :=
  (List.range 16).foldl (fun d e => if d.getN (Obj.SV_STATE e) = 0 then d else d.svNormal e) d

/-- The entry that R162 refuses on leaving CONFIG: only the rule's first case asks for enabled entries. -/
def svBad (d : Dev) : Option Nat :=
  (List.range 16).find? fun e =>
      ((d.on (Obj.SV_ENABLE e) && d.getN (Obj.SV_CHANNEL e) != 0xFF && (List.range 16).any fun f =>
          decide (f < e) && d.on (Obj.SV_ENABLE f) && d.getN (Obj.SV_CHANNEL f) == d.getN (Obj.SV_CHANNEL e))
        || (d.getN (Obj.SV_REACTION e) == 1 &&
          (d.getN (Obj.SV_CHANNEL e) == 0xFF ||
            match d.svModel e with
            | none => true
            | some i =>
              let r := d.leIn i 2
              !((r / 4096 == 2 || r / 4096 == 3) && r % 4096 == d.getN (Obj.SV_CHANNEL e)))))

/-! Overrun observation (R167). -/

/-- Raise a peak. -/
def peak (k v : Nat) (d : Dev) : Dev := d.setN k (max (d.getN k) v)

/-- SUP_PEAK_CLEAR takes effect. -/
def devPeakClear (d : Dev) : Dev :=
  ((d.set Obj.SUP_LOOP_END_MAX 0).set Obj.SUP_MOD_END_MAX 0).set Obj.SUP_COMMIT_END_MAX 0

end Dev

end Sys2Proof.Machine
end

