-- ==== Sys2Proof/Machine/Pair.lean ====
section
/-! DEFINITION. Pair mode (R326–R349): roles and the couple, the pair link's status, checkpoints, takeover, epochs, split
service, revert and exercise. (DEDUCED: assumption log 52) -/

namespace Sys2Proof.Machine

open Sys2Proof

/-- The codes of `PR_ROLE` and `PR_COUPLE`. -/
abbrev Role.solo : Nat := 0
abbrev Role.active : Nat := 1
abbrev Role.stand : Nat := 2
abbrev Couple.none : Nat := 0
abbrev Couple.formed : Nat := 1
abbrev Couple.linkDown : Nat := 2
abbrev Couple.mismatch : Nat := 3

/-- Whether epoch `e` is newer than `l` under R84. -/
def epochNewer (e l : Nat) : Bool := let k := (e + 4096 - l % 4096) % 4096; decide (0 < k ∧ k < 2048)

/-- The epoch R340 takes from e_max. -/
def epochFrom (pref : Bool) (eMax : Nat) : Nat :=
  let base := if eMax % 2 = 0 then eMax else (eMax + 1) % 4096
  (base + if pref then 2 else 1) % 4096

namespace Dev

def role (d : Dev) : Nat := d.getN Obj.PR_ROLE
def setPair (x : PairCtl) (d : Dev) : Dev := { d with pair := x }

/-- Raise an event 152–159 with its strand or lane (R349). -/
def pairEvent (e src : Nat) (d : Dev) : Dev := d.signalAt Obj.PR_EVENT_SRC e src

/-- The number second · C + cycle of the present cycle. -/
def runIndex (d : Dev) : Nat := d.second * cyclesPerSecond (d.getN Obj.CYC_TC) + d.getN Obj.CYC_INDEX

/-- M, and G = 3 + ceil(4 µs / Tc) + 2M (R332, R333). -/
def cpInterval (d : Dev) : Nat := d.getN Obj.PR_CP_INTERVAL
def gapBound (d : Dev) : Nat := 3 + (4000 + d.tc - 1) / d.tc + 2 * d.cpInterval

/-- The repetitive channels a program names. -/
def repCount (d : Dev) : Nat := ((List.range 16).filter fun c => (d.repInst c).isSome).length

/-- S_cp in bytes (R332). -/
def cpSize (d : Dev) : Nat :=
  512 + 72 * d.leInsts.length + 4 * (d.armCount 0 + d.armCount 1) + 8 * d.cpInterval * d.repCount

/-- Bits per ns of the pair link in 1/2: 11.5 Gbit/s with both lanes up, half with one (R330). -/
def linkRate2 (d : Dev) : Nat := if d.getN Obj.PR_LINK_STATE = 3 then 23 else if d.on Obj.PR_LINK_STATE then 12 else 0

/-- The time a checkpoint takes, in ns. -/
def cpTransfer (d : Dev) (size : Nat) : Nat :=
  if d.getN Obj.PR_LINK_STATE = 3 then (16 * size + 22) / 23 else (32 * size + 22) / 23

/-! Epochs (R340, R341). -/

/-- Note an epoch seen in a strand frame or checkpoint. -/
def seeEpoch (e : Nat) (d : Dev) : Dev :=
  if epochNewer e (d.getN Obj.PR_EPOCH_SEEN) then d.setN Obj.PR_EPOCH_SEEN e else d

/-- Set the epoch sent, from the newer of the stored one and the newest seen. -/
def takeEpoch (d : Dev) : Dev :=
  let own := d.getN Obj.STR_EPOCH_TX
  let seen := d.getN Obj.PR_EPOCH_SEEN
  d.setN Obj.STR_EPOCH_TX (epochFrom (d.on Obj.PR_PREF) (if epochNewer seen own then seen else own))

/-! Readiness (R331). -/

/-- Every strand lane is ALIGNED and loops back, or is in split service. -/
def lanesLoop (d : Dev) : Bool :=
  (List.range 32).all fun s =>
    d.positions s == 0 || (d.laneState s == LaneState.aligned && d.loopsBack) || d.bit Obj.PR_SPLIT_STRANDS s

/-- Whether a STANDBY is ready. -/
def pairReady (d : Dev) : Bool :=
  d.role == Role.stand && d.getN Obj.PR_COUPLE == Couple.formed && d.getN Obj.TB_STATE == 3 && !d.on Obj.BW_STATE
    && d.lanesLoop && d.pair.cp.isSome && decide (d.getN Obj.PR_CP_AGE ≤ 2 * d.cpInterval) && !d.pair.resync

/-- Let `PR_READY` and HEALTH follow; a standby that becomes ready begins its hold-off (R345). -/
def pairRefresh (d : Dev) : Dev :=
  let ready := d.pairReady
  let d := if ready ∧ d.on Obj.PR_READY = false then d.setPair { d.pair with readyAt := d.tm.mono } else d
  (d.setB Obj.PR_READY ready).healthRefresh

/-! Roles (R326–R329). -/

/-- Change the role: event 152 and an L0 record. -/
def setRole (r : Nat) (d : Dev) : Dev :=
  if r = d.role then d else ((d.setN Obj.PR_ROLE r).pairEvent 152 (noSource 152)).storeRec 152 0 0 (noSource 152) 0 false

/-- Enter ACTIVE: the epoch is set and the field outputs take their image (R329, R340). -/
def enterActive (d : Dev) : Dev :=
  if d.role = Role.active then d else ((d.setRole Role.active).takeEpoch.fioDrive).pairRefresh

/-- Enter STANDBY from ACTIVE or SOLO. -/
def enterStandby (d : Dev) : Dev := (d.setRole Role.stand).pairRefresh

/-- Leave ACTIVE outside CONFIG (Table 14-2): outputs are driven until the boundary after the last frame sent. -/
def leaveActive (d : Dev) : Dev :=
  let x := d.pair
  let dwell := if x.yielding then some { start := d.runIndex, at_ := d.tm.mono, epoch := d.getN Obj.STR_EPOCH_TX, seen := 0 } else x.dwell
  (d.setPair { x with leaving := true, yielding := false, dwell := dwell, cp := none }).enterStandby

/-- Start a takeover whose ARB_ACT was detected at `t` (R337, R339): warm when the standby is ready, else cold with blocked arms
and an L3 record. -/
def takeover (t : Nat) (d : Dev) : Dev :=
  let warm := d.on Obj.PR_READY
  let d := d.setPair { d.pair with
    take := some { at_ := d.tm.mono + (t - d.tm.now), warm := warm, loaded := false, frame := d.pair.heard } }
  let d := (d.set Obj.PR_LAST_TAKEOVER (time96 t)).inc (if warm then Obj.PR_TAKEOVERS else Obj.PR_COLD_TAKEOVERS)
  let d := d.enterActive
  if warm then d else d.raiseFault 0x0104 3 0 (noSource 0x0104) 0 false

/-- ARB_ACT_RISE (R335, Table 14-2). In BOOT and CONFIG the level is only taken. The instant of the detection within the cycle
in progress is a free value. (DEDUCED: assumption log 52) -/
def devArbRise (d : Dev) : Dev :=
  let d := d.set Obj.PR_ARB_STATE 1
  if d.mode = Mode.boot ∨ d.mode = Mode.config ∨ d.role ≠ Role.stand then d
  else
    let (x, d) := d.takeFree
    d.takeover (d.tm.now + x % (d.tc * nsUnit))

/-- ARB_ACT_FALL (Table 14-2). -/
def devArbFall (d : Dev) : Dev :=
  let d := d.set Obj.PR_ARB_STATE 0
  if d.mode = Mode.boot ∨ d.mode = Mode.config ∨ d.role ≠ Role.active then d else d.leaveActive

/-- The roles at a change of mode (R328): the preferred module of a formed couple is ACTIVE in CONFIG; leaving CONFIG,
ARB_ACT decides. A SOLO module sets its epoch on leaving (R340). -/
def pairModeChanged (old : Nat) (d : Dev) : Dev :=
  let formed := d.getN Obj.PR_COUPLE = Couple.formed
  if d.mode = Mode.config ∧ old ≠ Mode.config then
    if formed then (if d.on Obj.PR_PREF then d.enterActive else d.enterStandby) else d
  else if old = Mode.config ∧ d.mode ≠ Mode.config then
    if d.role = Role.solo then d.takeEpoch
    else if d.role = Role.active ∧ d.on Obj.PR_ARB_STATE = false then d.leaveActive
    else if d.role = Role.stand ∧ d.on Obj.PR_ARB_STATE then d.takeover d.tm.now
    else d
  else d

/-- The lowest failing code of Table 14-1. -/
def coupleCheck (d : Dev) (p : PartnerId) : Nat :=
  if p.order ≠ d.getN Obj.ID_ORDER_CODE then 1
  else if p.spread ≠ d.getN Obj.CYC_SPREAD_PPM then 2
  else if p.tc ≠ d.getN Obj.CYC_TC then 3
  else if p.pref = d.on Obj.PR_PREF then 4
  else if p.hash ≠ d.blob Obj.FW_HASH then 5
  else 0

/-- Whether the modules may form a couple (R327): both in CONFIG and in PAIR topology, and a pair-link lane up. -/
def coupleMeets (d : Dev) (p : PartnerId) : Bool :=
  d.mode == Mode.config && p.config && d.topology == 2 && p.pair && d.on Obj.PR_LINK_STATE

/-- The identities of two modules that meet are checked, and the roles follow (R327, R328). (DESIGN CHOICE: assumption log 53) -/
def coupleRoles (p : PartnerId) (d : Dev) : Dev :=
  if d.coupleMeets p = false then d
  else
    let c := d.coupleCheck p
    let d := ((d.setN Obj.PR_MISMATCH c).setN Obj.PR_PARTNER_NODE p.node).setF Obj.PR_LINK_DELAY p.delay
    if c = 0 then
      let d := (d.setN Obj.PR_COUPLE Couple.formed).pairEvent 153 (noSource 153)
      if d.on Obj.PR_PREF then d.enterActive else d.enterStandby
    else (((d.setN Obj.PR_COUPLE Couple.mismatch).pairEvent 159 (noSource 159)).setRole Role.solo).pairRefresh

/-- PAIR_LINK_LANE_CHANGE (R330): event 153; both down end the couple's link, a lane up again brings it back with everything
mirrored to be sent anew (R334). -/
def devLinkLane (l : Nat) (up : Bool) (d : Dev) : Dev :=
  if d.bit Obj.PR_LINK_STATE l = up then d
  else
    let d := (d.setBit Obj.PR_LINK_STATE l up).pairEvent 153 l
    let c := d.getN Obj.PR_COUPLE
    let d := if d.on Obj.PR_LINK_STATE = false ∧ c = Couple.formed then
        (d.setN Obj.PR_COUPLE Couple.linkDown).setPair { d.pair with resync := true }
      else if d.on Obj.PR_LINK_STATE ∧ c = Couple.linkDown then d.setN Obj.PR_COUPLE Couple.formed
      else d
    d.pairRefresh

/-! Checkpoints (R332). -/

/-- The checkpoint of a run from the committed state. -/
def makeCheckpoint (d : Dev) (run : Nat) : Checkpoint :=
  { run := run
    insts := d.leInsts.map fun i =>
      (i, (List.range 4).map (fun j => d.getD (Obj.LE_STATE i j)), (List.range 8).map (fun j => d.getF (Obj.LE_OUT i j)),
       d.getN (Obj.LE_FLAGS i))
    cells := [0, 1].flatMap fun a =>
      let r := (d.modEng a).rank
      (List.range r.length).zipWith (fun i n => (n, i, d.getN (Obj.CELL_DWELL n))) r
    reps := ((List.range 16).filter fun c => (d.repInst c).isSome).map fun c =>
      (c, (d.rep c).ptr, (d.pair.slots.filter (·.1 = c)).map (·.2))
    arms := [0, 1].map fun a =>
      (a, d.getN (Obj.MOD_ARM_STATE a), d.getF (Obj.MOD_CARRY a), d.get (Obj.MOD_DIRECTION a))
    svs := (List.range 16).map fun e =>
      (e, d.getN (Obj.SV_STATE e), d.getN (Obj.SV_CAUSE e), d.getN (Obj.SV_HOLD_CYCLES e))
    ovrLoop := d.getN Obj.CYC_OVR_LOOP
    ovrMod := d.getN Obj.CYC_OVR_MOD
    ovrRow := d.getN Obj.CYC_OVR_CONSEC
    epoch := d.getN Obj.STR_EPOCH_TX }

/-- A skipped or abandoned checkpoint (R333). -/
def cpSkip (d : Dev) : Dev := ((d.inc Obj.PR_CP_SKIPPED).broken 5).pairEvent 154 (noSource 154)

/-- The strand lanes go to another topology (R326): a module not in PAIR topology has no couple and is SOLO. -/
def pairTopology (d : Dev) : Dev :=
  if d.topology = 2 then d else ((d.setN Obj.PR_COUPLE Couple.none).setRole Role.solo).pairRefresh

/-- The per-cycle status a module of a couple sends (R330). -/
def sendStatus (d : Dev) : Dev :=
  if d.role = Role.solo ∨ d.on Obj.PR_LINK_STATE = false then d
  else d.send (.status d.mode (d.getN Obj.PR_HEALTH) (d.on Obj.PR_READY) d.pair.lastRun
    (((List.range 32).filter fun s => d.positions s != 0).map fun s => (s, d.getF (Obj.PR_LB_DELAY s))))

/-- The instance data the ACTIVE module sends after a scan (R332). -/
def sendInstances (d : Dev) : Dev :=
  if d.role ≠ Role.active ∨ d.on Obj.PR_LINK_STATE = false then d else d.send (.instances d.seq.data)

/-- Note the run committed, and gather the slots it writes before they are committed. -/
def cpCollect (d : Dev) : Dev :=
  let d := d.setPair { d.pair with lastRun := d.cyc.runSeq }
  if d.role ≠ Role.active then d
  else
    let new := (List.range 16).filterMap fun c => ((d.rep c).stage.bind (·.write)).map fun (k, v) => (c, k, v)
    d.setPair { d.pair with slots := d.pair.slots ++ new }

/-- At the commit of a run, `tNs` of TAI (R332, R333): a checkpoint that is due starts; one still streaming is abandoned. -/
def cpCommit (tNs : Nat) (d : Dev) : Dev :=
  if d.role ≠ Role.active ∨ d.getN Obj.PR_COUPLE ≠ Couple.formed ∨ d.cyc.runSeq % d.cpInterval ≠ 0 then d
  else
    let d := if tNs < d.pair.sendEnd then d.cpSkip else d
    let cp := d.makeCheckpoint d.cyc.runSeq
    let d := d.send (.checkpoint cp)
    d.setPair { d.pair with sendEnd := tNs + d.cpTransfer d.cpSize, slots := [] }

/-- A checkpoint due in an overrun cycle is skipped. -/
def cpOverrun (d : Dev) : Dev :=
  if d.role ≠ Role.active ∨ d.getN Obj.PR_COUPLE ≠ Couple.formed ∨ d.cyc.runSeq % d.cpInterval ≠ 0 then d else d.cpSkip

/-- `PR_CP_AGE` at the present cycle. -/
def cpAge (d : Dev) : Dev :=
  match d.pair.cp with
  | some cp => if d.role = Role.stand then d.setN Obj.PR_CP_AGE (d.runIndex - cp.run) else d
  | none => d

/-- CHECKPOINT_RECEIVED (R332): it replaces the previous one; the slots of the repetitive channels enter their memory. -/
def devCheckpointReceived (cp : Checkpoint) (d : Dev) : Dev :=
  if d.role ≠ Role.stand ∨ d.getN Obj.PR_COUPLE ≠ Couple.formed then d
  else
    let d := cp.reps.foldl (fun d (c, _, sl) =>
      let x := d.rep c
      d.setRep c { x with mem := sl.foldl (fun m (k, v) => SMap.set F64.zero m k v) x.mem }) d
    let d := d.setPair { d.pair with cp := some cp, resync := false }
    (d.seeEpoch cp.epoch).cpAge.pairRefresh

/-- An arm group as a checkpoint left it (R338): one that was BLOCKED in a mode which drives arms stays disabled. (DEDUCED:
assumption log 52) -/
def loadArm (a st : Nat) (carry : F32) (dir : Int) (d : Dev) : Dev :=
  let d := if st = 0 ∧ (d.mode = Mode.charge ∨ d.mode = Mode.run) then d.set (Obj.MOD_ARM_ENABLE a) 0 else d
  ((d.armRefresh a).setF (Obj.MOD_CARRY a) carry).set (Obj.MOD_DIRECTION a) dir

/-- Load a checkpoint into the engines (R337). -/
def loadCheckpoint (cp : Checkpoint) (d : Dev) : Dev :=
  let d := cp.insts.foldl (fun d (i, st, out, fl) =>
    let d := putFrom (Obj.LE_STATE i 0) (st.map fun v => (v.toNat : Int)) d
    (putFrom (Obj.LE_OUT i 0) (out.map fun v => (v.toNat : Int)) d).setN (Obj.LE_FLAGS i) fl) d
  let d := [0, 1].foldl (fun d a =>
    let rank := (cp.cells.filter fun (n, _, _) => d.strandArm (n / 64) == a).map (·.1)
    d.setModEng a { d.modEng a with rank := rank, stage := none }) d
  let d := cp.arms.foldl (fun d (a, st, carry, dir) => d.loadArm a st carry dir) d
  let d := cp.cells.foldl (fun d (n, i, w) => (d.setN (Obj.CELL_RANK n) i).setN (Obj.CELL_DWELL n) w) d
  let d := cp.reps.foldl (fun d (c, p, _) => d.setRep c { d.rep c with ptr := p }) d
  let d := cp.svs.foldl (fun d (e, st, cause, hold) =>
    ((d.setN (Obj.SV_STATE e) st).setN (Obj.SV_CAUSE e) cause).setN (Obj.SV_HOLD_CYCLES e) hold) d
  ((d.setN Obj.CYC_OVR_LOOP cp.ovrLoop).setN Obj.CYC_OVR_MOD cp.ovrMod).setN Obj.CYC_OVR_CONSEC cp.ovrRow

/-- CHECKPOINT_LOAD_COMPLETE (R337, R339): a cold takeover starts from the INIT values. -/
def devCheckpointLoaded (d : Dev) : Dev :=
  match d.pair.take with
  | none => d
  | some t =>
    let d := match t.warm, d.pair.cp with
      | true, some cp => d.loadCheckpoint cp
      | _, _ => d.startLoop
    (d.set Obj.PR_CP_AGE 0).setPair { d.pair with take := some { t with loaded := true } }

/-! The boundary (R329, R330, R337). -/

/-- Start the enabled timers anew (R329). -/
def pwmRestart (d : Dev) : Dev :=
  ((List.range 10).foldl (fun d t =>
    if d.bit Obj.PWM_ENABLE t then
      let x := d.timer t
      ((d.setTimer t { x with run := false, a := false, b := false, rising := none, edges := 0, starts := 0 }).setN
        (Obj.PWM_PERIODS t) 0).pwmArm t
    else d) d).pwmPins

/-- The first boundary of a takeover: the lanes switch to FRAMES, and the gap is reported (R337). -/
def takeoverBoundary (d : Dev) : Dev :=
  match d.pair.take with
  | some t =>
    if t.loaded ∧ t.at_ + 4000 * nsUnit ≤ d.tm.mono then
      let age := match d.pair.cp, d.pair.status with
        | some cp, some st => st.lastRun - cp.run
        | _, _ => 0
      let d := d.setPair { d.pair with take := none, cp := none }
      let d := { d with cyc := { d.cyc with takeover := if t.warm then 4 else 1 } }
      (d.setN Obj.PR_LAST_GAP (min 65535 (d.runIndex + 1 - t.frame + age))).pwmRestart
    else d
  | none => { d with cyc := { d.cyc with takeover := 0 } }

/-- The mode of a STANDBY follows that of the active module, but for its own Breakwater latch (R329). -/
def followMode (m : Nat) (d : Dev) : Dev :=
  if d.role ≠ Role.stand ∨ d.mode = Mode.boot ∨ m = d.mode ∨ m = Mode.boot ∨ 5 < m ∨ d.on Obj.BW_STATE then d
  else
    let old := d.mode
    let d := if m = Mode.lockout then d.enterLockout else d.setMode m
    if old = Mode.lockout then { d with fm := { d.fm with nvLockout := false } } else d

/-- What the pair link brought in the last cycle (R330, R332, R342, R343). -/
def pairStatus (st : PairStatus) (d : Dev) : Dev :=
  if d.on Obj.PR_LINK_STATE = false then d
  else
    let d := d.setPair { d.pair with status := some st }
    let d := d.add Obj.PR_LINK_ERR st.errors
    let d := match st.delay with
      | some x => d.setF Obj.PR_LINK_DELAY x
      | none => d
    let d := if d.role = Role.active then
        st.loops.foldl (fun d (s, v) => if s < 32 then d.setF (Obj.PR_LB_DELAY s) (F32.ofRatio v 8) else d) d
      else d
    if d.role = Role.stand then
      let data := st.seq.map fun (i, outs, s, status) =>
        (i, ({ outs := outs.map fun (ty, w) => { ty := ty, bits := w }, st := s, status := status } : SeqData))
      let d := if data.isEmpty then d else { d with seq := { d.seq with data := data } }
      d.followMode st.mode
    else d

/-- The boundary after the last frame a module sent that was ACTIVE: its outputs are held and its lanes loop back (R57, R329). -/
def endLeaving (d : Dev) : Dev :=
  if d.pair.leaving then ((d.setPair { d.pair with leaving := false }).fioDrive).pwmPins else d

/-- The pair's part of a cycle boundary. -/
def pairBoundary (st : Option PairStatus) (d : Dev) : Dev :=
  let d := d.endLeaving
  let d := match st with
    | some x => d.pairStatus x
    | none => d
  d.takeoverBoundary.cpAge.pairRefresh

/-- A STANDBY sends the frames of the strands in split service from its end, with the relayed commands and the active
module's epoch (R343). -/
def emitSplit (d : Dev) : Dev :=
  if d.role ≠ Role.stand then d
  else match d.pair.status with
    | none => d
    | some st => st.banks.foldl (fun d (s, bank) =>
        if s < 32 ∧ d.bit Obj.PR_SPLIT_STRANDS s ∧ d.on Obj.BW_INJECTING = false ∧ (d.lane s).idle = false then
          let f := d.makeFrame s true
          let h := Rodal.withHdrCrc (Rodal.setFld f.hdr 112 12 (d.getN Obj.PR_EPOCH_SEEN))
          let n := d.framePositions s
          let slots := (List.range n).map fun p =>
            Rodal.mkSlot (bank.getD p (Rodal.mkCommand p 0 0 0 0 false false)) (Rodal.emptyResponse p)
          d.sendLane s ({ f with hdr := h, slots := slots }.line false)
        else d) d

/-- The active module relays the banks of the strands in split service after each commit (R343). -/
def relayBanks (d : Dev) : Dev :=
  if d.role ≠ Role.active then d
  else upTo 32 (fun s d =>
    if d.bit Obj.PR_SPLIT_STRANDS s then d.send (.relay s ((d.strand s).next.getD (d.strand s).bank)) else d) d

/-! Frames heard (R331, R341, R342, R346). -/

/-- The mean loopback delay of a strand at the standby: one frame's delay is measured to 125 ps (a free value up to t_lb),
16 frames make a result. -/
def loopDelay (s : Nat) (d : Dev) : Dev :=
  let (v, d) := d.takeFree
  let x := (SMap.get (0, 0) (d.pair.loops.map fun (s, a, b) => (s, (a, b))) s)
  let sum := x.1 + v % 961
  let n := x.2 + 1
  let rest := d.pair.loops.filter (·.1 != s)
  if n = 16 then
    (d.setPair { d.pair with loops := rest }).setF (Obj.PR_LB_DELAY s) (F32.ofRatio ((sum + 8) / 16 : Nat) 8)
  else d.setPair { d.pair with loops := SMap.ins rest s (sum, n) }

/-- A valid frame heard on a strand lane in pair topology. -/
def pairHeard (s : Nat) (hdr : BitVec 128) (d : Dev) : Dev :=
  let e := Rodal.hEpoch hdr
  let partner := Rodal.hNode hdr = d.getN Obj.PR_PARTNER_NODE ∧ d.on Obj.PR_PARTNER_NODE
  let d := d.seeEpoch e
  if d.role = Role.stand then
    let d := if partner then d.setPair { d.pair with heard := d.runIndex } else d
    let d := d.loopDelay s
    match d.pair.dwell with
    | some w =>
      if partner ∧ epochNewer e w.epoch ∧ d.runIndex ≤ w.start + d.gapBound ∧ w.seen.testBit s = false then
        d.setPair { d.pair with dwell := some { w with seen := w.seen + 2 ^ s } }
      else d
    | none => d
  else if d.role = Role.active ∧ partner then
    let own := d.getN Obj.STR_EPOCH_TX
    if epochNewer e own ∧ d.mode ≠ Mode.config then
      let d := (d.inc Obj.PR_EPOCH_CONFLICTS).pairEvent 155 s
      d.leaveActive.raiseFault 155 2 0 s 0 false
    else if e = own then (d.inc Obj.PR_EPOCH_CONFLICTS).pairEvent 155 s
    else d
  else d

/-! Split service, revert and exercise (R343–R346). -/

/-- Whether a strand asks for split service (R343): frames return folded and a cell of it is missing. -/
def strandBroken (d : Dev) (s : Nat) : Bool :=
  (d.getN (Obj.STR_FOLD_A s) != 0xFF || d.getN (Obj.STR_FOLD_B s) != 0xFF)
    && (d.strandCells s).any fun n => d.cellState n != CellState.present

/-- SPLIT_SERVICE_START and SPLIT_SERVICE_END (R343): event 156. The active module starts it for a strand with a fold and
missing cells; the standby follows it, and ends it. -/
def devSplit (s : Nat) (v : Bool) (d : Dev) : Dev :=
  if d.bit Obj.PR_SPLIT_STRANDS s = v ∨ (v ∧ (d.getN Obj.PR_COUPLE ≠ Couple.formed ∨ d.role = Role.solo
      ∨ (d.role = Role.active ∧ d.strandBroken s = false))) then d
  else ((d.setBit Obj.PR_SPLIT_STRANDS s v).pairEvent 156 s).pairRefresh

/-- Put a HEALTH code that asks for something (R345, R346). -/
def askHealth (h : Nat) (d : Dev) : Dev := (d.setN Obj.PR_HEALTH h).send (.pins 1 h)

/-- REVERT_REQUEST (R345): a preferred standby that has been ready for `PR_REVERT_HOLDOFF` without a break. -/
def devRevert (d : Dev) : Dev :=
  if d.on Obj.PR_REVERT_ENABLE ∧ d.on Obj.PR_PREF ∧ d.role = Role.stand ∧ d.on Obj.PR_READY ∧ d.healthCode = 1
      ∧ d.waited d.pair.readyAt (d.getN Obj.PR_REVERT_HOLDOFF * secUnit) = true then
    (d.askHealth 2).pairEvent 157 (noSource 157)
  else d

/-- The first due time of an exercise after an instant (R346): start + j · period; 0 when off. -/
def exerciseAfter (d : Dev) (t : Nat) : Int :=
  let p := d.getN Obj.PR_EXERCISE_PERIOD * 86400 * secUnit
  let t0 := time96Units (d.get Obj.PR_EXERCISE_START)
  if p = 0 then 0 else if t < t0 then time96 t0 else time96 (t0 + ((t - t0) / p + 1) * p)

/-- The next due time after now. -/
def exerciseNext (d : Dev) : Int := d.exerciseAfter d.tm.now

/-- Whether the next exercise can be due: its instant is not beyond the cycle in progress. (DEDUCED: assumption log 67) -/
def exerciseDue (d : Dev) : Bool :=
  d.on Obj.PR_EXERCISE_PERIOD && decide (time96Units (d.get Obj.PR_EXERCISE_NEXT) ≤ d.tm.now + d.tc * nsUnit)

/-- EXERCISE_START (R346): due; it starts when the mode allows it and the partner is ready. The instants keep their grid. (DEDUCED:
assumption log 52) -/
def devExerciseStart (d : Dev) : Dev :=
  if d.exerciseDue = false then d
  else
    let d := d.set Obj.PR_EXERCISE_NEXT (d.exerciseAfter (max d.tm.now (time96Units (d.get Obj.PR_EXERCISE_NEXT))))
    let ready : Bool := match d.pair.status with
      | some st => st.ready && d.getN Obj.PR_COUPLE == Couple.formed
      | none => false
    if d.role = Role.active ∧ d.on Obj.PR_PREF ∧ 0 < d.mode ∧ d.bit Obj.PR_EXERCISE_MODES (d.mode - 1) ∧ ready
        ∧ d.healthCode = 1 then
      (d.setPair { d.pair with yielding := true, yieldAt := d.tm.mono }).askHealth 3
    else d

/-- EXERCISE_NOT_GRANTED (R346): ARB_ACT has not moved within 10 s. -/
def devExerciseNotGranted (d : Dev) : Dev :=
  if d.pair.yielding ∧ d.role = Role.active ∧ d.waited d.pair.yieldAt (10 * secUnit) = true then
    let d := d.setPair { d.pair with yielding := false }
    let d := if d.getN Obj.PR_HEALTH = 3 then d.askHealth 1 else d
    ((d.setN Obj.PR_EXERCISE_RESULT 2).pairEvent 158 (noSource 158)).healthRefresh
  else d

/-- The outcome of an exercise (R346), and the revert it asks for. -/
def exerciseOutcome (w : DwellSt) (gap : Nat) (d : Dev) : Dev :=
  let ok := decide (gap ≤ d.gapBound) && (List.range 32).all fun s => d.positions s == 0 || w.seen.testBit s
  let d := d.setPair { d.pair with dwell := none }
  let d := (d.setN Obj.PR_EXERCISE_RESULT (if ok then 1 else 3)).pairEvent 158 (noSource 158)
  let d := if ok then d else d.raiseFault 0x0105 2 0 (noSource 0x0105) 0 false
  if d.role = Role.stand ∧ d.on Obj.PR_READY ∧ d.healthCode = 1 then (d.askHealth 2).pairEvent 157 (noSource 157) else d

/-- EXERCISE_DWELL_END (R346): `PR_EXERCISE_DWELL` after the handover. -/
def devExerciseDwellEnd (gap : Nat) (d : Dev) : Dev :=
  match d.pair.dwell with
  | none => d
  | some w => if d.waited w.at_ (d.getN Obj.PR_EXERCISE_DWELL * secUnit) then d.exerciseOutcome w gap else d

/-! Objects of the pair (R334). -/

/-- The module-local objects, which are not mirrored and may be written at a STANDBY. -/
def moduleLocal (ix : Nat) : Bool :=
  decide (0x1000 ≤ ix ∧ ix ≤ 0x17FF) || decide (0x6400 ≤ ix ∧ ix ≤ 0x67FF) || decide (0x4830 ≤ ix ∧ ix ≤ 0x4833)
    || ix == 0x2012 || decide (0x2100 ≤ ix ∧ ix ≤ 0x213F)

end Dev

end Sys2Proof.Machine
end

