-- ==== Sys2Proof/Machine/Admission.lean ====
section
/-! DEFINITION. Admission (R18–R28): the terms of the cycle budget, the checks of Table 01-4, the results of R29 and the
refusals of R27. (DEDUCED: assumption log 56) -/

namespace Sys2Proof.Machine

open Sys2Proof

/-- The reasons of Table 01-4. -/
abbrev Reason.none : Nat := 0
abbrev Reason.cycleSum : Nat := 1
abbrev Reason.applyDelay : Nat := 2
abbrev Reason.join : Nat := 3
abbrev Reason.checkpoint : Nat := 4
abbrev Reason.gap : Nat := 5
abbrev Reason.repMemory : Nat := 6
abbrev Reason.tasks : Nat := 7
abbrev Reason.scan : Nat := 8
abbrev Reason.writeLoad : Nat := 9

/-- What an evaluation of the budget gives: the terms in ns, and the first failing check with its detail and slack. -/
structure Budget where
  tRet    : Nat
  tMeas   : Nat
  tLoop   : Nat
  tSort   : Nat
  tCommit : Nat
  total   : Nat
  slack   : Int
  dMin    : Nat
  dApp    : Nat
  crit    : Nat
  cutOk   : Bool
  reason  : Nat
  detail  : Nat
  margin  : Int
  deriving DecidableEq, Repr

/-- a / b, rounded up. -/
def ceilDiv (a b : Nat) : Nat := (a + b - 1) / b

/-- Word clocks of a frame on the line in ns with the declared spread, rounded up (t_ser, R21). -/
def tSer (spread n : Nat) : Nat := ceilDiv (Rodal.lineWords n * 512 * (1000000 + spread)) 100000000

/-- Fabric clocks with the declared spread, in ns rounded up. -/
def fabricNs (spread clocks : Nat) : Nat := ceilDiv (2 * clocks * (1000000 + spread)) 1000000

namespace Dev

/-- Whether a position's cell counts with its own values; `join` is the cell whose join is being admitted (R26). -/
def budgetKnown (d : Dev) (join : Option Nat) (n : Nat) : Bool :=
  let st := d.cellState n
  join == some n || !(st == CellState.empty || st == CellState.absent || st == CellState.joining)

/-- The declared hop latency of a position in ns; 64 ns when its cell is absent (R21, R26). -/
def budgetHop (d : Dev) (join : Option Nat) (n : Nat) : Nat := if d.budgetKnown join n then d.getN (Obj.CELL_HOP n) else 64

/-- A position delay that is known. -/
def delayOf (d : Dev) (join : Option Nat) (key : Nat → Nat) (n : Nat) : Option Int :=
  let v := d.getN (key n)
  if d.budgetKnown join n ∧ v ≠ 0xFFFFFFFF then some (v : Int) else none

/-- The measured length of segment p of a strand of `n` positions, in 125 ps: segment p ends at position p, segment n at
end B. -/
def segment (d : Dev) (join : Option Nat) (s n p : Nat) : Option Int :=
  let a := fun p => d.delayOf join (fun n => Obj.CELL_DELAY_A n) (cellNo s p)
  let b := fun p => d.delayOf join (fun n => Obj.CELL_DELAY_B n) (cellNo s p)
  if p = 0 then a 0
  else if p = n then b (n - 1)
  else match a p, a (p - 1) with
    | some x, some y => some (x - y - 8 * d.getN (Obj.CELL_HOP (cellNo s (p - 1))))
    | _, _ => match b (p - 1), b p with
      | some x, some y => some (x - y - 8 * d.getN (Obj.CELL_HOP (cellNo s p)))
      | _, _ => none

/-- The segments of a strand in 125 ps, unknown ones at the longest measured or 250 ns (R26). -/
def segments (d : Dev) (join : Option Nat) (s : Nat) : List Int :=
  let n := d.positions s
  let l := (List.range (if d.topology = 1 then n else n + 1)).map (d.segment join s n)
  let known := l.filterMap id
  let fill := match known with
    | [] => 2000
    | x :: r => r.foldl max x
  l.map fun x => x.getD fill

def intSum (l : List Int) : Int := l.foldl (· + ·) 0

/-- D_hop of a strand in ns, and D_fib in 125 ps (R21). -/
def dHop (d : Dev) (join : Option Nat) (s : Nat) : Nat := (d.strandCells s).foldl (fun t n => t + d.budgetHop join n) 0
def dFib (d : Dev) (join : Option Nat) (s : Nat) : Nat := (intSum (d.segments join s)).toNat

/-- t_path of a strand, or with `cut` its worst folded path, in ns rounded up (R21, R24). -/
def tPath (d : Dev) (join : Option Nat) (cut : Bool) (s : Nat) : Nat :=
  let once := 8 * d.dHop join s + d.dFib join s
  if d.topology = 0 ∧ cut = false then ceilDiv once 8
  else ceilDiv (2 * once + if d.topology = 2 then 960 else 0) 8

def spread (d : Dev) : Nat := d.getN Obj.CYC_SPREAD_PPM

/-- t_arr of a strand in ns. -/
def tArr (d : Dev) (join : Option Nat) (cut : Bool) (s : Nat) : Nat :=
  40 + tSer d.spread (d.positions s) + d.tPath join cut s + 60

/-- The strands with positions. -/
def usedStrands (d : Dev) : List Nat := (List.range d.strandCount).filter fun s => d.positions s != 0

/-- t_drain in ns (R21, R22). -/
def tDrain (d : Dev) : Nat :=
  let port := fun j => ((d.usedStrands.filter fun s => s % 8 == j).map fun s => d.positions s + 2).foldl (· + ·) 0
  fabricNs d.spread (listMax ((List.range 8).map port))

/-- The largest value of `f` over a list, with the lowest entry that has it. -/
def critOf (l : List Nat) (f : Nat → Nat) : Nat × Nat := l.foldl (fun (m, c) s => if m < f s then (f s, s) else (m, c)) (0, 0)

/-- The channels and paths the loop program reads: channel, fine. -/
def loopChannels (d : Dev) : List (Nat × Bool) :=
  d.leInsts.flatMap fun i => (d.leRefs i).filterMap fun r =>
    if r / 4096 = 2 then some (r % 4096, true) else if r / 4096 = 3 then some (r % 4096, false) else none

/-- t_meas in ns (R25, R180). -/
def tMeas (d : Dev) : Nat :=
  listMax (d.loopChannels.map fun (c, fine) => d.tAvail c fine) - d.getN Obj.CYC_SAMPLE_LEAD

/-- t_loop, t_sort and t_commit in ns (R21). -/
def tLoop (d : Dev) : Nat :=
  fabricNs d.spread (ceilDiv (max (d.armCount 0) (d.armCount 1)) 16 + d.getN Obj.LE_L_SCHED + 32)
def tSort (d : Dev) : Nat :=
  let f := fun a => if d.armCount a = 0 then 0 else ceilDiv (d.armCount a) 64 + d.getN (Obj.MOD_SORT_PASSES a)
  fabricNs d.spread (max (f 0) (f 1) + 48)
def tCommit (d : Dev) : Nat := fabricNs d.spread (listMax (d.usedStrands.map d.positions) + 24)

/-- The delay term of a strand in D_min, in ns · 8 (R18). -/
def applyTerm (d : Dev) (join : Option Nat) (s : Nat) : Nat :=
  8 * (40 + tSer d.spread (d.positions s) + d.dHop join s + 50) + d.dFib join s

/-- The scan's margin in ns: `SEQ_LOAD_MAX` · `SEQ_PERIOD` − C_scan (R27). -/
def scanMargin (d : Dev) (p : SeqProg) (period : Nat) : Int :=
  ((F32.val (d.getF Obj.SEQ_LOAD_MAX)).mul (FVal.ofInt (period * 1000000))).floor - d.cScan p

/-- The checks of R28 after R19, lowest code first: reason, detail, slack. -/
def otherChecks (d : Dev) : Option (Nat × Nat × Int) :=
  let active := d.topology = 2 ∧ d.role = Role.active
  let m := d.cpInterval * d.tc
  if active ∧ 23 * m < 16 * d.cpSize then
    some (Reason.checkpoint, d.cpSize, (m : Int) - ceilDiv (16 * d.cpSize) 23)
  else if active ∧ d.getN Obj.STR_HOLD_CYCLES ≤ d.gapBound then some (Reason.gap, d.gapBound, 0)
  else match d.repRefusal with
    | some c => some (Reason.repMemory, c, 0)
    | none => match d.tasksFail with
      | some t => some (Reason.tasks, t, 0)
      | none =>
        let p := d.seq.prog
        if d.getN Obj.SEQ_STATE = 2 ∧ d.scanFits (d.cScan p) (d.getN Obj.SEQ_PERIOD) = false then
          some (Reason.scan, p.insts.length, d.scanMargin p (d.getN Obj.SEQ_PERIOD))
        else none

/-- Evaluate the configuration (R18–R28); `join` names the cell of a hot join. -/
def budget (d : Dev) (join : Option Nat) : Budget :=
  let ss := d.usedStrands
  let (arr, crit) := critOf ss (d.tArr join false)
  let drain := d.tDrain
  let tRet := if ss.isEmpty then 0 else arr + drain
  let tMeas := d.tMeas
  let rest := d.tLoop + d.tSort + d.tCommit + d.getN Obj.CYC_MARGIN
  let total := max tRet tMeas + rest
  let slack : Int := (d.tc : Int) - total
  let (term, critA) := critOf ss (d.applyTerm join)
  let dMin := 10 * ceilDiv term 80
  let set := d.getN Obj.CYC_APPLY_DELAY_SET
  let dApp := if set = 0 then dMin else set
  let late := decide (d.tc < dApp + 100)
  let early := set != 0 && decide (set < dMin)
  let cutRet := (critOf ss (d.tArr join true)).1 + drain
  let cutOk := d.topology != 0 || ss.isEmpty
    || (decide (max cutRet tMeas + rest ≤ d.tc) && !late && !early)
  let (reason, detail, margin) : Nat × Nat × Int :=
    if d.tc < total then (Reason.cycleSum, crit, slack)
    else if late then (Reason.applyDelay, critA, (d.tc : Int) - 100 - dApp)
    else if early then (Reason.applyDelay, critA, (set : Int) - dMin)
    else (d.otherChecks).getD (Reason.none, 0xFFFFFFFF, 0)
  { tRet := tRet, tMeas := tMeas, tLoop := d.tLoop, tSort := d.tSort, tCommit := d.tCommit, total := total, slack := slack,
    dMin := dMin, dApp := dApp, crit := crit, cutOk := cutOk, reason := reason, detail := detail, margin := margin }

/-- t_in in force (R19, R25). -/
def tIn (d : Dev) : Nat := max (d.getN Obj.CYC_T_RET) (d.getN Obj.CYC_T_MEAS)

/-- Whether split service fits (R344). -/
def breakOk (d : Dev) : Bool :=
  let ss := d.usedStrands
  let pl8 : Int := 1200 + (F32.val (F32.mul (d.getF Obj.PR_LINK_DELAY) (F32.ofInt 8))).nearest
  let far := fun s =>
    let seg0 := (d.segments none s).headD 0
    (8 * (100 + tSer d.spread (d.positions s) + 2 * d.dHop none s) + 2 * ((d.dFib none s : Int) - seg0) + pl8).toNat
  let tRet := ceilDiv (critOf ss far).1 8 + d.tDrain
  let work := max tRet d.tMeas + d.tLoop + d.tSort + d.tCommit
  let nMax := listMax (ss.map d.positions)
  d.topology == 2 && decide (work + d.getN Obj.CYC_MARGIN ≤ d.tc)
    && decide ((8 * work : Int) + pl8 + ceilDiv ((6 * nMax + 32) * 8 * 16) 23 ≤ 8 * d.tc)

/-- Report an evaluation of the configuration (R29), and the pair's sizes (R332, R333, R344). -/
def publish (b : Budget) (d : Dev) : Dev :=
  let d := (d.setN Obj.CYC_ADMIT_STATE (if b.reason = 0 then 1 else 2)).setN Obj.CYC_ADMIT_REASON b.reason
  let d := (d.setN Obj.CYC_ADMIT_DETAIL b.detail).setN Obj.CYC_T_RET b.tRet
  let d := (d.setN Obj.CYC_T_MEAS b.tMeas).setN Obj.CYC_T_LOOP b.tLoop
  let d := (d.setN Obj.CYC_T_SORT b.tSort).setN Obj.CYC_T_COMMIT b.tCommit
  let d := (d.setN Obj.CYC_T_TOTAL b.total).set Obj.CYC_SLACK b.slack
  let d := (d.setN Obj.CYC_APPLY_DELAY b.dApp).setB Obj.CYC_RING_CUT_OK b.cutOk
  let d := (d.setN Obj.CYC_CRIT_STRAND b.crit).setN Obj.BW_GUARD_BOUND (d.guardBound (max b.tRet b.tMeas))
  if d.topology = 2 then
    ((d.setN Obj.PR_CP_SIZE d.cpSize).setN Obj.PR_GAP_BOUND d.gapBound).setB Obj.PR_BREAK_OK d.breakOk
  else d

/-- Record a refusal (R27). -/
def noteRefusal (reason detail : Nat) (slack : Int) (d : Dev) : Dev :=
  ((d.setN Obj.CYC_LAST_REFUSAL reason).setN Obj.CYC_LAST_REFUSAL_DETAIL detail).set Obj.CYC_LAST_REFUSAL_SLACK slack

/-- Publish an admission, and keep what it budgets at each position (R26). -/
def admitted (join : Option Nat) (b : Budget) (d : Dev) : Dev :=
  upTo 32 (fun s d =>
    let l := (d.strandCells s).zip (d.segments join s)
    d.setStrand s { d.strand s with budget := l.map fun x => (!d.budgetKnown join x.1, d.budgetHop join x.1, x.2) }) (d.publish b)

/-- Admit the whole configuration at a request to leave CONFIG (R26): true when it passes. -/
def admitConfig (d : Dev) : Bool × Dev :=
  let b := d.budget none
  let d := d.admitted none b
  if b.reason = 0 then (true, d) else (false, d.noteRefusal b.reason b.detail b.margin)

/-- Whether a joining cell lies within what the admission in force assumes of its position (R26): its hop latency, and its
measured segment, or its position delay where the segment is not measurable on its own. An admission that ran with the cell
in use assumes nothing of it. (DEDUCED: assumption log 78) -/
def joinWithin (d : Dev) (n : Nat) : Bool :=
  let s := n / 64
  let p := n % 64
  let l := (d.strand s).budget
  let at_ := l.getD p (true, 64, 2000)
  let hopOk := decide (d.getN (Obj.CELL_HOP n) ≤ at_.2.1)
  let segOk := match d.segment (some n) s (d.positions s) p with
    | some x => decide (x ≤ at_.2.2)
    | none =>
      let bound := intSum ((l.take (p + 1)).map (·.2.2)) + 8 * intSum ((l.take p).map fun x => (x.2.1 : Int))
      decide ((d.getN (Obj.CELL_DELAY_A n) : Int) ≤ bound)
  at_.1 && hopOk && segOk

/-- The admission of a hot join (R26): without re-admission inside the assumptions, else with the measured values. -/
def admitJoin (n : Nat) (d : Dev) : Bool × Dev :=
  if d.joinWithin n then (true, d)
  else
    let b := d.budget (some n)
    if b.reason = 0 then (true, d.admitted (some n) b) else (false, d.noteRefusal Reason.join n b.margin)

end Dev

end Sys2Proof.Machine
end

