-- ==== Sys2Proof/Machine/Join.lean ====
section
/-! DEFINITION. Mailbox transactions (R72), enumeration (R89, R90), joins (R93), the upkeep of the position delays (R82), and
the reception of a strand frame (R47–R49, R56, R88). -/

namespace Sys2Proof.Machine

open Sys2Proof

/-- The two unknown delays. -/
abbrev noDelay : Nat := 0xFFFFFFFF

/-- A signed 32-bit number. -/
def int32 (v : Nat) : Int := (BitVec.ofNat 32 v).toInt

/-- The data of a write of CFG_DELAY (Table 03-10). -/
def delayWord (a b : Nat) : Nat := a * 2 ^ 32 + b

namespace Dev

/-! Transactions. -/

/-- Whether an operation to a position travels in the end-B copy of a ring (R72). -/
def throughB (d : Dev) (s p : Nat) : Bool := d.topology == 0 && !(d.cell (cellNo s p)).fromA

/-- Begin a transaction: one send and three repetitions at most. -/
def beginTxn (s : Nat) (kind : TxnKind) (p op addr data : Nat) (d : Dev) : Dev :=
  let st := d.strand s
  d.setStrand s
    { st with tag := (st.tag + 1) % 256
              txn := some { kind := kind, pos := p % 64, op := op, addr := addr, data := data, tag := (st.tag + 1) % 256,
                            left := 4, viaB := false, sent := false } }

def endTxn (s : Nat) (d : Dev) : Dev := d.setStrand s { d.strand s with txn := none }

def setEnum (s : Nat) (e : EnumStep) (d : Dev) : Dev := d.setStrand s { d.strand s with enum := e }
def setJoin (s : Nat) (j : Option (Nat × JoinStep)) (d : Dev) : Dev := d.setStrand s { d.strand s with join := j }

/-- Keep the delays of a position until they are written; those written or given up leave the list. -/
def keepDelays (s p a b : Nat) (d : Dev) : Dev :=
  let st := d.strand s
  d.setStrand s { st with delays := st.delays.filter (·.1 != p) ++ [(p, a, b)] }
def dropDelays (s p : Nat) (d : Dev) : Dev :=
  let st := d.strand s
  d.setStrand s { st with delays := st.delays.filter (·.1 != p) }

/-- The delays kept for a position. -/
def keptDelays (d : Dev) (s p : Nat) : Nat × Nat :=
  match (d.strand s).delays.find? (·.1 = p) with
  | some (_, a, b) => (a, b)
  | none => (noDelay, noDelay)

/-- The delays R81 and R342 give a position for the LOOP_INTERVAL read. -/
def delaysFor (d : Dev) (s p data : Nat) : Nat × Nat :=
  d.positionDelays s (d.getN (Obj.STR_ROUND_TRIP s)) (int32 (data / 2 ^ 32)) (d.getN (Obj.CELL_HOP (cellNo s p)))

/-- The write of CFG_DELAY to a position. -/
def beginDelay (s : Nat) (kind : TxnKind) (p : Nat) (d : Dev) : Dev :=
  let (a, b) := d.keptDelays s p
  d.beginTxn s kind p 2 0x11 (delayWord a b)

/-! Enumeration (R89, R90). -/

/-- The cells steps 2 to 5 serve: those found below N_s. -/
def foundIn (d : Dev) (s : Nat) : Nat := min (d.getN (Obj.STR_FOUND s)) (d.positions s)

/-- Note why a cell is not admitted; the first reason stands. -/
def refuseCell (n code : Nat) (d : Dev) : Dev :=
  if code = 0 ∨ d.on (Obj.CELL_REFUSAL n) then d else d.setN (Obj.CELL_REFUSAL n) code

/-- The step after one of steps 2 to 5. -/
def enumAfter (m : Nat) : EnumStep → EnumStep
  | .caps p i => if i < 2 then .caps p (i + 1) else if p + 1 < m then .caps (p + 1) 0 else .cfgPos 0
  | .cfgPos p => if p + 1 < m then .cfgPos (p + 1) else .wait
  | .loopInt p => if p + 1 < m then .loopInt (p + 1) else .cfgDelay 0
  | .cfgDelay p => if p + 1 < m then .cfgDelay (p + 1) else .done
  | e => e

/-- STR_ENUM_CMD takes effect: every strand with positions is enumerated. (DEDUCED: assumption log 26) -/
def startEnum (d : Dev) : Dev :=
  let d := { d with cyc := { d.cyc with enumOk := false } }
  let d := upTo 32 (fun s d =>
    let st := d.strand s
    let go := decide (s < d.strandCount) && d.positions s != 0
    let d := d.setStrand s { st with enum := if go then .assign 0 else .idle, txn := none, delays := [] }
    if go then
      (d.strandCells s).foldl (fun d n => d.set (Obj.CELL_REFUSAL n) 0) (d.set (Obj.STR_FOUND s) 0)
    else d) d
  d.setN Obj.STR_ENUM_STATE 1

/-- An enumeration transaction of a strand ends; `ok` says that a valid answer came. An ASSIGN whose frame did not return valid
in all its sends ends step 1 as one answered with NONE does. (DEDUCED: assumption log 26) -/
def enumAnswer (s : Nat) (t : Txn) (ok : Bool) (data : Nat) (d : Dev) : Dev :=
  let p := t.pos
  let n := cellNo s p
  let m := d.foundIn s
  match (d.strand s).enum with
  | .assign q =>
    if ok ∧ q < 64 then
      let d := (d.setN (Obj.STR_FOUND s) (q + 1)).setEnum s (.assign (q + 1))
      if q < d.positions s then d.setN (Obj.CELL_UID n) data else d
    else if 0 < m then d.setEnum s (.caps 0 0)
    else d.setEnum s .done
  | e =>
    let d := if ok then
        match t.kind with
        | .readCap 0 _ => (d.storeCap0 n data).refuseCell n (cap0Refusal data (d.getN (Obj.CELL_EXPECT_TYPE n)))
        | .readCap 1 _ => (d.storeCap1 n data).refuseCell n (cap1Refusal data)
        | .readLoop _ => let (a, b) := d.delaysFor s p data; d.keepDelays s p a b
        | .writeDelay _ => let (a, b) := d.keptDelays s p; (d.storeDelays n a b).dropDelays s p
        | _ => d
      else d.refuseCell n 7
    d.setEnum s (enumAfter m e)

/-- Whether step 4 may start: the round trip is averaged, and the frame is at least the sixteenth after the last ASSIGN
(`sinceAssign` counts the frames between the two). (DEDUCED: assumption log 26) -/
def enumReady (d : Dev) (s : Nat) : Bool :=
  let st := d.strand s
  decide (16 ≤ max st.pathFrames st.pathFramesB) && decide (15 ≤ st.sinceAssign) && d.on (Obj.STR_ROUND_TRIP s)

/-- Whether every strand has ended its enumeration. -/
def enumEnded (d : Dev) : Bool :=
  (List.range 32).all fun s => (d.strand s).enum = EnumStep.idle ∨ (d.strand s).enum = EnumStep.done

/-- The strands on which cells were found beyond N_s. (DEDUCED: assumption log 26) -/
def enumBeyond (d : Dev) : Bool :=
  (List.range d.strandCount).any fun s => d.positions s != 0 && decide (d.positions s < d.getN (Obj.STR_FOUND s))

/-- The ABSENT positions of an arm group. -/
def absentCount (d : Dev) (a : Nat) : Nat := ((d.armCells a).filter fun n => d.cellState n == CellState.absent).length

/-- The result of one configured position (R90). -/
def enumResult (s p : Nat) (d : Dev) : Dev :=
  let n := cellNo s p
  let good := decide (p < d.getN (Obj.STR_FOUND s)) && !(d.on (Obj.CELL_REFUSAL n))
  let c := d.cell n
  let d := d.setCell n { c with want := false, seen := true, joinClear := false }
  d.setCellState n (if good then presentState c.rx else CellState.absent)

/-- ENUMERATION_COMPLETE (R90): once every strand has ended. -/
def devEnumComplete (d : Dev) : Dev :=
  if d.getN Obj.STR_ENUM_STATE ≠ 1 ∨ d.enumEnded = false then d
  else
    let d := upTo d.strandCount (fun s d => (upTo (d.positions s) (enumResult s) d).setEnum s .idle) d
    let absent := (List.range d.strandCount).any fun s =>
      (d.strandCells s).any fun n => d.cellState n == CellState.absent
    let d := d.setN Obj.STR_ENUM_STATE (if d.enumBeyond ∨ absent then 3 else 2)
    { d with cyc := { d.cyc with enumOk := true } }

/-- Whether R90 lets the module leave CONFIG. (DEDUCED: assumption log 26) -/
def enumAllows (d : Dev) : Bool :=
  d.cyc.enumOk && !d.enumBeyond
    && (List.range 2).all fun a => decide (d.absentCount a ≤ d.getN (Obj.MOD_N_RED a))

/-- A strand object has changed (R90): positions no longer configured become EMPTY. -/
def strandObjectChanged (d : Dev) : Dev :=
  let d := { d with cyc := { d.cyc with enumOk := false } }
  upTo 32 (fun s d =>
    upTo 64 (fun p d =>
      let n := cellNo s p
      if (decide (s < d.strandCount) && decide (p < d.positions s)) || d.cellState n == CellState.empty then d
      else (d.setCellState n CellState.empty).setCell n CellSt.init) d) d

/-! Joins (R93). -/

/-- A join begins: the cell is JOINING, and waits for its turn at the mailbox. (DEDUCED: assumption log 27) -/
def startJoin (s p : Nat) (d : Dev) : Dev :=
  let n := cellNo s p
  let d := (d.set (Obj.CELL_REFUSAL n) 0).setCell n
    { d.cell n with want := false, joinClear := false, turn := some .readUid, joinAt := (d.strand s).joinFrames }
  d.setCellState n CellState.joining

/-- The mailbox takes up the join of the first cell that waits for its turn. (DEDUCED: assumption log 27) -/
def nextJoin (s : Nat) (d : Dev) : Dev :=
  if (d.strand s).join.isSome then d
  else match (d.strandCells s).find? fun n =>
      d.cellState n == CellState.joining && (d.cell n).turn.isSome && (d.cell n).turn != some .waitManual with
    | some n => (d.setJoin s ((d.cell n).turn.map fun t => (n % 64, t))).setCell n { d.cell n with turn := none }
    | none => d

/-- A join that fails: ABSENT, counted, with its reason. -/
def failJoin (s p code : Nat) (d : Dev) : Dev :=
  let n := cellNo s p
  let d := (d.setN (Obj.CELL_REFUSAL n) code).inc (Obj.STR_JOIN_REFUSED s)
  let d := d.setCell n { d.cell n with joinClear := false, clear := false, turn := none }
  let d := match (d.strand s).join with
    | some (q, _) => if q = p then (d.setJoin s none).dropDelays s p else d
    | none => d
  d.setCellState n CellState.absent

/-- Steps 1 to 4 of a join, as each transaction ends: one that is answered other than OK, or not at all, fails the join with
NO_ANSWER. (DEDUCED: assumption log 27) -/
def joinAnswer (s : Nat) (t : Txn) (ok : Bool) (data : Nat) (d : Dev) : Dev :=
  let p := t.pos
  let n := cellNo s p
  if ok = false then d.failJoin s p 7
  else match t.kind with
    | .readUid =>
      let policy := d.getN Obj.STR_JOIN_POLICY
      if policy = 1 ∧ d.on (Obj.CELL_UID n) ∧ d.getN (Obj.CELL_UID n) ≠ data then d.failJoin s p 5
      else
        let d := d.setN (Obj.CELL_UID n) data
        if policy = 2 then (d.setJoin s none).setCell n { d.cell n with turn := some .waitManual }
        else d.setJoin s (some (p, .caps 0))
    | .readCap 0 _ =>
      let r := cap0Refusal data (d.getN (Obj.CELL_EXPECT_TYPE n))
      let d := d.storeCap0 n data
      if r ≠ 0 then d.failJoin s p r else d.setJoin s (some (p, .caps 1))
    | .readCap 1 _ =>
      let r := cap1Refusal data
      let d := d.storeCap1 n data
      if r ≠ 0 then d.failJoin s p r else d.setJoin s (some (p, .caps 2))
    | .readCap _ _ => d.setJoin s (some (p, .cfgPos))
    | .writePos _ => d.setJoin s (some (p, .settle))
    | .readLoop _ =>
      let (a, b) := d.delaysFor s p data
      (d.keepDelays s p a b).setJoin s (some (p, .cfgDelay))
    | .writeDelay _ =>
      let (a, b) := d.keptDelays s p
      let d := (d.storeDelays n a b).dropDelays s p
      let (fits, d) := d.admitJoin n
      if fits then (d.setJoin s none).setCell n { d.cell n with joinClear := true, clear := true }
      else d.failJoin s p 6
    | _ => d

/-- CELL_JOIN takes effect: a join that waits under MANUAL goes on, in its turn. -/
def permitJoin (n : Nat) (d : Dev) : Dev :=
  if (d.cell n).turn = some .waitManual then (d.setCell n { d.cell n with turn := some (.caps 0) }).nextJoin (n / 64) else d

/-- JOIN_PROBE (R93): a probe is due on a strand with an ABSENT position. -/
def devJoinProbe (s : Nat) (d : Dev) : Dev :=
  if d.mode = Mode.boot ∨ d.mode = Mode.config then d
  else if (d.strandCells s).any fun n => d.cellState n == CellState.absent then
    d.setStrand s { d.strand s with probeDue := true }
  else d

/-- The ABSENT position the next probe goes to, in turn. -/
def probeTarget (d : Dev) (s : Nat) : Option Nat :=
  let m := d.positions s
  let q := (d.strand s).probeNext
  ((List.range m).map fun i => (q + i) % m).find? fun p => d.cellState (cellNo s p) == CellState.absent

/-- Begin the joins detected by presence, and end those whose cell answers with FAULT = 0 (R93). Every detected cell is
JOINING; the mailbox serves one join of a strand at a time. (DEDUCED: assumption log 27) -/
def judgeJoins (s : Nat) (d : Dev) : Dev :=
  let d := (d.strandCells s).foldl (fun d n =>
    let c := d.cell n
    if d.cellState n = CellState.joining ∧ c.joinClear then
      if c.present = false then d.failJoin s (n % 64) 7
      else if c.clear = false ∧ c.rx.fault = 0 then
        ((d.setCell n { c with joinClear := false }).inc (Obj.STR_JOINS s)).setCellState n
          (presentState c.rx)
      else d
    else d) d
  if d.mode = Mode.boot ∨ d.mode = Mode.config then d
  else
    let d := (d.strandCells s).foldl (fun d n =>
      if (d.cell n).want ∧ d.cellState n = CellState.absent then d.startJoin s (n % 64) else d) d
    d.nextJoin s

/-! The position delays in service (R82). -/

/-- A LOOP_INTERVAL read in service: recompute the delays; a difference of 0.25 ns is written, one above 3 ns is reported. -/
def delayCheck (s p data : Nat) (d : Dev) : Dev :=
  let n := cellNo s p
  if d.mode = Mode.boot ∨ d.mode = Mode.config ∨ inUse (d.cellState n) = false
      ∨ max (d.strand s).pathFrames (d.strand s).pathFramesB ≤ 16
      ∨ d.on (Obj.STR_ROUND_TRIP s) = false then d
  else
    let (a, b) := d.delaysFor s p data
    let a0 := d.getN (Obj.CELL_DELAY_A n)
    let b0 := d.getN (Obj.CELL_DELAY_B n)
    let gap := fun x y : Nat => ((x : Int) - y).natAbs
    let known := fun x y : Nat => x ≠ noDelay ∧ y ≠ noDelay
    let d := if 2 ≤ gap a a0 ∨ 2 ≤ gap b b0 then d.keepDelays s p a b else d
    if (known a a0 ∧ 24 < gap a a0) ∨ (known b b0 ∧ 24 < gap b b0) then
      (d.signal s (0x1000 + n)).storeRec s 1 0 (0x1000 + n) 0 false
    else d

/-! The software transaction (R72). -/

/-- `STR_MBX_ANS`: position, RESULT, DATA and the cycle of the frame, packed in this order and padded with zeros. -/
def mbxAnswer (s p result data : Nat) (d : Dev) : Dev :=
  d.setBlob (Obj.STR_MBX_ANS s)
    ([BitVec.ofNat 8 p, BitVec.ofNat 8 result] ++ bytesLE 8 data ++ bytesLE 4 (d.getN Obj.CYC_INDEX) ++ [0#8, 0#8])

/-- STR_MBX_REQ takes effect: bytes p, OP, ADDR and DATA in this order. -/
def softRequest (s : Nat) (b : List Byte) (d : Dev) : Dev :=
  let at_ := fun i => (b.getD i 0#8).toNat
  d.setStrand s { d.strand s with software := some (at_ 0 % 64, at_ 1 % 16, at_ 2, natLE ((b.drop 3).take 8)) }

/-- Whether a software transaction is outstanding on a strand. -/
def softBusy (d : Dev) (s : Nat) : Bool :=
  (d.strand s).software.isSome
    || match (d.strand s).txn with
      | some t => decide (t.kind = .software)
      | none => false

/-! One transaction per cycle (R72). -/

/-- A transaction ends with the RESULT and DATA of its answer; `got` is false when the repetitions are exhausted. (DEDUCED:
assumption log 25) -/
def finishTxn (s : Nat) (t : Txn) (got : Bool) (result data : Nat) (d : Dev) : Dev :=
  let d := d.endTxn s
  let ok := got && result == 1
  match t.kind with
  | .enumAssign => d.enumAnswer s t ok data
  | .readCap _ false | .writePos false | .readLoop false | .writeDelay false => d.enumAnswer s t ok data
  | .readUid | .readCap _ true | .writePos true | .readLoop true | .writeDelay true => d.joinAnswer s t ok data
  | .probe => if ok ∧ d.cellState (cellNo s t.pos) = CellState.absent then d.startJoin s t.pos else d
  | .software => d.mbxAnswer s t.pos (if got then result else 0) data
  | .loopInterval => if ok then d.delayCheck s t.pos data else d
  | .delayUpdate =>
    let (a, b) := d.keptDelays s t.pos
    let d := d.dropDelays s t.pos
    if ok then d.storeDelays (cellNo s t.pos) a b else d

/-- The transaction of the strand's enumeration, if it has one now. (DEDUCED: assumption log 25) -/
def enumTxn (s : Nat) (d : Dev) : Dev :=
  match (d.strand s).enum with
  | .assign p => d.beginTxn s .enumAssign p 3 0 0
  | .caps p i => d.beginTxn s (.readCap i false) p 1 (1 + i) 0
  | .cfgPos p => d.beginTxn s (.writePos false) p 2 0x10 (d.cfgPosWord s p)
  | .wait => if d.enumReady s then (d.setEnum s (.loopInt 0)).beginTxn s (.readLoop false) 0 1 0x20 0 else d
  | .loopInt p => d.beginTxn s (.readLoop false) p 1 0x20 0
  | .cfgDelay p => d.beginDelay s (.writeDelay false) p
  | _ => d

/-- The transaction of the strand's join or probe, if it has one now. -/
def joinTxn (s : Nat) (d : Dev) : Dev :=
  let st := d.strand s
  match st.join with
  | some (p, .readUid) => d.beginTxn s .readUid p 1 0 0
  | some (p, .caps i) => d.beginTxn s (.readCap i true) p 1 (1 + i) 0
  | some (p, .cfgPos) => d.beginTxn s (.writePos true) p 2 0x10 (d.cfgPosWord s p)
  | some (p, .settle) =>
    if (d.cell (cellNo s p)).joinAt + 15 ≤ st.joinFrames then (d.setJoin s (some (p, .loopInt))).beginTxn s (.readLoop true) p 1 0x20 0 else d
  | some (p, .loopInt) => d.beginTxn s (.readLoop true) p 1 0x20 0
  | some (p, .cfgDelay) => d.beginDelay s (.writeDelay true) p
  | some _ => d
  | none =>
    if st.probeDue then
      let d := d.setStrand s { st with probeDue := false }
      match d.probeTarget s with
      | some p => (d.setStrand s { d.strand s with probeNext := (p + 1) % 64 }).beginTxn s .probe p 3 0 0
      | none => d
    else d

/-- The software transaction, then a write of CFG_DELAY that is due (R82; R72 gives it no rank), else the READ of LOOP_INTERVAL
at k mod N_s; the cell of a join under way gets NOP (R93). (DESIGN CHOICE: assumption log 81) -/
def plainTxn (s : Nat) (d : Dev) : Dev :=
  let st := d.strand s
  match st.software with
  | some (p, op, addr, data) =>
    (d.setStrand s { st with software := none }).beginTxn s .software p op addr data
  | none =>
    match st.delays.find? fun x => inUse (d.cellState (cellNo s x.1)) with
    | some (p, _, _) => d.beginDelay s .delayUpdate p
    | none =>
      let p := d.getN Obj.CYC_INDEX % d.positions s
      if d.cellState (cellNo s p) = CellState.joining then d else d.beginTxn s .loopInterval p 1 0x20 0

/-- Choose the transaction of the next frame of a strand. -/
def chooseTxn (s : Nat) (d : Dev) : Dev :=
  if (d.strand s).txn.isSome then d
  else if d.mode = Mode.config ∧ (d.strand s).enum ≠ .idle ∧ (d.strand s).enum ≠ .done then d.enumTxn s
  else
    let d := if d.mode = Mode.config then d else d.joinTxn s
    if (d.strand s).txn.isSome then d else d.plainTxn s

/-- The mailbox of a strand at a boundary, before its frame is sent: a transaction whose frame did not return valid is
repeated or given up, and the next is chosen (R72). -/
def mailboxBoundary (s : Nat) (d : Dev) : Dev :=
  if d.positions s = 0 then
    match (d.strand s).software with
    | some (p, _, _, _) => (d.setStrand s { d.strand s with software := none }).mbxAnswer s p 0 0
    | none => d
  else if d.mode = Mode.boot ∨ d.loopsBack then d
  else
    let d := match (d.strand s).txn with
      | some t => if t.left = 0 then d.finishTxn s t false 0 0 else d
      | none => d
    let d := d.chooseTxn s
    let st := d.strand s
    let st := { st with sinceAssign := min 1000 (st.sinceAssign + 1), joinFrames := st.joinFrames + 1 }
    match st.txn with
    | some t =>
      let viaB := decide (t.kind ≠ .enumAssign) && d.throughB s t.pos
      let st := { st with txn := some { t with left := t.left - 1, viaB := viaB, sent := true } }
      d.setStrand s (if t.kind = .enumAssign then { st with sinceAssign := 0 } else st)
    | none => d.setStrand s st

/-- The mailbox of every strand at a boundary. -/
def mailboxes (d : Dev) : Dev := upTo d.strandCount mailboxBoundary d

/-- A change of mode ends the transactions and joins under way: a cell in a join is ABSENT again. -/
def strandsModeChanged (old : Nat) (d : Dev) : Dev :=
  if d.mode = Mode.config ∨ old = Mode.config then
    upTo 32 (fun s d =>
      let d := (d.strandCells s).foldl (fun d n =>
        if d.cellState n = CellState.joining then
          (d.setCell n { d.cell n with joinClear := false, clear := false, turn := none }).setCellState n CellState.absent
        else d) d
      d.setStrand s { d.strand s with txn := none, join := none, delays := [], probeDue := false, enum := .idle,
                                      bank := [], next := none }) d
  else d

/-! Reception (R47–R49, R56, R88). -/

/-- The elastic buffer of the loopback (R56): between two frames the clocks move its fill by at most a word; an idle word is
inserted or deleted to keep it between 2 and 6. -/
def loopWords (l : Nat) (ws : List Word) (d : Dev) : Dev :=
  let (v, d) := d.takeFree
  let x := d.lane l
  let fill := if v % 3 = 1 then x.lbFill + 1 else if v % 3 = 2 then x.lbFill - 1 else x.lbFill
  let held := max 2 (min 6 fill)
  let d := d.setLane l { x with lbFill := held }
  let d := if held = fill then d else d.inc (Obj.LANE_LB_SLIPS l)
  if d.on Obj.BW_INJECTING ∨ x.idle ∨ d.bit Obj.PR_SPLIT_STRANDS (d.laneStrand l) then d else d.sendLane l ws

/-- The standby keeps its cell table current from the commands too (R331). -/
def heardCommands (s : Nat) (f : Rodal.Frame) (d : Dev) : Dev :=
  upTo (min f.slots.length (d.positions s)) (fun p d =>
    let n := cellNo s p
    let c := Rodal.slotCmd (f.slots.getD p 0#128)
    if Rodal.cmdCrc p c = Rodal.cCrc c then
      let x := d.cell n
      let d := d.setCell n { x with prior := endSigma x.prevCmd x.prior, prevCmd := x.cmd, cmd := c }
      (d.settledOf [(n, c)]).foldl (fun d y => d.setCell y.1 { d.cell y.1 with settled := y.2 }) d
    else d) d

/-- The answer in the mailbox of a returned frame (R72): a RESULT whose ANS_CRC fails is not received. (DEDUCED: assumption log
25) -/
def mailboxAnswer (s : Nat) (f : Rodal.Frame) (d : Dev) : Dev :=
  match (d.strand s).txn with
  | some t =>
    let m := f.mbx
    let r := Rodal.mResult m
    if t.sent ∧ (d.topology ≠ 0 ∨ t.viaB = Rodal.hRotB f.hdr) ∧ (r = 0 ∨ Rodal.ansCrc m = Rodal.mAnsCrc m) then
      d.finishTxn s t true r (Rodal.mData m)
    else d
  | none => d

/-- The slots of a frame the standby relays in split service are drained at the active module (R343). -/
def relayedSlots (s : Nat) (f : Rodal.Frame) (d : Dev) : Dev :=
  upTo (min f.slots.length (d.positions s)) (fun p d => d.takeSlot s p true (f.slots.getD p 0#128)) d

/-- A valid frame on an ALIGNED lane: duplicates and late frames are discarded (R25, R88), any other is drained. (DEDUCED:
assumption log 22) -/
def goodFrame (s l : Nat) (f : Rodal.Frame) (arrival : Nat) (d : Dev) : Dev :=
  let own := Rodal.hNode f.hdr = d.getN Obj.HOST_NODE_ID
  let split := d.topology = 2 ∧ d.bit Obj.PR_SPLIT_STRANDS s
  let now := Rodal.hCycle f.hdr = d.getN Obj.CYC_INDEX
  let late := (d.mode ≠ Mode.config ∧ d.cyc.tin) ∨ ¬ now
  if split ∧ d.role = Role.stand ∧ own then d.send (.slots s f.slots)
  else if split ∧ d.role = Role.active ∧ ¬ own then (if late then d else d.relayedSlots s f)
  else if (d.lane l).gotCycle = some (Rodal.hCycle f.hdr) then d.inc (Obj.STR_DUP_FRAMES s)
  else if d.loopsBack then (d.drainFrame s l f arrival).heardCommands s f
  else if d.topology = 2 ∧ ¬ own then d
  else if late then (if d.mode = Mode.config then d else d.inc Obj.CYC_LATE_FRAMES)
  else (d.drainFrame s l f arrival).mailboxAnswer s f

/-- Frames of the partner are heard in pair topology. (DEDUCED: assumption log 22, DEDUCED: assumption log 54) -/
def hear (s : Nat) (h : BitVec 128) (d : Dev) : Dev := if d.topology = 2 then d.pairHeard s h else d

/-- The words of a cycle at an ALIGNED lane (R44, R47, R48, R59, R74): whatever the lane serves and sends, its frame is checked
and its errors are counted; its data reach a strand only from a lane that serves it. The block pattern delivers nothing. -/
def alignedFrame (l : Nat) (ws : List Word) (arrival : Nat) (d : Dev) : Dev :=
  let s := d.laneStrand l
  if Rodal.threeOf Rodal.blockWord ws then d.setLane l { d.lane l with blocked := true }
  else
    let n := d.framePositions s
    let d := if (Rodal.header? ws).isSome then d.setLane l { d.lane l with synced := true } else d
    let fails := fun (k : Nat) (f : Rodal.Frame) (d : Dev) =>
      let d := (d.inc k).fillFifo l (Rodal.bitsTaken n ws)
      if d.serves l then d.countSlots s (f.slots.take (Rodal.slotsTaken n ws)) else d
    match Rodal.deframe n ws with
    | .noSync => d
    | .hdrErr f _ => fails (Obj.LANE_HDR_ERR l) f d
    | .stuffErr f _ => fails (Obj.LANE_STUFF_ERR l) f d
    | .crcErr f =>
      let d := fails (Obj.LANE_CRC_ERR l) f d
      if d.serves l then d.hear s f.hdr else d
    | .good f =>
      let d := d.fillFifo l (Rodal.bitsTaken n ws)
      if d.serves l then (d.hear s f.hdr).goodFrame s l f arrival else d

/-- STRAND_FRAME_RECEIVED (R48, R49, R56): what the words received on a lane do. In TRAINING mode each is counted as a word of
the pattern, in PRBS31 mode as bits of the sequence. (DEDUCED: assumption log 22) -/
def devStrandFrame (l : Nat) (ws : List Word) (arrival : Nat) (d : Dev) : Dev :=
  let st := d.laneState l
  let d := if d.laneMode l = 1 ∨ d.laneMode l = 3 then d.devTrainingPattern l ws
    else d.setLane l { d.lane l with train := 0, trainC := 0, blockRun := 0 }
  if st = LaneState.unaligned then
    if (Rodal.header? ws).isSome then d.laneSync l false
    else if (Rodal.header? (ws.map fun w => ~~~w)).isSome then d.laneSync l true
    else d
  else if st = LaneState.aligned ∧ d.laneState l = LaneState.aligned then
    (if d.laneLoops l ∧ d.serves l then d.loopWords l ws else d).alignedFrame l ws arrival
  else d

end Dev

end Sys2Proof.Machine
end

