-- ==== Sys2Proof/Machine/Settle.lean ====
section
/-! DEFINITION. What follows from a command at once, whatever the command was: events are carried to the Stable, the pools
and the mask sets (R422), trip sources to the PWM timers (R399), a change of mode to the units that follow it (R425), an
interrupt to a waiting core (R267), and the pair's readiness and HEALTH (R331, R335). Then the Tideline buffer is written
to its ring (R275). -/

namespace Sys2Proof.Machine

open Sys2Proof

namespace Dev

/-- Carry one event to its places (R422). -/
def routeEvent (e : Raised) (d : Dev) : Dev :=
  let d := d.stbRouted e.event
  let d := upTo 4 (fun p d => if e.pools.testBit p then d.tpRouted p else d) d
  upTo 4 (fun m d => if e.masks.testBit m then d.devPwmMaskApply m else d) d

/-- Carry the waiting events, at most `n`, oldest first; what is left waits for the next command. -/
def drain : Nat → Dev → Dev
  | 0, d => d
  | n + 1, d =>
    match d.evq with
    | [] => d
    | e :: t => drain n (({ d with evq := t } : Dev).routeEvent e)

/-- Start the engines as CONFIG or BOOT is left (R123, R104, R156, R186, R252). -/
def startEngines (d : Dev) : Dev :=
  let d := (d.startLoop.startReps.devSorterLoad 0).devSorterLoad 1
  d.startPairs.phLeaveConfig

/-- Stop the engines: the run in progress is dropped without a count. -/
def stopEngines (d : Dev) : Dev :=
  let d := ((d.abandonLoop.abandonArm 0).abandonArm 1).svAbandon
  { d with cyc := { d.cyc with phase := .idle, due := false } }

/-- Let the units follow a change of mode from `old` (R101, R162, R328, Table 18-4). -/
def modeHooks (old : Nat) (d : Dev) : Dev :=
  let d := d.pairModeChanged old
  let d := d.strandsModeChanged old
  if old < 2 ∧ 2 ≤ d.mode then d.startEngines
  else if d.mode = Mode.config ∧ 2 ≤ old then d.stopEngines.svConfig
  else d

/-- Follow the mode when it has changed. -/
def followModes (d : Dev) : Dev :=
  if d.mode = d.cyc.lastMode then d
  else
    let old := d.cyc.lastMode
    ({ d with cyc := { d.cyc with lastMode := d.mode } } : Dev).modeHooks old

/-- An enabled interrupt ends a waiting read of `ztask` (R267). -/
def wakeCores (d : Dev) : Dev :=
  d.stb.asking.foldl (fun d x => if d.irqPending x.1 then d.endAsk x.1 else d) d

/-- What follows from a command at once. (DESIGN CHOICE: assumption log 9, DESIGN CHOICE: assumption log 74) -/
def settle (d : Dev) : Dev :=
  ((((((d.drain 256).followModes.pwmTrips).followModes).drain 256).wakeCores).pairRefresh).endClock

end Dev

/-! The whole machine: memory and the commands' common form. -/

/-- What a byte of memory reads as: 0 where nothing was written (assumption log 3). (DESIGN CHOICE: assumption log 3) -/
def readByte (m : List Host.Cell) (a : Nat) : Byte := SMap.get 0#8 m a

/-- Write one byte. (DESIGN CHOICE: assumption log 3) -/
def writeByte (m : List Host.Cell) (a : Nat) (b : Byte) : List Host.Cell := SMap.set 0#8 m a b

/-- Read `n` bytes from an address. -/
def readBytes (m : List Host.Cell) (a n : Nat) : List Byte := (List.range n).map fun i => readByte m (a + i)

/-- Write bytes from an address on. -/
def writeBytes : List Host.Cell → Nat → List Byte → List Host.Cell
  | m, _, [] => m
  | m, a, b :: t => writeBytes (writeByte m a b) (a + 1) t

/-- Make some writes in order. -/
def writeAll (m : List Host.Cell) (ws : List MemWrite) : List Host.Cell := ws.foldl (fun m w => writeBytes m w.1 w.2) m

/-- The canonical form of memory: addresses rising, no byte listed that reads as 0. -/
abbrev Memory.wf (m : List Host.Cell) : Bool := SMap.wf (0#8 : Byte) m

/-- Whether an address lies in a window of Table 11-1 that holds memory: a core's own TCM, the TCM windows, shared SRAM,
DRAM. -/
def inMap (a : Nat) : Bool :=
  decide (a < 0x20000) || decide (0x02000000 ≤ a ∧ a < 0x02100000) || decide (0x10000000 ≤ a ∧ a < 0x10080000)
    || decide (0x40000000 ≤ a ∧ a < 0x80000000)

/-- Whether a span of `n` bytes from `a` lies in one window of Table 11-1. -/
def spanInMap (a n : Nat) : Bool :=
  decide (a + n ≤ 0x20000) || decide (0x02000000 ≤ a ∧ a + n ≤ 0x02100000)
    || decide (0x10000000 ≤ a ∧ a + n ≤ 0x10080000) || decide (0x40000000 ≤ a ∧ a + n ≤ 0x80000000)

/-- Put a device and what its memories received in place: what follows at once happens, and the Tideline is flushed. (DESIGN
CHOICE: assumption log 9) -/
def State.close (r : List MemWrite × Dev) (s : State) : State :=
  let (w, d) := r.2.settle.tlFlush
  { s with dev := d, mem := writeAll s.mem (r.1 ++ w) }

/-- The common form of a command that touches no memory of its own. -/
def State.run (f : Dev → Dev) (s : State) : Host.Outcome State Fault Refusal := .next (s.close ([], f s.dev))

/-- The common form of a command that writes memory. -/
def State.runMem (f : Dev → List MemWrite × Dev) (s : State) : Host.Outcome State Fault Refusal := .next (s.close (f s.dev))

end Sys2Proof.Machine
end

