-- ==== Sys2Proof/Machine/Access.lean ====
section
/-! DEFINITION. The object model (R350–R353, R458–R461): which objects exist for whom, what a read answers, and which
values a write may carry. -/

namespace Sys2Proof.Machine

open Sys2Proof

/-- The role codes of Table 15-2. -/
abbrev URole.observer : Nat := 0
abbrev URole.operator : Nat := 1
abbrev URole.engineer : Nat := 2
abbrev URole.security : Nat := 3
abbrev URole.service : Nat := 4

/-- The bytes of a fault record (Table 18-11). -/
def FaultRec.bytes (r : FaultRec) : List Byte :=
  let f := (if r.active then 1 else 0) + (if r.cause then 2 else 0) + (if r.acked then 4 else 0)
    + (if r.applied then 8 else 0) + (if r.first then 16 else 0)
  time96LE r.time ++ bytesLE 4 r.number ++ bytesLE 2 r.code
    ++ [BitVec.ofNat 8 r.level, BitVec.ofNat 8 r.arms, BitVec.ofNat 8 f, 0#8]
    ++ bytesLE 2 r.source ++ bytesLE 4 r.detail ++ bytesLE 4 0

/-- The bytes of one peer-table entry (R363). -/
def Peer.bytes (p : Peer) : List Byte :=
  [BitVec.ofNat 8 p.node, BitVec.ofNat 8 p.role, BitVec.ofNat 8 p.order, BitVec.ofNat 8 p.flags] ++ padTo 16 0#8 p.addr

/-- A vendor object as this model takes it: U32, RW, LIVE (R460 leaves its attributes to the vendor). (DESIGN CHOICE: assumption
log 65) -/
def vendorRow (ix sub : Nat) : ObjRow :=
  { base := ix, count := 1, sub := sub, nsub := 1, type := .u32, acc := .rw, cls := .live, rng := .any, role := 4 }

/-- The sizes of the multi-byte fields of a DOMAIN that no chapter defines as little-endian (R350), in the order of its
bytes; such a DOMAIN is held here with little-endian fields. -/
def domainFields (ix sub : Nat) : List Nat :=
  if 0x2200 ≤ ix ∧ ix < 0x2220 then if sub = 0x0A then [1, 1, 1, 8] else if sub = 0x0B then [1, 1, 8, 4] else []
  else if ix = 0x3801 then [1, 1, 1, 1, 4, 4]
  else if 0x4410 ≤ ix ∧ ix < 0x4430 ∧ sub = 7 then List.replicate 32 4
  else if 0x4850 ≤ ix ∧ ix < 0x4854 ∧ sub = 4 then [6, 4, 2, 1, 1, 2]
  else if 0x5010 ≤ ix ∧ ix < 0x5014 ∧ sub = 0x0A then List.replicate 8 4 ++ [8, 4, 2, 6, 4, 2]
  else if (0x5020 ≤ ix ∧ ix < 0x5024 ∧ sub = 7) ∨ (0x1100 ≤ ix ∧ ix < 0x1110 ∧ sub = 5) then List.replicate 16 1 ++ [2]
  else if 0x6C20 ≤ ix ∧ ix < 0x6C22 ∧ sub = 6 then [1, 1, 1, 1, 4]
  else []

/-- Reverse the bytes of each field; what lies beyond the fields stays. -/
def swapFields : List Nat → List Byte → List Byte
  | [], b => b
  | n :: t, b => (b.take n).reverse ++ swapFields t (b.drop n)

/-- The bytes of a DOMAIN on ZOA, and back (R350): the fields are reversed. -/
def zoaDomain (ix sub : Nat) (b : List Byte) : List Byte := swapFields (domainFields ix sub) b

namespace Dev

/-- The object at index:sub for a role, or the status of step 1 of R351: vendor range (R460), fused-off ranges (R2, R461),
undeclared program variables (R285). (DESIGN CHOICE: assumption log 65) -/
def objAt (d : Dev) (role ix sub : Nat) : Except Nat ObjRow :=
  if 0xC000 ≤ ix then
    if role ≠ URole.service then .error Status.role
    else match Config.serviceObject ix sub with
      | 0 => .error Status.noObject
      | 1 => .error Status.noSub
      | _ => .ok (vendorRow ix sub)
  else if d.isB ∧ ((0x5000 ≤ ix ∧ ix < 0x5400) ∨ (0x4E00 ≤ ix ∧ ix < 0x5000)) then .error Status.noObject
  else match objRow? ix sub with
    | some r =>
      if 0x8100 ≤ ix ∧ ix < 0x8180 then
        if d.seq.prog.vars.any (fun v => v.pv == (ix - 0x8100) * 64 + (sub - 1)) then
          .ok { r with type := d.typeOf (ix * 256 + sub) }
        else .error Status.noObject
      else .ok r
    | none => .error (if objIndex? ix then Status.noSub else Status.noObject)

/-- The bytes a DOMAIN of a fixed length reads as before anything was written: zeros. -/
def blobSize (r : ObjRow) (ix sub : Nat) : Nat :=
  match r.rng with
  | .len n => n
  | _ =>
    if 0x5C10 ≤ ix ∧ ix < 0x5C30 then 64
    else if ix = 0x1010 then 6
    else if 0x1100 ≤ ix ∧ ix < 0x1110 then 18
    else if 0x4E00 ≤ ix ∧ ix < 0x4E04 then 32
    else if 0x2200 ≤ ix ∧ ix < 0x2220 then 16
    else if 0x5010 ≤ ix ∧ ix < 0x5014 ∧ sub = 0x0A then 58
    else 0

/-- The image of the running firmware slot (R374). -/
def fwRunning (d : Dev) : FwSlot := if d.on Obj.FW_SLOT then d.host.fw1 else d.host.fw0

/-- The value of an object in force, as readers see it: objects that show other state are formed here. -/
def viewOf (d : Dev) (r : ObjRow) (ix sub : Nat) : Val :=
  let k := ix * 256 + sub
  let c := ix - 0x4440
  if k = Obj.ID_PART then .bytes (ascii "ZA7140")
  else if k = Obj.TB_NOW then .num d.now96
  else if k = Obj.TB_ERR_EST then .num d.errEst
  else if k = Obj.RTC_TAI then .num (time96 (d.rtcNow * secUnit / 32768))
  else if k = Obj.UTC_DATE then .bytes d.utcDate
  else if k = Obj.BW_SET_CRC then .num d.editCrc
  else if k = Obj.BW_SET_ACTIVE_CRC then .num d.activeCrc
  else if k = Obj.HOST_PEER_TABLE then .bytes (padTo 1280 0#8 (d.host.peers.flatMap Peer.bytes))
  else if k = Obj.FM_FIRST then .bytes (padTo 32 0#8 ((d.fm.first.map FaultRec.bytes).getD []))
  else if k = Obj.FM_QUEUE then .bytes (padTo 1024 0#8 (d.fm.queue.flatMap FaultRec.bytes))
  else if k = Obj.LOG_READ then .bytes d.host.log.flatten
  else if k = Obj.FW_HASH then .bytes (sha256 d.fwRunning.image)
  else if 0x5400 ≤ ix ∧ ix < 0x5800 ∧ sub = 0x21 then .num (if 960 ≤ ix - 0x5400 then 1 else 0)
  else if 0x5400 ≤ ix ∧ ix < 0x5800 ∧ sub = 5 then .num (d.taskStall (ix - 0x5400))
  else if 0x4440 ≤ ix ∧ ix < 0x4460 ∧ 4 ≤ sub ∧ sub ≤ 9 then
    if sub = 4 then .num (d.cycleSample c true).toNat
    else if sub = 5 then .num (d.cycleSample c false).toNat
    else if d.on (Obj.MEAS_ENABLE c) = false then .num 0
    else if sub = 6 then .num (if d.pathLocked c true then 0 else 1)
    else if sub = 7 then .num (d.tAvail c true)
    else if sub = 8 then .num (d.tSettle c true)
    else .num (F32.ofRatio 1000000000 (d.tOut c true)).toNat
  else if 0x4C40 ≤ ix ∧ ix < 0x4C44 then .bytes (((d.tpRecord (ix - 0x4C40) (sub - 1)).map TpRec.bytes).getD [])
  else if 0x5E00 ≤ ix ∧ ix < 0x6000 then .num (d.seqView ((ix - 0x5E00) * 8 + sub / 16) (sub % 16))
  else if r.type = .domain then .bytes (let b := d.blob k; b ++ List.replicate (blobSize r ix sub - b.length) 0#8)
  else d.valOf r.type k

/-- Free bytes: a value the manual does not state. (DESIGN CHOICE: assumption log 68) -/
def freeBytes (n : Nat) (d : Dev) : List Byte × Dev :=
  let (x, d) := d.takeFree
  (bytesLE n x, d)

/-- The records a read of `TL_DATA` takes (R275): whole records from `TL_RD_PTR`, at most 1,408 bytes. -/
def tlTake (m : List Host.Cell) (d : Dev) : List Byte × Dev :=
  let size := max 1 (d.getN Obj.TL_SIZE)
  let rd := d.getN Obj.TL_RD_PTR
  let n := min 88 (d.stb.unread / 16)
  let b := (List.range n).flatMap fun i =>
    readBytes m (0x40000000 + (d.getN Obj.TL_BASE + (rd + 16 * i) % size) % 0x40000000) 16
  (b, (d.setN Obj.TL_RD_PTR ((rd + 16 * n) % size)).tlReadPtr)

/-- The entries a read of `CAN_RX_DATA` takes (R411): at most 14 from `CAN_RX_RD`. -/
def canTakeRx (m : List Host.Cell) (c : Nat) (d : Dev) : List Byte × Dev :=
  let len := max 1 (d.getN (Obj.CAN_RX_LEN c))
  let rd := d.getN (Obj.CAN_RX_RD c)
  let n := min 14 (d.canUnread c)
  ((List.range n).flatMap fun i => readBytes m (d.canEntryAddr c ((rd + i) % len)) 96,
   d.setN (Obj.CAN_RX_RD c) ((rd + n) % len))

/-- Whether a key names a Tidepool record slot that holds no completed record (R229). -/
def emptyRecord (d : Dev) (ix sub : Nat) : Bool :=
  decide (0x4C40 ≤ ix ∧ ix < 0x4C44) && (d.tpRecord (ix - 0x4C40) (sub - 1)).isNone

/-- A read of an object (R351, R353, R360): status, type and value, with what the read removes. `core` names the core that
reads through its window. (DESIGN CHOICE: assumption log 65, DESIGN CHOICE: assumption log 68) -/
def readObj (m : List Host.Cell) (role : Nat) (core : Option Nat) (ix sub : Nat) (d : Dev) : (Nat × OType × Val) × Dev :=
  match d.objAt role ix sub with
  | .error e => ((e, .u8, .num 0), d)
  | .ok r =>
    let dom := fun (x : List Byte × Dev) => ((Status.ok, OType.domain, Val.bytes x.1), x.2)
    if r.acc = .wo then ((Status.readOnly, r.type, .num 0), d)
    else if d.emptyRecord ix sub then ((Status.state, r.type, .num 0), d)
    else if 0xC000 ≤ ix then
      let (x, d) := d.takeFree
      ((Status.ok, r.type, .num (x % 4294967296 : Nat)), d)
    else if 0x4850 ≤ ix ∧ ix < 0x4854 ∧ sub = 4 then
      match d.tsuTake (ix - 0x4850) with
      | (some b, d) => dom (b, d)
      | (none, d) => dom (d.freeBytes 16)
    else if ix * 256 + sub = Obj.TL_DATA then dom (d.tlTake m)
    else if 0x6C20 ≤ ix ∧ ix < 0x6C22 ∧ sub = 8 then
      if (d.can (ix - 0x6C20)).done.isEmpty then dom (d.freeBytes 16) else dom (d.canTakeDone (ix - 0x6C20))
    else if 0x6C20 ≤ ix ∧ ix < 0x6C22 ∧ sub = 0x0C then dom (d.canTakeRx m (ix - 0x6C20))
    else if ix * 256 + sub = Obj.LE_LOCAL_STATUS then
      match core with
      | some c =>
        let w := d.win c
        dom ([BitVec.ofNat 8 w.status, 0#8, 0#8, 0#8] ++ bytesLE 4 w.seconds ++ bytesLE 4 w.cycle, d)
      | none => dom (d.freeBytes 12)
    else ((Status.ok, r.type, d.viewOf r ix sub), d)

/-! Ranges (R350, R351). -/

/-- Whether an F32 is a multiple of 2 between −1,024 and 1,022 (`BWC_LO`, `BWC_HI`). -/
def bwcLevel (f : F32) : Bool :=
  let n := (F32.val f).nearest
  F32.eq (F32.ofInt n) f && n % 2 == 0 && decide (-1024 ≤ n) && decide (n ≤ 1022)

/-- The ranges that depend on other objects (R351), judged on `t`: the values as they will be when the write takes
effect. (DEDUCED: assumption log 69) -/
def dynRange (t : Dev) (ix sub : Nat) (v : Int) : Bool :=
  let n := v.toNat
  if ix = 0x1820 then decide (2 * n ≤ t.tc) && n % 10 == 0
  else if ix = 0x2010 then
    if sub = 3 then decide (2 ≤ n) && decide (n ≤ 16) && decide (t.getN Obj.STR_HEAL_WINDOW < n)
    else decide (1 ≤ n) && decide (n < t.getN Obj.STR_HOLD_CYCLES)
  else if 0x3010 ≤ ix ∧ ix < 0x3012 then
    if sub = 2 then decide (n ≤ t.armCount (ix - 0x3010)) else decide (4 * n ≤ t.tc)
  else if 0x3A00 ≤ ix ∧ ix < 0x3C00 then
    let i := ix - 0x3A00
    if sub = 1 then decide (n < 0x20)
    else if sub = 2 then blockModeOk (t.leType i) n
    else if sub ≤ 8 then refOk t.leType n
    else blockParOk (t.leType i) (sub - 9) (BitVec.ofInt 32 v)
  else if 0x4010 ≤ ix ∧ ix < 0x4020 then
    let e := ix - 0x4010
    decide (1 ≤ n) && decide (n ≤ 64) && (sub != 0x0C || decide (n ≤ t.getN (Obj.SV_RES_WINDOW e)))
  else if 0x4480 ≤ ix ∧ ix < 0x4490 then
    let p := ix - 0x4480
    decide (1 ≤ n) && decide (n ≤ 64) && (sub != 9 || decide (n ≤ t.getN (Obj.PP_WINDOW p)))
  else if 0x4840 ≤ ix ∧ ix < 0x4844 then
    decide (20 ≤ n) && decide ((n + 20) * 65536 ≤ t.getN (Obj.PG_PERIOD (ix - 0x4840)))
  else if 0x4C10 ≤ ix ∧ ix < 0x4C14 then
    let p := ix - 0x4C10
    if sub = 2 then t.tpMibOk p n
    else if sub = 5 then decide (64 ≤ n) && decide (n ≤ t.tpCapacity p)
    else decide (1 ≤ n)
  else if 0x4C20 ≤ ix ∧ ix < 0x4C40 then
    let c := ix - 0x4C20
    if sub = 1 then decide (n ≤ 5) else decide (n ≤ 7) && (t.getN (Obj.TP_POOL_MASK (c / 8))).testBit n
  else if 0x5020 ≤ ix ∧ ix < 0x5024 then t.phRateOk (ix - 0x5020) n
  else if 0x5400 ≤ ix ∧ ix < 0x5800 then
    if sub = 3 then inMap n || decide (0x80000000 ≤ n ∧ n < 0x88000000)
    else if sub = 5 then decide (n ≤ 13)
    else decide (n + 10 ≤ t.tc)
  else if 0x5810 ≤ ix ∧ ix < 0x5820 then decide ((if 14 ≤ ix - 0x5810 then 8 else 1) ≤ n) && decide (n ≤ 255)
  else if ix = 0x5830 then if sub = 2 then n % 4096 == 0 && decide (n < 0x40000000) else n % 16 == 0
  else if 0x6020 ≤ ix ∧ ix < 0x6028 then bwcLevel (BitVec.ofInt 32 v)
  else if ix = 0x1060 then
    if sub = 6 then decide (n < t.getN Obj.HOST_RAW_RING_LEN) else n % 32 == 0 && decide (n < 0x80000)
  else if 0x6908 ≤ ix ∧ ix < 0x690C then !pwmMaskBad n
  else if 0x6910 ≤ ix ∧ ix < 0x691A then
    let i := ix - 0x6910
    if sub = 3 then decide (i < 6) || n == 0
    else if sub = 6 then decide (6 ≤ i)
    else if sub = 8 then n == 0 || (n == 1 && decide (i < 6))
    else decide (n < 16) && decide (n % 4 ≤ 2) && decide (n / 4 ≤ 2)
  else if 0x6C10 ≤ ix ∧ ix < 0x6C12 then n % 32 == 0 && decide (n < 0x80000)
  else if 0x6C20 ≤ ix ∧ ix < 0x6C22 then
    if sub = 7 then decide (n < 16777216) else decide (n < t.getN (Obj.CAN_RX_LEN (ix - 0x6C20)))
  else true

/-- The fast-path limit of 5 MS/s (R174) for the channels a write bears on. -/
def fastRateOk (t : Dev) (ix sub : Nat) : Bool :=
  if ix = 0x4400 ∧ 1 ≤ sub ∧ sub ≤ 4 then
    (List.range 6).all fun i => decide (200 ≤ t.tOut (8 + 6 * (sub - 1) + i) false)
  else if 0x4410 ≤ ix ∧ ix < 0x4430 ∧ sub = 3 then decide (200 ≤ t.tOut (ix - 0x4410) false)
  else true

/-- Conditions between objects that a write may not break, beside the object's own range (R174, R208, R313, R408): only those
the manual names, so that a write of `CYC_TC` leaves a `CYC_SAMPLE_LEAD` above the new Tc/2 as it is (R29). (DESIGN CHOICE:
assumption log 83) -/
def crossRange (t : Dev) (ix sub : Nat) (v : Int) : Bool :=
  t.fastRateOk ix sub
    && (if 0x4840 ≤ ix ∧ ix < 0x4844 ∧ sub = 3 then
          decide ((t.getN (Obj.PG_WIDTH (ix - 0x4840)) + 20) * 65536 ≤ v.toNat)
        else true)
    && (if ix * 256 + sub = Obj.BW_SET_ACTIVATE then v == t.editCrc else true)
    && (if 0x6C10 ≤ ix ∧ ix < 0x6C12 ∧ 3 ≤ sub ∧ sub ≤ 0x0B then !t.canTimingBad (ix - 0x6C10) else true)

/-- Whether a number can be held by a type, and satisfies the type's own write rule (Table 15-1). -/
def typeRange (ty : OType) (v : Int) : Bool :=
  let b := 8 * ty.bytes
  match ty with
  | .bool => v == 0 || v == 1
  | .f32 => decide (0 ≤ v) && decide (v < 2 ^ 32) && F32.isNumber (BitVec.ofInt 32 v)
  | .f64 => decide (0 ≤ v) && decide (v < 2 ^ 64) && F64.isFinite (BitVec.ofInt 64 v)
  | .time96 => decide (0 ≤ v) && decide (v < 2 ^ 96) && decide (v % 2 ^ 48 / 2 ^ 16 < 1000000000)
  | _ =>
    if ty.signed then decide (-(2 ^ (b - 1)) ≤ v) && decide (v < 2 ^ (b - 1)) else decide (0 ≤ v) && decide (v < 2 ^ b)

/-- Whether a number lies in the range column of its row. -/
def numRange (t : Dev) (r : ObjRow) (ix sub : Nat) (v : Int) : Bool :=
  match r.rng with
  | .any => true
  | .int lo hi => decide (lo ≤ v) && decide (v ≤ hi)
  | .orInt x lo hi => v == x || (decide (lo ≤ v) && decide (v ≤ hi))
  | .step lo hi m => decide (lo ≤ v) && decide (v ≤ hi) && v % m == 0
  | .orStep x lo hi m => v == x || (decide (lo ≤ v) && decide (v ≤ hi) && v % m == 0)
  | .oneOf l => l.contains v
  | .f32 lo hi => F32.le (BitVec.ofNat 32 lo) (BitVec.ofInt 32 v) && F32.le (BitVec.ofInt 32 v) (BitVec.ofNat 32 hi)
  | .orF32 x lo hi =>
    F32.eq (BitVec.ofNat 32 x) (BitVec.ofInt 32 v)
      || (F32.le (BitVec.ofNat 32 lo) (BitVec.ofInt 32 v) && F32.le (BitVec.ofInt 32 v) (BitVec.ofNat 32 hi))
  | .f64 lo hi => F64.le (BitVec.ofNat 64 lo) (BitVec.ofInt 64 v) && F64.le (BitVec.ofInt 64 v) (BitVec.ofNat 64 hi)
  | .fmin0 =>
    if r.type = .f64 then F64.le F64.zero (BitVec.ofInt 64 v) else F32.le F32.zero (BitVec.ofInt 32 v)
  | .dyn => t.dynRange ix sub v
  | _ => true

/-- The check of a byte string's length (Table 15-1). -/
def lenStatus (r : Rng) (n : Nat) : Nat :=
  match r with
  | .len k => if n < k then Status.range else if k < n then Status.tooLong else Status.ok
  | .upto k => if k < n then Status.tooLong else Status.ok
  | .lenIn lo hi => if hi < n then Status.tooLong else if n < lo then Status.range else Status.ok
  | _ => Status.ok

/-- Step 5 of R351: RANGE or TOO_LONG. -/
def rangeStatus (t : Dev) (r : ObjRow) (ix sub : Nat) (v : Val) : Nat :=
  match v with
  | .num x =>
    if r.type.isBlob then Status.type
    else if typeRange r.type x && t.numRange r ix sub x && t.crossRange ix sub x then Status.ok else Status.range
  | .bytes b =>
    if r.type.isBlob = false then Status.type
    else lenStatus r.rng b.length

end Dev

end Sys2Proof.Machine
end

