-- ==== Sys2Proof/Machine/Modes.lean ====
section
/-! DEFINITION. Mode requests and their checks (R424–R426), the acknowledgement and release of faults (R432–R436), and the
software reset's acceptance (R428). -/

namespace Sys2Proof.Machine

open Sys2Proof

/-! The refusal codes of Table 18-6. -/

abbrev ModeRefusal.none : Nat := 0
abbrev ModeRefusal.transition : Nat := 1
abbrev ModeRefusal.check : Nat := 2
abbrev ModeRefusal.budget : Nat := 3
abbrev ModeRefusal.fault : Nat := 4
abbrev ModeRefusal.time : Nat := 5
abbrev ModeRefusal.standby : Nat := 6
abbrev ModeRefusal.lockout : Nat := 7
abbrev ModeRefusal.stepPending : Nat := 8

/-- Whether Table 18-5 lets a request take the module from one mode to another. -/
def modeAllowed (m t : Nat) : Bool :=
  (m == Mode.config && (t == Mode.charge || t == Mode.ready))
    || (m == Mode.charge && (t == Mode.ready || t == Mode.run))
    || (m == Mode.ready && (t == Mode.charge || t == Mode.run || t == Mode.config))
    || (m == Mode.run && t == Mode.ready)

/-- The first of some findings. -/
def firstSome : List (Option Nat) → Option Nat
  | [] => none
  | some x :: _ => some x
  | none :: t => firstSome t

namespace Dev

/-- The checks the chapters attach to leaving CONFIG, in their order, by the object that offends (R53, R55, R90, R97, R131,
R162, R180, R186, R219, R231, R241, R246, R327, R364, R426). (DEDUCED: assumption log 30) -/
def leaveCheck (d : Dev) : Option Nat :=
  let used := d.usedStrands
  let lanesOf := fun (s : Nat) => if d.topology = 0 then [d.laneA s, laneB s] else [d.laneA s]
  let lanes := used.flatMap lanesOf
  firstSome [
    (lanes.find? fun l => d.on (Obj.LANE_ENABLE l) && d.getN (Obj.LANE_TX_MODE l) != 0 && d.getN (Obj.LANE_TX_MODE l) != 4).map
      Obj.LANE_TX_MODE,
    (lanes.find? fun l => !(d.on (Obj.LANE_ENABLE l))).map Obj.LANE_ENABLE,
    if d.cyc.enumOk then none else some Obj.STR_ENUM_CMD,
    if d.enumBeyond then some Obj.STR_ENUM_STATE else none,
    ((List.range 2).find? fun a => decide (d.getN (Obj.MOD_N_RED a) < d.absentCount a)).map Obj.MOD_N_RED,
    (used.find? fun s => !(d.modEng (d.strandArm s)).written).map fun s => Obj.MOD_ARM_ENABLE (d.strandArm s),
    if d.topology = 0 then
      ((List.range 32).find? fun s => decide (15 < s) && d.positions s != 0).map Obj.MOD_STRAND_ARM
    else none,
    if d.getN Obj.LE_PROG_STATE = 2 then some Obj.LE_PROG_STATE else none,
    d.svBad.map Obj.SV_CHANNEL,
    ((d.loopChannels.map (·.1)).find? fun c => !(d.measReady c)).map fun c =>
      if d.on (Obj.MEAS_ENABLE c) then Obj.MEAS_GRP_DIV ((c - 8) / 6) else Obj.MEAS_ENABLE c,
    d.pairsBad.map Obj.PP_ENABLE,
    ((List.range 4).find? fun p => d.poolBad p).map Obj.TP_POOL_MASK,
    d.linesBad.map Obj.TW_ENABLE,
    d.phBad.map Obj.PH_SET_ENABLE,
    if 2 ≤ d.getN Obj.PR_MISMATCH then some Obj.PR_MISMATCH else none,
    if d.on Obj.HOST_NODE_ID then none else some Obj.HOST_NODE_ID]

/-- Refuse a mode request (R426). -/
def refuseMode (code detail : Nat) (d : Dev) : Dev := (d.setN Obj.SYS_MODE_REFUSAL code).setN Obj.SYS_MODE_DETAIL detail

/-- What the checks of R426 find before those on leaving CONFIG. -/
def modeBlocked (d : Dev) (t : Nat) : Nat :=
  if d.standby then ModeRefusal.standby
  else if modeAllowed d.mode t = false then ModeRefusal.transition
  else if (t = Mode.charge ∨ t = Mode.run) ∧ 2 ≤ d.getN Obj.FM_LEVEL then ModeRefusal.fault
  else if t = Mode.run ∧ d.tbState = TbState.invalid then ModeRefusal.time
  else if t = Mode.run ∧ 0 < d.ptp.softDue then ModeRefusal.stepPending
  else ModeRefusal.none

/-- Check a mode request at acceptance (R426): its status. (DEDUCED: assumption log 58) -/
def modeRequest (t : Nat) (d : Dev) : Nat × Dev :=
  let code := d.modeBlocked t
  if code ≠ 0 then (Status.state, d.refuseMode code 0xFFFFFFFF)
  else if d.mode = Mode.config then
    let d := d.devLeValidate
    match d.leaveCheck with
    | some k => (Status.state, d.refuseMode ModeRefusal.check k)
    | none =>
      let (ok, d) := d.admitConfig
      if ok then (Status.ok, d.refuseMode ModeRefusal.none 0xFFFFFFFF)
      else (Status.budget, d.refuseMode ModeRefusal.budget 0xFFFFFFFF)
  else (Status.ok, d.refuseMode ModeRefusal.none 0xFFFFFFFF)

/-- An accepted request waits for its boundary; an accepted RUN withholds software steps (R196). -/
def keepRequest (t : Nat) (d : Dev) : Dev := { d with fm := { d.fm with requests := d.fm.requests ++ [t] } }

/-- Whether a RUN request has been accepted and is not yet in effect (R196). -/
def runRequested (d : Dev) : Bool := d.fm.requests.contains Mode.run

/-- A request falls due at its boundary (R425): void in LOCKOUT, and where Table 18-5 no longer has the transition. (DEDUCED:
assumption log 58) -/
def modeDue (t : Nat) (d : Dev) : Dev :=
  let d := { d with fm := { d.fm with requests := d.fm.requests.erase t } }
  if d.mode = Mode.lockout then d.refuseMode ModeRefusal.lockout 0xFFFFFFFF
  else if modeAllowed d.mode t = false then d.refuseMode ModeRefusal.transition 0xFFFFFFFF
  else d.setMode t

/-! Faults (R432–R434). -/

/-- The status of an acknowledgement (R433). -/
def ackStatus (d : Dev) (n : Nat) : Nat :=
  if n = 0xFFFFFFFF then Status.ok
  else match d.fm.queue.find? (·.number = n) with
    | none => Status.range
    | some r => if r.cause then Status.tripActive else if r.level = 4 then Status.state else Status.ok

/-- Acknowledge a record. -/
def FaultRec.ack (r : FaultRec) : FaultRec := { r with acked := true, active := false }

/-- Acknowledge one record. -/
def ackOne (n : Nat) (d : Dev) : Dev :=
  let q := d.fm.queue.map fun r => if r.number == n && !r.cause && r.level != 4 then FaultRec.ack r else r
  ({ d with fm := { d.fm with queue := q } } : Dev).fmRefresh (n % 65536)

/-- Acknowledge every L2 and L3 record without its cause; an overflow level of L3 or below clears once an entry is free. -/
def ackAll (d : Dev) : Dev :=
  let hit := fun (r : FaultRec) => !r.cause && (r.level == 2 || r.level == 3) && !r.acked
  let hits := d.fm.queue.filter hit
  let q := d.fm.queue.map fun r => if hit r then FaultRec.ack r else r
  let d := { d with fm := { d.fm with queue := q } }
  let free := decide (q.length < 32) || q.any (fun r => !r.active)
  let clears := d.on Obj.FM_OVR_LEVEL && decide (d.getN Obj.FM_OVR_LEVEL ≤ 3) && free
  let d := if clears then (d.set Obj.FM_OVR_LEVEL 0).set Obj.FM_OVR_ARMS 0 else d
  d.fmRefresh (match hits, clears with
    | [r], false => r.number % 65536
    | _, _ => 0xFFFF)

/-- Acknowledge (R433). -/
def devAck (n : Nat) (d : Dev) : Dev := if n = 0xFFFFFFFF then d.ackAll else d.ackOne n

/-- The status of a write of `FM_FIRST_CLEAR` (R432). -/
def firstClearStatus (d : Dev) : Nat :=
  if d.fm.queue.any fun r => r.active && decide (2 ≤ r.level) then Status.tripActive else Status.ok

/-- `FM_FIRST` is emptied. -/
def devFirstClear (d : Dev) : Dev := { d with fm := { d.fm with first := none } }

/-! Release (R436). -/

/-- Whether an L4 record has its cause present. -/
def l4Cause (d : Dev) : Bool := d.fm.queue.any fun r => r.level == 4 && r.cause

/-- The status of a write of `SYS_RELEASE`; `session` says that an authenticated session of role Engineer or higher
writes. (DEDUCED: assumption log 62) -/
def releaseStatus (d : Dev) (session : Bool) (v : Int) : Nat :=
  if session = false then Status.role
  else if v ≠ d.get Obj.SYS_LOCKOUT_SEQ then Status.seq
  else if d.l4Cause then Status.tripActive
  else if d.mode ≠ Mode.lockout ∨ d.on Obj.BW_STATE then Status.state
  else Status.ok

/-- LOCKOUT ends (R436): L4 records and an L4 overflow level become inactive, supervision returns to NORMAL, the
lock-out-pending flag clears (R429), and the mode is READY, or CONFIG where LOCKOUT was entered from BOOT or CONFIG. -/
def releaseLockout (d : Dev) : Dev :=
  let q := d.fm.queue.map fun r => if r.level == 4 then { r with active := false } else r
  let n := (d.fm.queue.filter fun r => r.level == 4 && r.active).map (·.number)
  let ovr := d.getN Obj.FM_OVR_LEVEL = 4
  let d := { d with fm := { d.fm with queue := q, nvLockout := false } }
  let d := if ovr then (d.set Obj.FM_OVR_LEVEL 0).set Obj.FM_OVR_ARMS 0 else d
  let d := d.fmRefresh (match n with
    | [x] => if ovr then 0xFFFF else x % 65536
    | _ => 0xFFFF)
  let d := d.svRelease
  d.setMode (if d.fm.fromConfig then Mode.config else Mode.ready)

/-- `SYS_RELEASE` takes effect, if its conditions still hold at the boundary. -/
def devRelease (v : Int) (d : Dev) : Dev := if d.releaseStatus true v = Status.ok then d.releaseLockout else d

/-- `BW_LOR` takes effect (R311), if its conditions still hold: the latch clears, and LOCKOUT with it unless an L4 record
has its cause present. -/
def devLor (v : Int) (d : Dev) : Dev :=
  if d.lorStatus true v ≠ Status.ok then d.lorRefused
  else
    let d := d.lorDone
    if d.mode = Mode.lockout ∧ d.l4Cause = false then d.releaseLockout else d

/-- The status of a write of `SYS_RESET` (Table 18-9): CHARGE and RUN refuse it. -/
def resetStatus (d : Dev) : Nat :=
  if d.mode = Mode.config ∨ d.mode = Mode.ready ∨ d.mode = Mode.lockout then Status.ok else Status.state

/-- `SYS_RESET` takes effect: the reset acts 1 ms later. -/
def devSysReset (d : Dev) : Dev := { d with fm := { d.fm with resetDue := true, resetAt := d.tm.mono } }

end Dev

end Sys2Proof.Machine
end

