-- ==== Sys2Proof/Machine/Writes.lean ====
section
/-! DEFINITION. Writes, from acceptance to their boundary (R32, R350–R354, R368–R370, R145, R146): who may write, the
checks of R351 in their order, admission (R26), the write groups that wait, and what each object's write does when it
takes effect. -/

namespace Sys2Proof.Machine

open Sys2Proof

/-- The key of an entry's object. -/
def entryKey (e : Entry) : Nat := e.index * 256 + e.sub

namespace Dev

/-! Sessions (R362, R366). -/

def ses (d : Dev) (n : Nat) : SesSt := SMap.get SesSt.init d.host.sessions n
def setSes (n : Nat) (x : SesSt) (d : Dev) : Dev :=
  { d with host := { d.host with sessions := SMap.set SesSt.init d.host.sessions n x } }

/-- Whether a slot is OPEN. -/
def sesOpen (d : Dev) (n : Nat) : Bool := d.getN (Obj.SES_STATE n) == 2

/-- Raise a host event with its source (R379). -/
def hostEvent (e src : Nat) (d : Dev) : Dev := d.signalAt Obj.HOST_EVENT_SRC e src

/-- `SRC_ADDR` of a log record: IPv4 in its first bytes, or the low 64 bits of IPv6 (Table 15-8). -/
def logAddr (a : List Byte) : List Byte :=
  if isV4 a then (a.drop 12).take 4 else (a.drop 8).take 8

/-- A session as the origin of a log record. -/
def sesOrigin (d : Dev) (n : Nat) : Origin :=
  { origin := 0, role := d.getN (Obj.SES_ROLE n), port := (d.ses n).port, originId := d.getN (Obj.SES_ID n),
    user := (d.ses n).user.getD 0xFFFF, addr := logAddr (d.ses n).addr }

/-- The header of a message of the module (R358). -/
def zoaHeader (d : Dev) (flags op st ses seq len : Nat) : List Byte :=
  [0x5A#8, 0x4F#8, 1#8, BitVec.ofNat 8 flags, BitVec.ofNat 8 (d.getN Obj.HOST_NODE_ID), BitVec.ofNat 8 op, BitVec.ofNat 8 st,
    0#8] ++ bytesBE 4 ses ++ bytesBE 4 seq ++ bytesBE 2 len ++ List.replicate 6 0#8

/-- A whole message outside a session: its tag is zeros (R359). -/
def zoaPlain (d : Dev) (flags op st ses seq : Nat) (pl : List Byte) : List Byte :=
  d.zoaHeader flags op st ses seq pl.length ++ pl ++ List.replicate 16 0#8

/-- A whole message of an open session (R359): tagged under K_mac, or sealed under K_enc with the nonce of the module's
direction. -/
def zoaSealed (d : Dev) (n flags op st seq : Nat) (pl : List Byte) : List Byte :=
  let id := d.getN (Obj.SES_ID n)
  if d.on (Obj.SES_ENCRYPTED n) then
    let h := d.zoaHeader (flags + 2) op st id seq pl.length
    let (ct, tag) := gcmSeal (d.ses n).kEnc (bytesBE 4 id ++ bytesBE 4 seq ++ bytesBE 4 1) h pl
    h ++ ct ++ tag
  else
    let m := d.zoaHeader flags op st id seq pl.length ++ pl
    m ++ (hmacSha256 (d.ses n).kMac m).take 16

/-- Send a response of an open session: what it says, and its message on the wire. -/
def answer (n seq op st : Nat) (pl : List Byte) (d : Dev) : Dev :=
  (d.send (.response n seq op st pl)).hostSend (d.ses n).port .zoa (d.ses n).addr (d.zoaSealed n 1 op st seq pl)

/-- Answer a request of a session, and keep the answer (R362). -/
def respond (n seq op st : Nat) (pl : List Byte) (d : Dev) : Dev :=
  let x := d.ses n
  (d.setSes n { x with kept := ({ seq := seq, opcode := op, status := st, payload := pl } :: x.kept).take 16 }).answer
    n seq op st pl

/-- A request of an open session with its sequence number (R362): new, it is executed; kept, it is answered again; else it
is dropped. The host path is silent while TIMECLK stands still (R456). (DEDUCED: assumption log 16) -/
def request (n seq : Nat) (f : Dev → Dev) (d : Dev) : Dev :=
  if d.sesOpen n = false ∨ d.tm.timeclk = false then d
  else
    let x := d.ses n
    match x.kept.find? (·.seq = seq) with
    | some k => (d.setSes n { x with tLast := d.tm.mono }).answer n seq k.opcode k.status k.payload
    | none =>
      let ahead := (seq + 4294967296 - x.seqHigh % 4294967296) % 4294967296
      if 1 ≤ ahead ∧ ahead ≤ 2147483648 then f (d.setSes n { x with seqHigh := seq, tLast := d.tm.mono })
      else d.inc (Obj.SES_SEQ_DROPS n)

/-- A slot becomes FREE. -/
def freeSlot (n : Nat) (d : Dev) : Dev :=
  let d := (d.setN (Obj.SES_STATE n) 0).setN (Obj.SES_ID n) 0
  let d := (d.setN (Obj.SES_USER n) 0xFF).setN (Obj.SES_ROLE n) 0
  let d := (d.setBlob (Obj.SES_ADDR n) []).setN (Obj.SES_ENCRYPTED n) 0
  let d := d.set (Obj.SES_OPENED n) 0
  d.setSes n { SesSt.init with gen := (d.ses n).gen }

/-- An open session ends (Table 15-6): its record, its subscriptions, transfers and locks, the debug access it opened,
and event 160. -/
def closeSession (n : Nat) (d : Dev) : Dev :=
  if d.sesOpen n = false then d
  else
    let d := d.logNote 3 0 (d.sesOrigin n)
    let d := { d with host := { d.host with subs := d.host.subs.filter (·.slot != n),
                                            transfers := d.host.transfers.filter (·.slot != n),
                                            debug := if d.host.debug = some n then none else d.host.debug } }
    (d.freeSlot n).hostEvent 160 n

/-! Writers (R353, R354). -/

end Dev

/-- What a writer may do: its role, whether it is a session of role Engineer or higher, and its origin in the log. -/
structure Rights where
  role : Nat
  session : Bool
  org : Origin
  deriving DecidableEq, Repr

namespace Dev

/-- The rights of a writer; none for a session that is not open. -/
def rights (d : Dev) : Writer → Option Rights
  | .session n _ =>
    if d.sesOpen n then
      some { role := d.getN (Obj.SES_ROLE n), session := decide (URole.engineer ≤ d.getN (Obj.SES_ROLE n)), org := d.sesOrigin n }
    else none
  | .core c =>
    some { role := URole.engineer, session := false,
           org := { origin := 1, role := URole.engineer, port := c, originId := 0, user := 0xFFFF, addr := [] } }
  | .sequencer i => some { role := URole.engineer, session := false, org := Origin.sequencer i }
  | .mirror r =>
    some { role := r, session := false,
           org := { origin := 3, role := r, port := 0xFF, originId := d.getN Obj.PR_PARTNER_NODE, user := 0xFFFF, addr := [] } }

/-! The values as they will be when a write takes effect (R351). -/

/-- The values a write of an object sets: `LE_TYPE` sets the whole instance (R132). -/
def setsOf (k : Nat) (v : Val) : List (Nat × Val) :=
  let ix := k / 256
  if 0x3A00 ≤ ix ∧ ix < 0x3C00 ∧ k % 256 = 1 then
    let i := ix - 0x3A00
    (k, v) :: (Obj.LE_MODE i, .num 1) :: ((List.range 6).map fun j => (Obj.LE_IN i j, .num 0))
      ++ (List.range 8).map fun j => (Obj.LE_PAR i j, .num 0)
  else [(k, v)]

/-- The values an entry will put in force at its boundary; none for held and unknown objects. -/
def entrySets (d : Dev) (role : Nat) (e : Entry) : List (Nat × Val) :=
  match d.objAt role e.index e.sub with
  | .error _ => []
  | .ok r =>
    let fits := match e.val with
      | .num _ => !r.type.isBlob
      | .bytes _ => r.type.isBlob
    if r.cls = .restart ∨ r.acc = .ro ∨ fits = false then [] else setsOf (entryKey e) e.val

/-- What waits to take effect. -/
def waitingSets (d : Dev) : List (Nat × Val) := d.host.groups.flatMap fun g => g.entries.flatMap fun e => setsOf e.key e.val

/-- Put values in force without effects. -/
def putAll (l : List (Nat × Val)) (d : Dev) : Dev := l.foldl (fun d x => d.putVal x.1 x.2) d

/-- Give some objects of `t` the values they have in `d`. -/
def giveBack (d : Dev) (l : List (Nat × Val)) (t : Dev) : Dev :=
  l.foldl (fun t x => match x.2 with
    | .num _ => t.set x.1 (d.get x.1)
    | .bytes _ => t.setBlob x.1 (d.blob x.1)) t

/-! Step 6 of R351: the apply class. -/

/-- Whether the block that owns a STOPPED object is stopped (R352): a descriptor, timer or CAN controller while it is not enabled,
the sequencer while it is not RUNNING, everything else in CONFIG. (DEDUCED: assumption log 45) -/
def ownerStopped (d : Dev) (ix : Nat) : Bool :=
  if 0x5400 ≤ ix ∧ ix < 0x5800 then !(d.on (Obj.TASK_ENABLE (ix - 0x5400)))
  else if 0x6910 ≤ ix ∧ ix < 0x691A then !(d.bit Obj.PWM_ENABLE (ix - 0x6910))
  else if 0x6C10 ≤ ix ∧ ix < 0x6C12 then !(d.on (Obj.CAN_ENABLE (ix - 0x6C10)))
  else if 0x5C00 ≤ ix ∧ ix < 0x5C30 then d.getN Obj.SEQ_STATE != 2
  else d.mode == Mode.config

/-! Step 7: the owners' checks. -/

/-- An accepted entry of an object that has not taken effect yet. -/
def waits (d : Dev) (k : Nat) : Option Val := firstSomeVal (d.host.groups.flatMap (·.entries))
where
  firstSomeVal : List PEntry → Option Val
    | [] => none
    | e :: t => if e.key = k then some e.val else firstSomeVal t

/-- `RANGE` or `STATE` when a condition fails. -/
def stateIf (b : Bool) : Nat := if b then Status.state else Status.ok

/-- Log a firmware result: event 167 with the slot concerned, and a record (R374). (DESIGN CHOICE: assumption log 63) -/
def fwResult (status slot : Nat) (org : Origin) (d : Dev) : Dev :=
  ((d.setN Obj.FW_STATUS status).hostEvent 167 slot).logNote 4 0 org

/-- The check of an image at its end (R374). -/
def fwCheck (org : Origin) (b : List Byte) (d : Dev) : Nat × Dev :=
  let slot := 1 - d.getN Obj.FW_SLOT
  if Config.signatureOk b = false then (0x0A, d.fwResult 2 slot org)
  else if Config.imageVersion b % 64 < d.getN Obj.FW_ROLLBACK then (Status.range, d.fwResult 3 slot org)
  else (Status.ok, d)

/-- The checks of the owner of an object (R351 step 7), on `t`, the module as the write will find it; `d` is the module now. -/
def ownerStatus (d : Dev) (rt : Rights) (ix sub : Nat) (v : Val) (t : Dev) : Nat × Dev :=
  let k := ix * 256 + sub
  let x : Int := match v with
    | .num x => x
    | .bytes _ => 0
  let b := match v with
    | .num _ => []
    | .bytes b => b
  let n := x.toNat
  let say := fun (s : Nat) => (s, t)
  if k = Obj.SYS_MODE_REQ then t.modeRequest n
  else if k = Obj.SYS_RELEASE then say (d.releaseStatus rt.session x)
  else if k = Obj.SYS_RESET then say d.resetStatus
  else if k = Obj.SYS_CONFIG_SAVE then say (stateIf (d.mode != Mode.config && d.mode != Mode.ready))
  else if k = Obj.FM_FIRST_CLEAR then say d.firstClearStatus
  else if k = Obj.FM_ACK then say (d.ackStatus n)
  else if k = Obj.FW_IMAGE then t.fwCheck rt.org b
  else if k = Obj.TB_STEP then say (stateIf (d.mode == Mode.run || d.runRequested))
  else if k = Obj.RTC_SET then say (stateIf (d.mode == Mode.run || d.runRequested || d.tbState == TbState.locked))
  else if k = Obj.TB_ADDEND_SET then say (stateIf d.ptpOn)
  else if k = Obj.BW_LOR then
    let s := d.lorStatus rt.session x
    if s = Status.ok then say s else (s, t.lorRefused)
  else if k = Obj.BW_TEST then say (stateIf (d.mode != Mode.config))
  else if k = Obj.FIO_OUT_ENABLE then say (d.fioEnableStatus x)
  else if k = Obj.FIO_SURVEY then say d.surveyStatus
  else if k = Obj.PWM_TRIP_CLEAR then say (t.pwmClearStatus n)
  else if k = Obj.SEQ_CMD then say (d.seqCmdStatus n)
  else if 0x2100 ≤ ix ∧ ix < 0x2120 ∧ (sub = 6 ∨ sub = 7) then say (stateIf (d.laneState (ix - 0x2100) != LaneState.unaligned))
  else if 0x2200 ≤ ix ∧ ix < 0x2220 ∧ sub = 0x0A then
    say (if d.softBusy (ix - 0x2200) || (d.waits k).isSome then Status.busy else Status.ok)
  else if 0x3010 ≤ ix ∧ ix < 0x3012 ∧ sub = 1 then say (stateIf (t.armEnableRefused (ix - 0x3010) x))
  else if 0x4C10 ≤ ix ∧ ix < 0x4C14 ∧ sub = 4 then
    let st := d.getN (Obj.TP_STATE (ix - 0x4C10))
    say (stateIf (st != TpState.idle && st != TpState.done))
  else if 0x4C10 ≤ ix ∧ ix < 0x4C14 ∧ sub = 0x0A then
    let st := d.getN (Obj.TP_STATE (ix - 0x4C10))
    if n = 1 then say (t.tpArmStatus (ix - 0x4C10))
    else if n = 3 then say (stateIf (st == TpState.idle || st == TpState.done))
    else say Status.ok
  else if 0x4C44 ≤ ix ∧ ix < 0x4C48 then say (if d.tpLocked (ix - 0x4C44) n then Status.busy else Status.ok)
  else if 0x6C20 ≤ ix ∧ ix < 0x6C22 ∧ sub = 6 then
    let s := d.canTxStatus (ix - 0x6C20) b
    if s ≠ Status.ok then say s
    else match d.waits k with
      | some (.bytes p) => say (if p.head? = b.head? then Status.busy else Status.ok)
      | _ => say Status.ok
  else if 0x6C20 ≤ ix ∧ ix < 0x6C22 ∧ sub = 4 then say (stateIf (d.canState (ix - 0x6C20) != CanState.busOff))
  else say Status.ok

/-- Whether a mirrored write: it was checked by the active module, and only its object is checked here (R334). -/
def isMirror : Writer → Bool
  | .mirror _ => true
  | _ => false

/-- The check of one entry by R351, steps 1 to 7. (DEDUCED: assumption log 55, DEDUCED: assumption log 57) -/
def entryStatus (d : Dev) (w : Writer) (rt : Rights) (e : Entry) (t : Dev) : Nat × Dev :=
  match t.objAt rt.role e.index e.sub with
  | .error s => (s, t)
  | .ok r =>
    let lor := decide (entryKey e = Obj.BW_LOR)
    if r.acc = .ro ∨ (960 ≤ e.index - 0x5400 ∧ 0x5400 ≤ e.index ∧ e.index < 0x5800) then (Status.readOnly, t)
    else if rt.role < r.role then (Status.role, if lor then t.lorRefused else t)
    else if e.type ≠ r.type.code then (Status.type, t)
    else if t.rangeStatus r e.index e.sub e.val ≠ Status.ok then (t.rangeStatus r e.index e.sub e.val, t)
    else if isMirror w then (Status.ok, t)
    else if (r.cls = .stopped ∧ d.ownerStopped e.index = false) ∨ (d.standby ∧ moduleLocal e.index = false) then
      (Status.state, if entryKey e = Obj.SYS_MODE_REQ then t.refuseMode ModeRefusal.standby 0xFFFFFFFF else t)
    else ownerStatus d rt e.index e.sub e.val t

/-! The checks that concern a group as a whole (R26, R351, R370). -/

/-- C_w (R370). -/
def cw (d : Dev) : Nat := min 256 (16 * d.tc / 1000)

/-- Whether a task object enters the TASKS check (R273). -/
def taskTerm (ix sub : Nat) : Bool :=
  decide (0x5400 ≤ ix ∧ ix < 0x5800) && [1, 6, 8, 0x0A, 0x0B, 0x18, 0x19].contains sub || decide (ix = 0x5800 ∧ sub = 1)

/-- Whether an object is a term of the admission that may be written outside CONFIG (R26). -/
def admissionTerm (ix sub : Nat) : Bool :=
  decide (0x3010 ≤ ix ∧ ix < 0x3012 ∧ sub = 3) || taskTerm ix sub || decide (ix = 0x5C00 ∧ sub = 3)

/-- What refuses a group of `n` objects that leaves the module as `t`: reason, detail, slack, and the entry that is its
cause. -/
def groupRefusal (d : Dev) (es : List Entry) (n : Nat) (t : Dev) : Option (Nat × Nat × Int × Option Nat) :=
  let running := d.mode != Mode.boot && d.mode != Mode.config
  let seqOf := fun (p : SeqProg) => (t.seqAdmit p (t.getN Obj.SEQ_PERIOD)).map fun (r, x) =>
    (r, x, if r = Reason.scan then t.scanMargin p (t.getN Obj.SEQ_PERIOD) else (0 : Int))
  let one := fun (e : Entry) =>
    if running && admissionTerm e.index e.sub && (t.budget none).reason != 0 then
      let b := t.budget none
      some (b.reason, b.detail, b.margin)
    else if taskTerm e.index e.sub then t.tasksFail.map fun x => (Reason.tasks, x, (0 : Int))
    else if entryKey e = Obj.SEQ_PERIOD then seqOf t.seq.prog
    else if entryKey e = Obj.SEQ_CMD ∧ (e.val = .num 2 ∨ e.val = .num 4) then
      match t.seq.valid with
      | some p => seqOf p
      | none => none
    else none
  let worst := fun (a b : Option (Nat × Nat × Int × Option Nat)) =>
    match a, b with
    | some x, some y => if y.1 < x.1 then some y else some x
    | some x, none => some x
    | none, y => y
  let at_ := fun (x : Entry × Nat) => (one x.1).map fun (r, k, m) => (r, k, m, some x.2)
  let found := (es.zip (List.range es.length)).foldl (fun a x => worst a (at_ x)) none
  worst found (if d.cw < n then some (Reason.writeLoad, n, 0, none) else none)

end Dev

/-- The verdict on a group: its status, the entry that is refused with its own status, if one is, and the entry that
admission refuses, if one entry is its cause. -/
structure Verdict where
  status : Nat
  entry : Option (Nat × Nat)
  budgetAt : Option Nat
  deriving DecidableEq, Repr

/-- The verdict on a group that nothing refuses. -/
def Verdict.pass : Verdict := { status := Status.ok, entry := none, budgetAt := none }

namespace Dev

/-- Check the entries in order: the first that is refused, with its status. A second entry of one object is refused with
RANGE (R368). (DEDUCED: assumption log 57) -/
def firstRefused (d : Dev) (w : Writer) (rt : Rights) : Nat → List Nat → List Entry → Dev → Option (Nat × Nat) × Dev
  | _, _, [], t => (none, t)
  | i, seen, e :: es, t =>
    if seen.contains (entryKey e) then (some (i, Status.range), t)
    else
      let (s, t) := entryStatus d w rt e t
      if s = Status.ok then firstRefused d w rt (i + 1) (entryKey e :: seen) es t else (some (i, s), t)

/-- Whether an entry's object is held (RESTART). -/
def isHeld (d : Dev) (role : Nat) (e : Entry) : Bool :=
  match d.objAt role e.index e.sub with
  | .ok r => decide (r.cls = .restart)
  | .error _ => false

/-- Take back the admission results that a trial of a refused group published: 0x1821:01–0D, what follows them for the pair
and the guard, and what each position was budgeted (R27). -/
def keepAdmission (d t : Dev) : Dev :=
  let keys := (List.range 13).map (Obj.CYC_ADMIT_STATE + ·) ++
    [Obj.BW_GUARD_BOUND, Obj.PR_CP_SIZE, Obj.PR_GAP_BOUND, Obj.PR_BREAK_OK]
  let t := keys.foldl (fun t k => t.set k (d.get k)) t
  upTo 32 (fun s t => t.setStrand s { t.strand s with budget := (d.strand s).budget }) t

/-- Check a group (R27, R351, R368, R370, R377): a refused group leaves the admission results as they are, but for the
configuration refused at a request to leave CONFIG, which is reported as their result too. (DEDUCED: assumption log 57) -/
def checkGroup (w : Writer) (rt : Rights) (es : List Entry) (d : Dev) : Verdict × Dev :=
  if d.host.logLimit ∧ isMirror w = false then ({ status := Status.busy, entry := none, budgetAt := none }, d)
  else
    let sets := d.waitingSets ++ es.flatMap fun e => d.entrySets rt.role e
    let t0 := d.putAll sets
    let (bad, t) := d.firstRefused w rt 0 [] es t0
    let back := d.giveBack sets t
    match bad with
    | some (i, s) =>
      if s = Status.budget then ({ status := s, entry := none, budgetAt := some i }, back)
      else ({ status := if es.length = 1 then s else Status.groupFail, entry := some (i, s), budgetAt := none }, d.keepAdmission back)
    | none =>
      if isMirror w then (Verdict.pass, back)
      else
        let n := (es.filter fun e => !(d.isHeld rt.role e)).length
        match d.groupRefusal es n t with
        | some (r, x, m, i) =>
          ({ status := Status.budget, entry := none, budgetAt := i }, (d.keepAdmission back).noteRefusal r x m)
        | none => (Verdict.pass, back)

/-! Acceptance (R32, R352). -/

/-- What the acceptance of an object begins: a mode request waits (R425), a software step is due (R196). -/
def accepted (e : Entry) (d : Dev) : Dev :=
  if entryKey e = Obj.SYS_MODE_REQ then
    match e.val with
    | .num t => d.keepRequest t.toNat
    | .bytes _ => d
  else if entryKey e = Obj.TB_STEP ∨ entryKey e = Obj.RTC_SET then
    (d.setPtp { d.ptp with softDue := d.ptp.softDue + 1 }).stepPending
  else d

/-- The acknowledgement of R369. -/
def ackBytes (sec cycle objects : Nat) : List Byte := bytesBE 8 sec ++ bytesBE 4 cycle ++ bytesBE 2 objects ++ [0#8, 0#8]

/-- Tell the writer of an accepted group when it took effect (R369); a session that has closed gets no answer. -/
def ackGroup (g : Group) (sec cycle : Nat) (d : Dev) : Dev :=
  match g.writer with
  | .session n seq =>
    if d.sesOpen n ∧ d.getN (Obj.SES_ID n) = g.org.originId then
      d.respond n seq g.opcode Status.ok (ackBytes sec cycle g.objects)
    else d
  | .core c => d.setWin c { d.win c with status := Status.ok, seconds := sec % 4294967296, cycle := cycle }
  | _ => d

/-- The active module of a couple mirrors what it accepted, but for module-local objects, and counts
it (R334). (DEDUCED: assumption log 55) -/
def mirrorOut (role : Nat) (es : List Entry) (sec cycle : Nat) (d : Dev) : Dev :=
  let es := es.filter fun e => !(moduleLocal e.index)
  if d.role = Role.active ∧ d.on Obj.PR_LINK_STATE ∧ es.isEmpty = false then
    (d.inc Obj.PR_MIRRORED).send (.mirror role es sec cycle)
  else d

/-- An entry of a value in force, as the mirror carries it. -/
def mirrorEntry (d : Dev) (k : Nat) (v : Val) : Entry :=
  { index := k / 256, sub := k % 256, type := (d.typeOf k).code, val := v }

/-- Accept a checked group: held values are held, the rest waits for its boundary; a group of held values alone is
acknowledged at once. (DEDUCED: assumption log 55) -/
def acceptGroup (w : Writer) (rt : Rights) (op : Nat) (due : Option (Nat × Nat)) (es : List Entry) (d : Dev) : Dev :=
  let held := es.filter fun e => d.isHeld rt.role e
  let live := es.filter fun e => !(d.isHeld rt.role e)
  let d := held.foldl (fun d e => { d with held := SMap.ins d.held (entryKey e) { val := e.val, org := rt.org } }) d
  let g : Group := { number := d.host.nextGroup, writer := w, org := rt.org, opcode := op,
                     entries := live.map fun e => { key := entryKey e, val := e.val, inst := none }, accepted := d.tm.mono, due := due,
                     deferred := false, objects := es.length }
  if live.isEmpty then (d.mirrorOut rt.role held 0 0xFFFFFFFF).ackGroup g 0 0xFFFFFFFF
  else
    let d := { d with host := { d.host with groups := d.host.groups ++ [g], nextGroup := d.host.nextGroup + 1 } }
    let d := d.mirrorOut rt.role held 0 0xFFFFFFFF
    live.foldl (fun d e => if isMirror w then d else d.accepted e) d

/-- The 8 bytes of a GROUP_FAIL response (R368). -/
def failBytes (es : List Entry) (i s : Nat) : List Byte :=
  let e := es.getD i { index := 0, sub := 0, type := 0, val := .num 0 }
  bytesBE 2 i ++ bytesBE 2 e.index ++ [BitVec.ofNat 8 e.sub, BitVec.ofNat 8 s, 0#8, 0#8]

/-- The result of a core's group in its local window; GROUP_FAIL names the object (R146). (DEDUCED: assumption log 19) -/
def coreResult (c : Nat) (v : Verdict) (es : List Entry) (d : Dev) : Dev :=
  let x := d.win c
  let object := match v.entry with
    | some (i, _) => entryKey (es.getD i { index := 0, sub := 0, type := 0, val := .num 0 })
    | none => 0
  d.setWin c { x with status := v.status, seconds := if v.status = Status.groupFail then object else 0, cycle := 0xFFFFFFFF }

/-- The verdict on a group that a core collected (R146): a write that is itself refused, by its own checks or by admission,
discards the group with GROUP_FAIL and is named. -/
def collectedVerdict (v : Verdict) : Verdict :=
  match v.entry, v.budgetAt with
  | some x, _ => { v with status := Status.groupFail, entry := some x }
  | none, some i => { v with status := Status.groupFail, entry := some (i, v.status) }
  | none, none => v

/-- Submit a group of a core (R146, R355); `collected` says that an open group collected it. A single-write group answers
with the write's own status. -/
def coreSubmit (c : Fin 8) (collected : Bool) (es : List Entry) (d : Dev) : Dev :=
  match d.rights (.core c) with
  | none => d
  | some rt =>
    let (v, d) := d.checkGroup (.core c) rt es
    if v.status = Status.ok then d.acceptGroup (.core c) rt 0 none es
    else d.coreResult c (if collected then collectedVerdict v else v) es

/-- Whether a core's open group may collect a write: LIVE, in the ranges of R146. -/
def collects (d : Dev) (e : Entry) : Bool :=
  (decide (0x3000 ≤ e.index ∧ e.index < 0x4400) || decide (0x8000 ≤ e.index ∧ e.index < 0x8010))
    && match d.objAt URole.engineer e.index e.sub with
      | .ok r => decide (r.cls = .live)
      | .error _ => false

/-- A core's write of `LE_LOCAL_GROUP` (Table 05-8). -/
def groupEntry (v : Nat) : Entry := { index := 0x3801, sub := 1, type := OType.u8.code, val := .num v }

/-- `LE_LOCAL_GROUP` of a core (R146): 1 opens, 2 submits, 3 discards. A write of it that is refused answers as any other
write of the core: with its own status, or, while a group is open, with GROUP_FAIL, which discards the group. -/
def localGroup (c : Fin 8) (e : Entry) (d : Dev) : Dev :=
  let x := d.win c
  let ok := e.type == OType.u8.code
  if ok ∧ e.val = .num 1 then d.setWin c { x with group := some [] }
  else if ok ∧ e.val = .num 3 then d.setWin c { x with group := none }
  else if ok ∧ e.val = .num 2 then
    match x.group with
    | some es =>
      let d := d.setWin c { x with group := none }
      if es.isEmpty then d else d.coreSubmit c true es
    | none => d
  else (d.setWin c { x with group := none }).coreSubmit c x.group.isSome [e]

/-- A write of a core (R146, R355): collected by its open group, which it may end; else a group of one. -/
def coreWrite (c : Fin 8) (e : Entry) (d : Dev) : Dev :=
  let x := d.win c
  if entryKey e = Obj.LE_LOCAL_GROUP then
    d.localGroup c e
  else match x.group with
    | none => d.coreSubmit c false [e]
    | some es =>
      if d.collects e = false then
        (d.setWin c { x with group := none }).coreResult c { status := Status.groupFail, entry := some (0, 0), budgetAt := none } [e]
      else if 64 ≤ es.length then
        (d.setWin c { x with group := none }).coreResult c { status := Status.tooLong, entry := none, budgetAt := none } []
      else d.setWin c { x with group := some (es ++ [e]) }

/-- Write of a session (R368, R369): the refusal is answered at once, an accepted group when it has taken effect. -/
def sessionWrite (n : Fin 16) (seq op : Nat) (es : List Entry) (d : Dev) : Dev :=
  match d.rights (.session n seq) with
  | none => d
  | some rt =>
    let (v, d) := d.checkGroup (.session n seq) rt es
    if v.status = Status.ok then d.acceptGroup (.session n seq) rt op none es
    else if op = 0x13 then
      match v.entry with
      | some (i, s) => d.respond n seq op Status.groupFail (failBytes es i s)
      | none => d.respond n seq op v.status []
    else d.respond n seq op v.status []

/-- Give the entries of a group the instances that wrote them. -/
def markInst (number : Nat) (insts : List Nat) (d : Dev) : Dev :=
  let mark := fun (g : Group) =>
    if g.number = number then { g with entries := List.zipWith (fun (e : PEntry) i => { e with inst := some i }) g.entries insts }
    else g
  { d with host := { d.host with groups := d.host.groups.map mark } }

/-- The OBJ writes of a scan as one group (R291): refused, they are discarded with event 135. -/
def seqSubmit (es : List (Nat × Entry)) (d : Dev) : Dev :=
  match es with
  | [] => d
  | (inst, _) :: _ =>
    let w : Writer := .sequencer inst
    match d.rights w with
    | none => d
    | some rt =>
      let (v, d) := d.checkGroup w rt (es.map (·.2))
      if v.status = Status.ok then (d.acceptGroup w rt 0 none (es.map (·.2))).markInst d.host.nextGroup (es.map (·.1))
      else (d.inc Obj.SEQ_OBJ_REFUSED).seqEvent 135 inst

/-- A mirrored write at the standby (R334): it takes effect at the boundary reported. -/
def mirrorSubmit (r : Fin 5) (es : List Entry) (sec cycle : Nat) (d : Dev) : Dev :=
  match d.rights (.mirror r) with
  | none => d
  | some rt =>
    let (v, d) := d.checkGroup (.mirror r) rt es
    if v.status = Status.ok then d.acceptGroup (.mirror r) rt 0 (some (sec, cycle)) es else d

/-- Write of one object by any writer. -/
def submit (w : Writer) (e : Entry) (d : Dev) : Dev :=
  match w with
  | .session n seq => d.request n seq (fun d => d.sessionWrite n seq 0x11 [e])
  | .core c => d.coreWrite c e
  | .sequencer i => d.seqSubmit [(i, e)]
  | .mirror r => d.mirrorSubmit r [e] d.second (d.getN Obj.CYC_INDEX)

end Dev

end Sys2Proof.Machine
end

