-- ==== Sys2Proof/Machine/Hooks.lean ====
section
/-! DEFINITION. What a write does at its boundary beside putting its value in force: one definition for each block of the
object index, and the whole in `written`. -/

namespace Sys2Proof.Machine

open Sys2Proof

namespace Dev

/-- A phase step made since `before` reaches the pools, the timed releases and the timers too (R230, R265, R395). -/
def afterStep (before d : Dev) : Dev :=
  if d.get Obj.TB_STEP_COUNT = before.get Obj.TB_STEP_COUNT then d else d.tpPhaseStep.taskPhaseStep.pwmPhaseStep

/-- Close every open session of a user (Table 15-6). -/
def closeUser (u : Nat) (d : Dev) : Dev :=
  upTo 16 (fun n d => if d.sesOpen n ∧ (d.ses n).user = some u then d.closeSession n else d) d

/-- Install an image into the inactive slot (R374). -/
def fwInstall (org : Origin) (b : List Byte) (d : Dev) : Dev :=
  let slot := 1 - d.getN Obj.FW_SLOT
  let s : FwSlot := { image := b, version := Config.imageVersion b % 64 }
  let h := if slot = 0 then { d.host with fw0 := s } else { d.host with fw1 := s }
  ({ d with host := h } : Dev).fwResult 1 slot org

/-- Open debug to a session (R367): event 167 and an UNLOCK record. -/
def debugUnlock (org : Origin) (d : Dev) : Dev :=
  let n := org.originId % 16
  (({ d with host := { d.host with debug := some n } } : Dev).hostEvent 167 n).logNote 7 0 org

/-- The objects of host access (R373, R374, R366, R367). -/
def hookHost (org : Origin) (ix sub n : Nat) (b : List Byte) (d : Dev) : Dev :=
  let k := ix * 256 + sub
  if k = Obj.HOST_RAW_ENABLE then { d with host := { d.host with rxHead := 0, txHead := 0, txTail := none } }
  else if k = Obj.HOST_RAW_TX_TAIL then { d with host := { d.host with txTail := some n } }
  else if 0x1200 ≤ ix ∧ ix < 0x1220 then
    if (sub = 1 ∧ n = 0) ∨ sub = 3 ∨ sub = 4 then d.closeUser (ix - 0x1200) else d
  else if k = Obj.SEC_DEBUG_UNLOCK then d.debugUnlock org
  else if k = Obj.FW_IMAGE then d.fwInstall org b
  else if k = Obj.FW_ACTIVATE then { d with host := { d.host with fwDue := true } }
  else d

/-- The writable objects the stored configuration holds: all but key material and the safety parameter set, which is stored
by its activation (R313, R427). -/
def stores (r : ObjRow) (k : Nat) : Bool := decide (r.acc = .rw) && !safetyKeys.contains k

/-- Whether a key names an object the stored configuration holds. -/
def storedKey (d : Dev) (k : Nat) : Bool :=
  match d.objAt URole.engineer (k / 256) (k % 256) with
  | .ok r => stores r k
  | .error _ => false

/-- The objects whose having been written counts, where they were written and hold their default: the stored configuration
keeps that (R97, R180). (DEDUCED: assumption log 61) -/
def writtenDefaults (d : Dev) : List (Nat × Int) :=
  let arms := ((List.range 2).filter fun a => (d.modEng a).written).map Obj.MOD_ARM_ENABLE
  let divs := ((List.range 4).filter fun g => d.meas.anchors.any fun x => x.1 == 1 + g).map Obj.MEAS_GRP_DIV
  ((arms ++ divs).filter fun k => d.get k == objDefault k).map fun k => (k, objDefault k)

/-- `SYS_CONFIG_SAVE` takes effect (R427): every writable object, a held value where one waits. -/
def saveConfig (d : Dev) : Dev :=
  let held := d.held.filter fun x => d.storedKey x.1
  let nums := held.foldl (fun m x => match x.2.val with
    | .num v => SMap.set (objDefault x.1) m x.1 v
    | .bytes _ => m) (d.objs.filter fun x => d.storedKey x.1)
  let blobs := held.foldl (fun m x => match x.2.val with
    | .bytes v => SMap.set [] m x.1 v
    | .num _ => m) (d.blobs.filter fun x => d.storedKey x.1)
  { d with host := { d.host with storedNum := nums ++ d.writtenDefaults, storedBytes := blobs, stored := true } }

/-- The objects of modes and faults (R425–R436). A STANDBY takes its mode from the active module (R329). -/
def hookSystem (k n : Nat) (v : Int) (d : Dev) : Dev :=
  if k = Obj.SYS_MODE_REQ then if d.standby then d else d.modeDue n
  else if k = Obj.SYS_RELEASE then if d.standby then d else d.devRelease v
  else if k = Obj.SYS_RESET then d.devSysReset
  else if k = Obj.SYS_CONFIG_SAVE then d.saveConfig
  else if k = Obj.FM_FIRST_CLEAR then d.devFirstClear
  else if k = Obj.FM_ACK then d.devAck n
  else d

/-- The objects of strands, lanes and cells. -/
def hookStrand (ix sub n : Nat) (b : List Byte) (changed : Bool) (d : Dev) : Dev :=
  if ix = 0x2010 then
    if sub = 1 then d.startEnum
    else if sub = 2 then
      if changed then upTo 32 (fun l d => d.laneRefresh l) d.strandObjectChanged.pairTopology else d
    else if sub = 3 ∧ changed then d.strandObjectChanged
    else d
  else if 0x2100 ≤ ix ∧ ix < 0x2120 then
    let l := ix - 0x2100
    if sub = 1 ∨ sub = 8 then d.laneRefresh l
    else if sub = 6 then d.applyRxInvert l n
    else if sub = 7 then d.applyBitslip l
    else d
  else if 0x2200 ≤ ix ∧ ix < 0x2220 then
    if sub = 1 then if changed then upTo 32 (fun l d => d.laneRefresh l) d.strandObjectChanged else d
    else if sub = 0x0A then d.softRequest (ix - 0x2200) b
    else d
  else if 0x2800 ≤ ix ∧ ix < 0x3000 then
    if sub = 3 ∧ changed then d.strandObjectChanged else if sub = 0x13 then d.permitJoin (ix - 0x2800) else d
  else d

/-- The objects of modulation, the loop engine and its supervision. -/
def hookLoop (ix sub : Nat) (d : Dev) : Dev :=
  if 0x3010 ≤ ix ∧ ix < 0x3012 ∧ sub = 1 then
    let a := ix - 0x3010
    (d.setModEng a { d.modEng a with written := true }).armRefresh a
  else if ix * 256 + sub = Obj.LE_VALIDATE then d.devLeValidate
  else if 0x3A00 ≤ ix ∧ ix < 0x3C00 then
    let i := ix - 0x3A00
    if sub = 0x21 then d.devLeReset i
    else if sub = 9 ∧ d.leType i = 0x1E then d.repRefresh (d.leMode i)
    else d
  else if ix * 256 + sub = Obj.SUP_PEAK_CLEAR then d.devPeakClear
  else if 0x4100 ≤ ix ∧ ix < 0x4110 then if sub = 5 then d.repZero (ix - 0x4100) else d
  else d

/-- The objects of the measurement inputs. -/
def hookMeas (ix sub : Nat) (d : Dev) : Dev :=
  if ix = 0x4400 then if 1 ≤ sub ∧ sub ≤ 4 then d.measDivider (sub - 1) else d
  else if 0x4410 ≤ ix ∧ ix < 0x4430 then if sub ≤ 9 then d.measStart (ix - 0x4410) else d
  else if 0x44C0 ≤ ix ∧ ix < 0x44E0 then d.diagRewrite (ix - 0x44C0)
  else if ix = 0x4500 then d.diagRunWritten
  else d

/-- The objects of the time subsystem; the generators follow once every write of the boundary stands (`pulsesFollow`). -/
def hookTime (ix sub : Nat) (v : Int) (d : Dev) : Dev :=
  let k := ix * 256 + sub
  if k = Obj.TB_ADDEND_SET then d.devAddendSet v
  else if k = Obj.TB_STEP then afterStep d (d.devPhaseStep v false)
  else if k = Obj.RTC_SET then afterStep d (d.devRtcSet v)
  else if k = Obj.PTP_ENABLE then if v = 0 then d.ptpDisabled else d.portStates
  else d

/-- The objects of Tidepool and the travelling-wave service. -/
def hookTide (ix sub n : Nat) (b : List Byte) (d : Dev) : Dev :=
  if ix = 0x4C00 then upTo 32 (fun i d => d.tpConvert (i / 8) (i % 8)) d.tpRefresh
  else if 0x4C10 ≤ ix ∧ ix < 0x4C14 then
    let p := ix - 0x4C10
    if 1 ≤ sub ∧ sub ≤ 3 then d.tpRefresh
    else if sub = 0x0A then if n = 1 then d.devTpArm p else if n = 2 then d.devTpStop p else d.devTpForce p
    else d
  else if 0x4C20 ≤ ix ∧ ix < 0x4C40 then d.tpConvert ((ix - 0x4C20) / 8) ((ix - 0x4C20) % 8)
  else if 0x4C44 ≤ ix ∧ ix < 0x4C48 then d.devTpRelease (ix - 0x4C44) n
  else if 0x4E00 ≤ ix ∧ ix < 0x4E04 ∧ sub = 1 then d.twEnabled (ix - 0x4E00)
  else if 0x4E00 ≤ ix ∧ ix < 0x4E04 ∧ sub = 0x0E then d.devTwRemoteIn (ix - 0x4E00) b
  else d

/-- The objects of the Stable and the sequencer. -/
def hookTasks (ix sub n : Nat) (b : List Byte) (d : Dev) : Dev :=
  let k := ix * 256 + sub
  if 0x5400 ≤ ix ∧ ix < 0x5800 then if sub = 1 then d.taskEnabled (ix - 0x5400) else d
  else if 0x5810 ≤ ix ∧ ix < 0x5820 then d.stallWeighted
  else if k = Obj.TL_RD_PTR then d.tlReadPtr
  else if k = Obj.SEQ_CMD then
    if n = 1 then d.devSeqValidate else if n = 2 then d.devSeqStart else if n = 3 then d.devSeqStop else d.devSeqExchange
  else if k = Obj.SEQ_PERIOD then d.seqPeriodWritten
  else if k = Obj.SEQ_CORES then d.seqCoresWritten
  else if k = Obj.SEQ_IMAGE then d.seqStage b
  else d

/-- The objects of Breakwater and of pair mode. -/
def hookSafety (k n : Nat) (v : Int) (d : Dev) : Dev :=
  if k = Obj.BW_LOR then d.devLor v
  else if k = Obj.BW_TEST then d.devBwTest n
  else if k = Obj.BW_SET_ACTIVATE then d.devSetActivate
  else if k = Obj.PR_EXERCISE_PERIOD ∨ k = Obj.PR_EXERCISE_START then d.set Obj.PR_EXERCISE_NEXT d.exerciseNext
  else d

/-- The objects of the field channels and the PWM. -/
def hookField (ix sub : Nat) (old v : Nat) (d : Dev) : Dev :=
  let k := ix * 256 + sub
  if k = Obj.FIO_DIR ∨ k = Obj.FIO_OUT then d.fioDrive
  else if k = Obj.FIO_OUT_ENABLE then d.fioEnabled
  else if k = Obj.FIO_APP_KICK then d.devAppKick
  else if k = Obj.FIO_SURVEY then d.devSurveyStart
  else if k = Obj.PWM_ENABLE then d.pwmEnabled
  else if k = Obj.PWM_TRIP_CLEAR then d.devPwmTripClear v
  else if k = Obj.PWM_SPLIT then d.pwmSplitCleared old v
  else if 0x6908 ≤ ix ∧ ix < 0x690C then
    if sub = 1 then d.pwmPins
    else if v = 1 then d.devPwmMaskApply (ix - 0x6908) else d.devPwmMaskRelease (ix - 0x6908)
  else if 0x6910 ≤ ix ∧ ix < 0x691A then
    let t := ix - 0x6910
    if sub ≤ 3 then d.pwmShadow t sub
    else if sub = 5 then d.devPwmCommit t
    else if sub = 9 ∨ sub = 0x0A then d.pwmPins
    else d
  else d

/-- The objects of the CAN controllers. -/
def hookCan (ix sub n : Nat) (b : List Byte) (d : Dev) : Dev :=
  if 0x6C10 ≤ ix ∧ ix < 0x6C12 then if sub = 1 then d.canEnabled (ix - 0x6C10) else d
  else if 0x6C20 ≤ ix ∧ ix < 0x6C22 then
    let c := ix - 0x6C20
    if sub = 4 then d.devCanRecover c
    else if sub = 6 then d.devCanTx c b
    else if sub = 7 then d.devCanTxAbort c n
    else d
  else d

/-- What the write of an object does beside its value, `d` being the module with the value in force. -/
def written (org : Origin) (k : Nat) (old v : Val) (d : Dev) : Dev :=
  let ix := k / 256
  let sub := k % 256
  let x : Int := match v with
    | .num x => x
    | .bytes _ => 0
  let b := match v with
    | .num _ => []
    | .bytes b => b
  let o := match old with
    | .num x => x.toNat
    | .bytes _ => 0
  let n := x.toNat
  let changed := decide (old ≠ v)
  if ix < 0x1800 then d.hookHost org ix sub n b
  else if ix < 0x2000 then
    if ix = 0x1820 ∧ sub = 1 ∧ changed then d.strandObjectChanged else d.hookSystem k n x
  else if ix < 0x3000 then d.hookStrand ix sub n b changed
  else if ix < 0x4400 then d.hookLoop ix sub
  else if ix < 0x4800 then d.hookMeas ix sub
  else if ix < 0x4C00 then d.hookTime ix sub x
  else if ix < 0x5000 then d.hookTide ix sub n b
  else if ix < 0x5400 then if changed then d.phWritten else d
  else if ix < 0x6000 then d.hookTasks ix sub n b
  else if ix < 0x6800 then d.hookSafety k n x
  else if ix < 0x6C00 then d.hookField ix sub o n
  else if ix < 0x7000 then d.hookCan ix sub n b
  else d

/-- Whether the module keeps the value of a write: not that of a command object, and not where the write's own rule puts it
in force. -/
def keepsValue (d : Dev) (k : Nat) : Bool :=
  if 0x2100 ≤ k / 256 ∧ k / 256 < 0x2120 ∧ k % 256 = 6 then false
  else if 0x1200 ≤ k / 256 ∧ k / 256 < 0x1220 then true
  else match d.objAt URole.security (k / 256) (k % 256) with
    | .ok r => decide (r.acc = .rw)
    | .error _ => false

/-- One object's write takes effect (R32, R377): its value, its log record, and what follows from it. The drift accumulated
so far stands at the assumed drift before the write (R198). -/
def applyEntry (org : Origin) (e : PEntry) (d : Dev) : Dev :=
  let d := if e.key = Obj.TB_HOLDOVER_DRIFT then d.bringDrift else d
  let ty := d.typeOf e.key
  let old := d.valOf ty e.key
  let d := if d.keepsValue e.key then d.putAll (setsOf e.key e.val) else d
  (d.logWrite org e.key old e.val).written org e.key old e.val

/-! Groups at their boundary (R32, R145, R370). -/

/-- Whether an object is a routing object of the event matrix. -/
def isRouting (e : PEntry) : Bool := decide (0x1900 ≤ e.key / 256 ∧ e.key / 256 < 0x19C0)

/-- Whether a LIVE object of the loop instances is written: a parameter, or the reset of an instance (Table 05-8). -/
def isLoopLive (k : Nat) : Bool :=
  decide (0x3A00 ≤ k / 256 ∧ k / 256 < 0x3C00) && (decide (9 ≤ k % 256 ∧ k % 256 ≤ 0x10) || k % 256 == 0x21)

/-- The lowest loop instance whose LIVE objects a group writes; 0xFFFF for loop variables alone; none for neither
(event 36). -/
def loopTouched (es : List PEntry) : Option Nat :=
  let inst := (es.filter fun e => isLoopLive e.key).map fun e => e.key / 256 - 0x3A00
  match inst with
  | i :: t => some (t.foldl min i)
  | [] => if es.any fun e => decide (0x8000 ≤ e.key / 256 ∧ e.key / 256 < 0x8010) then some 0xFFFF else none

/-- One group takes effect at the boundary of a second and cycle: its entries in order, event 36, the admission results of
the configuration it leaves outside CONFIG, its mirror and its acknowledgement. Events already raised in this boundary
follow the routing before it. A group that was deferred is applied later than its first eligible boundary and counts at
rank 8 (R31). -/
def applyGroup (sec cycle : Nat) (g : Group) (d : Dev) : Dev :=
  let d := if g.deferred then d.broken 8 else d
  let d := if g.entries.any isRouting then d.drain 256 else d
  let d := g.entries.foldl (fun d e => d.applyEntry { g.org with originId := e.inst.getD g.org.originId } e) d
  let d : Dev := match loopTouched g.entries with
    | some i => d.leEvent 36 i
    | none => d
  let d := if d.mode ≠ Mode.boot ∧ d.mode ≠ Mode.config
      ∧ (g.entries.any fun e => admissionTerm (e.key / 256) (e.key % 256)) = true then d.admitted none (d.budget none) else d
  let d := if isMirror g.writer then d
    else d.mirrorOut g.org.role (g.entries.map fun e => d.mirrorEntry e.key e.val) sec cycle
  d.ackGroup g sec cycle

/-- Whether a waiting group is due at the boundary of a second and cycle (R32, R334). -/
def groupDue (d : Dev) (sec cycle : Nat) (g : Group) : Bool :=
  match g.due with
  | some (s, c) => decide (s < sec) || (s == sec && decide (c ≤ cycle))
  | none => decide (g.accepted + 1000 * nsUnit ≤ d.tm.mono)

/-- The groups due that take effect now, in acceptance order, and those that wait on: the first that does not fit and every
later one is deferred (R370). -/
def takeGroups (d : Dev) (sec cycle left : Nat) : Bool → List Group → List Group × List Group
  | _, [] => ([], [])
  | full, g :: t =>
    if d.groupDue sec cycle g = false then
      let (a, b) := takeGroups d sec cycle left full t
      (a, g :: b)
    else if full || decide (left < g.entries.length) then
      let (a, b) := takeGroups d sec cycle left true t
      (a, { g with deferred := true } :: b)
    else
      let (a, b) := takeGroups d sec cycle (left - g.entries.length) false t
      (g :: a, b)

/-- Event 39 of a boundary: the lowest instance reset in it, `known` being those reset before (R145, R148). -/
def resetEvent (known : Nat) (d : Dev) : Dev :=
  match d.loop.resets.drop known with
  | [] => d
  | i :: t => d.leEvent 39 (t.foldl min i)

/-- The generators whose settings are among the objects written take them over (R209). -/
def pulsesFollow (keys : List Nat) (d : Dev) : Dev :=
  upTo 4 (fun u d =>
    if keys.any fun k => k / 256 == 0x4840 + u then
      d.pulseApply u (keys.contains (Obj.PG_MODE u) || keys.contains (Obj.PG_START u))
    else d) d

/-- Whether an object routes an event (R422). -/
def routeKey (k : Nat) : Bool := decide (0x1900 ≤ k / 256 ∧ k / 256 < 0x19C0 ∧ 1 ≤ k % 256 ∧ k % 256 ≤ 4)

/-- The waiting groups at a boundary: those due take effect. Events of the boundary's clock follow the routing of before. -/
def applyGroups (d : Dev) : Dev :=
  let sec := d.second
  let cycle := d.getN Obj.CYC_INDEX
  let (now, rest) := d.takeGroups sec cycle d.cw false d.host.groups
  let routes := ((now.flatMap fun g => g.entries.map (·.key)).filter routeKey).map fun k => (k, d.getN k)
  let d := { d with host := { d.host with groups := rest }, fm := { d.fm with routes := routes } }
  let d := now.foldl (fun d g => d.applyGroup sec cycle g) d
  d.pulsesFollow (now.flatMap fun g => g.entries.map (·.key))

end Dev

end Sys2Proof.Machine
end

