-- ==== Sys2Proof/Machine/Cycle.lean ====
section
/-! DEFINITION. The control cycle (R12–R34): the cycle boundary with its overrun handling, the judgement at t_in, the end of
the loop program and the commit. -/

namespace Sys2Proof.Machine

open Sys2Proof

namespace Dev

/-! The boundary T_k. -/

/-- Tc in the time base's units. -/
def tcUnits (d : Dev) : Nat := d.tc * nsUnit

/-- The next T_k (R12, R13): the first multiple of Tc at least one Tc after the last cycle start; the first of all lies
strictly after now. (DEDUCED: assumption log 24) -/
def nextT (d : Dev) : Nat :=
  let least := if d.tm.started then d.tm.lastT + d.tcUnits else d.tm.now + 1
  (least + d.tcUnits - 1) / d.tcUnits * d.tcUnits

/-- The time base reaches the next T_k; what time has already passed is not taken back. (DEDUCED: assumption log 24) -/
def reachT (d : Dev) : Dev :=
  let t := d.nextT
  let ahead := t - d.tm.now
  let d := { d with tm := { d.tm with now := d.tm.now + ahead, mono := d.tm.mono + ahead, lastT := t, started := true } }
  d.setN Obj.CYC_INDEX (t % secUnit / d.tcUnits)

/-- Whether the engines run in the present state (Table 18-4, R329, R337). -/
def enginesRun (d : Dev) : Bool := decide (2 ≤ d.mode) && !d.standby && d.pair.take.isNone

/-- The objects a run writes before its commit: the reductions, the vector stage's outputs and the orders (R33). -/
def runKeys : List Nat :=
  (List.range 2).flatMap fun a =>
    (List.range 13).map (Obj.RED_N_COUNTED a + ·) ++ [Obj.LE_VEC a 0, Obj.LE_VEC a 1, Obj.LE_VEC a 2, Obj.LE_VEC_N a 0, Obj.LE_VEC_N a 1]
      ++ (List.range 4).map (Obj.MOD_ORD_U_REF a + ·)

/-- Keep the values these objects have as a run begins. -/
def keepRun (d : Dev) : Dev := { d with cyc := { d.cyc with undo := runKeys.map fun k => (k, d.get k) } }

/-- Give them back as a run is abandoned (R33): all state is as committed at the end of the last complete run. -/
def undoRun (d : Dev) : Dev :=
  let d := d.cyc.undo.foldl (fun d x => d.set x.1 x.2) d
  { d with cyc := { d.cyc with undo := [] } }

/-- The run of the last cycle did not commit (R33, R34): it is abandoned and counted; from the limit on, every further
overrun of the row trips again. (DEDUCED: assumption log 59) -/
def overrun (d : Dev) : Dev :=
  let loop := d.cyc.phase = .idle ∨ d.cyc.phase = .loop
  let d := (((d.abandonLoop.abandonArm 0).abandonArm 1).svAbandon).undoRun.cpOverrun
  let d := if loop then (d.inc Obj.CYC_OVR_LOOP).signal 32 (noSource 32) else (d.inc Obj.CYC_OVR_MOD).signal 48 (noSource 48)
  let n := d.getN Obj.CYC_OVR_CONSEC + 1
  let d := (d.broken 3).setN Obj.CYC_OVR_CONSEC (min 15 n)
  if d.getN Obj.CYC_OVR_LIMIT ≤ n then d.raiseFault 0x0102 4 0 (noSource 0x0102) 0 false else d

/-- The banks swap after a committed run (R58). -/
def swapBanks (d : Dev) : Dev :=
  upTo 32 (fun s d => match (d.strand s).next with
    | some b => d.setStrand s { d.strand s with bank := b, next := none }
    | none => d) d

/-- The end of the last cycle's run. (DEDUCED: assumption log 59) -/
def closeRun (d : Dev) : Dev :=
  let d := if d.cyc.due ∧ d.cyc.phase ≠ .committed then d.overrun else d.swapBanks
  { d with cyc := { d.cyc with phase := .idle, due := false } }

/-- The frame of a takeover: HOLD, or BLOCKED when it is cold, to every cell with a new SEQ (R337, R339); BLOCKED with SEQ 0 to
an EMPTY or ABSENT position (R69). -/
def takeoverBank (d : Dev) : Dev :=
  if d.cyc.takeover = 0 then d
  else
    let state := if d.cyc.takeover = 4 then 4 else 0
    upTo 32 (fun s d =>
      let d := (d.strandCells s).foldl (fun d n =>
        let gone := d.cellState n = CellState.empty ∨ d.cellState n = CellState.absent
        let c := if gone then Rodal.mkCommand (n % 64) 0 0 0 0 false false
          else Rodal.mkCommand (n % 64) state 0 0 ((Rodal.cSeq (d.cell n).cmd + 1) % 8) false false
        let d := d.shiftCommand n c
        (d.settledOf [(n, c)]).foldl (fun d y => d.setCell y.1 { d.cell y.1 with settled := y.2 }) d) d
      d.setStrand s { d.strand s with bank := (d.strandCells s).map fun n => (d.cell n).cmd, next := none }) d

/-- Judge the lanes and strands of a cycle (R47, R87, R91). -/
def judge (d : Dev) : Dev :=
  let d := upTo 32 (fun l d => d.judgeLane l) d
  let d := upTo d.strandCount (fun s d => d.judgeFold s) d
  upTo d.strandCount (fun s d => d.judgeStrand s) d

/-- In CONFIG no t_in is in force (R25): what t_in does for lanes, cells and the guard cores happens as the cycle ends.
(DEDUCED: assumption log 59) -/
def configCycle (d : Dev) : Dev :=
  if d.mode = Mode.config then (((d.judge.checkNRed 0).checkNRed 1).latchSamples).guardEval else d

/-- Whether the fabric and the time domain take the cycle-start pulse (R456). (DEDUCED: assumption log 60) -/
def clocksRun (d : Dev) : Bool := d.tm.refclk && d.tm.timeclk

/-- CYCLE_BOUNDARY (R12). The run of the last cycle ends first, with its L4 reaction, then the pair's part, then the groups
due; frame k leaves under the mode and the values then in force. (DEDUCED: assumption log 60) -/
def devCycleBoundary (partner : Option PairStatus) (d : Dev) : Dev :=
  if d.tm.timeclk = false then d
  else if d.tm.refclk = false then d.reachT
  else
    let d := d.configCycle
    let second := d.second
    let d := d.reachT.closeRun
    let d := (d.pairBoundary partner).takeoverBank
    let d := if d.enginesRun then d.repBoundary else d
    let d := (d.applyGroups.resetEvent d.loop.resets.length).followModes.endLeaving.pwmBoundary
    let d := if d.second = second then d else d.coreLoads
    let d := if d.enginesRun then d.svBoundary else d
    let d := d.mailboxes
    let d := upTo d.strandCount (fun s d => d.clearReception s) d
    let d := d.emitFrames.emitSplit.sendStatus
    { d with cyc := { d.cyc with phase := .idle, due := d.enginesRun, runSeq := d.runIndex, tin := false, loopEnd := 0 } }

/-! Within the cycle. -/

/-- LOOP_ENGINE_START (R25, R123): t_in passes; the cycle's frames are judged and the prologue begins. Engines stand still in
BOOT and CONFIG; a STANDBY judges, and runs nothing else. (DEDUCED: assumption log 54) -/
def devLoopEngineStart (d : Dev) : Dev :=
  if d.mode < 2 ∨ d.cyc.tin ∨ d.clocksRun = false then d
  else
    let d := { d with cyc := { d.cyc with tin := true } }
    let d := d.judge
    let d := if d.standby then d else upTo d.strandCount (fun s d => d.judgeJoins s) d
    let d := if d.standby then d else (d.checkNRed 0).checkNRed 1
    let d := d.latchSamples
    let d := if d.cyc.due then
        let d := (d.keepRun.reduceArm 0).reduceArm 1
        let d := ((d.vectorStage 0).vectorStage 1).svPrologues.loopSnapshot
        { d with cyc := { d.cyc with phase := .loop } }
      else d
    d.evalPairs.guardEval

/-- LOOP_RUN_COMPLETE (R123): the program's results are staged, the epilogue runs, the modulation engine takes the orders,
and a completion is posted. -/
def devLoopRunComplete (endNs stalls : Nat) (d : Dev) : Dev :=
  if d.cyc.phase ≠ .loop then d
  else
    let d := (d.add Obj.SUP_ECC_STALLS stalls).devLoopRun.svEpilogues.devModulate
    ({ d with cyc := { d.cyc with phase := .modulation, loopEnd := endNs } } : Dev).postEngine 8

/-- COMMIT_COMPLETE (R33): the results of the run are committed together. -/
def devCommitComplete (modNs comNs stalls : Nat) (d : Dev) : Dev :=
  if d.cyc.phase ≠ .modulation then d
  else
    let d := (d.add Obj.SUP_ECC_STALLS stalls).svCommit.cpCollect.commitLoop.devCommitRun.svStage.relayBanks
    let d := d.cpCommit (d.tm.lastT / nsUnit + comNs)
    let d := (d.peak Obj.SUP_LOOP_END_MAX d.cyc.loopEnd).peak Obj.SUP_MOD_END_MAX modNs
    let d := (d.peak Obj.SUP_COMMIT_END_MAX comNs).set Obj.CYC_OVR_CONSEC 0
    ({ d with cyc := { d.cyc with phase := .committed, undo := [] } } : Dev).postEngine 9

/-- HEAL_WINDOW_EXPIRY (R91): the timer of an open window ends. -/
def devHealWindowExpiry (s : Nat) (d : Dev) : Dev := 
  if (d.strand s).healLeft ≠ 0 ∨ (d.strand s).healArmed then d else d.devHealExpiry s

/-! The mirror's resend (R334). -/

/-- The keys of every writable object that is mirrored. -/
def mirroredKeys (d : Dev) : List Nat :=
  objRows.flatMap fun r =>
    if r.acc ≠ .rw ∨ moduleLocal r.base then []
    else (List.range r.count).flatMap fun i => (List.range r.nsub).filterMap fun j =>
      match d.objAt URole.engineer (r.base + i) (r.sub + j) with
      | .ok _ => some ((r.base + i) * 256 + r.sub + j)
      | .error _ => none

/-- The active module sends every mirrored object: as a couple forms (R327), and once the pair link is back (R334). (DEDUCED:
assumption log 55) -/
def mirrorAll (d : Dev) : Dev :=
  d.send (.mirror URole.engineer
    ((d.mirroredKeys).map fun k => d.mirrorEntry k (d.valOf (d.typeOf k) k)) d.second (d.getN Obj.CYC_INDEX))

/-- COUPLE_FORMATION (R327): once the checks pass, the preferred module copies every mirrored object to its partner. -/
def devCoupleFormation (p : PartnerId) (d : Dev) : Dev :=
  let e := d.coupleRoles p
  if d.coupleMeets p && d.coupleCheck p == 0 && d.on Obj.PR_PREF then e.mirrorAll else e

/-- PAIR_LINK_LANE_CHANGE (R330, R334). -/
def devPairLinkLane (l : Nat) (up : Bool) (d : Dev) : Dev :=
  let was := d.getN Obj.PR_COUPLE
  let d := d.devLinkLane l up
  if d.role = Role.active ∧ was = Couple.linkDown ∧ d.getN Obj.PR_COUPLE = Couple.formed then d.mirrorAll else d

end Dev

end Sys2Proof.Machine
end

