-- ==== Sys2Proof/Machine/Boot.lean ====
section
/-! DEFINITION. Reset and BOOT (R374, R427–R429, R444, R445), and the loss and return of the clocks (R456). -/

namespace Sys2Proof.Machine

open Sys2Proof

/-- The sources of Table 18-9. -/
abbrev ResetCause.powerOn : Nat := 0
abbrev ResetCause.supply : Nat := 1
abbrev ResetCause.pin : Nat := 2
abbrev ResetCause.software : Nat := 3
abbrev ResetCause.firmware : Nat := 4

/-- The objects that a reset leaves: identity and straps, what NOR holds (the safety parameter sets, the lock-out
counts, the epochs, the log's numbers, the firmware slots), the RTC's own, and levels at pins. (DEDUCED: assumption log 61) -/
def survives (k : Nat) : Bool :=
  safetyKeys.contains k
    || [Obj.ID_ORDER_CODE, Obj.ID_SERIAL, Obj.ID_STRAPS, Obj.PR_PREF, Obj.BW_LOR_STRAP, Obj.BW_SET_ACTIVE, Obj.BW_LOR_SEQ,
        Obj.SYS_LOCKOUT_SEQ, Obj.STR_EPOCH_TX, Obj.PR_EPOCH_SEEN, Obj.LOG_FIRST, Obj.LOG_NEXT, Obj.LOG_HEAD_LINK,
        Obj.LOG_PENDING, Obj.FW_SLOT, Obj.FW_ROLLBACK, Obj.RTC_DRIFT, Obj.RTC_STATE, Obj.RTC_VBAT_LOW,
        Obj.PR_ARB_STATE].contains k
    || [0, 1, 2, 3].any fun i => k == Obj.TRIPIN_STATE i

/-- The byte strings that a reset leaves: key material and the module's address. -/
def blobSurvives (k : Nat) : Bool :=
  decide (0x1200 ≤ k / 256 ∧ k / 256 < 0x1220 ∧ k % 256 = 4) || k == Obj.HOST_MAC

namespace Dev

/-- A reset (R428): BOOT with the Breakwater latch set through SELF, the BLOCK pins low, HEALTH STATIC and the field outputs
off; what NOR, the RTC and the outside hold stays. (DEDUCED: assumption log 61) -/
def resetDev (cause : Nat) (d : Dev) : Dev :=
  let power := cause = ResetCause.powerOn
  let h := d.host
  let host : HostSt :=
    { HostSt.reset with
      log := h.log, logWait := if power then [] else h.logWait, logLimit := !power && h.logLimit,
      logGap := if power then 0 else h.logGap, storedNum := h.storedNum, storedBytes := h.storedBytes, stored := h.stored,
      fw0 := h.fw0, fw1 := h.fw1 }
  let r : Dev :=
    { Dev.reset with
      objs := d.objs.filter fun x => survives x.1
      blobs := d.blobs.filter fun x => blobSurvives x.1
      held := d.held.filter fun x => x.1 / 256 == 0x1010 || x.1 / 256 == 0x1020
      free := d.free
      tm := { TimeSt.reset with timeclk := d.tm.timeclk, refclk := d.tm.refclk }
      fm := { FmSt.reset with nvLockout := d.fm.nvLockout }
      ctls := d.ctls
      host := host
      time := { TimeSub.reset with rtc := { d.time.rtc with base := d.rtcNow, at0 := 0 } }
      bw := { BwSt.reset with act := d.bw.act, raw := d.bw.raw % 4096 }
      pwm := { PwmSt.reset with pins := d.pwm.pins, levels := d.pwm.levels }
      outs := d.outs }
  let r := if power then r.set Obj.LOG_PENDING 0 else r
  let r := r.setN Obj.SYS_RESET_CAUSE cause
  (((r.send (.pins 0 0)).send (.pins 1 0)).send (.pins 2 0)).pwmPins

/-! BOOT. -/

/-- RESET_RELEASE (R444, R445): the straps are sampled, and, unless TEST holds the module in reset, the lanes in use leave
OFF (Table 02-2). (DEDUCED: assumption log 61) -/
def devResetRelease (pref lor test : Bool) (d : Dev) : Dev :=
  if d.mode ≠ Mode.boot then d
  else
    let n := (if pref then 1 else 0) + (if lor then 2 else 0) + (if test then 4 else 0)
    let d := ((d.setN Obj.ID_STRAPS n).setB Obj.PR_PREF pref).setB Obj.BW_LOR_STRAP lor
    if test then d else upTo 32 (fun l d => d.laneRefresh l) d

/-- The fatal results of Table 18-8: SRAM, TCM, DRAM, LOCKSTEP, TIME_PLL. -/
def fatalTest (t : Nat) : Bool := t.testBit 0 || t.testBit 1 || t.testBit 2 || t.testBit 4 || t.testBit 9

/-- A slot fails its verification or a fatal self-test (R374, R427): a second try, then the other slot with FALLBACK; when
both have failed twice the module stays in BOOT. -/
def bootFails (selfTest : Nat) (d : Dev) : Dev :=
  let n := d.host.fwFails + 1
  let note := fun (d : Dev) => ({ d with host := { d.host with fwFails := n } } : Dev).setN Obj.SYS_SELFTEST selfTest
  if n = 2 then
    let d := d.resetDev ResetCause.firmware
    let slot := 1 - d.getN Obj.FW_SLOT
    note ((d.setN Obj.FW_SLOT slot).fwResult 4 slot Origin.module)
  else if n = 1 ∨ n = 3 then
    let status := d.getN Obj.FW_STATUS
    note ((d.resetDev (d.getN Obj.SYS_RESET_CAUSE)).setN Obj.FW_STATUS status)
  else note d

/-- The stored configuration is loaded (R427): every value, then what each does; the stored addend is in force only with PTP
disabled (R195). (DEDUCED: assumption log 61) -/
def loadConfig (d : Dev) : Dev :=
  let vals := (d.host.storedNum.map fun x => (x.1, Val.num x.2)) ++ d.host.storedBytes.map fun x => (x.1, Val.bytes x.2)
  let before := d
  let d := d.putAll vals
  let acts := vals.filter fun x => !(x.1 == Obj.TB_ADDEND_SET && d.ptpOn)
  let d := acts.foldl (fun d x => d.written Origin.module x.1 (before.valOf (d.typeOf x.1) x.1) x.2) d
  d.pulsesFollow (vals.map (·.1))

/-- The time base from the RTC (R213): it starts at the next second edge of the RTC, which the module waits for. -/
def loadTime (rtcValid : Bool) (rtc : Nat) (d : Dev) : Dev :=
  if rtcValid then
    let d := d.setRtc { d.time.rtc with base := rtc, at0 := d.tm.mono }
    let edge := (rtc + 32767) / 32768
    let wait := (edge * 32768 - rtc) * secUnit / 32768
    let d := { d with tm := { d.tm with now := edge * secUnit, mono := d.tm.mono + wait, lastT := 0, started := false } }
    (if d.on Obj.RTC_STATE then d else d.set Obj.RTC_STATE 1).setTbState TbState.rtc
  else (d.setRtc { d.time.rtc with lastDisc := none }).set Obj.RTC_STATE 0

/-- The internal latencies of a port in the line mode in force (R205, R450, Table 08-2): 57.6 ns, and 190.4 ns under 1000BASE-X,
198.4 ns under SGMII. -/
def portLatency (q : Nat) (d : Dev) : Dev :=
  (d.setF (Obj.PTP_PORT_INT_TX q) (F32.ofRatio 576 10)).setF (Obj.PTP_PORT_INT_RX q)
    (F32.ofRatio (if d.getN (Obj.ETH_PORT_MODE q) = 1 then 1984 else 1904) 10)

/-- The units that start as BOOT ends: the quads, locked unless the self-test says otherwise, and the lanes in use (Table
02-2), the task cores, the ports of the time base, diagnostics, pools and conditions. (DEDUCED: assumption log 61) -/
def startUnits (d : Dev) : Dev :=
  let d := if d.bit Obj.SYS_SELFTEST 8 ∨ d.tm.refclk = false then d else d.setN Obj.LANE_QUAD_LOCK 255
  let d := (upTo 32 (fun l d => d.laneRefresh l) d).portStates
  let d := upTo 4 (fun q d => d.portLatency q) d
  let d := (d.startCores.diagStart 0).diagStart 1
  upTo 32 (fun i d => d.tpConvert (i / 8) (i % 8)) d.tpRefresh

/-- The end of BOOT (R425, R429): LOCKOUT when one is pending or Breakwater is latched by more than SELF, else CONFIG. (DEDUCED:
assumption log 62) -/
def leaveBoot (d : Dev) : Dev :=
  let latched := d.on Obj.BW_STATE ∧ d.getN Obj.BW_LATCHED % 32768 ≠ 0
  let pending := d.fm.nvLockout
  let trip := d.fm.bootL4
  let d := if pending ∧ trip = false then d.storeRec 0x010B 4 0 (noSource 0x010B) 0 false else d
  let d := { d with fm := { d.fm with bootL4 := false } }
  if pending ∨ trip ∨ latched then d.enterLockout else d.setMode Mode.config

/-- BOOT_COMPLETE (R427). A module held in reset by its TEST strap does not boot (R445). (DEDUCED: assumption log 61) -/
def devBootComplete (slotOk : Bool) (selfTest : Nat) (rtcValid : Bool) (rtc ms : Nat) (d : Dev) : Dev :=
  let t := selfTest % 1024
  if d.mode ≠ Mode.boot ∨ d.bit Obj.ID_STRAPS 2 ∨ 4 ≤ d.host.fwFails then d
  else if slotOk = false ∨ fatalTest t then d.bootFails t
  else
    let d := d.pass (ms * 1000000 * nsUnit)
    let d := { d with host := { d.host with fwFails := 0, tFw := d.tm.mono } }
    let d := (d.setN Obj.SYS_SELFTEST t).setN Obj.SYS_BOOT_TIME ms
    let d := d.setBlob Obj.FW_VERSION ((Config.imageText d.fwRunning.image).take 16)
    let d := (if t = 0 then d else d.storeRec 0x010A 2 0 (noSource 0x010A) t false).endClock
    let d := d.loadTime rtcValid rtc
    let d := if d.host.stored ∧ t.testBit 3 = false then d.loadConfig else d
    let d := d.applyHeld (d.held.map (·.1))
    let d := d.startUnits.logNote 5 (d.getN Obj.FW_STATUS) Origin.module
    d.leaveBoot

/-- A software reset acts 1 ms after its boundary (R428). -/
def devSoftwareReset (d : Dev) : Dev :=
  if d.fm.resetDue ∧ d.waited d.fm.resetAt (1000000 * nsUnit) = true then d.resetDev ResetCause.software else d

/-- `FW_ACTIVATE` resets the module into the other slot (R374). -/
def firmwareReset (d : Dev) : Dev :=
  if d.host.fwDue then
    let slot := 1 - d.getN Obj.FW_SLOT
    (d.resetDev ResetCause.firmware).setN Obj.FW_SLOT slot
  else d

/-- FW_ROLLBACK_RAISE (R374): an hour in the running slot without a fallback. -/
def devRollbackRaise (d : Dev) : Dev :=
  if d.mode = Mode.boot ∨ d.getN Obj.FW_STATUS = 4 ∨ d.waited d.host.tFw (3600 * secUnit) = false then d
  else d.setN Obj.FW_ROLLBACK (max (d.getN Obj.FW_ROLLBACK) d.fwRunning.version)

/-! Clocks (R456). -/

/-- REFCLK_LOSS: the quad PLLs lose lock, the engines stop, and the guard function CYCLE forces a block where frames are due.
(DEDUCED: assumption log 60) -/
def devRefclkLoss (d : Dev) : Dev :=
  if d.tm.refclk = false then d
  else
    let d := { d with tm := { d.tm with refclk := false } }
    let d := upTo 8 (fun q d => d.devQuadUnlock q) d
    if d.mode = Mode.boot then d else d.guardCycle true

/-- REFCLK_RETURN: cycles start again. -/
def devRefclkReturn (d : Dev) : Dev :=
  if d.tm.refclk then d else ({ d with tm := { d.tm with refclk := true } } : Dev).guardCycle false

/-- TIMECLK_LOSS: the guard heartbeat is lost and SELF latches. -/
def devTimeclkLoss (d : Dev) : Dev :=
  if d.tm.timeclk = false then d else ({ d with tm := { d.tm with timeclk := false } } : Dev).devGuardHeartbeatLoss

/-- TIMECLK_RETURN: the heartbeat runs again; the latch stays. -/
def devTimeclkReturn (d : Dev) : Dev :=
  if d.tm.timeclk then d
  else
    let d := { d with tm := { d.tm with timeclk := true } }
    (d.setBw { d.bw with hbLost := false }).bwRefresh

/-- ETH_LINK_CHANGE (R450, R316): the link of a port, and pre-emption where the verify succeeded. -/
def devEthLink (q : Nat) (up verified : Bool) (d : Dev) : Dev :=
  (d.setBit Obj.ETH_LINK_UP q up).setBit Obj.SL_PREEMPT_ACTIVE q (up && verified)

end Dev

end Sys2Proof.Machine
end

