-- ==== Sys2Proof/Machine/Host.lean ====
section
/-! DEFINITION. The host path outside and around sessions (R357, R363–R367): discovery, logins, the ends of sessions, tag
failures, PRP supervision, and the change log's programming (R375–R377). -/

namespace Sys2Proof.Machine

open Sys2Proof

/-- ZOA's UDP port (R357). -/
def zoaPort : Nat := 47110

/-- The HELLO groups of IPv4 and IPv6, with the port (R363). -/
def helloGroup4 : List Byte := List.replicate 10 0#8 ++ [0xFF#8, 0xFF#8, 239#8, 90#8, 79#8, 40#8] ++ bytesBE 2 zoaPort
def helloGroup6 : List Byte := [0xFF#8, 0x02#8] ++ List.replicate 12 0#8 ++ [0x5A#8, 0x4F#8] ++ bytesBE 2 zoaPort

/-- Remove trailing zeros: a zero-padded name. -/
def trimZeros (b : List Byte) : List Byte := (b.reverse.dropWhile (· == 0#8)).reverse

/-- Compare a payload's length with the one required: shorter is TYPE, longer TOO_LONG. -/
def sizeStatus (n want : Nat) : Nat := if n < want then Status.type else if want < n then Status.tooLong else Status.ok

namespace Dev

/-! Discovery (R363, R364). -/

/-- The module's MAC address. -/
def mac (d : Dev) : List Byte := padTo 6 0#8 (d.blob Obj.HOST_MAC)

/-- The free session slots. -/
def freeSessions (d : Dev) : List Nat := (List.range 16).filter fun n => d.getN (Obj.SES_STATE n) == 0

/-- The identity block of 48 bytes (R363). -/
def identity (d : Dev) : List Byte :=
  padTo 8 0#8 (ascii "ZA7140")
    ++ [BitVec.ofNat 8 (d.getN Obj.ID_ORDER_CODE), BitVec.ofNat 8 (d.getN Obj.HOST_NODE_ID), BitVec.ofNat 8 (d.getN Obj.PR_ROLE),
        BitVec.ofNat 8 d.freeSessions.length]
    ++ bytesBE 8 (d.getN Obj.ID_SERIAL) ++ padTo 16 0#8 (d.blob Obj.FW_VERSION) ++ d.mac ++ [0#8, 0#8]
    ++ [BitVec.ofNat 8 d.mode, BitVec.ofNat 8 (d.getN Obj.FM_LEVEL), 0#8, 0#8]

/-- HELLO (R363): a request is answered by unicast. (DESIGN CHOICE: assumption log 11) -/
def devHello (addr : List Byte) (seq : Nat) (d : Dev) : Dev :=
  if d.tm.timeclk = false then d else d.hostSend 0 .hello addr (d.zoaPlain 1 0x01 Status.ok 0 seq d.identity)

/-- Send the unsolicited HELLO to a group on both LANs. -/
def helloTo (group : List Byte) (d : Dev) : Dev :=
  let m := d.zoaPlain 1 0x01 Status.ok 0 0 d.identity
  if d.on Obj.HOST_PRP then d.hostSend 0 .hello group m
  else (d.hostSend 0 .hello group m).hostSend 2 .hello group m

/-- HELLO_PERIODIC (R363): every `HOST_DISC_PERIOD`, for each address family the module has an address of. (DESIGN CHOICE:
assumption log 11) -/
def devHelloPeriodic (d : Dev) : Dev :=
  if d.tm.timeclk = false ∨ d.waited d.host.helloAt (d.getN Obj.HOST_DISC_PERIOD * 1000000 * nsUnit) = false then d
  else
    let d := { d with host := { d.host with helloAt := d.tm.mono } }
    let d := if d.on Obj.HOST_IPV4 then d.helloTo helloGroup4 else d
    if ((d.blob Obj.HOST_IPV6).take 16).any (· != 0#8) then d.helloTo helloGroup6 else d

/-- The peer table changes: its count follows, and event 161 is raised. -/
def setPeers (ps : List Peer) (d : Dev) : Dev :=
  let d := { d with host := { d.host with peers := ps } }
  (d.setN Obj.HOST_PEER_COUNT ps.length).hostEvent 161 (noSource 161)

/-- A HELLO of another module in the peer table: a new entry, a changed one, or a refreshed one. (DESIGN CHOICE: assumption log
14) -/
def notePeer (node role order : Nat) (addr : List Byte) (d : Dev) : Dev :=
  match d.host.peers.find? (·.addr = addr) with
  | some p =>
    let q : Peer := { p with node := node, role := role, order := order, tLast := d.tm.mono }
    let ps := d.host.peers.map fun x => if x.addr = addr then q else x
    if p.node = node ∧ p.role = role ∧ p.order = order then { d with host := { d.host with peers := ps } }
    else d.setPeers ps
  | none =>
    if 64 ≤ d.host.peers.length then d
    else
      let (f, d) := d.takeFree
      d.setPeers (d.host.peers ++ [{ node := node, role := role, order := order, flags := f % 256, addr := addr,
                                     tLast := d.tm.mono }])

/-- The module's node ID is heard from another address (R364). (DESIGN CHOICE: assumption log 14) -/
def nodeConflict (d : Dev) : Dev :=
  let d := { d with host := { d.host with tConflict := d.tm.mono } }
  if d.on Obj.HOST_NODE_CONFLICT then d
  else ((d.setN Obj.HOST_NODE_CONFLICT 1).hostEvent 164 (noSource 164)).raiseFault 164 1 0 (noSource 164) (d.getN Obj.HOST_NODE_ID) true

/-- PEER_HELLO_RECEIVED (R363, R364). (DESIGN CHOICE: assumption log 14) -/
def devPeerHello (block addr : List Byte) (d : Dev) : Dev :=
  let at_ := fun i => (block.getD i 0#8).toNat
  if d.tm.timeclk = false ∨ block.length ≠ 48 ∨ (block.drop 36).take 6 = d.mac then d
  else
    let d := d.notePeer (at_ 9) (at_ 10) (at_ 8) (padTo 16 0#8 addr)
    if at_ 9 = d.getN Obj.HOST_NODE_ID ∧ at_ 9 ≠ 0 then d.nodeConflict else d

/-- PEER_AGE_OUT (R363): entries of a node without a HELLO for 3 periods. -/
def devPeerAgeOut (node : Nat) (d : Dev) : Dev :=
  let old := fun (p : Peer) => p.node == node && d.waited p.tLast (3 * d.getN Obj.HOST_DISC_PERIOD * 1000000 * nsUnit)
  if d.host.peers.any old then d.setPeers (d.host.peers.filter fun p => !old p) else d

/-- NODE_CONFLICT_CLEAR (R364): 10 s after the last conflicting HELLO. -/
def devNodeConflictClear (d : Dev) : Dev :=
  if d.on Obj.HOST_NODE_CONFLICT ∧ d.waited d.host.tConflict (10 * secUnit) = true then
    ((d.setN Obj.HOST_NODE_CONFLICT 0).hostEvent 164 (noSource 164)).clearCause 164 (noSource 164)
  else d

/-! Logins (R365–R367). -/

/-- Answer a message outside a session. (DESIGN CHOICE: assumption log 12) -/
def plainAnswer (port : Nat) (addr : List Byte) (ses seq op st : Nat) (pl : List Byte) (d : Dev) : Dev :=
  (d.send (.response 255 seq op st pl)).hostSend port .zoa addr (d.zoaPlain 1 op st ses seq pl)

/-- The enabled user of a name. -/
def userNamed (d : Dev) (name : List Byte) : Option Nat :=
  if name.isEmpty then none
  else (List.range 32).find? fun u => d.on (Obj.USR_ENABLE u) && d.blob (Obj.USR_NAME u) == name

/-- Whether a user is locked (R367). -/
def userLocked (d : Dev) (u : Nat) : Bool := decide (d.now96 < d.get (Obj.USR_LOCKED_UNTIL u))

/-- The refusal of a challenge before slots are looked at: STATE during a node conflict, LOCKED, ROLE, AUTH. (DEDUCED:
assumption log 13) -/
def challengeStatus (d : Dev) (user : Option Nat) (role : Nat) (enc : Bool) : Nat :=
  let locked := match user with
    | some u => d.userLocked u
    | none => false
  let above := match user with
    | some u => decide (d.getN (Obj.USR_ROLE u) < role)
    | none => false
  if d.on Obj.HOST_NODE_CONFLICT then Status.state
  else if locked then Status.locked
  else if above ∨ 4 < role ∨ (role = URole.service ∧ d.on Obj.SEC_SERVICE_ENABLE = false) then Status.role
  else if d.on Obj.SEC_REQUIRE_ENC ∧ enc = false then Status.auth
  else Status.ok

/-- The next generation count of a slot (R365). -/
def nextGen (g : Nat) : Nat := if g = 268435455 then 1 else g + 1

/-- LOGIN_CHALLENGE (R365). (DESIGN CHOICE: assumption log 12) -/
def devLoginChallenge (pl : List Byte) (port : Nat) (addr : List Byte) (seq : Nat) (d : Dev) : Dev :=
  if d.tm.timeclk = false then d
  else if sizeStatus pl.length 36 ≠ Status.ok then d.plainAnswer port addr 0 seq 0x02 (sizeStatus pl.length 36) []
  else
    let user := d.userNamed (trimZeros (pl.take 16))
    let role := (pl.getD 16 0#8).toNat
    let flags := (pl.getD 17 0#8).toNat
    let st := d.challengeStatus user role (flags % 2 == 1)
    let d := if st = Status.locked then d.hostEvent 163 (user.getD 0xFFFF) else d
    if st ≠ Status.ok then d.plainAnswer port addr 0 seq 0x02 st []
    else match d.freeSessions with
      | [] => d.plainAnswer port addr 0 seq 0x02 Status.busy []
      | n :: _ =>
        let g := nextGen (d.ses n).gen
        let id := g * 16 + n
        let (f, d) := d.takeFree
        let nM := bytesBE 16 f
        let d := d.setSes n { SesSt.init with
          gen := g, user := user, roleReq := role, flags := flags, nC := (pl.drop 20).take 16, nM := nM, port := port,
          addr := padTo 18 0#8 addr, tChal := d.tm.mono }
        let d := (d.setN (Obj.SES_STATE n) 1).setN (Obj.SES_ID n) id
        let d := d.setBlob (Obj.SES_ADDR n) (zoaDomain 0x1100 5 (padTo 18 0#8 addr))
        d.plainAnswer port addr 0 seq 0x02 Status.ok (bytesBE 4 id ++ nM)

/-- A failed proof counts for a known user; enough of them within 60 s lock the user (R367). (DEDUCED: assumption log 13) -/
def userFailed (u : Nat) (d : Dev) : Dev :=
  let d := d.inc (Obj.USR_FAILS u)
  let fails := (u, d.tm.mono) :: d.host.fails.filter fun x => decide (d.tm.mono < x.2 + 60 * secUnit)
  if d.getN Obj.SEC_LOCK_FAILS ≤ (fails.filter (·.1 = u)).length then
    let d := { d with host := { d.host with fails := fails.filter (·.1 != u) } }
    d.set (Obj.USR_LOCKED_UNTIL u) (time96 (d.tm.now + d.getN Obj.SEC_LOCK_TIME * secUnit))
  else { d with host := { d.host with fails := fails } }

/-- A PENDING slot fails (Table 15-6): the record, the user's count, FREE. -/
def loginFailed (n : Nat) (d : Dev) : Dev :=
  let x := d.ses n
  let org : Origin := { origin := 0, role := x.roleReq, port := x.port, originId := d.getN (Obj.SES_ID n),
                        user := x.user.getD 0xFFFF, addr := logAddr x.addr }
  let d := d.logNote 2 0 org
  let d := match x.user with
    | some u => d.userFailed u
    | none => d
  d.freeSlot n

/-- The ID of a slot's session, and the nonces in the order of proof and keys, as the HMACs of R365 take them. -/
def loginMac (d : Dev) (n : Nat) (key : List Byte) (label : String) (moduleFirst : Bool) (tail : List Byte) : List Byte :=
  let x := d.ses n
  hmacSha256 key (ascii label ++ (if moduleFirst then x.nM ++ x.nC else x.nC ++ x.nM) ++ bytesBE 4 (d.getN (Obj.SES_ID n)) ++ tail)

/-- The user of a PENDING slot whose proof is right and in time. -/
def provenUser (d : Dev) (n : Nat) (proof : List Byte) : Option Nat :=
  let x := d.ses n
  match x.user with
  | none => none
  | some u =>
    if d.on (Obj.USR_ENABLE u) ∧ d.tm.mono ≤ x.tChal + 2 * secUnit
        ∧ proof = d.loginMac n (d.blob (Obj.USR_KEY u)) "ZOA1-P" false [BitVec.ofNat 8 x.roleReq, BitVec.ofNat 8 x.flags] then some u
    else none

/-- A session opens (R365, R366): keys, role, the record, event 160, and event 167 for Service. (DEDUCED: assumption log 13) -/
def openSession (n u : Nat) (d : Dev) : Dev :=
  let x := d.ses n
  let key := d.blob (Obj.USR_KEY u)
  let kMac := (d.loginMac n key "ZOA1-M" false []).take 16
  let kEnc := (d.loginMac n key "ZOA1-E" false []).take 16
  let d := d.setSes n { x with kMac := kMac, kEnc := kEnc, tLast := d.tm.mono, seqHigh := 0, kept := [], txSeq := 0 }
  let d := ((d.setN (Obj.SES_STATE n) 2).setN (Obj.SES_USER n) u).setN (Obj.SES_ROLE n) x.roleReq
  let d := (d.setN (Obj.SES_ENCRYPTED n) (x.flags % 2)).set (Obj.SES_OPENED n) d.now96
  let d := (d.logNote 1 0 (d.sesOrigin n)).hostEvent 160 n
  if x.roleReq = URole.service then d.hostEvent 167 n else d

/-- The tagged answer to a LOGIN_PROOF (R365). -/
def proofAnswer (n seq : Nat) (pl : List Byte) (d : Dev) : Dev :=
  let m := d.zoaHeader 1 0x03 Status.ok (d.getN (Obj.SES_ID n)) seq pl.length ++ pl
  (d.send (.response n seq 0x03 Status.ok pl)).hostSend (d.ses n).port .zoa (d.ses n).addr
    (m ++ (hmacSha256 (d.ses n).kMac m).take 16)

/-- LOGIN_PROOF (R365). (DESIGN CHOICE: assumption log 12) -/
def devLoginProof (n seq : Nat) (proof : List Byte) (d : Dev) : Dev :=
  if d.tm.timeclk = false ∨ d.getN (Obj.SES_STATE n) ≠ 1 then d
  else
    let x := d.ses n
    let id := d.getN (Obj.SES_ID n)
    match d.provenUser n proof with
    | none => (d.loginFailed n).plainAnswer x.port x.addr id seq 0x03 Status.auth []
    | some u =>
      if d.getN (Obj.USR_ROLE u) < x.roleReq then (d.freeSlot n).plainAnswer x.port x.addr id seq 0x03 Status.role []
      else
        let sig := (d.loginMac n (d.blob (Obj.USR_KEY u)) "ZOA1-S" true []).take 16
        let d := d.openSession n u
        d.proofAnswer n seq (sig ++ [BitVec.ofNat 8 x.roleReq, BitVec.ofNat 8 (x.flags % 2)]
          ++ bytesBE 2 (d.getN Obj.HOST_SES_TIMEOUT))

/-- LOGIN_TIMEOUT (R366): 2 s after the challenge. (DESIGN CHOICE: assumption log 12) -/
def devLoginTimeout (n : Nat) (d : Dev) : Dev :=
  if d.getN (Obj.SES_STATE n) = 1 ∧ d.waited (d.ses n).tChal (2 * secUnit) = true then d.loginFailed n else d

/-- CLOSE (R366): the session is freed after the response. -/
def devClose (n seq : Nat) (d : Dev) : Dev :=
  d.request n seq (fun d => (d.respond n seq 0x7F Status.ok []).closeSession n)

/-- SESSION_IDLE_TIMEOUT (R366). -/
def devSessionIdle (n : Nat) (d : Dev) : Dev :=
  if d.waited (d.ses n).tLast (d.getN Obj.HOST_SES_TIMEOUT * secUnit) = true then d.closeSession n else d

/-- TAG_FAILURE (R359): counted; the first in a second raises event 162. (DEDUCED: assumption log 15) -/
def devTagFailure (n : Nat) (d : Dev) : Dev :=
  if d.sesOpen n = false ∨ d.tm.timeclk = false then d
  else
    let d := d.inc (Obj.SES_AUTH_FAIL n)
    if d.host.tagSec = some d.second then d
    else ({ d with host := { d.host with tagSec := some d.second } } : Dev).hostEvent 162 n

/-- PRP_SUPERVISION_SEND (R357): every 2 s a supervision frame of IEC 62439-3 on each LAN, from the type field's version on.
(PRESUMED: assumption log 10) -/
def devPrpSupervision (d : Dev) : Dev :=
  if d.on Obj.HOST_PRP = false ∨ d.tm.timeclk = false ∨ d.waited d.host.prpAt (2 * secUnit) = false then d
  else
    let n := d.host.prpSup
    let body := [0x00#8, 0x01#8] ++ bytesBE 2 n ++ [20#8, 6#8] ++ d.mac ++ [0#8, 0#8]
    let d := { d with host := { d.host with prpSup := (n + 1) % 65536, prpAt := d.tm.mono } }
    (d.send (.ether 0 .prp body)).send (.ether 2 .prp body)

/-! The change log's programming (R375–R377). -/

/-- The 64 bytes of a record with its number and link (Table 15-8). -/
def logBytes (r : LogRec) (number : Nat) (link : List Byte) : List Byte :=
  time96LE r.time ++ [BitVec.ofNat 8 r.kind, BitVec.ofNat 8 r.org.origin, BitVec.ofNat 8 r.org.role, BitVec.ofNat 8 r.org.port]
    ++ bytesLE 4 number ++ bytesLE 4 r.org.originId ++ bytesLE 2 r.org.user ++ bytesLE 2 r.index
    ++ [BitVec.ofNat 8 r.sub, BitVec.ofNat 8 r.type] ++ bytesLE 2 r.aux ++ padTo 8 0#8 r.org.addr
    ++ padTo 8 0#8 r.old ++ padTo 8 0#8 r.new ++ padTo 8 0#8 link

/-- The link of the next record: over the previous one, or the seed of record 0 (R376). -/
def nextLink (d : Dev) : List Byte :=
  match d.host.log.getLast? with
  | some b => (sha256 b).take 8
  | none => (sha256 (bytesLE 8 (d.getN Obj.ID_SERIAL) ++ ascii "ZOA-LOG")).take 8

/-- A full log loses its oldest sector (R376). -/
def logErase (d : Dev) : Dev :=
  if d.host.log.length < 131072 then d
  else ({ d with host := { d.host with log := d.host.log.drop 64 } } : Dev).add Obj.LOG_FIRST 64

/-- A GAP record once room has returned (R377). -/
def logGapRecord (d : Dev) : Dev :=
  if d.host.logGap = 0 then d
  else ({ d with host := { d.host with logGap := 0 } } : Dev).logNote 6 (min 65535 d.host.logGap) Origin.module

/-- LOG_RECORD_PROGRAMMED (R375–R377). (DEDUCED: assumption log 64) -/
def devLogProgrammed (d : Dev) : Dev :=
  match d.host.logWait with
  | [] => d
  | r :: rest =>
    let d := d.logErase
    let number := d.getN Obj.LOG_NEXT
    let b := logBytes r number d.nextLink
    let d := { d with host := { d.host with log := d.host.log ++ [b], logWait := rest } }
    let d := (d.setN Obj.LOG_NEXT ((number + 1) % 4294967296)).setN Obj.LOG_HEAD_LINK (natBE ((sha256 b).take 8))
    let d := d.setN Obj.LOG_PENDING rest.length
    let d := if d.host.logLimit ∧ rest.length < 512 then
        ({ d with host := { d.host with logLimit := false } } : Dev).hostEvent 166 (noSource 166)
      else d
    d.logGapRecord

end Dev

end Sys2Proof.Machine
end

