-- ==== Sys2Proof/Machine/Zoa.lean ====
section
/-! DEFINITION. Requests of open sessions (R360, R368, R371, R372): reads, writes, subscriptions and DOMAIN transfers, with
the layout of their payloads. -/

namespace Sys2Proof.Machine

open Sys2Proof

/-- `n` bytes at an offset, most significant first, as a number. -/
def fieldBE (b : List Byte) (off n : Nat) : Nat := natBE ((b.drop off).take n)

/-- Zeros up to a multiple of 4 bytes. -/
def pad4 (b : List Byte) : List Byte := b ++ List.replicate ((4 - b.length % 4) % 4) 0#8

/-- A value entry (R368) of given bytes. -/
def entryBytes (ix sub type : Nat) (v : List Byte) : List Byte :=
  bytesBE 2 ix ++ [BitVec.ofNat 8 sub, BitVec.ofNat 8 type] ++ bytesBE 2 v.length ++ [0#8, 0#8] ++ pad4 v

/-- The type of a code of Table 15-1. -/
def typeOfCode (c : Nat) : Option OType :=
  [OType.bool, .u8, .u16, .u32, .u64, .i8, .i16, .i32, .i64, .f32, .f64, .time96, .enum16, .string, .domain].find? (·.code = c)

/-- Two's complement of `n` bytes. -/
def signedOf (n : Nat) (v : Nat) : Int := if 2 ^ (8 * n - 1) ≤ v then (v : Int) - 2 ^ (8 * n) else v

/-- A number of a type from its big-endian bytes. -/
def numOfBE (ty : OType) (b : List Byte) : Int := if ty.signed then signedOf ty.bytes (natBE b) else (natBE b : Int)

/-- The entry a value entry's fields spell. A code of no type, or bytes that are not of the type's size, carry a code that no
object has, so that the check of the type refuses it (R351). -/
def entryOf (ix sub code : Nat) (v : List Byte) : Entry :=
  let bad : Entry := { index := ix, sub := sub, type := 256, val := .num 0 }
  match typeOfCode code with
  | none => bad
  | some ty =>
    if ty = .domain then { index := ix, sub := sub, type := code, val := .bytes (zoaDomain ix sub v) }
    else if ty = .string then { index := ix, sub := sub, type := code, val := .bytes v }
    else if v.length ≠ (if ty = .time96 then 12 else ty.bytes) then bad
    else { index := ix, sub := sub, type := code, val := .num (numOfBE ty v) }

/-- Read `n` value entries (R368): TYPE when the bytes end too soon, TOO_LONG when bytes are left. (DEDUCED: assumption log 16) -/
def parseEntries : Nat → List Byte → Except Nat (List Entry)
  | 0, b => if b.isEmpty then .ok [] else .error Status.tooLong
  | n + 1, b =>
    let len := fieldBE b 4 2
    let size := 8 + (len + 3) / 4 * 4
    if b.length < 8 ∨ b.length < size then .error Status.type
    else match parseEntries n (b.drop size) with
      | .error e => .error e
      | .ok es => .ok (entryOf (fieldBE b 0 2) (fieldBE b 2 1) (fieldBE b 3 1) ((b.drop 8).take len) :: es)

/-- A value as the bytes of a value entry (R350). -/
def valueBytes (ix sub : Nat) (ty : OType) (v : Val) : List Byte :=
  match v with
  | .bytes b => zoaDomain ix sub b
  | .num _ => encodeBE ty v

/-- The transfer header of R371. -/
def transferHeader (ix sub dir id off len flags : Nat) : List Byte :=
  bytesBE 2 ix ++ [BitVec.ofNat 8 sub, BitVec.ofNat 8 dir] ++ bytesBE 4 id ++ bytesBE 8 off ++ bytesBE 4 len ++ bytesBE 4 flags

namespace Dev

/-! Reads (R360). -/

/-- Seconds and cycle of the last boundary. -/
def boundaryStamp (d : Dev) : List Byte := bytesBE 8 (d.tm.lastT / secUnit) ++ bytesBE 4 (d.getN Obj.CYC_INDEX)

/-- Read one object for a session: its status, and its value entry; a DOMAIN above 1,408 bytes is TOO_LONG. -/
def readEntry (m : List Host.Cell) (role ix sub : Nat) (d : Dev) : (Nat × List Byte) × Dev :=
  let ((st, ty, v), d1) := d.readObj m role none ix sub
  let b := valueBytes ix sub ty v
  if st ≠ Status.ok then ((st, []), d)
  else if 1408 < b.length then ((Status.tooLong, []), d)
  else ((Status.ok, entryBytes ix sub ty.code b), d1)

/-- Read a list of objects; a failing one carries its status as type code 0. -/
def readEntries (m : List Host.Cell) (role : Nat) : List (Nat × Nat) → Dev → List (List Byte) × Dev
  | [], d => ([], d)
  | (ix, sub) :: t, d =>
    let ((st, b), d) := d.readEntry m role ix sub
    let b := if st = Status.ok then b else entryBytes ix sub 0 [BitVec.ofNat 8 st]
    let (rest, d) := readEntries m role t d
    (b :: rest, d)

/-- The granted role of a session. -/
def sesRole (d : Dev) (n : Nat) : Nat := d.getN (Obj.SES_ROLE n)

/-- READ of one object, in an open session. -/
def readOne (m : List Host.Cell) (n seq ix sub : Nat) (d : Dev) : Dev :=
  let ((st, b), d) := d.readEntry m (d.sesRole n) ix sub
  d.respond n seq 0x10 st (if st = Status.ok then d.boundaryStamp ++ b else [])

/-- READ (R360). (DEDUCED: assumption log 16) -/
def devRead (m : List Host.Cell) (n seq : Nat) (pl : List Byte) (d : Dev) : Dev :=
  d.request n seq fun d =>
    let st := sizeStatus pl.length 4
    if st ≠ Status.ok then d.respond n seq 0x10 st [] else d.readOne m n seq (fieldBE pl 0 2) (fieldBE pl 2 1)

/-- A session's read of a named object: of a FIFO's output (R210, R275, R411, R413). -/
def devReadOf (m : List Host.Cell) (n seq key : Nat) (d : Dev) : Dev :=
  d.request n seq fun d => d.readOne m n seq (key / 256) (key % 256)

/-- The objects a list names, 4 bytes each. -/
def objectList : Nat → List Byte → List (Nat × Nat)
  | 0, _ => []
  | n + 1, b => (fieldBE b 0 2, fieldBE b 2 1) :: objectList n (b.drop 4)

/-- READ_LIST (R360): at most 128 objects; an answer that does not fit a message is TOO_LONG. (DEDUCED: assumption log 16) -/
def devReadList (m : List Host.Cell) (n seq : Nat) (pl : List Byte) (d : Dev) : Dev :=
  d.request n seq fun d =>
    let count := fieldBE pl 0 2
    let st := if pl.length < 4 then Status.type else if 128 < count then Status.tooLong else sizeStatus pl.length (4 + 4 * count)
    if st ≠ Status.ok then d.respond n seq 0x12 st []
    else
      let (es, d1) := d.readEntries m (d.sesRole n) (objectList count (pl.drop 4))
      let body := d1.boundaryStamp ++ bytesBE 2 count ++ [0#8, 0#8] ++ es.flatten
      if 1432 < body.length then d.respond n seq 0x12 Status.tooLong [] else d1.respond n seq 0x12 Status.ok body

/-! Writes (R368, R369). -/

/-- WRITE (R368): exactly one value entry. (DEDUCED: assumption log 16) -/
def devWrite (n : Fin 16) (seq : Nat) (pl : List Byte) (d : Dev) : Dev :=
  d.request n seq fun d =>
    match parseEntries 1 pl with
    | .error st => d.respond n seq 0x11 st []
    | .ok es => d.sessionWrite n seq 0x11 es

/-- WRITE_GROUP (R368). -/
def devWriteGroup (n : Fin 16) (seq : Nat) (pl : List Byte) (d : Dev) : Dev :=
  d.request n seq fun d =>
    if pl.length < 4 then d.respond n seq 0x13 Status.type []
    else match parseEntries (fieldBE pl 0 2) (pl.drop 4) with
      | .error st => d.respond n seq 0x13 st []
      | .ok es => d.sessionWrite n seq 0x13 es

/-! Subscriptions (R372). -/

/-- The status of an object for a reader: it exists and may be read. -/
def readStatus (d : Dev) (role ix sub : Nat) : Nat :=
  match d.objAt role ix sub with
  | .error e => e
  | .ok r => if r.acc = .wo then Status.readOnly else Status.ok

/-- The first failing status of some objects. -/
def readStatuses (d : Dev) (role : Nat) : List (Nat × Nat) → Nat
  | [] => Status.ok
  | (ix, sub) :: t => if d.readStatus role ix sub ≠ Status.ok then d.readStatus role ix sub else readStatuses d role t

/-- The values of some objects, entry by entry. -/
def subValues (m : List Host.Cell) (role : Nat) (keys : List Nat) (d : Dev) : List (List Byte) × Dev :=
  d.readEntries m role (keys.map fun k => (k / 256, k % 256))

/-- The lowest subscription ID from 1 that a session does not use. -/
def freeSubId (d : Dev) (n : Nat) : Nat :=
  ((List.range 9).map (· + 1)).find? (fun i => !(d.host.subs.any fun x => x.slot == n && x.id == i)) |>.getD 9

/-- The form of a SUBSCRIBE: its status. (DEDUCED: assumption log 17) -/
def subscribeStatus (d : Dev) (n : Nat) (pl : List Byte) : Nat :=
  let mode := fieldBE pl 0 1
  let period := fieldBE pl 4 4
  let count := fieldBE pl 8 2
  if pl.length < 12 then Status.type
  else if 2 < mode then Status.range
  else if sizeStatus pl.length (12 + (if mode = 2 then 24 else 4 * count)) ≠ Status.ok then
    sizeStatus pl.length (12 + (if mode = 2 then 24 else 4 * count))
  else if mode ≠ 2 ∧ (count < 1 ∨ 64 < count) then Status.range
  else if mode = 0 ∧ (period < 1 ∨ 60000 < period) then Status.range
  else if mode ≠ 2 ∧ d.readStatuses (d.sesRole n) (objectList count (pl.drop 12)) ≠ Status.ok then
    d.readStatuses (d.sesRole n) (objectList count (pl.drop 12))
  else if 8 ≤ (d.host.subs.filter (·.slot = n)).length then Status.busy
  else if mode ≠ 2 ∧ 256 < count + (d.host.subs.map (·.keys.length)).sum then Status.busy
  else Status.ok

/-- The events a bitmap of 24 bytes names: bit e mod 8 of byte e / 8 is event e. -/
def eventBits (b : List Byte) : Nat := natLE b

/-- SUBSCRIBE (R372). -/
def devSubscribe (m : List Host.Cell) (n seq : Nat) (pl : List Byte) (d : Dev) : Dev :=
  d.request n seq fun d =>
    let st := d.subscribeStatus n pl
    if st ≠ Status.ok then d.respond n seq 0x20 st []
    else
      let mode := fieldBE pl 0 1
      let keys := if mode = 2 then [] else (objectList (fieldBE pl 8 2) (pl.drop 12)).map fun x => x.1 * 256 + x.2
      let id := d.freeSubId n
      let (last, d) := if mode = 1 then d.subValues m (d.sesRole n) keys else ([], d)
      let x : Subscr := { slot := n, id := id, mode := mode, period := fieldBE pl 4 4, keys := keys,
                          events := if mode = 2 then eventBits ((pl.drop 12).take 24) else 0, last := last, recs := [],
                          overflow := false, at_ := if mode = 0 then d.tm.lastT else d.tm.mono }
      ({ d with host := { d.host with subs := d.host.subs ++ [x] } } : Dev).respond n seq 0x20 Status.ok
        [BitVec.ofNat 8 id, 0#8, 0#8, 0#8]

/-- Send a module message of a session with its own sequence (R362). -/
def moduleMessage (n op flags : Nat) (pl : List Byte) (d : Dev) : Dev :=
  let x := d.ses n
  let seq := (x.txSeq + 1) % 4294967296
  let d := d.setSes n { x with txSeq := seq }
  (d.send (.message n op flags seq pl)).hostSend x.port .zoa x.addr (d.zoaSealed n flags op Status.ok seq pl)

/-- Split entries so that each message holds at most 1,416 bytes of them. -/
def splitEntries : List (List Byte) → Nat → List Byte → List (List Byte)
  | [], _, acc => if acc.isEmpty then [] else [acc]
  | e :: t, size, acc =>
    if 1416 < size + e.length ∧ acc.isEmpty = false then acc :: splitEntries t e.length e
    else splitEntries t (size + e.length) (acc ++ e)

/-- Send values as PUSH messages. -/
def pushValues (n id : Nat) (es : List (List Byte)) (d : Dev) : Dev :=
  (splitEntries es 0 []).foldl (fun d b =>
    d.moduleMessage n 0x21 0 ([BitVec.ofNat 8 id, 0#8, 0#8, 0#8] ++ d.boundaryStamp ++ b)) d

/-- Push an object at once to every session subscribed to it (R232): one message each, and the comparison of a CHANGE
subscription goes on from the value sent. (DEDUCED: assumption log 38) -/
def pushObject (m : List Host.Cell) (k : Nat) (d : Dev) : Dev :=
  upTo 16 (fun n d =>
    match d.host.subs.find? fun x => x.slot == n && x.mode != 2 && x.keys.contains k with
    | none => d
    | some x =>
      if d.sesOpen n = false ∨ d.tm.timeclk = false then d
      else
        let (es, d) := d.subValues m (d.sesRole n) [k]
        let last := (x.last.zip x.keys).map fun y => if y.2 = k then es.headD y.1 else y.1
        let subs := d.host.subs.map fun y => if y.slot = n ∧ y.id = x.id then { y with last := last } else y
        ({ d with host := { d.host with subs := subs } } : Dev).pushValues n x.id es) d

/-- The subscription of a session with an ID. -/
def subOf (d : Dev) (n id : Nat) : Option Subscr := d.host.subs.find? fun x => x.slot = n && x.id = id

/-- Replace a subscription. -/
def setSub (x : Subscr) (d : Dev) : Dev :=
  { d with host := { d.host with subs := d.host.subs.map fun y => if y.slot = x.slot ∧ y.id = x.id then x else y } }

/-- Whether a subscription is due (R372). PERIODIC: the last boundary is the first at or after an instant of its grid, TAI second +
j · period, begun anew in each second for a period below 1 s, and counted from TAI second 0 for a longer one. CHANGE: 1 ms after
its last comparison. (DEDUCED: assumption log 17) -/
def pushDue (d : Dev) (x : Subscr) : Bool :=
  let p := x.period * 1000000 * nsUnit
  let t := if p < secUnit then d.tm.lastT % secUnit else d.tm.lastT
  if x.mode = 0 then d.tm.started && d.tm.lastT != x.at_ && decide (t % p < d.tc * nsUnit)
  else d.waited x.at_ (1000000 * nsUnit)

/-- PUSH (R372): the values of a PERIODIC subscription, the changed values of a CHANGE subscription. (DEDUCED: assumption log 17) -/
def devPush (m : List Host.Cell) (n id : Nat) (d : Dev) : Dev :=
  if d.sesOpen n = false ∨ d.tm.timeclk = false then d
  else match d.subOf n id with
    | none => d
    | some x =>
      if x.mode = 2 ∨ d.pushDue x = false then d
      else
        let (es, d) := d.subValues m (d.sesRole n) x.keys
        if x.mode = 0 then (d.setSub { x with at_ := d.tm.lastT }).pushValues n id es
        else
          let changed := (es.zip x.last).filterMap fun (a, b) => if a = b then none else some a
          (d.setSub { x with last := es, at_ := d.tm.mono }).pushValues n id changed

/-- EVENT (R372): the records that wait; OVERFLOW when some were dropped since the last message. (DEDUCED: assumption log 17) -/
def devEvent (n id : Nat) (d : Dev) : Dev :=
  if d.sesOpen n = false ∨ d.tm.timeclk = false then d
  else match d.subOf n id with
    | none => d
    | some x =>
      if x.recs.isEmpty then d
      else
        let b := x.recs.flatMap fun (e, src, t) => [BitVec.ofNat 8 e, 0#8] ++ bytesBE 2 src ++ time96BE t
        (d.setSub { x with recs := [], overflow := false }).moduleMessage n 0x30 (if x.overflow then 4 else 0) b

/-! DOMAIN transfers (R371). -/

/-- The transfer a request names by its ID. -/
def transferOf (d : Dev) (n id : Nat) : Option Transfer := d.host.transfers.find? fun x => x.slot = n && x.id = id

/-- Replace a transfer. -/
def setTransfer (x : Transfer) (d : Dev) : Dev :=
  { d with host := { d.host with transfers := d.host.transfers.map fun y => if y.id = x.id then x else y } }

/-- End a transfer. -/
def dropTransfer (id : Nat) (d : Dev) : Dev :=
  { d with host := { d.host with transfers := d.host.transfers.filter (·.id != id) } }

/-- Whether an object is read in place: the Tidepool records and the change log. -/
def inPlace (k : Nat) : Bool := decide (0x4C40 ≤ k / 256 ∧ k / 256 < 0x4C44) || k == Obj.LOG_READ

/-- The bytes of an object for a transfer, as ZOA carries them. -/
def transferBytes (m : List Host.Cell) (role k : Nat) (d : Dev) : List Byte × Dev :=
  let ((_, ty, v), d) := d.readObj m role none (k / 256) (k % 256)
  (valueBytes (k / 256) (k % 256) ty v, d)

/-- The status of a DOMAIN_OPEN: for a write, R351 steps 1 to 5 on the total length. (DEDUCED: assumption log 18) -/
def openStatus (d : Dev) (n ix sub dir total : Nat) : Nat :=
  match d.objAt (d.sesRole n) ix sub with
  | .error e => e
  | .ok r =>
    if dir = 0 then
      if r.acc = .wo then Status.readOnly else if r.type.isBlob = false then Status.type
      else if d.emptyRecord ix sub then Status.state else Status.ok
    else if r.acc = .ro then Status.readOnly
    else if d.sesRole n < r.role then Status.role
    else if r.type.isBlob = false then Status.type
    else lenStatus r.rng total

/-- The form of a transfer request: a header of 24 bytes, and `extra` data bytes. -/
def transferForm (pl : List Byte) (extra : Nat) : Nat := if pl.length < 24 then Status.type else sizeStatus pl.length (24 + extra)

/-- DOMAIN_OPEN. -/
def devDomainOpen (m : List Host.Cell) (n seq : Nat) (pl : List Byte) (d : Dev) : Dev :=
  d.request n seq fun d =>
    let ix := fieldBE pl 0 2
    let sub := fieldBE pl 2 1
    let dir := fieldBE pl 3 1
    let total := fieldBE pl 16 4
    let st := if transferForm pl 0 ≠ Status.ok then transferForm pl 0
      else if 1 < dir then Status.range
      else if d.openStatus n ix sub dir total ≠ Status.ok then d.openStatus n ix sub dir total
      else if 4 ≤ (d.host.transfers.filter (·.slot = n)).length ∨ 16 ≤ d.host.transfers.length then Status.busy
      else Status.ok
    if st ≠ Status.ok then d.respond n seq 0x40 st []
    else
      let k := ix * 256 + sub
      let (b, d) := if dir = 0 then d.transferBytes m (d.sesRole n) k else ([], d)
      let total := if dir = 0 then b.length else total
      let id := d.host.nextTransfer
      let x : Transfer := { id := id, slot := n, key := k, isWrite := dir == 1, total := total,
                            data := if inPlace k then [] else b, lastOff := 0, lastLen := 0, tLast := d.tm.mono }
      let d := { d with host := { d.host with transfers := d.host.transfers ++ [x],
                                              nextTransfer := if id = 4294967295 then 1 else id + 1 } }
      d.respond n seq 0x40 Status.ok (transferHeader ix sub dir id 0 total 0)

/-- A block of a read: the bytes there are from an offset within the value. (DEDUCED: assumption log 18) -/
def readBlock (m : List Host.Cell) (n seq off len : Nat) (x : Transfer) (d : Dev) : Dev :=
  if 1408 < len then d.respond n seq 0x41 Status.tooLong []
  else if x.total < off then d.respond n seq 0x41 Status.seq []
  else
    let all := if inPlace x.key then (d.transferBytes m (d.sesRole n) x.key).1 else x.data
    let b := ((all.take x.total).drop off).take len
    (d.setTransfer { x with tLast := d.tm.mono }).respond n seq 0x41 Status.ok
      (transferHeader (x.key / 256) (x.key % 256) 0 x.id off b.length 0 ++ b)

/-- A block of a write: at the number of bytes received so far, or the last block again. (DEDUCED: assumption log 18) -/
def writeBlock (n seq off : Nat) (b : List Byte) (x : Transfer) (d : Dev) : Dev :=
  let fresh := off = x.data.length
  let again := off = x.lastOff ∧ b.length = x.lastLen
  if 1408 < b.length then d.respond n seq 0x41 Status.tooLong []
  else if ¬fresh ∧ ¬again then d.respond n seq 0x41 Status.seq []
  else if x.total < off + b.length then d.respond n seq 0x41 Status.tooLong []
  else
    let x : Transfer := { x with data := x.data.take off ++ b, lastOff := off, lastLen := b.length, tLast := d.tm.mono }
    (d.setTransfer x).respond n seq 0x41 Status.ok (transferHeader (x.key / 256) (x.key % 256) 1 x.id off b.length 0)

/-- DOMAIN_BLOCK. -/
def devDomainBlock (m : List Host.Cell) (n seq : Nat) (pl : List Byte) (d : Dev) : Dev :=
  d.request n seq fun d =>
    let off := fieldBE pl 8 8
    let len := fieldBE pl 16 4
    if pl.length < 24 then d.respond n seq 0x41 Status.type []
    else match d.transferOf n (fieldBE pl 4 4) with
      | none => d.respond n seq 0x41 Status.state []
      | some x =>
        let st := sizeStatus pl.length (24 + (if x.isWrite then len else 0))
        if st ≠ Status.ok then d.respond n seq 0x41 st []
        else if x.isWrite then d.writeBlock n seq off (pl.drop 24) x
        else d.readBlock m n seq off len x

/-- DOMAIN_END: a write is checked whole and written as one WRITE. (DEDUCED: assumption log 18) -/
def devDomainEnd (n : Fin 16) (seq : Nat) (pl : List Byte) (d : Dev) : Dev :=
  d.request n seq fun d =>
    if transferForm pl 0 ≠ Status.ok then d.respond n seq 0x42 (transferForm pl 0) []
    else match d.transferOf n (fieldBE pl 4 4) with
      | none => d.respond n seq 0x42 Status.state []
      | some x =>
        let d := d.dropTransfer x.id
        let ix := x.key / 256
        let sub := x.key % 256
        if x.isWrite = false then d.respond n seq 0x42 Status.ok []
        else if x.data.length < x.total ∨ fieldBE pl 20 4 ≠ crc32 x.data then d.respond n seq 0x42 Status.seq []
        else d.sessionWrite n seq 0x42 [entryOf ix sub (d.typeOf x.key).code x.data]

/-- DOMAIN_ABORT. -/
def devDomainAbort (n seq : Nat) (pl : List Byte) (d : Dev) : Dev :=
  d.request n seq fun d =>
    if transferForm pl 0 ≠ Status.ok then d.respond n seq 0x43 (transferForm pl 0) []
    else match d.transferOf n (fieldBE pl 4 4) with
      | none => d.respond n seq 0x43 Status.state []
      | some x => (d.dropTransfer x.id).respond n seq 0x43 Status.ok []

/-- DOMAIN_TRANSFER_TIMEOUT: 10 s without a block. -/
def devDomainTimeout (id : Nat) (d : Dev) : Dev :=
  if d.host.transfers.any fun x => x.id = id ∧ d.waited x.tLast (10 * secUnit) = true then d.dropTransfer id else d

end Dev

end Sys2Proof.Machine
end

