-- ==== Sys2Proof/Machine/Window.lean ====
section
/-! DEFINITION. The local window of the task cores (R355, R356): stores, descriptor loads and the snapshot buffers, with the
memories of Table 11-1 beside it. -/

namespace Sys2Proof.Machine

open Sys2Proof

/-- The place of an address a core uses: its own TCM stands at its place among the peers' (Table 11-1). -/
def coreAddr (c a : Nat) : Nat := if a < 0x20000 then 0x02000000 + c * 0x20000 + a else a

/-- The object a window address falls on: index, subindex, byte within the slot. -/
def slotOf (a : Nat) : Option (Nat × Nat × Nat) :=
  if 0x80000000 ≤ a ∧ a < 0x88000000 then
    let o := a - 0x80000000
    some (o / 2048, o / 8 % 256, o % 8)
  else none

/-- A value of 64 bits as the number a type takes from its low bytes. -/
def numOfSlot (ty : OType) (v : Nat) : Int :=
  let x := v % 2 ^ (8 * ty.bytes)
  if ty.signed then signedOf ty.bytes x else (x : Int)

/-- The TIME96 number of 12 bytes with little-endian fields. -/
def time96OfLE (b : List Byte) : Int :=
  (natLE (b.take 6) * 281474976710656 + natLE ((b.drop 6).take 4) * 65536 + natLE ((b.drop 10).take 2) : Nat)

/-- The value of an object as the slot shows it: its little-endian bytes extended to 64 bits. -/
def slotNumber (ty : OType) (v : Val) : Nat :=
  match v with
  | .bytes _ => 0
  | .num x => if ty.signed then (x % 2 ^ 64).toNat else (x % 2 ^ (8 * ty.bytes)).toNat

/-- Whether a value is handled through a descriptor (R356). -/
def isDescribed (ty : OType) : Bool := ty == .time96 || ty.isBlob

/-- The snapshot buffer of a core. -/
def snapshot (c : Nat) : Nat := 0x1007F000 + c * 0x200

namespace Dev

/-- The type of an object a core may reach, or none where the slot holds no object. -/
def slotType (d : Dev) (ix sub : Nat) : Option OType :=
  match d.objAt URole.engineer ix sub with
  | .ok _ => some (d.typeOf (ix * 256 + sub))
  | .error s => if s = Status.role then some .u32 else none

/-- An access fault at a core (R355). -/
def accessFault (c a : Nat) (d : Dev) : Dev := d.send (.coreFault c a)

/-- The entry a descriptor names: its bytes are copied now (R356). -/
def describedEntry (m : List Host.Cell) (c ix sub : Nat) (ty : OType) (v : Nat) : Entry :=
  let b := readBytes m (coreAddr c (v % 4294967296)) (v / 4294967296)
  if ty = .time96 then
    { index := ix, sub := sub, type := if b.length = 12 then ty.code else 256, val := .num (time96OfLE b) }
  else { index := ix, sub := sub, type := ty.code, val := .bytes b }

/-- A store of a core to its window (R355, R356). (DEDUCED: assumption log 19) -/
def windowStore (m : List Host.Cell) (c : Fin 8) (a size v : Nat) (ix sub off : Nat) (d : Dev) : Dev :=
  let word := if v % 4294967296 < 2147483648 then v % 4294967296 else v % 4294967296 + 0xFFFFFFFF00000000
  if off ≠ 0 ∨ (size ≠ 4 ∧ size ≠ 8) then d.accessFault c a
  else match d.slotType ix sub with
    | none => d.accessFault c a
    | some ty =>
      if isDescribed ty then
        if size = 4 ∨ spanInMap (v % 4294967296) (v / 4294967296) = false then d.accessFault c a
        else d.coreWrite c (describedEntry m c ix sub ty v)
      else
        d.coreWrite c { index := ix, sub := sub, type := ty.code, val := .num (numOfSlot ty (if size = 4 then word else v)) }

/-- LOCAL_WINDOW_STORE (R355): a store of a core. One to memory writes it; one outside the map is an access fault. -/
def devWindowStore (m : List Host.Cell) (c : Fin 8) (a size v : Nat) (d : Dev) : List MemWrite × Dev :=
  match slotOf a with
  | some (ix, sub, off) => ([], d.windowStore m c a size v ix sub off)
  | none =>
    if [1, 2, 4, 8].contains size ∧ spanInMap a size then ([(coreAddr c a, bytesLE size v)], d)
    else ([], d.accessFault c a)

/-- The value of a described object in the window: the snapshot, and the descriptor a load returns. A DOMAIN above 512 bytes
is read in place, at a place of its own in DRAM, which is a free value. (DESIGN CHOICE: assumption log 82) -/
def loadDescribed (c k : Nat) (b : List Byte) (d : Dev) : List MemWrite × Dev :=
  if b.length ≤ 512 then
    ([(snapshot c, b)], d.send (.core c (snapshot c + b.length * 4294967296)))
  else
    let a := 0x40000000 + Config.domainAt k % (0x40000001 - b.length)
    ([(a, b)], d.send (.core c (a + b.length * 4294967296)))

/-- A 64-bit load of a slot. (DEDUCED: assumption log 19) -/
def windowLoad (m : List Host.Cell) (c a ix sub off : Nat) (d : Dev) : List MemWrite × Dev :=
  if off ≠ 0 ∨ (d.slotType ix sub).isNone then ([], d.accessFault c a)
  else
    let ((st, ty, v), d1) := d.readObj m URole.engineer (some c) ix sub
    if st ≠ Status.ok then
      let (f, d) := d.takeFree
      ([], d.send (.core c (f % 2 ^ 64)))
    else if isDescribed ty then d1.loadDescribed c (ix * 256 + sub) (encodeLE ty v)
    else ([], d1.send (.core c (slotNumber ty v)))

/-- LOCAL_WINDOW_DESCRIPTOR_LOAD (R356): a 64-bit load of a core. -/
def devDescriptorLoad (m : List Host.Cell) (c a : Nat) (d : Dev) : List MemWrite × Dev :=
  match slotOf a with
  | some (ix, sub, off) => d.windowLoad m c a ix sub off
  | none =>
    if spanInMap a 8 then ([], d.send (.core c (natLE (readBytes m (coreAddr c a) 8)))) else ([], d.accessFault c a)

/-- LE_LOCAL_STATUS_READ (R146, R355): every earlier store of the core has been decided, and the load answers. (DEDUCED:
assumption log 19) -/
def devLocalStatusRead (m : List Host.Cell) (c : Nat) (d : Dev) : List MemWrite × Dev :=
  d.windowLoad m c (0x80000000 + 0x3801 * 2048 + 2 * 8) 0x3801 2 0

end Dev

end Sys2Proof.Machine
end

