-- ==== Sys2Proof/Machine/RawRing.lean ====
section
/-! DEFINITION. The raw rings of the host path (R206, R373): frames that no service claims, received into and sent from
descriptors in shared SRAM, and the control-cycle boundary with the transmissions it hands over. -/

namespace Sys2Proof.Machine

open Sys2Proof

/-- Whether a span lies in memory that the Ethernet port reaches. (DEDUCED: assumption log 20) -/
def dmaSpan (a n : Nat) : Bool := decide (0x20000 ≤ a) && spanInMap a n

/-- The 16 timestamp bytes of a write-back (R206, Table 08-3) for a time in 2⁻¹⁶ ns. -/
def rawStamp (t : Nat) (valid stepped : Bool) (port : Nat) (egress : Bool) (state : Nat) : List Byte :=
  let v := (time96 (t * 65536)).toNat
  let sec := v / 281474976710656
  let flags := (if valid then 0x80000000 else 0) + (if stepped then 0x40000000 else 0) + port % 4 * 0x10000000 + (if egress then 0x08000000 else 0)
    + state % 8 * 0x01000000
  bytesLE 4 (sec % 4294967296) ++ bytesLE 4 (sec / 4294967296 % 65536 * 65536 + v % 65536) ++ bytesLE 4 (v / 65536 % 4294967296)
    ++ bytesLE 4 flags

/-- A trailer of the PRP at the end of a frame: sequence number and LAN (R357). (PRESUMED: assumption log 10) -/
def prpOf (f : List Byte) : Option (Nat × Nat) :=
  let t := f.drop (f.length - 6)
  let lan := (natBE t / 268435456) % 16
  if f.length < 20 ∨ natBE t % 65536 ≠ 0x88FB ∨ (lan ≠ 0xA ∧ lan ≠ 0xB) then none
  else some (natBE t / 4294967296, lan - 0xA)

namespace Dev

/-- The address of a descriptor of a ring. -/
def rawDesc (d : Dev) (base i : Nat) : Nat :=
  0x10000000 + (d.getN base + 32 * (i % max 1 (d.getN Obj.HOST_RAW_RING_LEN))) % 0x80000

/-- Count a dropped frame. -/
def hostDrop (d : Dev) : Dev := d.inc Obj.HOST_DROPS

/-- Whether a frame is the duplicate of one received on the other LAN within 400 ms, and the trailers then known (R357).
(PRESUMED: assumption log 10) -/
def prpCheck (f : List Byte) (d : Dev) : Bool × Dev :=
  if d.on Obj.HOST_PRP = false then (false, d)
  else match prpOf f with
    | none => (false, d)
    | some (seq, lan) =>
      let src := (f.drop 6).take 6
      let seen := d.host.prpSeen.filter fun x => decide (d.tm.mono < x.2.2.2 + 400000000 * nsUnit)
      let dup := seen.any fun x => x.1 == src && x.2.1 == seq && x.2.2.1 != lan
      (dup, { d with host := { d.host with prpSeen := if dup then seen else (src, seq, lan, d.tm.mono) :: seen } })

/-- A timestamp that its port's store of 64 could not hold, or that was written after the descriptor's deadline: it counts at
rank 6 (R206). -/
def stampLost (late : Bool) (d : Dev) : Dev := if late then d.broken 6 else d

/-- Write a received frame back to its descriptor: a frame longer than the buffer stores no data. (DEDUCED: assumption log 20) -/
def rawStore (desc buf len port : Nat) (f : List Byte) (capture : Int) (fcs late : Bool) (d : Dev) : List MemWrite × Dev :=
  let long := len < f.length
  let status := if long then 2 else if fcs then 1 else 0
  let steps := d.get Obj.TB_STEP_COUNT
  let stamp := rawStamp (d.tRx port capture).toNat (!late) (steps != d.host.rxSteps) port false (d.getN Obj.TB_STATE)
  let next := (d.host.rxHead + 1) % max 1 (d.getN Obj.HOST_RAW_RING_LEN)
  let d := ({ d with host := { d.host with rxHead := next, rxSteps := steps } } : Dev).stampLost late
  ((if long then [] else [(buf, f)])
    ++ [(desc + 6, bytesLE 2 f.length), (desc + 0x0C, bytesLE 4 (2 ^ (24 + port) + status)), (desc + 0x10, stamp)],
   d.hostEvent 165 port)

/-- RAW_FRAME_RECEIVED (R373): none when the descriptor's buffer lies outside the map. -/
def devRawReceived (m : List Host.Cell) (port : Nat) (f : List Byte) (capture : Int) (fcs late : Bool) (d : Dev) :
    Option (List MemWrite × Dev) :=
  if d.tm.timeclk = false then some ([], d)
  else
    let (dup, d) := d.prpCheck f
    let etype := d.getN Obj.HOST_RAW_ETYPE
    let desc := d.rawDesc Obj.HOST_RAW_RX_BASE d.host.rxHead
    if dup then some ([], d)
    else if d.on Obj.HOST_RAW_ENABLE = false ∨ f.length < 14 ∨ (etype ≠ 0 ∧ natBE ((f.drop 12).take 2) ≠ etype)
        ∨ (natLE (readBytes m (desc + 0x0C) 4)).testBit 31 = false then some ([], d.hostDrop)
    else
      let buf := natLE (readBytes m desc 4)
      let len := natLE (readBytes m (desc + 4) 2)
      if dmaSpan buf len then some (d.rawStore desc buf len port f capture fcs late) else none

/-! Transmission. -/

/-- The ports a raw frame leaves on: those named, and with `HOST_PRP` one at least of each LAN. -/
def rawPorts (d : Dev) (mask : Nat) : List Nat :=
  let named := (List.range 4).filter fun p => mask.testBit p
  if d.on Obj.HOST_PRP = false ∨ named.isEmpty then named
  else named ++ (if named.any (· < 2) then [] else [0]) ++ (if named.any (2 ≤ ·) then [] else [2])

/-- Send a raw frame on its ports. -/
def rawSend (f : List Byte) (mask : Nat) (d : Dev) : Dev :=
  let n := d.host.prpSeq
  let prp := d.on Obj.HOST_PRP
  let ports := d.rawPorts mask
  let d := if prp ∧ ports.isEmpty = false then { d with host := { d.host with prpSeq := (n + 1) % 65536 } } else d
  ports.foldl (fun d p =>
    d.send (.ether p .raw (if prp then f ++ prpTrailer n (p / 2) (f.length - 14 + 6) else f))) d

/-- Serve one transmit descriptor that the module owns: a frame longer than its buffer is not sent, one without a port is
dropped by egress. The time to its egress timestamp is a free value; one beyond the descriptor's deadline is late. (DEDUCED:
assumption log 20) -/
def rawServe (m : List Host.Cell) (desc buf : Nat) (d : Dev) : List MemWrite × Dev :=
  let size := natLE (readBytes m (desc + 4) 2)
  let len := natLE (readBytes m (desc + 6) 2)
  let limit := natLE (readBytes m (desc + 8) 4)
  let mask := natLE (readBytes m (desc + 0x0C) 4) / 2 ^ 24 % 16
  let port := ((List.range 4).find? fun p => mask.testBit p).getD 0
  let long := size < len ∨ 1536 < len
  let status := if long then 2 else if mask = 0 then 3 else 0
  let d := if status = 0 then d.rawSend (readBytes m buf len) mask else d
  let (x, d) := d.takeFree
  let late := decide ((if limit = 0 then 100000 else limit) * 65536 < x)
  let capture : Int := (d.tm.now / 65536 + x : Nat)
  let steps := d.get Obj.TB_STEP_COUNT
  let stamp := if status = 0 then
      rawStamp (d.tTx port capture).toNat (!late) (steps != d.host.txSteps) port true (d.getN Obj.TB_STATE)
    else List.replicate 16 0#8
  let next := (d.host.txHead + 1) % max 1 (d.getN Obj.HOST_RAW_RING_LEN)
  let d := d.stampLost (status == 0 && late)
  ([(desc + 0x0C, bytesLE 4 (mask * 2 ^ 24 + status)), (desc + 0x10, stamp)],
   { d with host := { d.host with txHead := next, txSteps := if status = 0 then steps else d.host.txSteps } })

/-- Serve the transmit ring from its head up to the index handed over, as far as the module owns the descriptors; `n` bounds
the count. None when a buffer lies outside the map. -/
def rawServeAll : Nat → Nat → List Host.Cell → Dev → Option (List Host.Cell × Dev)
  | 0, _, m, d => some (m, d)
  | n + 1, tail, m, d =>
    let i := d.host.txHead
    let desc := d.rawDesc Obj.HOST_RAW_TX_BASE i
    if (natLE (readBytes m (desc + 0x0C) 4)).testBit 31 = false then some (m, d)
    else
      let buf := natLE (readBytes m desc 4)
      if dmaSpan buf (natLE (readBytes m (desc + 6) 2)) = false then none
      else
        let (w, d) := d.rawServe m desc buf
        if i = tail then some (writeAll m w, d) else rawServeAll n tail (writeAll m w) d

/-- The transmissions that a write of `HOST_RAW_TX_TAIL` handed over. -/
def rawTransmit (m : List Host.Cell) (d : Dev) : Option (List Host.Cell × Dev) :=
  match d.host.txTail with
  | none => some (m, d)
  | some tail =>
    let d := { d with host := { d.host with txTail := none } }
    if d.on Obj.HOST_RAW_ENABLE = false ∨ d.tm.timeclk = false then some (m, d)
    else d.rawServeAll (d.getN Obj.HOST_RAW_RING_LEN) tail m

end Dev

/-- The whole of CYCLE_BOUNDARY: the boundary, the transmissions handed over at it, and the reset into another firmware slot
when one is due. (DEDUCED: assumption log 20) -/
def State.boundary (partner : Option PairStatus) (s : State) : Host.Outcome State Fault Refusal :=
  match (s.dev.devCycleBoundary partner).rawTransmit s.mem with
  | none => .fault .addressOutsideMap
  | some (m, d) => .next ({ s with mem := m }.close ([], d.firmwareReset))

/-- The whole of RAW_FRAME_RECEIVED. (DEDUCED: assumption log 20) -/
def State.rawReceived (port : Nat) (f : List Byte) (capture : Int) (fcs late : Bool) (s : State) : Host.Outcome State Fault Refusal :=
  match s.dev.devRawReceived s.mem port f capture fcs late with
  | none => .fault .addressOutsideMap
  | some r => .next (s.close r)

end Sys2Proof.Machine
end

