-- ==== Sys2Proof/Machine/Commands.lean ====
section
/-! DEFINITION. What the meanings of the commands share: writes named by an object, the time domain's clock, a cell's own
commands, the scan of the sequencer with its memory, and the interrupt bits of a core. -/

namespace Sys2Proof.Machine

open Sys2Proof

/-- The entry a row's write carries: the object's own type and a number. -/
def cmdEntry (k : Nat) (v : Val) : Entry :=
  { index := k / 256, sub := k % 256, val := v,
    type := match objRow? (k / 256) (k % 256) with
      | some r => r.type.code
      | none => 0 }

/-- A write of a number to the object a row names, by any writer (R351). -/
def State.write (w : Writer) (k : Nat) (v : Int) (s : State) : Host.Outcome State Fault Refusal :=
  s.run (Dev.submit w (cmdEntry k (.num v)))

/-- A write of a byte string to the object a row names. -/
def State.writeBytes (w : Writer) (k : Nat) (b : List Byte) (s : State) : Host.Outcome State Fault Refusal :=
  s.run (Dev.submit w (cmdEntry k (.bytes b)))

namespace Dev

/-- What the time domain, the guard cores, CAN and Ethernet do while TIMECLK runs (R456). -/
def timed (f : Dev → Dev) (d : Dev) : Dev := if d.tm.timeclk then f d else d
def timedMem (f : Dev → List MemWrite × Dev) (d : Dev) : List MemWrite × Dev := if d.tm.timeclk then f d else ([], d)

/-- What may step the time base reaches the pools and the timers too (R230, R395). -/
def stepped (f : Dev → Dev) (d : Dev) : Dev := afterStep d (f d)

/-- A powered cell acts. -/
def onCell (n : Nat) (f : CellCtl → CellCtl) (d : Dev) : Dev := if (d.ctl n).powered then d.onCtl n f else d

/-- A powered cell acts on the mailbox of a frame, which goes on (R72). -/
def onMailbox (n : Nat) (f : CellCtl → CellCtl × BitVec 128) (d : Dev) : Dev :=
  if (d.ctl n).powered then
    let (c, m) := f (d.ctl n)
    (d.setCtl n c).send (.mailbox n m)
  else d

/-- TW_LOCAL_ARRIVAL (R232, R236): the exchange record is published, pushed to its subscribers and matched; the line's task has
run. -/
def twPublish (m : List Host.Cell) (l s : Nat) (d : Dev) : Dev :=
  d.twRan l 0 ((d.devTwLocalArrival l s).map fun x => (x.1, x.2.pushObject m (Obj.TW_LOCAL_OUT l)))

/-- TW_SINGLE_ENDED_RESULT (R235, R236): the result is reported; the line's task has run. -/
def twSingle (l s : Nat) (d : Dev) : Dev := d.twRan l 1 (d.devTwSingleEnded l s)

/-- A core writes `zipend0` or `zipend1` (R423): a one clears its line; line 63 ignores writes. -/
def devZipendClear (c : Nat) (high : Bool) (v : Word) (d : Dev) : Dev :=
  let lines := if high then v.toNat % 2147483648 * 4294967296 else v.toNat
  let x := d.win c
  d.setWin c { x with pend := x.pend &&& ~~~(BitVec.ofNat 64 lines) }

/-- The number an object shows to the sequencer (R284). -/
def seqRead (m : List Host.Cell) (d : Dev) (k : Nat) : Int :=
  match (d.readObj m URole.engineer none (k / 256) (k % 256)).1 with
  | (0, _, .num x) => x
  | _ => 0

/-- The entry of a STORE to an object, converted to the object's type (R291). -/
def storeEntry (d : Dev) (k : Nat) (v : SVal) : Entry :=
  let ty := d.typeOf k
  let x : Int :=
    if ty = .f32 then (v.toF.toNat : Int)
    else if ty = .f64 then ((F64.ofVal (SVal.f32 v.toF)).toNat : Int)
    else if ty = .bool then (if v.toBool then 1 else 0)
    else if v.ty = 3 ∧ ty.signed = false then (v.bits.toNat : Int)
    else v.toInt
  { index := k / 256, sub := k % 256, type := ty.code, val := .num x }

/-- SEQ_SCAN (R280): the scan, its OBJ writes as one group, its station frames; the instance data goes to the partner (R332). -/
def devScan (m : List Host.Cell) (durNs : Nat) (d : Dev) : Dev :=
  let runs : Bool := d.getN Obj.SEQ_STATE == 2 && d.mode != Mode.boot
  let (out, d) := d.devSeqScan durNs (seqRead m)
  let d := d.seqSubmit (out.objs.map fun x => (x.1, d.storeEntry x.2.1 x.2.2))
  let d := out.frames.foldl (fun d x => d.stationSend x.1 x.2) d
  if runs then d.sendInstances else d

end Dev

end Sys2Proof.Machine
end

