-- ==== Sys2Proof/Machine/CanCmds.lean ====
section
/-! DEFINITION. The commands of CAN FD (R406–R419): one meaning for each row of the opcode table. -/

namespace Sys2Proof.Machine

open Sys2Proof

/-- CAN_BUS_INTEGRATION (R406). A controller joins the bus after 11 consecutive recessive bits following its enable. -/
def execCanBusIntegration (ctl : Fin 2) (s : State) : Host.Outcome State Fault Refusal :=
  s.run (Dev.timed (Dev.devCanIntegration ctl))

/-- CAN_FRAME_RECEIVED (R410). A valid received frame is stored in the user ring and passed to the station path. -/
def execCanFrameReceived (ctl : Fin 2) (t : Nat) (id : Nat) (flags : Nat) (data : List Byte) (s : State) :
    Host.Outcome State Fault Refusal :=
  s.runMem (Dev.timedMem (Dev.devCanReceived ctl t id flags data))

/-- CAN_TX (R412). A transmit request is written to a buffer, refused for vendor or pending buffers. -/
def execCanTx (w : Writer) (ctl : Fin 2) (bytes : List Byte) (s : State) : Host.Outcome State Fault Refusal :=
  s.writeBytes w (Obj.CAN_TX ctl) bytes

/-- CAN_ARBITRATION (R412). At bus idle the pending request of lowest identifier enters arbitration. -/
def execCanArbitration (ctl : Fin 2) (start : CanStart) (s : State) : Host.Outcome State Fault Refusal :=
  s.run (Dev.timed (Dev.devCanArbitration ctl start.won start.t))

/-- CAN_ATTEMPT_END (R413). A winning attempt ends at end of frame or first error flag and completes with a record. -/
def execCanAttemptEnd (ctl : Fin 2) (err : Fin 16) (exempt : Bool) (loop : Option Nat) (s : State) : Host.Outcome State
    Fault Refusal :=
  s.runMem (Dev.timedMem (Dev.devCanAttemptEnd ctl err exempt loop))

/-- CAN_TX_TIMEOUT (R412). A request pending for CAN_TX_TIMEOUT completes with TIMEOUT. -/
def execCanTxTimeout (ctl : Fin 2) (buf : Fin 32) (s : State) : Host.Outcome State Fault Refusal :=
  s.run (Dev.timed (Dev.devCanTxTimeout ctl buf))

/-- CAN_TX_ABORT (R412). A write completes the named pending requests with ABORTED unless their attempt has begun. -/
def execCanTxAbort (w : Writer) (ctl : Fin 2) (v : Nat) (s : State) : Host.Outcome State Fault Refusal :=
  s.write w (Obj.CAN_TX_ABORT ctl) v

/-- CAN_RECOVER (R415). A write of 1 at a bus-off controller starts recovery. -/
def execCanRecover (w : Writer) (ctl : Fin 2) (v : Nat) (s : State) : Host.Outcome State Fault Refusal :=
  s.write w (Obj.CAN_RECOVER ctl) v

/-- CAN_RECOVERY_COMPLETE (R415). 128 occurrences of 11 recessive bits complete recovery to ERROR_ACTIVE. -/
def execCanRecoveryComplete (ctl : Fin 2) (s : State) : Host.Outcome State Fault Refusal :=
  s.run (Dev.timed (Dev.devCanRecoveryComplete ctl))

/-- CAN_TX_DONE (R413). A read returns and removes the oldest completion record. -/
def execCanTxDone (slot : Fin 16) (seq : Nat) (ctl : Fin 2) (s : State) : Host.Outcome State Fault Refusal :=
  s.run (Dev.devReadOf s.mem slot seq (Obj.CAN_TX_DONE ctl))

/-- CAN_RX_DATA (R411). A read returns up to 14 ring entries and advances CAN_RX_RD. -/
def execCanRxData (slot : Fin 16) (seq : Nat) (ctl : Fin 2) (s : State) : Host.Outcome State Fault Refusal :=
  s.run (Dev.devReadOf s.mem slot seq (Obj.CAN_RX_DATA ctl))

/-- CAN_RECEIVE_ERROR (R414). A CAN controller detects an error or a protocol exception in a frame it receives, changing REC
and possibly its error state. -/
def execCanReceiveError (ctl : Fin 2) (exception : Bool) (byEight : Bool) (s : State) : Host.Outcome State Fault Refusal :=
  s.run (Dev.timed (Dev.devCanReceiveError ctl exception byEight))

end Sys2Proof.Machine
end

