-- ==== Sys2Proof/Machine/CellCmds.lean ====
section
/-! DEFINITION. The commands of the cell controllers (R65–R86): one meaning for each row of the opcode table. -/

namespace Sys2Proof.Machine

open Sys2Proof

/-- CELL_FIRST_PASS (R73). A cell takes a frame on its first pass: checks header and command, writes its slot, acts on the
mailbox and forwards the frame. -/
def execCellFirstPass (cell : Fin 2048) (portB : Bool) (words : List Word) (tArr : Nat) (vendor : BitVec 64) (s :
    State) : Host.Outcome State Fault Refusal :=
  s.run (Dev.devCellFrame cell portB words tArr vendor)

/-- CELL_SECOND_PASS (R73). A cell forwards a later arrival of the same frame unchanged and measures its loop interval. -/
def execCellSecondPass (cell : Fin 2048) (portB : Bool) (words : List Word) (tArr : Nat) (s : State) : Host.Outcome
    State Fault Refusal :=
  s.run (Dev.devCellFrame cell portB words tArr 0#64)

/-- CELL_MBX_NOP (R70). The mailbox operation NOP causes no cell action. -/
def execCellMbxNop (cell : Fin 2048) (_hdr : BitVec 128) (mbx : BitVec 128) (s : State) : Host.Outcome State Fault
    Refusal :=
  s.run (Dev.onMailbox cell (fun c => (c, mbx)))

/-- CELL_MBX_READ (R70). The target cell writes register ADDR into DATA and answers with RESULT and ANS_CRC. -/
def execCellMbxRead (cell : Fin 2048) (hdr : BitVec 128) (mbx : BitVec 128) (vendor : BitVec 64) (s : State) :
    Host.Outcome State Fault Refusal :=
  s.run (Dev.onMailbox cell (fun c => (c, c.mbxRead hdr mbx vendor)))

/-- CELL_MBX_WRITE (R71). The target cell stores DATA into register ADDR, subject to the CFG_POS checks, and answers. -/
def execCellMbxWrite (cell : Fin 2048) (hdr : BitVec 128) (mbx : BitVec 128) (s : State) : Host.Outcome State Fault
    Refusal :=
  s.run (Dev.onMailbox cell (fun c => c.mbxWrite hdr mbx))

/-- CELL_MBX_ASSIGN (R72). An unassigned cell takes position MBX_POS by the hop-counter rule and answers with its UID. -/
def execCellMbxAssign (cell : Fin 2048) (hdr : BitVec 128) (mbx : BitVec 128) (s : State) : Host.Outcome State Fault
    Refusal :=
  s.run (Dev.onMailbox cell (fun c => c.mbxAssign hdr mbx))

/-- CELL_MBX_BAD_OP (R70). A reserved mailbox operation code is answered with RESULT BAD_OP. -/
def execCellMbxBadOp (cell : Fin 2048) (hdr : BitVec 128) (mbx : BitVec 128) (s : State) : Host.Outcome State Fault
    Refusal :=
  s.run (Dev.onMailbox cell (fun c => (c, c.mbxBadOp hdr mbx)))

/-- CELL_CMD_STEP (R78). An accepted STEP command takes STATE at the apply instant A_k. -/
def execCellCmdStep (cell : Fin 2048) (detect : Nat) (s : State) : Host.Outcome State Fault Refusal :=
  s.run (Dev.onCell cell (CellCtl.execStep detect))

/-- CELL_CMD_DELAYED (R78). An accepted DELAYED command keeps the previous state until A_k + OFFSET and then takes STATE. -/
def execCellCmdDelayed (cell : Fin 2048) (detect : Nat) (s : State) : Host.Outcome State Fault Refusal :=
  s.run (Dev.onCell cell (CellCtl.execDelayed detect))

/-- CELL_CMD_PULSE (R78). An accepted PULSE command takes STATE at A_k and BYPASS at A_k + OFFSET. -/
def execCellCmdPulse (cell : Fin 2048) (atOffset : Bool) (detect : Nat) (s : State) : Host.Outcome State Fault Refusal :=
  s.run (Dev.onCell cell (CellCtl.execPulse atOffset detect))

/-- CELL_CMD_HOLD (R67). A HOLD command keeps the state in effect and ignores EDGE and OFFSET. -/
def execCellCmdHold (cell : Fin 2048) (s : State) : Host.Outcome State Fault Refusal :=
  s.run (Dev.onCell cell (CellCtl.execHold))

/-- CLEAR_FAULT (R78). CLEAR_FAULT in a BLOCKED command clears the cell's latched fault if its cause is absent. -/
def execClearFault (cell : Fin 2048) (causePresent : Bool) (s : State) : Host.Outcome State Fault Refusal :=
  s.run (Dev.onCell cell (CellCtl.clear causePresent))

/-- CLOSE_BYPASS (R78). CLOSE_BYPASS set in two consecutive accepted BLOCKED commands with different SEQ fires the cell's
bypass switch. -/
def execCloseBypass (fired : CellAt) (closes : Bool) (s : State) : Host.Outcome State Fault Refusal :=
  s.run (Dev.onCell fired.cell (CellCtl.close closes fired.t))

/-- CELL_SAMPLE_INSTANT (R79). The cell latches its capacitor voltage and applied state at its reconstructed or predicted
S_k. -/
def execCellSampleInstant (cell : Fin 2048) (vcap : Nat) (temp : Nat) (s : State) : Host.Outcome State Fault Refusal :=
  s.run (Dev.onCell cell (CellCtl.sample vcap temp))

/-- CELL_HOLD_TIMEOUT (R83). A configured cell has taken in no frame for H cycles; it goes BLOCKED and latches HOLD_TIMEOUT.
-/
def execCellHoldTimeout (seen : CellAt) (s : State) : Host.Outcome State Fault Refusal :=
  s.run (Dev.onCell seen.cell (CellCtl.holdTimeout seen.t))

/-- CELL_BLOCK_PATTERN_DETECT (R85). A cell detects the block pattern within 3 words, goes BLOCKED, latches BLOCK_PATTERN
and forwards the pattern on both ports. -/
def execCellBlockPatternDetect (seen : CellAt) (s : State) : Host.Outcome State Fault Refusal :=
  s.run (Dev.onCell seen.cell (CellCtl.blockDetect seen.t))

/-- CELL_BLOCK_PATTERN_END (R85). 1 µs after the block pattern stops arriving the cell stops transmitting it. -/
def execCellBlockPatternEnd (cell : Fin 2048) (s : State) : Host.Outcome State Fault Refusal :=
  s.run (Dev.onCell cell (fun c => { c with blocking := false }))

/-- CELL_PORT_DOWN (R76). A cell port goes DOWN on loss of light, lock, three missing syncs or two defect words, and sends
defect words. -/
def execCellPortDown (cell : Fin 2048) (portB : Bool) (byDefect : Bool) (s : State) : Host.Outcome State Fault Refusal :=
  s.run (Dev.onCell cell (CellCtl.portDown portB byDefect))

/-- CELL_PORT_UP (R76). A cell port returns UP after two valid frames or three training words and no defect word for one Tc.
-/
def execCellPortUp (cell : Fin 2048) (portB : Bool) (s : State) : Host.Outcome State Fault Refusal :=
  s.run (Dev.onCell cell (CellCtl.portUp portB))

/-- CELL_FAULT_LATCH (R68). A cell detects VCAP_OVER, VCAP_UNDER, DESAT, OVERTEMP, GATE_SUPPLY, INTERNAL or a vendor fault
on its own, latches the code and goes BLOCKED. -/
def execCellFaultLatch (seen : CellAt) (code : Fin 256) (s : State) : Host.Outcome State Fault Refusal :=
  s.run (Dev.onCell seen.cell (CellCtl.latch code seen.t))

/-- CELL_POWER_UP (R84). A cell controller powers up unassigned, without CFG_POS, H or a kept epoch, and forwards frames. -/
def execCellPowerUp (cell : Fin 2048) (uid : BitVec 64) (cap0 : BitVec 64) (cap1 : BitVec 64) (cap2 : BitVec 64) (s :
    State) : Host.Outcome State Fault Refusal :=
  s.run (Dev.putCtl cell (CellCtl.powerUp uid cap0 cap1 cap2))

end Sys2Proof.Machine
end

