-- ==== Sys2Proof/Machine/CycleCmds.lean ====
section
/-! DEFINITION. The commands of the control cycle (R12–R34, R91): one meaning for each row of the opcode table. -/

namespace Sys2Proof.Machine

open Sys2Proof

/-- CYCLE_BOUNDARY (R12). The time domain reaches T_k and starts cycle k: the cycle index advances, the transmit banks swap
and due LIVE groups take effect. -/
def execCycleBoundary (partner : Option PairStatus) (s : State) : Host.Outcome State Fault Refusal :=
  s.boundary partner

/-- LOOP_RUN_COMPLETE (R123). The epilogue ends: the orders pass to the modulation engine, supervision comparisons run and a
completion is posted to the Stable. -/
def execLoopRunComplete (run : RunEnd) (s : State) : Host.Outcome State Fault Refusal :=
  s.run (Dev.devLoopRunComplete run.endNs run.stalls)

/-- COMMIT_COMPLETE (R33). The loop and modulation results of the run are committed together and the modulation engine posts
its completion. -/
def execCommitComplete (modNs : Nat) (commit : RunEnd) (s : State) : Host.Outcome State Fault Refusal :=
  s.run (Dev.devCommitComplete modNs commit.endNs commit.stalls)

/-- HEAL_WINDOW_EXPIRY (R91). The healing window of a strand ends and any cell still missing becomes ABSENT and is commanded
BLOCKED. -/
def execHealWindowExpiry (strand : Fin 32) (s : State) : Host.Outcome State Fault Refusal :=
  s.run (Dev.devHealWindowExpiry strand)

/-- LOOP_ENGINE_START (R25). At the fixed offset t_in the loop engine starts its prologue; undrained frames are discarded
and cells are judged present or missing. -/
def execLoopEngineStart (s : State) : Host.Outcome State Fault Refusal :=
  s.run (Dev.devLoopEngineStart)

end Sys2Proof.Machine
end

