-- ==== Sys2Proof/Machine/FieldCmds.lean ====
section
/-! DEFINITION. The commands of field I/O and PWM (R382–R405): one meaning for each row of the opcode table. -/

namespace Sys2Proof.Machine

open Sys2Proof

/-- FIELD_DIE_FRAME (R383). Every 10 µs the control and field dies exchange the output image and sampled levels, readback
and L+. -/
def execFieldDieFrame (levels : BitVec 16) (readback : BitVec 16) (lplus : F32) (limit : BitVec 16) (s : State) :
    Host.Outcome State Fault Refusal :=
  s.run (Dev.devFieldDieFrame levels.toNat readback.toNat lplus limit.toNat)

/-- INPUT_DEBOUNCE_EXPIRY (R384). An input has differed from its state for FIO_DEBOUNCE and its state changes. -/
def execInputDebounceExpiry (ch : Fin 16) (s : State) : Host.Outcome State Fault Refusal :=
  s.run (Dev.devInputDebounce ch)

/-- OUTPUT_DISAGREEMENT (R387). An output's pin has disagreed with its command for 5 ms and FAULT is set. -/
def execOutputDisagreement (ch : Fin 16) (s : State) : Host.Outcome State Fault Refusal :=
  s.run (Dev.devOutputDisagreement ch)

/-- OUTPUT_THERMAL_SHUTDOWN (R386). A shorted output switch reaches 155 °C and switches off. -/
def execOutputThermalShutdown (ch : Fin 16) (s : State) : Host.Outcome State Fault Refusal :=
  s.run (Dev.devOutputThermal ch)

/-- OUTPUT_RETRY (R386). 100 ms after a thermal switch-off the channel retries. -/
def execOutputRetry (ch : Fin 16) (s : State) : Host.Outcome State Fault Refusal :=
  s.run (Dev.devOutputRetry ch)

/-- FIO_SURVEY (R388). A write of 1 starts the load survey of every output channel. -/
def execFioSurvey (w : Writer) (v : Nat) (s : State) : Host.Outcome State Fault Refusal :=
  s.write w (Obj.FIO_SURVEY) v

/-- SURVEY_CHANNEL_DONE (R388). The 5 ms test current on a channel ends and its load and class are written. -/
def execSurveyChannelDone (before : F32) (after : F32) (s : State) : Host.Outcome State Fault Refusal :=
  s.run (Dev.devSurveyChannel before after)

/-- FIO_OUT_ENABLE (R389). A write of 1 re-enables the outputs at its boundary, refused on low L+, link down or expired
watchdog. -/
def execFioOutEnable (w : Writer) (v : Nat) (s : State) : Host.Outcome State Fault Refusal :=
  s.write w (Obj.FIO_OUT_ENABLE) v

/-- FIO_APP_KICK (R389). A write feeds the application watchdog. -/
def execFioAppKick (w : Writer) (v : Nat) (s : State) : Host.Outcome State Fault Refusal :=
  s.write w (Obj.FIO_APP_KICK) v

/-- FIO_OUT (R385). A write replaces the whole output image at its boundary, or a STORE sets one bit. -/
def execFioOut (w : Writer) (v : Nat) (s : State) : Host.Outcome State Fault Refusal :=
  s.write w (Obj.FIO_OUT) v

/-- PWM_PERIOD_START (R397). A PWM timer starts a period, transferring shadows and raising its period event. -/
def execPwmPeriodStart (timer : Fin 10) (top : Bool) (s : State) : Host.Outcome State Fault Refusal :=
  s.run (Dev.timed (Dev.devPwmPeriodStart timer top))

/-- PWM_COMPARE_EDGE (R394). A timer's count reaches its compare and an output edge is placed, with dead time on rising
edges. -/
def execPwmCompareEdge (timer : Fin 10) (deadTimeEnd : Bool) (s : State) : Host.Outcome State Fault Refusal :=
  s.run (Dev.timed (Dev.devPwmCompareEdge timer deadTimeEnd))

/-- PWM_TRIP (R399). A selected trip source becomes active and forces the timer's outputs to their trip state. -/
def execPwmTrip (pin : Fin 2) (active : Bool) (s : State) : Host.Outcome State Fault Refusal :=
  s.run (Dev.devPwmTrip pin active)

/-- PWM_TRIP_CLEAR (R400). A clear write, refused while any source is active, restarts the named timers at their next period
start. -/
def execPwmTripClear (w : Writer) (v : Nat) (s : State) : Host.Outcome State Fault Refusal :=
  s.write w (Obj.PWM_TRIP_CLEAR) v

/-- PWM_MASK_APPLY (R398). A write of 1 to PWM_MASK_CTRL, or a routed event, applies a mask set to the pins. -/
def execPwmMaskApply (w : Writer) (set : Fin 4) (s : State) : Host.Outcome State Fault Refusal :=
  s.write w (Obj.PWM_MASK_CTRL set) 1

/-- PWM_MASK_RELEASE (R398). A write of 2 releases a mask set at its boundary. -/
def execPwmMaskRelease (w : Writer) (set : Fin 4) (s : State) : Host.Outcome State Fault Refusal :=
  s.write w (Obj.PWM_MASK_CTRL set) 2

/-- PWM_COMMIT (R397). A write of 1 transfers the shadows at the first period start after its boundary. -/
def execPwmCommit (w : Writer) (timer : Fin 10) (v : Nat) (s : State) : Host.Outcome State Fault Refusal :=
  s.write w (Obj.PWM_COMMIT timer) v

/-- PWM_ENABLE (R394). A write starts or stops timers, centre timers at the cycle boundary of the enable. -/
def execPwmEnable (w : Writer) (v : Nat) (s : State) : Host.Outcome State Fault Refusal :=
  s.write w (Obj.PWM_ENABLE) v

/-- PWM_SPLIT (R397). A write of 1 clears split bits. -/
def execPwmSplit (w : Writer) (v : Nat) (s : State) : Host.Outcome State Fault Refusal :=
  s.write w (Obj.PWM_SPLIT) v

/-- SURVEY_ABORT (R388). L+ falls below 15.0 V during the survey and the survey is aborted. -/
def execSurveyAbort (s : State) : Host.Outcome State Fault Refusal :=
  s.run (Dev.devSurveyAbort)

/-- SAG (R389). L+ below 15.0 V for 50 µs switches every output off and latches them. -/
def execSag (s : State) : Host.Outcome State Fault Refusal :=
  s.run (Dev.devSag)

/-- FIELD_LINK_LOSS (R389). The field die receives no valid frame for 2 ms and latches every output off. -/
def execFieldLinkLoss (s : State) : Host.Outcome State Fault Refusal :=
  s.run (Dev.devFieldLinkLoss)

/-- APP_WDT_EXPIRY (R389). No FIO_APP_KICK within FIO_APP_WDT latches every output off. -/
def execAppWdtExpiry (s : State) : Host.Outcome State Fault Refusal :=
  s.run (Dev.devAppWdtExpiry)

/-- LPLUS_LOW_WARN (R390). L+ below 18.0 V for 1 ms sets SAG and FAULT. -/
def execLplusLowWarn (s : State) : Host.Outcome State Fault Refusal :=
  s.run (Dev.devLplusLow)

/-- LPLUS_RECOVER (R390). L+ back above 19.0 V sets IN_VALID and restarts debounce. -/
def execLplusRecover (s : State) : Host.Outcome State Fault Refusal :=
  s.run (Dev.devLplusRecover)

end Sys2Proof.Machine
end

