-- ==== Sys2Proof/Machine/HostCmds.lean ====
section
/-! DEFINITION. The commands of objects, sessions, raw rings and the change log (R350–R381): one meaning for each row of the opcode table. -/

namespace Sys2Proof.Machine

open Sys2Proof

/-- HELLO (R363). A HELLO request is answered by unicast after (node − 1) × 200 µs with the identity block. -/
def execHello (addr : List Byte) (seq : Nat) (s : State) : Host.Outcome State Fault Refusal :=
  s.run (Dev.devHello addr seq)

/-- PEER_HELLO_RECEIVED (R363). Another module's HELLO updates the peer table, or reveals a node ID conflict. -/
def execPeerHelloReceived (block : List Byte) (addr : List Byte) (s : State) : Host.Outcome State Fault Refusal :=
  s.run (Dev.devPeerHello block addr)

/-- PEER_AGE_OUT (R363). A peer entry without a HELLO for 3 periods ages out. -/
def execPeerAgeOut (node : Nat) (s : State) : Host.Outcome State Fault Refusal :=
  s.run (Dev.devPeerAgeOut node)

/-- LOGIN_CHALLENGE (R365). The module reserves a session slot and returns a session ID and nonce. -/
def execLoginChallenge (payload : List Byte) (port : Fin 4) (addr : List Byte) (seq : Nat) (s : State) : Host.Outcome
    State Fault Refusal :=
  s.run (Dev.devLoginChallenge payload port addr seq)

/-- LOGIN_PROOF (R365). A valid proof within 2 s opens the session, derives keys and grants the role. -/
def execLoginProof (slot : Fin 16) (seq : Nat) (proof : List Byte) (s : State) : Host.Outcome State Fault Refusal :=
  s.run (Dev.devLoginProof slot seq proof)

/-- LOGIN_TIMEOUT (R366). A PENDING slot without a valid proof for 2 s returns to FREE. -/
def execLoginTimeout (slot : Fin 16) (s : State) : Host.Outcome State Fault Refusal :=
  s.run (Dev.devLoginTimeout slot)

/-- READ (R360). A READ returns one value taken between two cycle boundaries. -/
def execRead (slot : Fin 16) (seq : Nat) (payload : List Byte) (s : State) : Host.Outcome State Fault Refusal :=
  s.run (Dev.devRead s.mem slot seq payload)

/-- WRITE (R368). A WRITE carrying one value entry is checked under R351 and accepted or refused. -/
def execWrite (slot : Fin 16) (seq : Nat) (payload : List Byte) (s : State) : Host.Outcome State Fault Refusal :=
  s.run (Dev.devWrite slot seq payload)

/-- READ_LIST (R360). A READ_LIST returns up to 128 values from one snapshot, failing entries with their status. -/
def execReadList (slot : Fin 16) (seq : Nat) (payload : List Byte) (s : State) : Host.Outcome State Fault Refusal :=
  s.run (Dev.devReadList s.mem slot seq payload)

/-- WRITE_GROUP (R368). A WRITE_GROUP is accepted whole or refused whole, naming the first failing entry. -/
def execWriteGroup (slot : Fin 16) (seq : Nat) (payload : List Byte) (s : State) : Host.Outcome State Fault Refusal :=
  s.run (Dev.devWriteGroup slot seq payload)

/-- SUBSCRIBE (R372). A SUBSCRIBE creates a PERIODIC, CHANGE or EVENTS subscription for the session. -/
def execSubscribe (slot : Fin 16) (seq : Nat) (payload : List Byte) (s : State) : Host.Outcome State Fault Refusal :=
  s.run (Dev.devSubscribe s.mem slot seq payload)

/-- PUSH (R372). A subscription's period or change comparison sends a PUSH message with sampled values. -/
def execPush (slot : Fin 16) (sub : Nat) (s : State) : Host.Outcome State Fault Refusal :=
  s.run (Dev.devPush s.mem slot sub)

/-- EVENT (R372). Within 1 ms of its first event an EVENT message carries up to 64 event records. -/
def execEvent (slot : Fin 16) (sub : Nat) (s : State) : Host.Outcome State Fault Refusal :=
  s.run (Dev.devEvent slot sub)

/-- DOMAIN_OPEN (R371). A DOMAIN_OPEN opens a read snapshot or a write transfer and returns its ID. -/
def execDomainOpen (slot : Fin 16) (seq : Nat) (payload : List Byte) (s : State) : Host.Outcome State Fault Refusal :=
  s.run (Dev.devDomainOpen s.mem slot seq payload)

/-- DOMAIN_BLOCK (R371). A DOMAIN_BLOCK reads data at an offset or appends write data at the expected offset. -/
def execDomainBlock (slot : Fin 16) (seq : Nat) (payload : List Byte) (s : State) : Host.Outcome State Fault Refusal :=
  s.run (Dev.devDomainBlock s.mem slot seq payload)

/-- DOMAIN_END (R371). A DOMAIN_END checks the CRC and length of a write and writes the value as one WRITE. -/
def execDomainEnd (slot : Fin 16) (seq : Nat) (payload : List Byte) (s : State) : Host.Outcome State Fault Refusal :=
  s.run (Dev.devDomainEnd slot seq payload)

/-- DOMAIN_ABORT (R371). A DOMAIN_ABORT ends the transfer without effect. -/
def execDomainAbort (slot : Fin 16) (seq : Nat) (payload : List Byte) (s : State) : Host.Outcome State Fault Refusal :=
  s.run (Dev.devDomainAbort slot seq payload)

/-- DOMAIN_TRANSFER_TIMEOUT (R371). A transfer without a block for 10 s ends without effect. -/
def execDomainTransferTimeout (id : Nat) (s : State) : Host.Outcome State Fault Refusal :=
  s.run (Dev.devDomainTimeout id)

/-- CLOSE (R366). A CLOSE frees the session after the response, removing subscriptions and transfers. -/
def execClose (slot : Fin 16) (seq : Nat) (s : State) : Host.Outcome State Fault Refusal :=
  s.run (Dev.devClose slot seq)

/-- SESSION_IDLE_TIMEOUT (R366). An OPEN session without a valid request for HOST_SES_TIMEOUT returns to FREE. -/
def execSessionIdleTimeout (slot : Fin 16) (s : State) : Host.Outcome State Fault Refusal :=
  s.run (Dev.devSessionIdle slot)

/-- TAG_FAILURE (R359). A message whose tag fails is dropped without an answer and counted. -/
def execTagFailure (slot : Fin 16) (s : State) : Host.Outcome State Fault Refusal :=
  s.run (Dev.devTagFailure slot)

/-- OBJECT_WRITE (R351). A write to an object without a row of its own is checked in order and accepted by its apply class.
-/
def execObjectWrite (w : Writer) (e : Entry) (s : State) : Host.Outcome State Fault Refusal :=
  s.run (Dev.submit w e)

/-- RAW_FRAME_RECEIVED (R373). An unclaimed frame matching HOST_RAW_ETYPE is written to the raw receive ring. -/
def execRawFrameReceived (port : Fin 4) (frame : List Byte) (capture : Int) (marks : RawMarks) (s : State) :
    Host.Outcome State Fault Refusal :=
  s.rawReceived port frame capture marks.fcsError marks.late

/-- HOST_RAW_TX_TAIL (R373). A write of the transmit tail hands owned transmit descriptors to the module. -/
def execHostRawTxTail (w : Writer) (v : Nat) (s : State) : Host.Outcome State Fault Refusal :=
  s.write w (Obj.HOST_RAW_TX_TAIL) v

/-- FW_ACTIVATE (R374). A Security write in CONFIG resets the module into the new firmware slot. -/
def execFwActivate (w : Writer) (v : Nat) (s : State) : Host.Outcome State Fault Refusal :=
  s.write w (Obj.FW_ACTIVATE) v

/-- SEC_DEBUG_UNLOCK (R367). A Service write opens JTAG and debug to the task cores until the session closes. -/
def execSecDebugUnlock (w : Writer) (v : Nat) (s : State) : Host.Outcome State Fault Refusal :=
  s.write w (Obj.SEC_DEBUG_UNLOCK) v

/-- HELLO_PERIODIC (R363). Every HOST_DISC_PERIOD the module sends an unsolicited HELLO on both LANs. -/
def execHelloPeriodic (s : State) : Host.Outcome State Fault Refusal :=
  s.run (Dev.devHelloPeriodic)

/-- NODE_CONFLICT_CLEAR (R364). 10 s after the last conflicting HELLO the node conflict clears. -/
def execNodeConflictClear (s : State) : Host.Outcome State Fault Refusal :=
  s.run (Dev.devNodeConflictClear)

/-- LOG_RECORD_PROGRAMMED (R377). A pending change-log record is programmed to NOR with its number and link. -/
def execLogRecordProgrammed (s : State) : Host.Outcome State Fault Refusal :=
  s.run (Dev.devLogProgrammed)

/-- FW_ROLLBACK_RAISE (R374). After 1 h in the new slot without fallback FW_ROLLBACK is raised to the image's security
version. -/
def execFwRollbackRaise (s : State) : Host.Outcome State Fault Refusal :=
  s.run (Dev.devRollbackRaise)

/-- PRP_SUPERVISION_SEND (R357). With HOST_PRP set the module sends a PRP supervision frame every 2 s. -/
def execPrpSupervisionSend (s : State) : Host.Outcome State Fault Refusal :=
  s.run (Dev.devPrpSupervision)

end Sys2Proof.Machine
end

