-- ==== Sys2Proof/Machine/LoopCmds.lean ====
section
/-! DEFINITION. The commands of modulation, the loop engine, the local window and supervision (R97–R169, R355): one meaning for each row of the opcode table. -/

namespace Sys2Proof.Machine

open Sys2Proof

/-- MOD_ARM_ENABLE (R101). A write of MOD_ARM_ENABLE lets an arm group leave BLOCKED, or blocks it on 0, refused with STATE
if passes or N_red forbid. -/
def execModArmEnable (w : Writer) (arm : Fin 2) (v : Nat) (s : State) : Host.Outcome State Fault Refusal :=
  s.write w (Obj.MOD_ARM_ENABLE arm) v

/-- LE_VALIDATE (R131). A write of 1 validates the loop program and computes its static schedule and L_sched. -/
def execLeValidate (w : Writer) (v : Nat) (s : State) : Host.Outcome State Fault Refusal :=
  s.write w (Obj.LE_VALIDATE) v

/-- LE_RESET (R145). A write of 1 resets an instance at its boundary to its INIT values, clearing buffers and PLL lock. -/
def execLeReset (w : Writer) (inst : Fin 512) (v : Nat) (s : State) : Host.Outcome State Fault Refusal :=
  s.write w (Obj.LE_RESET inst) v

/-- LOCAL_GROUP_OPEN (R146). A core writes 1 to LE_LOCAL_GROUP, discarding any open group and opening a new one. -/
def execLocalGroupOpen (core : Fin 8) (s : State) : Host.Outcome State Fault Refusal :=
  s.run (Dev.localGroup core (Dev.groupEntry 1))

/-- LOCAL_GROUP_SUBMIT (R146). A core writes 2 and its collected writes are submitted and accepted or refused as one group.
-/
def execLocalGroupSubmit (core : Fin 8) (s : State) : Host.Outcome State Fault Refusal :=
  s.run (Dev.localGroup core (Dev.groupEntry 2))

/-- LOCAL_GROUP_DISCARD (R146). A core writes 3 and its open group is discarded. -/
def execLocalGroupDiscard (core : Fin 8) (s : State) : Host.Outcome State Fault Refusal :=
  s.run (Dev.localGroup core (Dev.groupEntry 3))

/-- LOCAL_WINDOW_STORE (R355). A task-core store to an object slot posts a write whose status appears in LE_LOCAL_STATUS. -/
def execLocalWindowStore (core : Fin 8) (addr : Nat) (size : Nat) (v : BitVec 64) (s : State) : Host.Outcome State
    Fault Refusal :=
  s.runMem (Dev.devWindowStore s.mem core addr size v.toNat)

/-- LOCAL_WINDOW_DESCRIPTOR_LOAD (R356). A 64-bit load of a TIME96, STRING or DOMAIN slot copies the value into the snapshot
buffer and returns its descriptor. -/
def execLocalWindowDescriptorLoad (core : Fin 8) (addr : Nat) (s : State) : Host.Outcome State Fault Refusal :=
  s.runMem (Dev.devDescriptorLoad s.mem core addr)

/-- LE_LOCAL_STATUS_READ (R355). A read of LE_LOCAL_STATUS stalls until every earlier window store of that core has been
decided. -/
def execLeLocalStatusRead (core : Fin 8) (s : State) : Host.Outcome State Fault Refusal :=
  s.runMem (Dev.devLocalStatusRead s.mem core)

/-- SV_HOLD_MAX_REACHED (R164). The hold count of an entry in HOLD_MODEL reaches SV_HOLD_MAX and the entry trips with L4. -/
def execSvHoldMaxReached (entry : Fin 16) (s : State) : Host.Outcome State Fault Refusal :=
  s.run (Dev.devSvHoldMaxReached entry)

/-- SV_RECOVER (R164). An entry in HOLD_MODEL completes SV_RECOVER agreeing runs and returns to NORMAL. -/
def execSvRecover (entry : Fin 16) (s : State) : Host.Outcome State Fault Refusal :=
  s.run (Dev.devSvRecover entry)

/-- REP_RELEASE (R160). The release hold-off of a frozen repetitive channel expires and learning resumes. -/
def execRepRelease (ch : Fin 16) (s : State) : Host.Outcome State Fault Refusal :=
  s.run (Dev.devRepRelease ch)

/-- REP_CLEAR (R161). A write of 1 zeroes a repetitive channel's memory at its apply boundary. -/
def execRepClear (w : Writer) (ch : Fin 16) (v : Nat) (s : State) : Host.Outcome State Fault Refusal :=
  s.write w (Obj.REP_CLEAR ch) v

/-- SUP_PEAK_CLEAR (R167). A write of 1 clears the three end-time peaks at its apply boundary. -/
def execSupPeakClear (w : Writer) (v : Nat) (s : State) : Host.Outcome State Fault Refusal :=
  s.write w (Obj.SUP_PEAK_CLEAR) v

end Sys2Proof.Machine
end

