-- ==== Sys2Proof/Machine/MeasureCmds.lean ====
section
/-! DEFINITION. The commands of the measurement inputs (R170–R193): one meaning for each row of the opcode table. -/

namespace Sys2Proof.Machine

open Sys2Proof

/-- FILTER_OUTPUT (R175). A fast or fine filter path forms an output on its grid from the captured bitstream. -/
def execFilterOutput (ch : Fin 32) (fine : Bool) (m : Nat) (bits : List Bool) (s : State) : Host.Outcome State Fault
    Refusal :=
  s.run (Dev.devFilterOutput ch fine m bits)

/-- CLK_LOSS_ASSERT (R181). No capture edge within 4·t_mclk, or a frequency error above 2 %, asserts CLK_LOSS. -/
def execClkLossAssert (clk : Fin 12) (s : State) : Host.Outcome State Fault Refusal :=
  s.run (Dev.devClkLossAssert clk)

/-- CLK_LOSS_CLEAR (R181). CLK_LOSS clears after 64 periods within both bounds and the path becomes SETTLING. -/
def execClkLossClear (clk : Fin 12) (s : State) : Host.Outcome State Fault Refusal :=
  s.run (Dev.devClkLossClear clk)

/-- DATA_LOSS_ASSERT (R181). The bitstream has held one value for MEAS_RUN_MAX clocks and DATA_LOSS asserts. -/
def execDataLossAssert (ch : Fin 32) (s : State) : Host.Outcome State Fault Refusal :=
  s.run (Dev.devDataLossAssert ch)

/-- DATA_LOSS_CLEAR (R181). DATA_LOSS clears at the first change of bit value and the path becomes SETTLING. -/
def execDataLossClear (ch : Fin 32) (s : State) : Host.Outcome State Fault Refusal :=
  s.run (Dev.devDataLossClear ch)

/-- PATH_SETTLED (R182). t_settle after a start, loss or re-anchor the path leaves SETTLING and event 78 is raised. -/
def execPathSettled (ch : Fin 32) (s : State) : Host.Outcome State Fault Refusal :=
  s.run (Dev.devPathSettled ch)

/-- DIAG_CONVERSION_END (R187). A diagnostic conversion of 750 clocks ends and gives one result. -/
def execDiagConversionEnd (unit : Fin 2) (v : F32) (s : State) : Host.Outcome State Fault Refusal :=
  s.run (Dev.devDiagConversionEnd unit v)

/-- DIAG_DELAY_EXPIRY (R188). The settling delay of a diagnostic entry expires and its conversions start. -/
def execDiagDelayExpiry (unit : Fin 2) (s : State) : Host.Outcome State Fault Refusal :=
  s.run (Dev.devDiagDelayExpiry unit)

/-- DIAG_RUN (R188). A write of DIAG_RUN = 0 stops both diagnostic units at the end of the entry in progress. -/
def execDiagRun (w : Writer) (v : Nat) (s : State) : Host.Outcome State Fault Refusal :=
  s.write w (Obj.DIAG_RUN) v

end Sys2Proof.Machine
end

