-- ==== Sys2Proof/Machine/PairCmds.lean ====
section
/-! DEFINITION. The commands of pair mode (R324–R349): one meaning for each row of the opcode table. -/

namespace Sys2Proof.Machine

open Sys2Proof

/-- COUPLE_FORMATION (R327). Two modules in CONFIG and PAIR with a link up exchange identity, check the couple and copy
mirrored objects. -/
def execCoupleFormation (partner : PartnerId) (s : State) : Host.Outcome State Fault Refusal :=
  s.run (Dev.devCoupleFormation partner)

/-- CHECKPOINT_RECEIVED (R332). The last byte and CRC of a checkpoint arrive and it replaces the previous one at the
standby. -/
def execCheckpointReceived (cp : Checkpoint) (s : State) : Host.Outcome State Fault Refusal :=
  s.run (Dev.devCheckpointReceived cp)

/-- MIRRORED_WRITE (R334). A write accepted at the active module is applied at the standby at the reported apply cycle. -/
def execMirroredWrite (role : Fin 5) (entries : List Entry) (sec : Nat) (cycle : Nat) (s : State) : Host.Outcome State
    Fault Refusal :=
  s.run (Dev.mirrorSubmit role entries sec cycle)

/-- PAIR_LINK_LANE_CHANGE (R330). A pair-link lane goes down on LOS or three missed link frames, or comes up. -/
def execPairLinkLaneChange (lane : Fin 2) (up : Bool) (s : State) : Host.Outcome State Fault Refusal :=
  s.run (Dev.devPairLinkLane lane up)

/-- SPLIT_SERVICE_START (R343). A strand with a fold and missing cells enters split service from the second boundary after
the folded frame. -/
def execSplitServiceStart (strand : Fin 32) (s : State) : Host.Outcome State Fault Refusal :=
  s.run (Dev.devSplit strand true)

/-- SPLIT_SERVICE_END (R343). The standby receives a valid frame of the active module again and returns the strand to
loopback. -/
def execSplitServiceEnd (strand : Fin 32) (s : State) : Host.Outcome State Fault Refusal :=
  s.run (Dev.devSplit strand false)

/-- EXERCISE_DWELL_END (R346). The partner's dwell ends, the revert follows and the exercise outcome is reported. -/
def execExerciseDwellEnd (gap : Nat) (s : State) : Host.Outcome State Fault Refusal :=
  s.run (Dev.devExerciseDwellEnd gap)

/-- ARB_ACT_RISE (R335). A filtered rising ARB_ACT at a standby starts a warm or cold takeover. -/
def execArbActRise (s : State) : Host.Outcome State Fault Refusal :=
  s.run (Dev.devArbRise)

/-- CHECKPOINT_LOAD_COMPLETE (R337). The checkpoint is loaded into the engines and the lanes switch to FRAMES at the next
boundary. -/
def execCheckpointLoadComplete (s : State) : Host.Outcome State Fault Refusal :=
  s.run (Dev.devCheckpointLoaded)

/-- ARB_ACT_FALL (R328). A filtered falling ARB_ACT at an active module returns it to STANDBY after the run in progress. -/
def execArbActFall (s : State) : Host.Outcome State Fault Refusal :=
  s.run (Dev.devArbFall)

/-- REVERT_REQUEST (R345). A preferred ready standby for PR_REVERT_HOLDOFF sets HEALTH to REQUEST. -/
def execRevertRequest (s : State) : Host.Outcome State Fault Refusal :=
  s.run (Dev.devRevert)

/-- EXERCISE_START (R346). At an exercise instant the ACTIVE preferred module sets HEALTH to YIELD if the mode and partner
allow. -/
def execExerciseStart (s : State) : Host.Outcome State Fault Refusal :=
  s.run (Dev.devExerciseStart)

/-- EXERCISE_NOT_GRANTED (R346). ARB_ACT does not move within 10 s and the exercise result is NOT_GRANTED. -/
def execExerciseNotGranted (s : State) : Host.Outcome State Fault Refusal :=
  s.run (Dev.devExerciseNotGranted)

end Sys2Proof.Machine
end

