-- ==== Sys2Proof/Machine/PhasorCmds.lean ====
section
/-! DEFINITION. The commands of phasors (R240–R258): one meaning for each row of the opcode table. -/

namespace Sys2Proof.Machine

open Sys2Proof

/-- PH_FRAME_READY (R250). The last sample of a report span is available; phasors, frequency and ROCOF are formed and the
data frame is sent. -/
def execPhFrameReady (stream : Fin 4) (sec : Nat) (n : Nat) (s : State) : Host.Outcome State Fault Refusal :=
  s.run (Dev.timed (Dev.devPhFrameReady stream sec n))

/-- PH_FRAME_DROPPED (R250). A data frame not sent by its 2 ms limit is dropped as late. -/
def execPhFrameDropped (report : PhReport) (s : State) : Host.Outcome State Fault Refusal :=
  s.run (Dev.devPhFrameDropped report.stream report.sec report.n)

/-- PH_CMD_DATA_OFF (R253). Command 0x0001 turns data transmission of a stream off. -/
def execPhCmdDataOff (dest : PhDest) (addr : List Byte) (s : State) : Host.Outcome State Fault Refusal :=
  s.run (Dev.timed (Dev.devPhDataOff dest.udp dest.idcode addr))

/-- PH_CMD_DATA_ON (R253). Command 0x0002 turns data transmission on to the source address and port. -/
def execPhCmdDataOn (dest : PhDest) (addr : List Byte) (port : Nat) (s : State) : Host.Outcome State Fault Refusal :=
  s.run (Dev.timed (Dev.devPhDataOn dest.udp dest.idcode addr port))

/-- PH_CMD_HEADER (R253). Command 0x0003 sends the header frame. -/
def execPhCmdHeader (dest : PhDest) (addr : List Byte) (port : Nat) (s : State) : Host.Outcome State Fault Refusal :=
  s.run (Dev.timed (Dev.devPhHeader dest.udp dest.idcode addr port))

/-- PH_CMD_CFG2 (R253). Command 0x0005 sends the CFG-2 frame. -/
def execPhCmdCfg2 (dest : PhDest) (addr : List Byte) (port : Nat) (s : State) : Host.Outcome State Fault Refusal :=
  s.run (Dev.timed (Dev.devPhCfg2 dest.udp dest.idcode addr port))

/-- PH_CMD_CFG3 (R253). Command 0x0006 sends the CFG-3 frame in one datagram. -/
def execPhCmdCfg3 (dest : PhDest) (addr : List Byte) (port : Nat) (s : State) : Host.Outcome State Fault Refusal :=
  s.run (Dev.timed (Dev.devPhCfg3 dest.udp dest.idcode addr port))

/-- PH_CMD_IGNORED (R253). A command frame failing its checks, or with an unsupported CMD, is dropped and counted. -/
def execPhCmdIgnored (dest : PhDest) (addr : List Byte) (chkOk : Bool) (s : State) : Host.Outcome State Fault Refusal :=
  s.run (Dev.timed (Dev.devPhIgnored dest.udp dest.idcode addr chkOk))

/-- PH_UNLOCK_STOP (R255). Under STOP, data frames stop once the time base has been outside LOCKED for PH_UNLOCK_STOP. -/
def execPhUnlockStop (s : State) : Host.Outcome State Fault Refusal :=
  s.run (Dev.devPhUnlockStop)

end Sys2Proof.Machine
end

