-- ==== Sys2Proof/Machine/SafetyCmds.lean ====
section
/-! DEFINITION. The commands of Breakwater and the safety layer (R300–R323): one meaning for each row of the opcode table. -/

namespace Sys2Proof.Machine

open Sys2Proof

/-- BW_CAUSE_ACTIVE (R304). A filtered Breakwater cause becomes active, setting the latch, driving BLOCK pins low and
injecting the block pattern. -/
def execBwCauseActive (cause : Fin 16) (pins : Fin 4) (s : State) : Host.Outcome State Fault Refusal :=
  s.run (Dev.devBwCause cause pins)

/-- GLITCH_REJECTED (R302). An input pulse shorter than the filter is not latched and is counted. -/
def execGlitchRejected (input : Fin 12) (width : Nat) (s : State) : Host.Outcome State Fault Refusal :=
  s.run (Dev.devGlitch input width)

/-- TRIPIN_DISCREPANCY (R301). The two pins of a trip input disagree longer than TRIPIN_DISC_TIME and event 142 is raised.
-/
def execTripinDiscrepancy (n : Fin 4) (pins : Fin 4) (s : State) : Host.Outcome State Fault Refusal :=
  s.run (Dev.devTripinDiscrepancy n pins)

/-- BLOCK_PIN_READBACK_MISMATCH (R305). A BLOCK pin's readback differs from its drive for 1 µs; event 142 and the guard
force follow. -/
def execBlockPinReadbackMismatch (levels : Fin 4) (s : State) : Host.Outcome State Fault Refusal :=
  s.run (Dev.devPinMismatch levels)

/-- GUARD_CROSS_CHECK (R307). 1 µs after a latch the guard cores check every lane injects and both BLOCK pins are low. -/
def execGuardCrossCheck (laneMissing : Bool) (pinHigh : Bool) (s : State) : Host.Outcome State Fault Refusal :=
  s.run (Dev.timed (Dev.devGuardCrossCheck laneMissing pinHigh))

/-- GUARD_PARAM_CHECK (R307). Every 1 ms the guard compares the Breakwater settings with the active parameter set. -/
def execGuardParamCheck (same : Bool) (s : State) : Host.Outcome State Fault Refusal :=
  s.run (Dev.timed (Dev.devGuardParamCheck same))

/-- GUARD_RC_CLOCK_CHECK (R307). Every 10 µs the guard measures the Breakwater oscillator against its own PLL. -/
def execGuardRcClockCheck (khz : Nat) (s : State) : Host.Outcome State Fault Refusal :=
  s.run (Dev.timed (Dev.devGuardRcCheck khz))

/-- BW_LOR (R309). A lock-out reset write from an Engineer session with the right sequence and no cause clears the latch. -/
def execBwLor (w : Writer) (v : Nat) (s : State) : Host.Outcome State Fault Refusal :=
  s.write w (Obj.BW_LOR) v

/-- LOR_N_PULSE (R310). LOR_N held low 100 ms to 10 s and released arms the lock-out reset. -/
def execLorNPulse (lowMs : Nat) (highMs : Nat) (s : State) : Host.Outcome State Fault Refusal :=
  s.run (Dev.devLorPulse lowMs highMs)

/-- POWER_UP_RELEASE (R312). SELF clears once the parameter set is verified and the heartbeat has run 40 µs; the latch
clears if no other cause. -/
def execPowerUpRelease (crcOk : Bool) (s : State) : Host.Outcome State Fault Refusal :=
  s.run (Dev.devPowerUpRelease crcOk)

/-- BW_SET_ACTIVATE (R313). A Security write with the edit-set CRC in CONFIG makes the edit set active. -/
def execBwSetActivate (w : Writer) (v : Nat) (s : State) : Host.Outcome State Fault Refusal :=
  s.write w (Obj.BW_SET_ACTIVATE) v

/-- BW_TEST (R314). A proof-test write forces one input, which latches as a real cause, and measures the reaction. -/
def execBwTest (w : Writer) (v : Nat) (s : State) : Host.Outcome State Fault Refusal :=
  s.write w (Obj.BW_TEST) v

/-- SAFETY_HEARTBEAT_SEND (R316). At each heartbeat instant the module sends a HEARTBEAT frame on all four ports. -/
def execSafetyHeartbeatSend (lateNs : Nat) (s : State) : Host.Outcome State Fault Refusal :=
  s.run (Dev.timed (Dev.devSafetyHeartbeat lateNs))

/-- SAFETY_FRAME_RECEIVED (R317). A received safety copy is checked; a TRIP copy acts at once, others open a comparison
window. -/
def execSafetyFrameReceived (rx : SafetyRx) (pdu : List Byte) (s : State) : Host.Outcome State Fault Refusal :=
  s.run (Dev.timed (Dev.devSafetyReceived rx.port rx.t rx.head pdu))

/-- SAFETY_WINDOW_EXPIRY (R318). The 200 µs comparison window closes without a partner copy and SLS_SINGLE is counted. -/
def execSafetyWindowExpiry (sub : Fin 16) (s : State) : Host.Outcome State Fault Refusal :=
  s.run (Dev.timed (Dev.devSafetyWindowExpiry sub))

/-- SUBSCRIPTION_LOST (R319). No frame accepted for SLS_TIMEOUT makes a subscription LOST and applies its loss reaction. -/
def execSubscriptionLost (sub : Fin 16) (s : State) : Host.Outcome State Fault Refusal :=
  s.run (Dev.devSubscriptionLost sub)

/-- BW_CAUSE_INACTIVE (R303). A filtered Breakwater cause ceases, its bit clears in BW_CAUSES and, once no cause remains,
the lock-out reset may complete. -/
def execBwCauseInactive (cause : Fin 16) (s : State) : Host.Outcome State Fault Refusal :=
  s.run (Dev.devBwCauseGone cause)

/-- INJECTION_END (R305). In TIMED mode, injection ends after BW_INJECT_MIN once no cause is present and the lanes resume.
-/
def execInjectionEnd (s : State) : Host.Outcome State Fault Refusal :=
  s.run (Dev.devInjectionEnd)

/-- GUARD_HEARTBEAT_LOSS (R303). The guard heartbeat is lost for 40 µs and SELF latches. -/
def execGuardHeartbeatLoss (s : State) : Host.Outcome State Fault Refusal :=
  s.run (Dev.devGuardHeartbeatLoss)

/-- LOR_N_TOO_LONG (R310). LOR_N low beyond 10 s does not arm the reset and raises event 139. -/
def execLorNTooLong (s : State) : Host.Outcome State Fault Refusal :=
  s.run (Dev.devLorTooLong)

/-- LOR_WINDOW_EXPIRY (R310). BW_LOR_ARMED returns to 0 after BW_LOR_WINDOW. -/
def execLorWindowExpiry (s : State) : Host.Outcome State Fault Refusal :=
  s.run (Dev.devLorExpiry)

end Sys2Proof.Machine
end

