-- ==== Sys2Proof/Machine/SequencerCmds.lean ====
section
/-! DEFINITION. The commands of the sequencer (R280–R299): one meaning for each row of the opcode table. -/

namespace Sys2Proof.Machine

open Sys2Proof

/-- SEQ_SCAN (R280). The sequencer scan runs input latch, evaluation and output phase, then posts a completion. -/
def execSeqScan (durNs : Nat) (s : State) : Host.Outcome State Fault Refusal :=
  s.run (Dev.devScan s.mem durNs)

/-- SEQ_VALIDATE (R290). SEQ_CMD VALIDATE checks the staged image and reports SEQ_IMG_ERR. -/
def execSeqValidate (w : Writer) (s : State) : Host.Outcome State Fault Refusal :=
  s.write w (Obj.SEQ_CMD) 1

/-- SEQ_START (R294). SEQ_CMD START makes a valid staged image the program after admission, with initial values. -/
def execSeqStart (w : Writer) (s : State) : Host.Outcome State Fault Refusal :=
  s.write w (Obj.SEQ_CMD) 2

/-- SEQ_STOP (R294). SEQ_CMD STOP completes the scan in progress, sets STORE destinations to DEF1 and ends station output.
-/
def execSeqStop (w : Writer) (s : State) : Host.Outcome State Fault Refusal :=
  s.write w (Obj.SEQ_CMD) 3

/-- SEQ_EXCHANGE (R295). SEQ_CMD EXCHANGE replaces the program between two scans, retaining matched instance data. -/
def execSeqExchange (w : Writer) (s : State) : Host.Outcome State Fault Refusal :=
  s.write w (Obj.SEQ_CMD) 4

/-- STATION_TIMEOUT (R292). No input frame within STN_TIMEOUT makes a station STALE and raises event 130. -/
def execStationTimeout (station : Fin 32) (s : State) : Host.Outcome State Fault Refusal :=
  s.run (Dev.devStationTimeout station)

end Sys2Proof.Machine
end

