-- ==== Sys2Proof/Machine/StableCmds.lean ====
section
/-! DEFINITION. The commands of the Stable and the task cores (R259–R279, R423): one meaning for each row of the opcode table. -/

namespace Sys2Proof.Machine

open Sys2Proof

/-- TASK_ENABLE (R263). A write of TASK_ENABLE moves a descriptor between DISABLED and WAITING at its boundary. -/
def execTaskEnable (w : Writer) (task : Fin 1024) (v : Nat) (s : State) : Host.Outcome State Fault Refusal :=
  s.write w (Obj.TASK_ENABLE task) v

/-- TASK_TIME_RELEASE (R265). A TIME release instant decrements the task's dependence counter. -/
def execTaskTimeRelease (task : Fin 1024) (s : State) : Host.Outcome State Fault Refusal :=
  s.run (Dev.timed (Dev.devTaskTimeRelease task))

/-- TASK_CYCLE_RELEASE (R265). A CYCLE release at T_k + offset decrements the task's dependence counter. -/
def execTaskCycleRelease (task : Fin 1024) (s : State) : Host.Outcome State Fault Refusal :=
  s.run (Dev.timed (Dev.devTaskCycleRelease task))

/-- ZTASK (R267). A core reads ztask and stalls until the Stable grants it a task, or an interrupt or debug halt ends the
read. -/
def execZtask (core : Fin 8) (ask : TaskAsk) (s : State) : Host.Outcome State Fault Refusal :=
  s.run (Dev.devZtask core ask.ended ask.same)

/-- TASK_GRANT (R267). With a core asking and a task READY, the Stable selects a stall by weighted round-robin and grants
the task. -/
def execTaskGrant (latency : Nat) (s : State) : Host.Outcome State Fault Refusal :=
  s.run (Dev.devTaskGrant latency)

/-- PREFETCH_SLOT_FILL (R269). After all asking cores are served, the Stable places a READY task in an enabled empty
prefetch slot. -/
def execPrefetchSlotFill (core : Fin 8) (s : State) : Host.Outcome State Fault Refusal :=
  s.run (Dev.devPrefetchFill core)

/-- ZTPOLL (R269). A core reads ztpoll and takes the slot's task without stalling, or gets 0. -/
def execZtpoll (read : CsrRead) (s : State) : Host.Outcome State Fault Refusal :=
  s.run (Dev.devZtpoll read.core read.csr)

/-- ZPREF (R269). A core writes zpref to enable or disable its prefetch slot. -/
def execZpref (core : Fin 8) (v : Word) (s : State) : Host.Outcome State Fault Refusal :=
  s.run (Dev.devZpref core v.toNat)

/-- PREFETCH_RECLAIM (R269). A slotted task not taken within STB_PREFETCH_RECLAIM returns to the head of its stall. -/
def execPrefetchReclaim (core : Fin 8) (s : State) : Host.Outcome State Fault Refusal :=
  s.run (Dev.devPrefetchReclaim core)

/-- ZDONE (R271). A core writes zdone with a status, completing its held task into its holding register. -/
def execZdone (core : Fin 8) (status : Word) (s : State) : Host.Outcome State Fault Refusal :=
  s.run (Dev.devZdone core status.toNat)

/-- ZTRACE (R268). A core writes ztrace and a USER record goes to the Tideline. -/
def execZtrace (core : Fin 8) (v : Word) (s : State) : Host.Outcome State Fault Refusal :=
  s.run (Dev.devZtrace core v.toNat)

/-- ZSEV (R268). A core writes zsev and raises software event 126 or 127. -/
def execZsev (core : Fin 8) (v : Word) (s : State) : Host.Outcome State Fault Refusal :=
  s.run (Dev.devZsev core v.toNat)

/-- TASK_DEADLINE_MISS (R272). A response time reaches TASK_DEADLINE and a miss is counted at rank 7. -/
def execTaskDeadlineMiss (task : Fin 1024) (s : State) : Host.Outcome State Fault Refusal :=
  s.run (Dev.devTaskMiss task)

/-- TASK_OVER_BUDGET (R272). A running time reaches TASK_BUDGET and event 117 is raised. -/
def execTaskOverBudget (task : Fin 1024) (s : State) : Host.Outcome State Fault Refusal :=
  s.run (Dev.devTaskOverBudget task)

/-- CORE_WATCHDOG (R272). A core holds a task longer than STB_CORE_WDT and an L2 record is written. -/
def execCoreWatchdog (core : Fin 8) (s : State) : Host.Outcome State Fault Refusal :=
  s.run (Dev.devCoreWatchdog core)

/-- TL_DATA (R275). A read of TL_DATA returns records from TL_RD_PTR and advances the pointer. -/
def execTlData (slot : Fin 16) (seq : Nat) (s : State) : Host.Outcome State Fault Refusal :=
  s.run (Dev.devReadOf s.mem slot seq Obj.TL_DATA)

/-- ZIPEND_CLEAR (R423). A core writes 1 to a zipend bit and clears a pending line. -/
def execZipendClear (core : Fin 8) (high : Bool) (v : Word) (s : State) : Host.Outcome State Fault Refusal :=
  s.run (Dev.devZipendClear core high v)

/-- DMA_TRANSFER_END (R270). A transfer of DMA0 or DMA1 ends and posts a completion as producer 10 or 11. -/
def execDmaTransferEnd (ch : Fin 2) (s : State) : Host.Outcome State Fault Refusal :=
  s.run (Dev.postEngine (10 + ch))

/-- COMPLETION_ACCEPTED (R270). The dependence unit takes a completion from the queue and decrements all its successors. -/
def execCompletionAccepted (s : State) : Host.Outcome State Fault Refusal :=
  s.run (Dev.devCompletionAccepted)

end Sys2Proof.Machine
end

