-- ==== Sys2Proof/Machine/StrandCmds.lean ====
section
/-! DEFINITION. The commands of strand lanes, enumeration and joins (R45–R93): one meaning for each row of the opcode table. -/

namespace Sys2Proof.Machine

open Sys2Proof

/-- STRAND_FRAME_RECEIVED (R48). A returning strand frame is received whole on a lane, checked by header CRC-16, stuffing
and CRC-32, and drained into the cell table. -/
def execStrandFrameReceived (lane : Fin 32) (words : List Word) (arrival : Nat) (s : State) : Host.Outcome State Fault
    Refusal :=
  s.run (Dev.devStrandFrame lane words arrival)

/-- LOS_ASSERT (R45). The received amplitude stays below 65 mVppd for 32 ns; the lane goes to NO_SIGNAL and discards the
frame in progress. (DEDUCED: assumption log 72) -/
def execLosAssert (lane : Fin 32) (amplitude : Nat) (s : State) : Host.Outcome State Fault Refusal :=
  s.run (Dev.devLosAssert lane amplitude)

/-- LOS_CLEAR (R45). The amplitude has stayed above 90 mVppd for 1 µs; the lane goes to ACQUIRE. -/
def execLosClear (lane : Fin 32) (amplitude : Nat) (s : State) : Host.Outcome State Fault Refusal :=
  s.run (Dev.devLosClear lane amplitude)

/-- FREQUENCY_GATE_END (R46). A frequency gate of 262,144 word clocks ends and, if complete, moves the lane between ACQUIRE
and UNALIGNED by the 300 ppm threshold. -/
def execFrequencyGateEnd (lane : Fin 32) (count : Nat) (s : State) : Host.Outcome State Fault Refusal :=
  s.run (Dev.devFrequencyGateEnd lane count)

/-- LANE_BITSLIP (R50). A write of 1 to LANE_BITSLIP is accepted only in UNALIGNED and moves the word boundary one bit at
its apply boundary. -/
def execLaneBitslip (w : Writer) (lane : Fin 32) (v : Nat) (s : State) : Host.Outcome State Fault Refusal :=
  s.write w (Obj.LANE_BITSLIP lane) v

/-- LANE_RX_INVERT (R50). A write of LANE_RX_INVERT is accepted only in UNALIGNED and changes the received polarity at its
apply boundary. -/
def execLaneRxInvert (w : Writer) (lane : Fin 32) (v : Nat) (s : State) : Host.Outcome State Fault Refusal :=
  s.write w (Obj.LANE_RX_INVERT lane) v

/-- QUAD_PLL_UNLOCK (R61). A quad PLL loses lock; its four lanes go to electrical idle and an L3 fault is raised on the
affected arm groups. -/
def execQuadPllUnlock (quad : Fin 8) (s : State) : Host.Outcome State Fault Refusal :=
  s.run (Dev.devQuadUnlock quad)

/-- QUAD_PLL_RELOCK (R61). A quad PLL relocks and its lanes resume in the mode in force. -/
def execQuadPllRelock (quad : Fin 8) (s : State) : Host.Outcome State Fault Refusal :=
  s.run (Dev.devQuadRelock quad)

/-- STR_ENUM_CMD (R89). A write of 1 in CONFIG enumerates every strand with ENUMERATE frames: ASSIGN, capability reads,
CFG_POS and CFG_DELAY. -/
def execStrEnumCmd (w : Writer) (v : Nat) (s : State) : Host.Outcome State Fault Refusal :=
  s.write w (Obj.STR_ENUM_CMD) v

/-- STR_MBX_REQ (R72). A software mailbox request is queued for its strand, refused with BUSY while one is outstanding. -/
def execStrMbxReq (w : Writer) (strand : Fin 32) (bytes : List Byte) (s : State) : Host.Outcome State Fault Refusal :=
  s.writeBytes w (Obj.STR_MBX_REQ strand) bytes

/-- JOIN_PROBE (R93). Every 64 cycles the module sends an ASSIGN probe to the next ABSENT position of a strand. -/
def execJoinProbe (strand : Fin 32) (s : State) : Host.Outcome State Fault Refusal :=
  s.run (Dev.devJoinProbe strand)

/-- CELL_JOIN (R93). A write of CELL_JOIN permits a join waiting under policy MANUAL. -/
def execCellJoin (w : Writer) (cell : Fin 2048) (v : Nat) (s : State) : Host.Outcome State Fault Refusal :=
  s.write w (Obj.CELL_JOIN cell) v

/-- TRAINING_PATTERN_RECEIVED (R49). In TRAINING mode a lane receives the unbroken training words, meeting the sync
condition after three consecutive sync words or counting a miss on any other word. -/
def execTrainingPatternReceived (lane : Fin 32) (words : List Word) (s : State) : Host.Outcome State Fault Refusal :=
  s.run (Dev.devTrainingPattern lane words)

/-- ENUMERATION_COMPLETE (R90). Enumeration of all strands ends and STR_ENUM_STATE reports DONE or MISMATCH with per-cell
refusals. -/
def execEnumerationComplete (s : State) : Host.Outcome State Fault Refusal :=
  s.run (Dev.devEnumComplete)

end Sys2Proof.Machine
end

