-- ==== Sys2Proof/Machine/SystemCmds.lean ====
section
/-! DEFINITION. The commands of modes, faults, resets and clocks (R424–R456): one meaning for each row of the opcode table. -/

namespace Sys2Proof.Machine

open Sys2Proof

/-- MODE_REQ_CONFIG (R426). A request for CONFIG is checked and takes effect at its boundary. -/
def execModeReqConfig (w : Writer) (s : State) : Host.Outcome State Fault Refusal :=
  s.write w (Obj.SYS_MODE_REQ) 1

/-- MODE_REQ_CHARGE (R426). A request for CHARGE is checked, including leave-CONFIG checks and admission. -/
def execModeReqCharge (w : Writer) (s : State) : Host.Outcome State Fault Refusal :=
  s.write w (Obj.SYS_MODE_REQ) 2

/-- MODE_REQ_READY (R426). A request for READY is checked, including leave-CONFIG checks and admission. -/
def execModeReqReady (w : Writer) (s : State) : Host.Outcome State Fault Refusal :=
  s.write w (Obj.SYS_MODE_REQ) 3

/-- MODE_REQ_RUN (R426). A request for RUN is checked against faults, time state and pending steps. -/
def execModeReqRun (w : Writer) (s : State) : Host.Outcome State Fault Refusal :=
  s.write w (Obj.SYS_MODE_REQ) 4

/-- FM_ACK_ONE (R433). A record number written to FM_ACK acknowledges that record if its cause is absent. -/
def execFmAckOne (w : Writer) (number : Nat) (s : State) : Host.Outcome State Fault Refusal :=
  s.write w (Obj.FM_ACK) number

/-- FM_ACK_ALL (R433). 0xFFFF_FFFF written to FM_ACK acknowledges every L2 and L3 record whose cause is absent. -/
def execFmAckAll (w : Writer) (s : State) : Host.Outcome State Fault Refusal :=
  s.write w (Obj.FM_ACK) 0xFFFFFFFF

/-- FM_FIRST_CLEAR (R432). A write empties FM_FIRST, refused while an L2 or higher record is active. -/
def execFmFirstClear (w : Writer) (v : Nat) (s : State) : Host.Outcome State Fault Refusal :=
  s.write w (Obj.FM_FIRST_CLEAR) v

/-- SYS_RELEASE (R436). A release write from an Engineer session with the right sequence releases LOCKOUT at its boundary.
-/
def execSysRelease (w : Writer) (v : Nat) (s : State) : Host.Outcome State Fault Refusal :=
  s.write w (Obj.SYS_RELEASE) v

/-- SYS_RESET (R428). A write of 1 in CONFIG, READY or LOCKOUT requests a software reset. -/
def execSysReset (w : Writer) (v : Nat) (s : State) : Host.Outcome State Fault Refusal :=
  s.write w (Obj.SYS_RESET) v

/-- SYS_CONFIG_SAVE (R427). A write of 1 in CONFIG or READY stores every writable object except keys to NOR. -/
def execSysConfigSave (w : Writer) (v : Nat) (s : State) : Host.Outcome State Fault Refusal :=
  s.write w (Obj.SYS_CONFIG_SAVE) v

/-- RESET_RELEASE (R444). Reset is released, the straps are sampled and BOOT begins. -/
def execResetRelease (pref : Level) (lorStrap : Level) (test : Level) (s : State) : Host.Outcome State Fault Refusal :=
  s.run (Dev.devResetRelease pref lorStrap test)

/-- BOOT_COMPLETE (R427). The boot sequence of firmware, self-tests, configuration and RTC load completes and the module
enters CONFIG or LOCKOUT. -/
def execBootComplete (slotOk : Bool) (selfTest : BitVec 16) (rtcValid : Bool) (rtc : Nat) (ms : Nat) (s : State) :
    Host.Outcome State Fault Refusal :=
  s.run (Dev.devBootComplete slotOk selfTest.toNat rtcValid rtc ms)

/-- ETH_LINK_CHANGE (R450). An Ethernet port link comes up or goes down after auto-negotiation, updating ETH_LINK_UP and the
IEEE 802.3br verify state. -/
def execEthLinkChange (port : Fin 4) (up : Bool) (verified : Bool) (s : State) : Host.Outcome State Fault Refusal :=
  s.run (Dev.devEthLink port up verified)

/-- SOFTWARE_RESET_ACT (R428). 1 ms after its boundary the software reset resets the module into BOOT. -/
def execSoftwareResetAct (s : State) : Host.Outcome State Fault Refusal :=
  s.run (Dev.devSoftwareReset)

/-- POWER_ON (R428). Rails rise through their power-on thresholds and the module enters reset. (DESIGN CHOICE: assumption log 3) -/
def execPowerOn (s : State) : Host.Outcome State Fault Refusal :=
  { s with mem := [] }.run (Dev.resetDev ResetCause.powerOn)

/-- SUPPLY_RESET (R442). A rail beyond a reset threshold for 2 µs resets the module. -/
def execSupplyReset (s : State) : Host.Outcome State Fault Refusal :=
  s.run (Dev.resetDev ResetCause.supply)

/-- PIN_RESET (R428). RESET_N low for at least 1 µs resets the module. -/
def execPinReset (s : State) : Host.Outcome State Fault Refusal :=
  s.run (Dev.resetDev ResetCause.pin)

/-- REFCLK_LOSS (R456). REFCLK stops; lanes, engines and cores stop and the guard blocks. -/
def execRefclkLoss (s : State) : Host.Outcome State Fault Refusal :=
  s.run (Dev.devRefclkLoss)

/-- TIMECLK_LOSS (R456). TIMECLK stops; the time domain and guard stop and SELF latches within 40 µs. -/
def execTimeclkLoss (s : State) : Host.Outcome State Fault Refusal :=
  s.run (Dev.devTimeclkLoss)

/-- REFCLK_RETURN (R456). REFCLK returns after a stop and the fabric, core, lane and DRAM domains run again. -/
def execRefclkReturn (s : State) : Host.Outcome State Fault Refusal :=
  s.run (Dev.devRefclkReturn)

/-- TIMECLK_RETURN (R456). TIMECLK returns after a stop and the time domain, guard cores, CAN and Ethernet run again, ending
the silent host path. -/
def execTimeclkReturn (s : State) : Host.Outcome State Fault Refusal :=
  s.run (Dev.devTimeclkReturn)

end Sys2Proof.Machine
end

