-- ==== Sys2Proof/Machine/TidepoolCmds.lean ====
section
/-! DEFINITION. The commands of Tidepool and fault location (R221–R239): one meaning for each row of the opcode table. -/

namespace Sys2Proof.Machine

open Sys2Proof

/-- TP_ARM (R222). TP_CMD ARM checks TP_POST against capacity, takes the lowest free record slot and starts pre-trigger
filling. -/
def execTpArm (w : Writer) (pool : Fin 4) (s : State) : Host.Outcome State Fault Refusal :=
  s.write w (Obj.TP_CMD pool) 1

/-- TP_STOP (R221). TP_CMD STOP discards the record in progress and returns the pool to IDLE. -/
def execTpStop (w : Writer) (pool : Fin 4) (s : State) : Host.Outcome State Fault Refusal :=
  s.write w (Obj.TP_CMD pool) 2

/-- TP_FORCE (R224). TP_CMD FORCE triggers the pool at the next sample, held until READY when ARMED. -/
def execTpForce (w : Writer) (pool : Fin 4) (s : State) : Host.Outcome State Fault Refusal :=
  s.write w (Obj.TP_CMD pool) 3

/-- TP_SAMPLE_WRITTEN (R221). A fast-path sample is written into the pool and the trigger conditions are evaluated on it. -/
def execTpSampleWritten (pool : Fin 4) (m : Nat) (full : Bool) (s : State) : Host.Outcome State Fault Refusal :=
  s.run (Dev.devTpSample pool m full)

/-- TP_READY (R221). 64 samples have been written since the slot was taken and the pool goes to READY. -/
def execTpReady (pool : Fin 4) (s : State) : Host.Outcome State Fault Refusal :=
  s.run (Dev.devTpReady pool)

/-- TP_AUTO_TIMEOUT (R223). No trigger within TP_AUTO_TIMEOUT of READY in AUTO forces a trigger. -/
def execTpAutoTimeout (pool : Fin 4) (s : State) : Host.Outcome State Fault Refusal :=
  s.run (Dev.devTpAutoTimeout pool)

/-- TP_RECORD_COMPLETE (R221). TP_POST samples from the trigger are written; the header is written and the pool goes to
DONE, ARMED or FULL. -/
def execTpRecordComplete (pool : Fin 4) (s : State) : Host.Outcome State Fault Refusal :=
  s.run (Dev.devTpRecordComplete pool)

/-- TP_RELEASE (R229). A write releases a completed record slot, refused with BUSY while the slot is read. -/
def execTpRelease (w : Writer) (pool : Fin 4) (record : Nat) (s : State) : Host.Outcome State Fault Refusal :=
  s.write w (Obj.TP_RELEASE pool) record

/-- TW_LOCAL_ARRIVAL (R232). The service finds the line condition in a record and publishes the local exchange record. -/
def execTwLocalArrival (line : Fin 4) (record : Nat) (s : State) : Host.Outcome State Fault Refusal :=
  s.run (Dev.twPublish s.mem line record)

/-- TW_REMOTE_IN (R233). A written remote arrival record is checked and matched against the unmatched local arrivals. -/
def execTwRemoteIn (w : Writer) (line : Fin 4) (bytes : List Byte) (s : State) : Host.Outcome State Fault Refusal :=
  s.writeBytes w (Obj.TW_REMOTE_IN line) bytes

/-- TW_SINGLE_ENDED_RESULT (R235). After a record completes the service searches its reflection and reports x_s and L − x_s.
-/
def execTwSingleEndedResult (line : Fin 4) (record : Nat) (s : State) : Host.Outcome State Fault Refusal :=
  s.run (Dev.twSingle line record)

/-- TW_MATCH_TIMEOUT (R233). An arrival unmatched for TW_MATCH_TIMEOUT is removed; a local one sets TIMEOUT and raises event
111. -/
def execTwMatchTimeout (line : Fin 4) (isLocal : Bool) (s : State) : Host.Outcome State Fault Refusal :=
  s.run (Dev.devTwMatchTimeout line isLocal)

end Sys2Proof.Machine
end

