-- ==== Sys2Proof/Machine/TimeCmds.lean ====
section
/-! DEFINITION. The commands of time (R194–R220): one meaning for each row of the opcode table. -/

namespace Sys2Proof.Machine

open Sys2Proof

/-- PTP_SYNC_RECEIVED (R202). A Sync on the slave port gives an offset; the servo steps or updates the rate and the time-
base state advances. -/
def execPtpSyncReceived (rx : PtpRx) (gm : Nat) (twoStep : Bool) (seqId : Nat) (capture : Int) (origin : Int)
    (correction : Int) (intervalMs : Nat) (s : State) : Host.Outcome State Fault Refusal :=
  s.run (Dev.timed (Dev.stepped (Dev.devSync rx.port rx.hdr gm twoStep seqId capture origin correction intervalMs)))

/-- PTP_FOLLOW_UP_RECEIVED (R202). A Follow_Up from a two-step master supplies the precise origin timestamp for its Sync. -/
def execPtpFollowUpReceived (rx : PtpRx) (gm : Nat) (seqId : Nat) (origin : Int) (correction : Int) (s : State) :
    Host.Outcome State Fault Refusal :=
  s.run (Dev.timed (Dev.stepped (Dev.devFollowUp rx.port rx.hdr gm seqId origin correction)))

/-- PTP_ANNOUNCE_RECEIVED (R201). An Announce is compared for the best master and slave port, and updates the UTC offset and
leap under PTP source. -/
def execPtpAnnounceReceived (rx : PtpRx) (gm : Nat) (priority1 : Nat) (clockClass : Nat) (accuracy : Nat) (variance
    : Nat) (priority2 : Nat) (stepsRemoved : Nat) (utcOffset : Int) (utcValid : Bool) (leap : Fin 3) (traceable : Bool)
    (inaccuracy : Nat) (s : State) : Host.Outcome State Fault Refusal :=
  s.run (Dev.timed (Dev.devAnnounce rx.port rx.hdr { order := [priority1, clockClass, accuracy, variance, priority2, gm], gm := gm, steps := stepsRemoved }
    utcOffset utcValid leap traceable inaccuracy))

/-- PHASE_STEP (R196). A signed offset is added to the time value at one tick outside RUN, restarting cycles and re-
anchoring grids. -/
def execPhaseStep (offset : Int) (servo : Bool) (s : State) : Host.Outcome State Fault Refusal :=
  s.run (Dev.timed (Dev.stepped (Dev.devPhaseStep offset servo)))

/-- PDELAY_REQ_SEND (R200). Each port sends its Pdelay_Req once per second. -/
def execPdelayReqSend (port : Fin 4) (s : State) : Host.Outcome State Fault Refusal :=
  s.run (Dev.timed (Dev.devPdelayReqSend port))

/-- PDELAY_REQ_RECEIVED (R200). The module answers a Pdelay_Req one-step with the turnaround in the correctionField. -/
def execPdelayReqReceived (rx : PtpRx) (seqId : Nat) (t2 : Int) (t3 : Int) (s : State) : Host.Outcome State Fault
    Refusal :=
  s.run (Dev.timed (Dev.devPdelayReqReceived rx.port rx.hdr seqId t2 t3))

/-- PDELAY_RESP_RECEIVED (R200). A Pdelay response updates the port's mean link delay, rate ratio and asCapable state. -/
def execPdelayRespReceived (rx : PtpRx) (twoStep : Bool) (t1 : Int) (t2 : Int) (t3 : Int) (t4 : Int) (correction :
    Int) (s : State) : Host.Outcome State Fault Refusal :=
  s.run (Dev.timed (Dev.devPdelayRespReceived rx.port rx.hdr twoStep t1 t2 t3 t4 correction))

/-- PDELAY_RESPONSE_TIMEOUT (R200). No valid response for 3 intervals makes a port not asCapable. -/
def execPdelayResponseTimeout (port : Fin 4) (s : State) : Host.Outcome State Fault Refusal :=
  s.run (Dev.timed (Dev.devPdelayResponseTimeout port))

/-- TRANSPARENT_CLOCK_FORWARD (R207). A PTP event message crosses a line switch and its correctionField gains residence time
and link delay. -/
def execTransparentClockForward (rx : PtpRx) (outPort : Fin 4) (kind : Fin 4) (seqId : Nat) (tRx : Int) (tTx :
    Int) (correction : Int) (s : State) : Host.Outcome State Fault Refusal :=
  s.run (Dev.timed (Dev.devForward rx.port outPort rx.hdr kind seqId tRx tTx correction))

/-- TB_STEP (R196). A software step request is accepted outside RUN and steps the time base at its boundary. -/
def execTbStep (w : Writer) (v : Int) (s : State) : Host.Outcome State Fault Refusal :=
  s.write w (Obj.TB_STEP) v

/-- TB_ADDEND_SET (R195). A write accepted only with PTP disabled replaces the addend at its apply boundary. -/
def execTbAddendSet (w : Writer) (v : Int) (s : State) : Host.Outcome State Fault Refusal :=
  s.write w (Obj.TB_ADDEND_SET) v

/-- RTC_SET (R212). A write loads the RTC and steps the time base, refused while LOCKED, in RUN or with RUN pending. -/
def execRtcSet (w : Writer) (v : Int) (s : State) : Host.Outcome State Fault Refusal :=
  s.write w (Obj.RTC_SET) v

/-- RTC_DISCIPLINE (R212). Every 64th TAI second while LOCKED the RTC is loaded and its rate error is reported. -/
def execRtcDiscipline (driftPpm : F32) (s : State) : Host.Outcome State Fault Refusal :=
  s.run (Dev.timed (Dev.devRtcDiscipline driftPpm))

/-- PG_PULSE (R208). A pulse generator reaches an instant t_j and makes a pulse of PG_WIDTH. -/
def execPgPulse (gen : Fin 4) (s : State) : Host.Outcome State Fault Refusal :=
  s.run (Dev.timed (Dev.devPgPulse gen))

/-- TSU_EDGE_CAPTURE (R210). A qualified edge on TS_IN is stamped and queued, or discarded on a full queue. -/
def execTsuEdgeCapture (unit : Fin 4) (rising : Bool) (width : Nat) (t : Nat) (s : State) : Host.Outcome State Fault
    Refusal :=
  s.run (Dev.timed (Dev.devTsuEdge unit rising width t))

/-- TSU_FIFO_OUT (R210). A read of TSU_FIFO_OUT returns and removes the oldest entry. -/
def execTsuFifoOut (slot : Fin 16) (seq : Nat) (unit : Fin 4) (s : State) : Host.Outcome State Fault Refusal :=
  s.run (Dev.devReadOf s.mem slot seq (Obj.TSU_FIFO_OUT unit))

/-- PTP_SYNC_TIMEOUT (R197). No usable Sync for 3 intervals or an announce receipt timeout takes LOCKED to HOLDOVER or
ACQUIRING to FREERUN. -/
def execPtpSyncTimeout (s : State) : Host.Outcome State Fault Refusal :=
  s.run (Dev.timed (Dev.devSyncTimeout))

/-- HOLDOVER_LIMIT_EXCEEDED (R197). TB_ERR_EST passes TB_ERR_LIMIT in HOLDOVER and the time base goes to FREERUN. -/
def execHoldoverLimitExceeded (s : State) : Host.Outcome State Fault Refusal :=
  s.run (Dev.timed (Dev.devHoldoverLimit))

/-- RTC_OSC_STOP (R211). The oscillator-stop detector marks the RTC not valid. -/
def execRtcOscStop (s : State) : Host.Outcome State Fault Refusal :=
  s.run (Dev.devRtcOscStop)

/-- VBAT_LOW (R211). VBAT falls below 2.0 V and RTC_VBAT_LOW is set. -/
def execVbatLow (s : State) : Host.Outcome State Fault Refusal :=
  s.run (Dev.devVbatLow)

/-- LEAP_APPLY (R214). At the leap instant UTC_OFFSET changes by one, the flag clears and event 93 is raised. -/
def execLeapApply (s : State) : Host.Outcome State Fault Refusal :=
  s.run (Dev.timed (Dev.devLeapApply))

end Sys2Proof.Machine
end

