-- ==== Sys2Proof/Machine/Dispatch.lean ====
section
/-! DEFINITION. One arm for each command: one direct call of its meaning. -/

namespace Sys2Proof.Machine

open Sys2Proof

def exec (i : Instr) (s : State) : Host.Outcome State Fault Refusal :=
  match i with
  | .cycleBoundary partner => Sys2Proof.Machine.execCycleBoundary partner s
  | .strandFrameReceived lane words arrival => Sys2Proof.Machine.execStrandFrameReceived lane words arrival s
  | .loopRunComplete run => Sys2Proof.Machine.execLoopRunComplete run s
  | .commitComplete modNs commit => Sys2Proof.Machine.execCommitComplete modNs commit s
  | .healWindowExpiry strand => Sys2Proof.Machine.execHealWindowExpiry strand s
  | .losAssert lane amplitude => Sys2Proof.Machine.execLosAssert lane amplitude s
  | .losClear lane amplitude => Sys2Proof.Machine.execLosClear lane amplitude s
  | .frequencyGateEnd lane count => Sys2Proof.Machine.execFrequencyGateEnd lane count s
  | .laneBitslip w lane v => Sys2Proof.Machine.execLaneBitslip w lane v s
  | .laneRxInvert w lane v => Sys2Proof.Machine.execLaneRxInvert w lane v s
  | .quadPllUnlock quad => Sys2Proof.Machine.execQuadPllUnlock quad s
  | .quadPllRelock quad => Sys2Proof.Machine.execQuadPllRelock quad s
  | .strEnumCmd w v => Sys2Proof.Machine.execStrEnumCmd w v s
  | .strMbxReq w strand bytes => Sys2Proof.Machine.execStrMbxReq w strand bytes s
  | .joinProbe strand => Sys2Proof.Machine.execJoinProbe strand s
  | .cellJoin w cell v => Sys2Proof.Machine.execCellJoin w cell v s
  | .cellFirstPass cell portB words tArr vendor => Sys2Proof.Machine.execCellFirstPass cell portB words tArr vendor s
  | .cellSecondPass cell portB words tArr => Sys2Proof.Machine.execCellSecondPass cell portB words tArr s
  | .cellMbxNop cell hdr mbx => Sys2Proof.Machine.execCellMbxNop cell hdr mbx s
  | .cellMbxRead cell hdr mbx vendor => Sys2Proof.Machine.execCellMbxRead cell hdr mbx vendor s
  | .cellMbxWrite cell hdr mbx => Sys2Proof.Machine.execCellMbxWrite cell hdr mbx s
  | .cellMbxAssign cell hdr mbx => Sys2Proof.Machine.execCellMbxAssign cell hdr mbx s
  | .cellMbxBadOp cell hdr mbx => Sys2Proof.Machine.execCellMbxBadOp cell hdr mbx s
  | .cellCmdStep cell detect => Sys2Proof.Machine.execCellCmdStep cell detect s
  | .cellCmdDelayed cell detect => Sys2Proof.Machine.execCellCmdDelayed cell detect s
  | .cellCmdPulse cell atOffset detect => Sys2Proof.Machine.execCellCmdPulse cell atOffset detect s
  | .cellCmdHold cell => Sys2Proof.Machine.execCellCmdHold cell s
  | .clearFault cell causePresent => Sys2Proof.Machine.execClearFault cell causePresent s
  | .closeBypass fired closes => Sys2Proof.Machine.execCloseBypass fired closes s
  | .cellSampleInstant cell vcap temp => Sys2Proof.Machine.execCellSampleInstant cell vcap temp s
  | .cellHoldTimeout seen => Sys2Proof.Machine.execCellHoldTimeout seen s
  | .cellBlockPatternDetect seen => Sys2Proof.Machine.execCellBlockPatternDetect seen s
  | .cellBlockPatternEnd cell => Sys2Proof.Machine.execCellBlockPatternEnd cell s
  | .cellPortDown cell portB byDefect => Sys2Proof.Machine.execCellPortDown cell portB byDefect s
  | .cellPortUp cell portB => Sys2Proof.Machine.execCellPortUp cell portB s
  | .trainingPatternReceived lane words => Sys2Proof.Machine.execTrainingPatternReceived lane words s
  | .cellFaultLatch seen code => Sys2Proof.Machine.execCellFaultLatch seen code s
  | .cellPowerUp cell uid cap0 cap1 cap2 => Sys2Proof.Machine.execCellPowerUp cell uid cap0 cap1 cap2 s
  | .modArmEnable w arm v => Sys2Proof.Machine.execModArmEnable w arm v s
  | .leValidate w v => Sys2Proof.Machine.execLeValidate w v s
  | .leReset w inst v => Sys2Proof.Machine.execLeReset w inst v s
  | .localGroupOpen core => Sys2Proof.Machine.execLocalGroupOpen core s
  | .localGroupSubmit core => Sys2Proof.Machine.execLocalGroupSubmit core s
  | .localGroupDiscard core => Sys2Proof.Machine.execLocalGroupDiscard core s
  | .localWindowStore core addr size v => Sys2Proof.Machine.execLocalWindowStore core addr size v s
  | .localWindowDescriptorLoad core addr => Sys2Proof.Machine.execLocalWindowDescriptorLoad core addr s
  | .leLocalStatusRead core => Sys2Proof.Machine.execLeLocalStatusRead core s
  | .svHoldMaxReached entry => Sys2Proof.Machine.execSvHoldMaxReached entry s
  | .svRecover entry => Sys2Proof.Machine.execSvRecover entry s
  | .repRelease ch => Sys2Proof.Machine.execRepRelease ch s
  | .repClear w ch v => Sys2Proof.Machine.execRepClear w ch v s
  | .supPeakClear w v => Sys2Proof.Machine.execSupPeakClear w v s
  | .filterOutput ch fine m bits => Sys2Proof.Machine.execFilterOutput ch fine m bits s
  | .clkLossAssert clk => Sys2Proof.Machine.execClkLossAssert clk s
  | .clkLossClear clk => Sys2Proof.Machine.execClkLossClear clk s
  | .dataLossAssert ch => Sys2Proof.Machine.execDataLossAssert ch s
  | .dataLossClear ch => Sys2Proof.Machine.execDataLossClear ch s
  | .pathSettled ch => Sys2Proof.Machine.execPathSettled ch s
  | .diagConversionEnd unit v => Sys2Proof.Machine.execDiagConversionEnd unit v s
  | .diagDelayExpiry unit => Sys2Proof.Machine.execDiagDelayExpiry unit s
  | .diagRun w v => Sys2Proof.Machine.execDiagRun w v s
  | .ptpSyncReceived rx gm twoStep seqId capture origin correction intervalMs => Sys2Proof.Machine.execPtpSyncReceived rx gm twoStep seqId capture origin correction intervalMs s
  | .ptpFollowUpReceived rx gm seqId origin correction => Sys2Proof.Machine.execPtpFollowUpReceived rx gm seqId origin correction s
  | .ptpAnnounceReceived rx gm priority1 clockClass accuracy variance priority2 stepsRemoved utcOffset utcValid leap traceable inaccuracy => Sys2Proof.Machine.execPtpAnnounceReceived rx gm priority1 clockClass accuracy variance priority2 stepsRemoved utcOffset utcValid leap traceable inaccuracy s
  | .phaseStep offset servo => Sys2Proof.Machine.execPhaseStep offset servo s
  | .pdelayReqSend port => Sys2Proof.Machine.execPdelayReqSend port s
  | .pdelayReqReceived rx seqId t2 t3 => Sys2Proof.Machine.execPdelayReqReceived rx seqId t2 t3 s
  | .pdelayRespReceived rx twoStep t1 t2 t3 t4 correction => Sys2Proof.Machine.execPdelayRespReceived rx twoStep t1 t2 t3 t4 correction s
  | .pdelayResponseTimeout port => Sys2Proof.Machine.execPdelayResponseTimeout port s
  | .transparentClockForward rx outPort kind seqId tRx tTx correction => Sys2Proof.Machine.execTransparentClockForward rx outPort kind seqId tRx tTx correction s
  | .tbStep w v => Sys2Proof.Machine.execTbStep w v s
  | .tbAddendSet w v => Sys2Proof.Machine.execTbAddendSet w v s
  | .rtcSet w v => Sys2Proof.Machine.execRtcSet w v s
  | .rtcDiscipline driftPpm => Sys2Proof.Machine.execRtcDiscipline driftPpm s
  | .pgPulse gen => Sys2Proof.Machine.execPgPulse gen s
  | .tsuEdgeCapture unit rising width t => Sys2Proof.Machine.execTsuEdgeCapture unit rising width t s
  | .tsuFifoOut slot seq unit => Sys2Proof.Machine.execTsuFifoOut slot seq unit s
  | .tpArm w pool => Sys2Proof.Machine.execTpArm w pool s
  | .tpStop w pool => Sys2Proof.Machine.execTpStop w pool s
  | .tpForce w pool => Sys2Proof.Machine.execTpForce w pool s
  | .tpSampleWritten pool m full => Sys2Proof.Machine.execTpSampleWritten pool m full s
  | .tpReady pool => Sys2Proof.Machine.execTpReady pool s
  | .tpAutoTimeout pool => Sys2Proof.Machine.execTpAutoTimeout pool s
  | .tpRecordComplete pool => Sys2Proof.Machine.execTpRecordComplete pool s
  | .tpRelease w pool record => Sys2Proof.Machine.execTpRelease w pool record s
  | .twLocalArrival line record => Sys2Proof.Machine.execTwLocalArrival line record s
  | .twRemoteIn w line bytes => Sys2Proof.Machine.execTwRemoteIn w line bytes s
  | .twSingleEndedResult line record => Sys2Proof.Machine.execTwSingleEndedResult line record s
  | .twMatchTimeout line isLocal => Sys2Proof.Machine.execTwMatchTimeout line isLocal s
  | .phFrameReady stream sec n => Sys2Proof.Machine.execPhFrameReady stream sec n s
  | .phFrameDropped report => Sys2Proof.Machine.execPhFrameDropped report s
  | .phCmdDataOff dest addr => Sys2Proof.Machine.execPhCmdDataOff dest addr s
  | .phCmdDataOn dest addr port => Sys2Proof.Machine.execPhCmdDataOn dest addr port s
  | .phCmdHeader dest addr port => Sys2Proof.Machine.execPhCmdHeader dest addr port s
  | .phCmdCfg2 dest addr port => Sys2Proof.Machine.execPhCmdCfg2 dest addr port s
  | .phCmdCfg3 dest addr port => Sys2Proof.Machine.execPhCmdCfg3 dest addr port s
  | .phCmdIgnored dest addr chkOk => Sys2Proof.Machine.execPhCmdIgnored dest addr chkOk s
  | .taskEnable w task v => Sys2Proof.Machine.execTaskEnable w task v s
  | .taskTimeRelease task => Sys2Proof.Machine.execTaskTimeRelease task s
  | .taskCycleRelease task => Sys2Proof.Machine.execTaskCycleRelease task s
  | .ztask core ask => Sys2Proof.Machine.execZtask core ask s
  | .taskGrant latency => Sys2Proof.Machine.execTaskGrant latency s
  | .prefetchSlotFill core => Sys2Proof.Machine.execPrefetchSlotFill core s
  | .ztpoll read => Sys2Proof.Machine.execZtpoll read s
  | .zpref core v => Sys2Proof.Machine.execZpref core v s
  | .prefetchReclaim core => Sys2Proof.Machine.execPrefetchReclaim core s
  | .zdone core status => Sys2Proof.Machine.execZdone core status s
  | .ztrace core v => Sys2Proof.Machine.execZtrace core v s
  | .zsev core v => Sys2Proof.Machine.execZsev core v s
  | .taskDeadlineMiss task => Sys2Proof.Machine.execTaskDeadlineMiss task s
  | .taskOverBudget task => Sys2Proof.Machine.execTaskOverBudget task s
  | .coreWatchdog core => Sys2Proof.Machine.execCoreWatchdog core s
  | .tlData slot seq => Sys2Proof.Machine.execTlData slot seq s
  | .seqScan durNs => Sys2Proof.Machine.execSeqScan durNs s
  | .seqValidate w => Sys2Proof.Machine.execSeqValidate w s
  | .seqStart w => Sys2Proof.Machine.execSeqStart w s
  | .seqStop w => Sys2Proof.Machine.execSeqStop w s
  | .seqExchange w => Sys2Proof.Machine.execSeqExchange w s
  | .stationTimeout station => Sys2Proof.Machine.execStationTimeout station s
  | .bwCauseActive cause pins => Sys2Proof.Machine.execBwCauseActive cause pins s
  | .glitchRejected input width => Sys2Proof.Machine.execGlitchRejected input width s
  | .tripinDiscrepancy n pins => Sys2Proof.Machine.execTripinDiscrepancy n pins s
  | .blockPinReadbackMismatch levels => Sys2Proof.Machine.execBlockPinReadbackMismatch levels s
  | .guardCrossCheck laneMissing pinHigh => Sys2Proof.Machine.execGuardCrossCheck laneMissing pinHigh s
  | .guardParamCheck same => Sys2Proof.Machine.execGuardParamCheck same s
  | .guardRcClockCheck khz => Sys2Proof.Machine.execGuardRcClockCheck khz s
  | .bwLor w v => Sys2Proof.Machine.execBwLor w v s
  | .lorNPulse lowMs highMs => Sys2Proof.Machine.execLorNPulse lowMs highMs s
  | .powerUpRelease crcOk => Sys2Proof.Machine.execPowerUpRelease crcOk s
  | .bwSetActivate w v => Sys2Proof.Machine.execBwSetActivate w v s
  | .bwTest w v => Sys2Proof.Machine.execBwTest w v s
  | .safetyHeartbeatSend lateNs => Sys2Proof.Machine.execSafetyHeartbeatSend lateNs s
  | .safetyFrameReceived rx pdu => Sys2Proof.Machine.execSafetyFrameReceived rx pdu s
  | .safetyWindowExpiry sub => Sys2Proof.Machine.execSafetyWindowExpiry sub s
  | .subscriptionLost sub => Sys2Proof.Machine.execSubscriptionLost sub s
  | .coupleFormation partner => Sys2Proof.Machine.execCoupleFormation partner s
  | .checkpointReceived cp => Sys2Proof.Machine.execCheckpointReceived cp s
  | .mirroredWrite role entries sec cycle => Sys2Proof.Machine.execMirroredWrite role entries sec cycle s
  | .pairLinkLaneChange lane up => Sys2Proof.Machine.execPairLinkLaneChange lane up s
  | .splitServiceStart strand => Sys2Proof.Machine.execSplitServiceStart strand s
  | .splitServiceEnd strand => Sys2Proof.Machine.execSplitServiceEnd strand s
  | .exerciseDwellEnd gap => Sys2Proof.Machine.execExerciseDwellEnd gap s
  | .hello addr seq => Sys2Proof.Machine.execHello addr seq s
  | .peerHelloReceived block addr => Sys2Proof.Machine.execPeerHelloReceived block addr s
  | .peerAgeOut node => Sys2Proof.Machine.execPeerAgeOut node s
  | .loginChallenge payload port addr seq => Sys2Proof.Machine.execLoginChallenge payload port addr seq s
  | .loginProof slot seq proof => Sys2Proof.Machine.execLoginProof slot seq proof s
  | .loginTimeout slot => Sys2Proof.Machine.execLoginTimeout slot s
  | .read slot seq payload => Sys2Proof.Machine.execRead slot seq payload s
  | .write slot seq payload => Sys2Proof.Machine.execWrite slot seq payload s
  | .readList slot seq payload => Sys2Proof.Machine.execReadList slot seq payload s
  | .writeGroup slot seq payload => Sys2Proof.Machine.execWriteGroup slot seq payload s
  | .subscribe slot seq payload => Sys2Proof.Machine.execSubscribe slot seq payload s
  | .push slot sub => Sys2Proof.Machine.execPush slot sub s
  | .event slot sub => Sys2Proof.Machine.execEvent slot sub s
  | .domainOpen slot seq payload => Sys2Proof.Machine.execDomainOpen slot seq payload s
  | .domainBlock slot seq payload => Sys2Proof.Machine.execDomainBlock slot seq payload s
  | .domainEnd slot seq payload => Sys2Proof.Machine.execDomainEnd slot seq payload s
  | .domainAbort slot seq payload => Sys2Proof.Machine.execDomainAbort slot seq payload s
  | .domainTransferTimeout id => Sys2Proof.Machine.execDomainTransferTimeout id s
  | .close slot seq => Sys2Proof.Machine.execClose slot seq s
  | .sessionIdleTimeout slot => Sys2Proof.Machine.execSessionIdleTimeout slot s
  | .tagFailure slot => Sys2Proof.Machine.execTagFailure slot s
  | .objectWrite w e => Sys2Proof.Machine.execObjectWrite w e s
  | .rawFrameReceived port frame capture marks => Sys2Proof.Machine.execRawFrameReceived port frame capture marks s
  | .hostRawTxTail w v => Sys2Proof.Machine.execHostRawTxTail w v s
  | .fwActivate w v => Sys2Proof.Machine.execFwActivate w v s
  | .secDebugUnlock w v => Sys2Proof.Machine.execSecDebugUnlock w v s
  | .fieldDieFrame levels readback lplus limit => Sys2Proof.Machine.execFieldDieFrame levels readback lplus limit s
  | .inputDebounceExpiry ch => Sys2Proof.Machine.execInputDebounceExpiry ch s
  | .outputDisagreement ch => Sys2Proof.Machine.execOutputDisagreement ch s
  | .outputThermalShutdown ch => Sys2Proof.Machine.execOutputThermalShutdown ch s
  | .outputRetry ch => Sys2Proof.Machine.execOutputRetry ch s
  | .fioSurvey w v => Sys2Proof.Machine.execFioSurvey w v s
  | .surveyChannelDone before after => Sys2Proof.Machine.execSurveyChannelDone before after s
  | .fioOutEnable w v => Sys2Proof.Machine.execFioOutEnable w v s
  | .fioAppKick w v => Sys2Proof.Machine.execFioAppKick w v s
  | .fioOut w v => Sys2Proof.Machine.execFioOut w v s
  | .pwmPeriodStart timer top => Sys2Proof.Machine.execPwmPeriodStart timer top s
  | .pwmCompareEdge timer deadTimeEnd => Sys2Proof.Machine.execPwmCompareEdge timer deadTimeEnd s
  | .pwmTrip pin active => Sys2Proof.Machine.execPwmTrip pin active s
  | .pwmTripClear w v => Sys2Proof.Machine.execPwmTripClear w v s
  | .pwmMaskApply w set => Sys2Proof.Machine.execPwmMaskApply w set s
  | .pwmMaskRelease w set => Sys2Proof.Machine.execPwmMaskRelease w set s
  | .pwmCommit w timer v => Sys2Proof.Machine.execPwmCommit w timer v s
  | .pwmEnable w v => Sys2Proof.Machine.execPwmEnable w v s
  | .pwmSplit w v => Sys2Proof.Machine.execPwmSplit w v s
  | .canBusIntegration ctl => Sys2Proof.Machine.execCanBusIntegration ctl s
  | .canFrameReceived ctl t id flags data => Sys2Proof.Machine.execCanFrameReceived ctl t id flags data s
  | .canTx w ctl bytes => Sys2Proof.Machine.execCanTx w ctl bytes s
  | .canArbitration ctl start => Sys2Proof.Machine.execCanArbitration ctl start s
  | .canAttemptEnd ctl err exempt loop => Sys2Proof.Machine.execCanAttemptEnd ctl err exempt loop s
  | .canTxTimeout ctl buf => Sys2Proof.Machine.execCanTxTimeout ctl buf s
  | .canTxAbort w ctl v => Sys2Proof.Machine.execCanTxAbort w ctl v s
  | .canRecover w ctl v => Sys2Proof.Machine.execCanRecover w ctl v s
  | .canRecoveryComplete ctl => Sys2Proof.Machine.execCanRecoveryComplete ctl s
  | .canTxDone slot seq ctl => Sys2Proof.Machine.execCanTxDone slot seq ctl s
  | .canRxData slot seq ctl => Sys2Proof.Machine.execCanRxData slot seq ctl s
  | .canReceiveError ctl exception byEight => Sys2Proof.Machine.execCanReceiveError ctl exception byEight s
  | .zipendClear core high v => Sys2Proof.Machine.execZipendClear core high v s
  | .modeReqConfig w => Sys2Proof.Machine.execModeReqConfig w s
  | .modeReqCharge w => Sys2Proof.Machine.execModeReqCharge w s
  | .modeReqReady w => Sys2Proof.Machine.execModeReqReady w s
  | .modeReqRun w => Sys2Proof.Machine.execModeReqRun w s
  | .fmAckOne w number => Sys2Proof.Machine.execFmAckOne w number s
  | .fmAckAll w => Sys2Proof.Machine.execFmAckAll w s
  | .fmFirstClear w v => Sys2Proof.Machine.execFmFirstClear w v s
  | .sysRelease w v => Sys2Proof.Machine.execSysRelease w v s
  | .sysReset w v => Sys2Proof.Machine.execSysReset w v s
  | .sysConfigSave w v => Sys2Proof.Machine.execSysConfigSave w v s
  | .resetRelease pref lorStrap test => Sys2Proof.Machine.execResetRelease pref lorStrap test s
  | .bootComplete slotOk selfTest rtcValid rtc ms => Sys2Proof.Machine.execBootComplete slotOk selfTest rtcValid rtc ms s
  | .dmaTransferEnd ch => Sys2Proof.Machine.execDmaTransferEnd ch s
  | .bwCauseInactive cause => Sys2Proof.Machine.execBwCauseInactive cause s
  | .ethLinkChange port up verified => Sys2Proof.Machine.execEthLinkChange port up verified s
  | .loopEngineStart => Sys2Proof.Machine.execLoopEngineStart s
  | .enumerationComplete => Sys2Proof.Machine.execEnumerationComplete s
  | .ptpSyncTimeout => Sys2Proof.Machine.execPtpSyncTimeout s
  | .holdoverLimitExceeded => Sys2Proof.Machine.execHoldoverLimitExceeded s
  | .rtcOscStop => Sys2Proof.Machine.execRtcOscStop s
  | .vbatLow => Sys2Proof.Machine.execVbatLow s
  | .leapApply => Sys2Proof.Machine.execLeapApply s
  | .phUnlockStop => Sys2Proof.Machine.execPhUnlockStop s
  | .completionAccepted => Sys2Proof.Machine.execCompletionAccepted s
  | .injectionEnd => Sys2Proof.Machine.execInjectionEnd s
  | .guardHeartbeatLoss => Sys2Proof.Machine.execGuardHeartbeatLoss s
  | .lorNTooLong => Sys2Proof.Machine.execLorNTooLong s
  | .lorWindowExpiry => Sys2Proof.Machine.execLorWindowExpiry s
  | .arbActRise => Sys2Proof.Machine.execArbActRise s
  | .checkpointLoadComplete => Sys2Proof.Machine.execCheckpointLoadComplete s
  | .arbActFall => Sys2Proof.Machine.execArbActFall s
  | .revertRequest => Sys2Proof.Machine.execRevertRequest s
  | .exerciseStart => Sys2Proof.Machine.execExerciseStart s
  | .exerciseNotGranted => Sys2Proof.Machine.execExerciseNotGranted s
  | .helloPeriodic => Sys2Proof.Machine.execHelloPeriodic s
  | .nodeConflictClear => Sys2Proof.Machine.execNodeConflictClear s
  | .logRecordProgrammed => Sys2Proof.Machine.execLogRecordProgrammed s
  | .fwRollbackRaise => Sys2Proof.Machine.execFwRollbackRaise s
  | .surveyAbort => Sys2Proof.Machine.execSurveyAbort s
  | .sag => Sys2Proof.Machine.execSag s
  | .fieldLinkLoss => Sys2Proof.Machine.execFieldLinkLoss s
  | .appWdtExpiry => Sys2Proof.Machine.execAppWdtExpiry s
  | .lplusLowWarn => Sys2Proof.Machine.execLplusLowWarn s
  | .lplusRecover => Sys2Proof.Machine.execLplusRecover s
  | .prpSupervisionSend => Sys2Proof.Machine.execPrpSupervisionSend s
  | .softwareResetAct => Sys2Proof.Machine.execSoftwareResetAct s
  | .powerOn => Sys2Proof.Machine.execPowerOn s
  | .supplyReset => Sys2Proof.Machine.execSupplyReset s
  | .pinReset => Sys2Proof.Machine.execPinReset s
  | .refclkLoss => Sys2Proof.Machine.execRefclkLoss s
  | .timeclkLoss => Sys2Proof.Machine.execTimeclkLoss s
  | .refclkReturn => Sys2Proof.Machine.execRefclkReturn s
  | .timeclkReturn => Sys2Proof.Machine.execTimeclkReturn s

end Sys2Proof.Machine
end

