-- ==== Sys2Proof/Machine/Step.lean ====
section
/-! DEFINITION. One step of the block: the command at the front of the queue is taken and executed with the rest of the
queue; on an empty queue the time domain makes one tick of 2 ns (R194; assumption log 4). -/

namespace Sys2Proof.Machine

open Sys2Proof

def step (s : State) : Host.Outcome State Fault Refusal :=
  match s.pending with
  | c :: rest => exec c { s with pending := rest }
  | [] => s.run Dev.devTick

/-- The state with the command a word of the opcode table spells at the front of its queue; the table spells none. (DESIGN
CHOICE: assumption log 5) -/
def State.withFetchWord (s : State) (nbits w : Nat) : State :=
  match decodeTableWord nbits w with
  | some c => { s with pending := c :: s.pending }
  | none => s

end Sys2Proof.Machine
end

