-- ==== Sys2Proof/WellFormed.lean ====
section
/-! DEFINITION. The well-formed commands: the sizes of what arrives that the protocols fix before any rule of a chapter is
asked (a ZOA payload of at most 1,432 bytes and a 32-bit sequence, R358; the 36 bytes of a safety frame, R315; the operation
code a mailbox row stands for, R70; a 32-bit address of a core, Table 11-1). What a chapter refuses with a status is
well-formed and has its meaning. -/

namespace Sys2Proof

/-- Whether a command is well-formed. -/
def Instr.wellFormed : Instr → Bool
  | .strandFrameReceived _ ws _ => decide (ws.length ≤ 1024)
  | .cellMbxNop _ _ m => decide (m.toNat / 2 ^ 124 = 0)
  | .cellMbxRead _ _ m _ => decide (m.toNat / 2 ^ 124 = 1)
  | .cellMbxWrite _ _ m => decide (m.toNat / 2 ^ 124 = 2)
  | .cellMbxAssign _ _ m => decide (m.toNat / 2 ^ 124 = 3)
  | .cellMbxBadOp _ _ m => decide (4 ≤ m.toNat / 2 ^ 124)
  | .cellSampleInstant _ v t => decide (v < 0xFFFF ∧ t < 256)
  | .localWindowStore _ a n _ => decide (a < 2 ^ 32 ∧ n ≤ 8)
  | .localWindowDescriptorLoad _ a => decide (a < 2 ^ 32)
  | .safetyFrameReceived _ b => decide (b.length = 36)
  | .hello a q => decide (a.length = 18 ∧ q < 2 ^ 32)
  | .peerHelloReceived b a => decide (b.length = 48 ∧ a.length = 16)
  | .loginChallenge p _ a q => decide (p.length ≤ 1432 ∧ a.length = 18 ∧ q < 2 ^ 32)
  | .read _ q p => decide (q < 2 ^ 32 ∧ p.length ≤ 1432)
  | .write _ q p => decide (q < 2 ^ 32 ∧ p.length ≤ 1432)
  | .readList _ q p => decide (q < 2 ^ 32 ∧ p.length ≤ 1432)
  | .writeGroup _ q p => decide (q < 2 ^ 32 ∧ p.length ≤ 1432)
  | .subscribe _ q p => decide (q < 2 ^ 32 ∧ p.length ≤ 1432)
  | .domainOpen _ q p => decide (q < 2 ^ 32 ∧ p.length ≤ 1432)
  | .domainBlock _ q p => decide (q < 2 ^ 32 ∧ p.length ≤ 1432)
  | .domainEnd _ q p => decide (q < 2 ^ 32 ∧ p.length ≤ 1432)
  | .domainAbort _ q p => decide (q < 2 ^ 32 ∧ p.length ≤ 1432)
  | .rawFrameReceived _ f _ _ => decide (14 ≤ f.length)
  | .canFrameReceived _ _ i f b => decide (i < 2 ^ 32 ∧ f < 16 ∧ b.length ≤ 64)
  | .cycleBoundary .. | .loopRunComplete .. | .commitComplete .. | .healWindowExpiry .. | .losAssert ..
  | .losClear .. | .frequencyGateEnd .. | .laneBitslip .. | .laneRxInvert .. | .quadPllUnlock .. | .quadPllRelock ..
  | .strEnumCmd .. | .strMbxReq .. | .joinProbe .. | .cellJoin .. | .cellFirstPass .. | .cellSecondPass ..
  | .cellCmdStep .. | .cellCmdDelayed .. | .cellCmdPulse .. | .cellCmdHold .. | .clearFault .. | .closeBypass ..
  | .cellHoldTimeout .. | .cellBlockPatternDetect .. | .cellBlockPatternEnd .. | .cellPortDown .. | .cellPortUp ..
  | .trainingPatternReceived .. | .cellFaultLatch .. | .cellPowerUp .. | .modArmEnable .. | .leValidate ..
  | .leReset .. | .localGroupOpen .. | .localGroupSubmit .. | .localGroupDiscard .. | .leLocalStatusRead ..
  | .svHoldMaxReached .. | .svRecover .. | .repRelease .. | .repClear .. | .supPeakClear .. | .filterOutput ..
  | .clkLossAssert .. | .clkLossClear .. | .dataLossAssert .. | .dataLossClear .. | .pathSettled ..
  | .diagConversionEnd .. | .diagDelayExpiry .. | .diagRun .. | .ptpSyncReceived .. | .ptpFollowUpReceived ..
  | .ptpAnnounceReceived .. | .phaseStep .. | .pdelayReqSend .. | .pdelayReqReceived .. | .pdelayRespReceived ..
  | .pdelayResponseTimeout .. | .transparentClockForward .. | .tbStep .. | .tbAddendSet .. | .rtcSet ..
  | .rtcDiscipline .. | .pgPulse .. | .tsuEdgeCapture .. | .tsuFifoOut .. | .tpArm .. | .tpStop .. | .tpForce ..
  | .tpSampleWritten .. | .tpReady .. | .tpAutoTimeout .. | .tpRecordComplete .. | .tpRelease .. | .twLocalArrival ..
  | .twRemoteIn .. | .twSingleEndedResult .. | .twMatchTimeout .. | .phFrameReady .. | .phFrameDropped ..
  | .phCmdDataOff .. | .phCmdDataOn .. | .phCmdHeader .. | .phCmdCfg2 .. | .phCmdCfg3 .. | .phCmdIgnored ..
  | .taskEnable .. | .taskTimeRelease .. | .taskCycleRelease .. | .ztask .. | .taskGrant .. | .prefetchSlotFill ..
  | .ztpoll .. | .zpref .. | .prefetchReclaim .. | .zdone .. | .ztrace .. | .zsev .. | .taskDeadlineMiss ..
  | .taskOverBudget .. | .coreWatchdog .. | .tlData .. | .seqScan .. | .seqValidate .. | .seqStart .. | .seqStop ..
  | .seqExchange .. | .stationTimeout .. | .bwCauseActive .. | .glitchRejected .. | .tripinDiscrepancy ..
  | .blockPinReadbackMismatch .. | .guardCrossCheck .. | .guardParamCheck .. | .guardRcClockCheck .. | .bwLor ..
  | .lorNPulse .. | .powerUpRelease .. | .bwSetActivate .. | .bwTest .. | .safetyHeartbeatSend ..
  | .safetyWindowExpiry .. | .subscriptionLost .. | .coupleFormation .. | .checkpointReceived .. | .mirroredWrite ..
  | .pairLinkLaneChange .. | .splitServiceStart .. | .splitServiceEnd .. | .exerciseDwellEnd .. | .peerAgeOut ..
  | .loginProof .. | .loginTimeout .. | .push .. | .event .. | .domainTransferTimeout .. | .close ..
  | .sessionIdleTimeout .. | .tagFailure .. | .objectWrite .. | .hostRawTxTail .. | .fwActivate ..
  | .secDebugUnlock .. | .fieldDieFrame .. | .inputDebounceExpiry .. | .outputDisagreement ..
  | .outputThermalShutdown .. | .outputRetry .. | .fioSurvey .. | .surveyChannelDone .. | .fioOutEnable ..
  | .fioAppKick .. | .fioOut .. | .pwmPeriodStart .. | .pwmCompareEdge .. | .pwmTrip .. | .pwmTripClear ..
  | .pwmMaskApply .. | .pwmMaskRelease .. | .pwmCommit .. | .pwmEnable .. | .pwmSplit .. | .canBusIntegration ..
  | .canTx .. | .canArbitration .. | .canAttemptEnd .. | .canTxTimeout .. | .canTxAbort .. | .canRecover ..
  | .canRecoveryComplete .. | .canTxDone .. | .canRxData .. | .canReceiveError .. | .zipendClear ..
  | .modeReqConfig .. | .modeReqCharge .. | .modeReqReady .. | .modeReqRun .. | .fmAckOne .. | .fmAckAll ..
  | .fmFirstClear .. | .sysRelease .. | .sysReset .. | .sysConfigSave .. | .resetRelease .. | .bootComplete ..
  | .dmaTransferEnd .. | .bwCauseInactive .. | .ethLinkChange .. | .loopEngineStart .. | .enumerationComplete ..
  | .ptpSyncTimeout .. | .holdoverLimitExceeded .. | .rtcOscStop .. | .vbatLow .. | .leapApply .. | .phUnlockStop ..
  | .completionAccepted .. | .injectionEnd .. | .guardHeartbeatLoss .. | .lorNTooLong .. | .lorWindowExpiry ..
  | .arbActRise .. | .checkpointLoadComplete .. | .arbActFall .. | .revertRequest .. | .exerciseStart ..
  | .exerciseNotGranted .. | .helloPeriodic .. | .nodeConflictClear .. | .logRecordProgrammed ..
  | .fwRollbackRaise .. | .surveyAbort .. | .sag .. | .fieldLinkLoss .. | .appWdtExpiry .. | .lplusLowWarn ..
  | .lplusRecover .. | .prpSupervisionSend .. | .softwareResetAct .. | .powerOn .. | .supplyReset .. | .pinReset ..
  | .refclkLoss .. | .timeclkLoss .. | .refclkReturn .. | .timeclkReturn .. => true

end Sys2Proof
end

