-- ==== Sys2Proof/Safety.lean ====
section
/-! DEFINITION. What the statements speak of: a command that completes and the device it leaves, the state a request of a
session finds, the write a row carries, what follows at once from a command, and the invariant of the memories. -/

namespace Sys2Proof.Machine

open Sys2Proof

/-- A command completes: it answers the next state, in which its own effect has left the module as `d`, what follows at once
from any command has happened (`Dev.settle`), and no memory was written but by the Tideline. -/
def Yields (c : Instr) (s : State) (d : Dev) : Prop := exec c s = .next (s.close ([], d))

/-- A command completes with writes of its own to memory. -/
def Stores (c : Instr) (s : State) (w : List MemWrite) (d : Dev) : Prop := exec c s = .next (s.close (w, d))

/-- A request of an open session arrives with a sequence number that is new: ahead of the highest taken by at most 2³¹, and
not among the answers kept (R362), while the host path runs (R456). -/
def State.fresh (s : State) (n seq : Nat) : Bool :=
  s.dev.sesOpen n && s.dev.tm.timeclk && ((s.dev.ses n).kept.find? (·.seq = seq)).isNone
    && (let ahead := (seq + 4294967296 - (s.dev.ses n).seqHigh % 4294967296) % 4294967296
        decide (1 ≤ ahead) && decide (ahead ≤ 2147483648))

/-- The module as a fresh request finds it: its number is the highest, its time the last. -/
def State.at (s : State) (n seq : Nat) : Dev :=
  s.dev.setSes n { s.dev.ses n with seqHigh := seq, tLast := s.dev.tm.mono }

/-- The write a row carries: its writer, object and number. -/
def numWrite : Instr → Option (Writer × Nat × Int)
  | .laneBitslip w l v => some (w, Obj.LANE_BITSLIP l, v)
  | .laneRxInvert w l v => some (w, Obj.LANE_RX_INVERT l, v)
  | .strEnumCmd w v => some (w, Obj.STR_ENUM_CMD, v)
  | .cellJoin w n v => some (w, Obj.CELL_JOIN n, v)
  | .modArmEnable w a v => some (w, Obj.MOD_ARM_ENABLE a, v)
  | .leValidate w v => some (w, Obj.LE_VALIDATE, v)
  | .leReset w i v => some (w, Obj.LE_RESET i, v)
  | .repClear w c v => some (w, Obj.REP_CLEAR c, v)
  | .supPeakClear w v => some (w, Obj.SUP_PEAK_CLEAR, v)
  | .diagRun w v => some (w, Obj.DIAG_RUN, v)
  | .tbStep w v => some (w, Obj.TB_STEP, v)
  | .tbAddendSet w v => some (w, Obj.TB_ADDEND_SET, v)
  | .rtcSet w v => some (w, Obj.RTC_SET, v)
  | .tpArm w p => some (w, Obj.TP_CMD p, 1)
  | .tpStop w p => some (w, Obj.TP_CMD p, 2)
  | .tpForce w p => some (w, Obj.TP_CMD p, 3)
  | .tpRelease w p r => some (w, Obj.TP_RELEASE p, r)
  | .taskEnable w t v => some (w, Obj.TASK_ENABLE t, v)
  | .seqValidate w => some (w, Obj.SEQ_CMD, 1)
  | .seqStart w => some (w, Obj.SEQ_CMD, 2)
  | .seqStop w => some (w, Obj.SEQ_CMD, 3)
  | .seqExchange w => some (w, Obj.SEQ_CMD, 4)
  | .bwLor w v => some (w, Obj.BW_LOR, v)
  | .bwSetActivate w v => some (w, Obj.BW_SET_ACTIVATE, v)
  | .bwTest w v => some (w, Obj.BW_TEST, v)
  | .hostRawTxTail w v => some (w, Obj.HOST_RAW_TX_TAIL, v)
  | .fwActivate w v => some (w, Obj.FW_ACTIVATE, v)
  | .secDebugUnlock w v => some (w, Obj.SEC_DEBUG_UNLOCK, v)
  | .fioSurvey w v => some (w, Obj.FIO_SURVEY, v)
  | .fioOutEnable w v => some (w, Obj.FIO_OUT_ENABLE, v)
  | .fioAppKick w v => some (w, Obj.FIO_APP_KICK, v)
  | .fioOut w v => some (w, Obj.FIO_OUT, v)
  | .pwmTripClear w v => some (w, Obj.PWM_TRIP_CLEAR, v)
  | .pwmMaskApply w m => some (w, Obj.PWM_MASK_CTRL m, 1)
  | .pwmMaskRelease w m => some (w, Obj.PWM_MASK_CTRL m, 2)
  | .pwmCommit w t v => some (w, Obj.PWM_COMMIT t, v)
  | .pwmEnable w v => some (w, Obj.PWM_ENABLE, v)
  | .pwmSplit w v => some (w, Obj.PWM_SPLIT, v)
  | .canTxAbort w c v => some (w, Obj.CAN_TX_ABORT c, v)
  | .canRecover w c v => some (w, Obj.CAN_RECOVER c, v)
  | .modeReqConfig w => some (w, Obj.SYS_MODE_REQ, 1)
  | .modeReqCharge w => some (w, Obj.SYS_MODE_REQ, 2)
  | .modeReqReady w => some (w, Obj.SYS_MODE_REQ, 3)
  | .modeReqRun w => some (w, Obj.SYS_MODE_REQ, 4)
  | .fmAckOne w n => some (w, Obj.FM_ACK, n)
  | .fmAckAll w => some (w, Obj.FM_ACK, 0xFFFFFFFF)
  | .fmFirstClear w v => some (w, Obj.FM_FIRST_CLEAR, v)
  | .sysRelease w v => some (w, Obj.SYS_RELEASE, v)
  | .sysReset w v => some (w, Obj.SYS_RESET, v)
  | .sysConfigSave w v => some (w, Obj.SYS_CONFIG_SAVE, v)
  | _ => none

/-- The writer and entry of a row that writes one object: those of `numWrite`, the three rows that carry bytes, and a write of
any object. -/
def writeOf (c : Instr) : Option (Writer × Entry) :=
  match numWrite c, c with
  | some (w, k, v), _ => some (w, cmdEntry k (.num v))
  | none, .strMbxReq w s b => some (w, cmdEntry (Obj.STR_MBX_REQ s) (.bytes b))
  | none, .twRemoteIn w l b => some (w, cmdEntry (Obj.TW_REMOTE_IN l) (.bytes b))
  | none, .canTx w ctl b => some (w, cmdEntry (Obj.CAN_TX ctl) (.bytes b))
  | none, .objectWrite w e => some (w, e)
  | none, _ => none

/-- The module as the checks of a writer's group begin: a session's request has been noted; a core's is as it is. -/
def State.asks (s : State) : Writer → Option Dev
  | .session n seq => if s.fresh n seq then some (s.at n seq) else none
  | .core c => if (s.dev.win c).group.isNone then some s.dev else none
  | _ => none

/-- The group a live entry of a writer waits in, accepted now, for the first boundary at least 1 µs later (R32). -/
def groupOf (d : Dev) (w : Writer) (rt : Rights) (e : Entry) : Group :=
  { number := d.host.nextGroup, writer := w, org := rt.org,
    opcode := match w with
      | .session _ _ => 0x11
      | _ => 0,
    entries := [{ key := entryKey e, val := e.val, inst := none }], accepted := d.tm.mono, due := none,
    deferred := false, objects := 1 }

/-- The invariant every step keeps: the memories hold their canonical form. -/
def Inv (s : State) : Prop := Memory.wf s.mem = true

/-- The parts of the module that nothing which follows at once from a command may touch. -/
def Untouched (d d' : Dev) : Prop :=
  d'.tm = d.tm ∧ d'.free = d.free ∧ d'.lanes = d.lanes ∧ d'.ctls = d.ctls ∧ d'.cans = d.cans ∧ d'.time = d.time
    ∧ d'.bw = d.bw ∧ d'.seq = d.seq ∧ d'.meas.chans = d.meas.chans ∧ d'.meas.anchors = d.meas.anchors
    ∧ d'.host.sessions = d.host.sessions ∧ d'.host.transfers = d.host.transfers ∧ d'.host.groups = d.host.groups
    ∧ d'.host.log = d.host.log ∧ d'.host.peers = d.host.peers

/-- The commands that may write memory of their own: stores and loads of a core, what the raw rings and the CAN rings
receive or send, and the loss of memory at power-on. -/
def ownMemory : Instr → Bool
  | .localWindowStore .. | .localWindowDescriptorLoad .. | .leLocalStatusRead .. | .rawFrameReceived .. | .cycleBoundary ..
  | .canFrameReceived .. | .canAttemptEnd .. | .powerOn => true
  | _ => false

end Sys2Proof.Machine
end

