-- ==== Sys2Proof/Certificates/Slice0/Obligations.lean ====
section
/-! DEFINITION. The statements for the provers, from the numbered rules of the specification: the machine and its queue first,
then each family of commands with the state it changes, then the whole-machine rules. `Yields c s d` says that the command
completes and its own effect leaves the module as `d`; `Obligations.FollowUpFrame` says what may happen after it. -/

open Sys2Proof Sys2Proof.Machine

/-! The machine: its queue, its outcomes, its memories, its reset. -/

/-- A step takes the command at the front of the queue and executes it with the rest of the queue. -/
def Obligations.StepRunsFrontCommand : Prop :=
  ∀ (c : Instr) (rest : List Instr) (s : State), step { s with pending := c :: rest } = exec c { s with pending := rest }

/-- On an empty queue the time base makes one tick: 2 ns and the addend, none of it without TIMECLK (R195; that the tick is
what an empty queue does is the model's choice, assumption log 4). -/
def Obligations.EmptyQueueTicks : Prop :=
  ∀ s : State, s.pending = [] →
    step s = .next (s.close ([],
      { s.dev with tm := { s.dev.tm with
          now := s.dev.tm.now + (if s.dev.tm.timeclk then (2 * 4294967296 + s.dev.get Obj.TB_ADDEND).toNat else 0),
          mono := s.dev.tm.mono + 2 * 4294967296 } }))

/-- No command changes the commands that wait. Every command completes in every state, but for a cycle boundary that serves a
raw transmit descriptor and a raw frame received while TIMECLK runs: these two fault where the descriptor names a buffer
outside the memory map (Table 11-1), and complete else. Nothing is refused. -/
def Obligations.Outcomes : Prop :=
  (∀ (c : Instr) (s t : State), exec c s = .next t → t.pending = s.pending)
  ∧ (∀ (c : Instr) (s : State),
     (∃ t, exec c s = .next t)
       ∨ (exec c s = .fault .addressOutsideMap
           ∧ ((∃ p, c = .cycleBoundary p ∧ (s.dev.devCycleBoundary p).host.txTail ≠ none)
             ∨ (∃ q f x e l, c = .rawFrameReceived q f x ⟨e, l⟩ ∧ s.dev.tm.timeclk = true))))
  ∧ (∀ (c : Instr) (s : State), (∀ p, c ≠ .cycleBoundary p) → (∀ q f x e l, c ≠ .rawFrameReceived q f x ⟨e, l⟩) →
     ∃ t, exec c s = .next t)

/-- Every step keeps the canonical form of the memories. -/
def Obligations.StepKeepsMemoryCanonical : Prop := ∀ s t : State, Inv s → step s = .next t → Inv t

/-- After reset the memories are in their canonical form, with nothing written, and no command waits. -/
def Obligations.ResetIsCanonical : Prop := Inv State.reset ∧ State.reset.mem = [] ∧ State.reset.pending = []

/-- What follows at once from a command touches neither time, lanes, cell controllers, CAN, the time subsystem, Breakwater,
the sequencer, the measurement channels, nor the host path's sessions, transfers, groups, log and peers. -/
def Obligations.FollowUpFrame : Prop := ∀ d : Dev, Untouched d d.settle.tlFlush.2

/-- The commands with no memory of their own write no byte below the DRAM: what they leave of the task cores' memories and
the shared SRAM is what they found (the Tideline writes its ring in DRAM alone, R275). A command that stores, stores what it
names: the bytes of its own writes, then the Tideline's, and no other byte changes below the DRAM. -/
def Obligations.MemoryFrames : Prop :=
  (∀ (c : Instr) (s t : State) (a : Nat), ownMemory c = false → exec c s = .next t → a < 0x40000000 →
     readByte t.mem a = readByte s.mem a)
  ∧ (∀ (c : Instr) (s t : State) (w : List MemWrite) (d : Dev) (a : Nat), Stores c s w d → exec c s = .next t →
     a < 0x40000000 → (∀ x ∈ w, a < x.1 ∨ x.1 + x.2.length ≤ a) → readByte t.mem a = readByte s.mem a)

/-- A reset (R428) enters BOOT with the Breakwater latch set through SELF and the BLOCK pins low, reports its cause, and frees
the sessions and drops the groups that wait; the lock-out-pending flag (R429), the change log, the stored configuration and the
cell controllers stay, and every counter of the fault manager is at its default. The four resets and the release from reset
(R428, R444): each source of Table 18-9 resets the module with its code, at power-on with the memories lost; a software reset
acts when one is due and its millisecond has passed (R428), and does nothing else; in BOOT the straps are sampled and, unless
TEST is high, the lanes in use leave OFF (Table 02-2). -/
def Obligations.Resets : Prop :=
  (∀ (d : Dev) (cause : Nat),
     let r := d.resetDev cause
     r.mode = Mode.boot ∧ r.on Obj.BW_STATE = true ∧ r.getN Obj.SYS_RESET_CAUSE = cause ∧ Output.pins 0 0 ∈ r.outs
       ∧ r.getN Obj.FM_RECORDS = 0 ∧ r.fm.queue = [] ∧ r.fm.nvLockout = d.fm.nvLockout
       ∧ r.host.sessions = [] ∧ r.host.groups = [] ∧ r.host.log = d.host.log ∧ r.host.storedNum = d.host.storedNum
       ∧ r.ctls = d.ctls ∧ r.tm.now = 0 ∧ r.free = d.free)
  ∧ (∀ s : State,
     exec .powerOn s = .next ({ s with mem := [] }.close ([], s.dev.resetDev 0))
       ∧ Yields .supplyReset s (s.dev.resetDev 1)
       ∧ Yields .pinReset s (s.dev.resetDev 2)
       ∧ (s.dev.fm.resetDue = true → s.dev.waited s.dev.fm.resetAt (1000000 * nsUnit) = true →
           Yields .softwareResetAct s (s.dev.resetDev 3))
       ∧ (s.dev.fm.resetDue = false ∨ s.dev.waited s.dev.fm.resetAt (1000000 * nsUnit) = false →
           Yields .softwareResetAct s s.dev)
       ∧ ∀ pref lor test : Level, s.dev.mode = Mode.boot →
         let e := ((s.dev.setN Obj.ID_STRAPS ((if pref then 1 else 0) + (if lor then 2 else 0) + (if test then 4 else 0))).setB
             Obj.PR_PREF pref).setB Obj.BW_LOR_STRAP lor
         Yields (.resetRelease pref lor test) s (if test then e else upTo 32 (fun l d => d.laneRefresh l) e))

/-! The control cycle. -/

/-- R12, R13: a cycle starts at a multiple of Tc of the time base, one Tc after the last start or, where a cycle ran late, at
the first later multiple; the first cycle of all starts strictly after now. The cycle index is that of the second, time does
not run backwards, and the time that passed since reset advances alike. (Where the time base already stands beyond T_k it is
not taken back: the model's reading, assumption log 24.) -/
def Obligations.CycleStartsOnGrid : Prop :=
  ∀ d : Dev,
    let tc := d.tc * nsUnit
    let t := d.reachT
    t.tm.lastT % tc = 0 ∧ t.tm.started = true ∧ t.getN Obj.CYC_INDEX = t.tm.lastT % secUnit / tc
      ∧ t.tm.lastT ≤ t.tm.now ∧ d.tm.now ≤ t.tm.now ∧ t.tm.mono + d.tm.now = d.tm.mono + t.tm.now
      ∧ (d.tm.now < t.tm.lastT → t.tm.now = t.tm.lastT)
      ∧ (d.tm.started = true → d.tm.lastT + tc ≤ t.tm.lastT ∧ t.tm.lastT < d.tm.lastT + 2 * tc)
      ∧ (d.tm.started = false → d.tm.now < t.tm.lastT ∧ t.tm.lastT ≤ d.tm.now + tc)

/-- CYCLE_BOUNDARY completes where no raw transmission is handed over at it (R12): with both clocks running the module has
begun the cycle, no run of it has started, t_in has not passed, and a run is due where the engines run; without REFCLK time
alone reaches T_k; without TIMECLK nothing happens (R456). The commands within a cycle, in their order. LOOP_ENGINE_START
(R25, R91–R93) judges lanes, cells and joins, checks N_red on both arm groups, latches the samples and, where a run is due,
runs its prologue: the reductions and the vector stage, the supervision of the arm models, and the snapshot of every source.
LOOP_RUN_COMPLETE (R123) runs the program, the epilogues and the modulation, and posts completion 8; COMMIT_COMPLETE (R33,
R167) commits the results together, keeps the peaks, ends the row of overruns and posts completion 9. The clocks a run lost to
corrected memory errors count in both (R167); that the run tells them is the model's choice (assumption log 71). -/
def Obligations.CycleCommands : Prop :=
  ((∀ (p : Option PairStatus) (s : State), (s.dev.devCycleBoundary p).host.txTail = none →
     Yields (.cycleBoundary p) s (s.dev.devCycleBoundary p).firmwareReset)
   ∧ (∀ (p : Option PairStatus) (d : Dev), d.tm.timeclk = true → d.tm.refclk = true →
       let t := d.devCycleBoundary p
       t.cyc.phase = .idle ∧ t.cyc.tin = false ∧ t.cyc.loopEnd = 0 ∧ t.cyc.due = t.enginesRun)
   ∧ (∀ (p : Option PairStatus) (d : Dev), d.tm.timeclk = true → d.tm.refclk = false → d.devCycleBoundary p = d.reachT)
   ∧ ∀ (p : Option PairStatus) (d : Dev), d.tm.timeclk = false → d.devCycleBoundary p = d)
  ∧ ((∀ s : State, 2 ≤ s.dev.mode → s.dev.cyc.tin = false → s.dev.tm.timeclk = true → s.dev.tm.refclk = true →
     let a := ({ s.dev with cyc := { s.dev.cyc with tin := true } } : Dev).judge
     let b := if a.standby then a else upTo a.strandCount (fun n d => d.judgeJoins n) a
     let c := (if b.standby then b else (b.checkNRed 0).checkNRed 1).latchSamples
     let e := if c.cyc.due then
         let x := (((((c.keepRun).reduceArm 0).reduceArm 1).vectorStage 0).vectorStage 1).svPrologues.loopSnapshot
         { x with cyc := { x.cyc with phase := .loop } }
       else c
     Yields .loopEngineStart s e.evalPairs.guardEval)
   ∧ (∀ (endNs stalls : Nat) (s : State), s.dev.cyc.phase = .loop →
       let a := (s.dev.add Obj.SUP_ECC_STALLS stalls).devLoopRun.svEpilogues.devModulate
       Yields (.loopRunComplete ⟨endNs, stalls⟩) s
         (({ a with cyc := { a.cyc with phase := .modulation, loopEnd := endNs } } : Dev).postEngine 8))
   ∧ ∀ (modNs comNs stalls : Nat) (s : State), s.dev.cyc.phase = .modulation →
       let a := (s.dev.add Obj.SUP_ECC_STALLS stalls).svCommit.cpCollect.commitLoop.devCommitRun.svStage.relayBanks
       let b := a.cpCommit (a.tm.lastT / nsUnit + comNs)
       let c := (b.peak Obj.SUP_LOOP_END_MAX b.cyc.loopEnd).peak Obj.SUP_MOD_END_MAX modNs
       let e := (c.peak Obj.SUP_COMMIT_END_MAX comNs).set Obj.CYC_OVR_CONSEC 0
       Yields (.commitComplete modNs ⟨comNs, stalls⟩) s
         (({ e with cyc := { e.cyc with phase := .committed, undo := [] } } : Dev).postEngine 9))

/-- R33, R34: a run that has not committed by the next boundary is an overrun: it is counted for the loop or the modulation
engine with event 32 or 48, at rank 3 and among the consecutive ones; one below the limit raises no L4 trip, and the run in
progress is abandoned in every engine, what it wrote before its commit given back. That every overrun from the limit on trips
is the model's reading (assumption log 59). -/
def Obligations.OverrunIsCounted : Prop :=
  ∀ d : Dev, d.cyc.due = true → d.cyc.phase ≠ .committed →
    let a := (((d.abandonLoop.abandonArm 0).abandonArm 1).svAbandon).undoRun.cpOverrun
    let b := if d.cyc.phase = .idle ∨ d.cyc.phase = .loop then (a.inc Obj.CYC_OVR_LOOP).signal 32 (noSource 32)
             else (a.inc Obj.CYC_OVR_MOD).signal 48 (noSource 48)
    let n := b.getN Obj.CYC_OVR_CONSEC + 1
    let e := (b.broken 3).setN Obj.CYC_OVR_CONSEC (min 15 n)
    (n < e.getN Obj.CYC_OVR_LIMIT → d.closeRun = { e with cyc := { e.cyc with phase := .idle, due := false } })
      ∧ (e.getN Obj.CYC_OVR_LIMIT ≤ n →
          let f := e.raiseFault 0x0102 4 0 (noSource 0x0102) 0 false
          d.closeRun = { f with cyc := { f.cyc with phase := .idle, due := false } })

/-! Lanes, strands, enumeration and joins. -/

/-- R45, R46, Table 02-2: the detectors of a lane that is not OFF. LOS takes the lane to NO_SIGNAL, counted, and its gate is
partial; LOS going away takes NO_SIGNAL to ACQUIRE; a complete gate reports its difference in ppm, within 300 ppm takes
ACQUIRE to UNALIGNED, and beyond 300 ppm takes UNALIGNED and ALIGNED to ACQUIRE, counted; a partial gate does neither. R61: a
quad PLL that loses lock puts its four lanes at electrical idle and raises L3 on the arm groups with a strand on the quad;
its relock lets them go on and ends the cause. -/
def Obligations.LaneDetectorsAndQuads : Prop :=
  (∀ (l : Fin 32) (s : State),
     let st := s.dev.laneState l
     let x := s.dev.lane l
     (∀ a : Nat, st = LaneState.acquire ∨ st = LaneState.unaligned ∨ st = LaneState.aligned →
       Yields (.losAssert l a) s
         ((((s.dev.setN (Obj.LANE_AMPLITUDE l) (a % 65536)).setLane l { x with los := true, gateBad := true }).inc
           (Obj.LANE_LOS_COUNT l)).setLaneState l LaneState.noSignal))
     ∧ (∀ a : Nat, st = LaneState.noSignal →
       Yields (.losClear l a) s
         (((s.dev.setN (Obj.LANE_AMPLITUDE l) (a % 65536)).setLane l { x with los := false }).setLaneState l LaneState.acquire))
     ∧ (∀ n : Nat, x.gateBad = false → x.los = false →
       let d := (s.dev.setLane l { x with gateBad := false }).set (Obj.LANE_FREQ_DIFF l) (Dev.gatePpm n)
       (st = LaneState.acquire → (((n : Int) - 262144) * 1000000).natAbs ≤ 300 * 262144 →
         Yields (.frequencyGateEnd l n) s (d.setLaneState l LaneState.unaligned))
       ∧ (st = LaneState.unaligned ∨ st = LaneState.aligned → 300 * 262144 < (((n : Int) - 262144) * 1000000).natAbs →
         Yields (.frequencyGateEnd l n) s ((d.inc (Obj.LANE_LOL_COUNT l)).setLaneState l LaneState.acquire)))
     ∧ (∀ n : Nat, st ≠ LaneState.off → x.gateBad = true ∨ x.los = true →
       Yields (.frequencyGateEnd l n) s (s.dev.setLane l { x with gateBad := x.los })))
  ∧ (∀ (q : Fin 8) (s : State),
     let d := (s.dev.setBit Obj.LANE_QUAD_LOCK q false).quadIdle q true
     (d.quadArms q ≠ 0 → Yields (.quadPllUnlock q) s (d.raiseFault 0x0101 3 (d.quadArms q) q 0 true))
       ∧ (d.quadArms q = 0 → Yields (.quadPllUnlock q) s d)
       ∧ Yields (.quadPllRelock q) s (((s.dev.setBit Obj.LANE_QUAD_LOCK q true).quadIdle q false).clearCause 0x0101 q)
       ∧ ∀ l : Fin 32, (((s.dev.setBit Obj.LANE_QUAD_LOCK q true).quadIdle q false).lane l).idle
           = if l.val / 4 = q.val then false else (s.dev.lane l).idle)

/-- R44: a lane's change of state is kept in `LANE_STATE`, the runs of words its receiver counts begin anew, and its transmitter
follows; on a lane that serves a strand it raises the event of its strand with the lane as source, and an L0 record; a lane
that serves none changes silently. R47: the third missed sync in a row loses frame alignment; R49, Table 02-5: the sync
condition brings an UNALIGNED lane to ALIGNED with no miss counted, but not in IDLE_ONLY mode, and the complement sets its
flag alone. R49, R51: words without a frame at an UNALIGNED or ALIGNED lane count one after another; in PRBS31 mode they are
checked against the sequence (its first 31 bits begin it: assumption log 66) and their errors added; a lane in another state
takes no notice. -/
def Obligations.LaneAlignment : Prop :=
  (∀ (l st : Nat) (d : Dev), st ≠ d.laneState l →
     let e := ((d.setN (Obj.LANE_STATE l) st).setLane l (Dev.restartLane (d.lane l))).fillRefresh l
     (d.serves l = false → d.setLaneState l st = e)
     ∧ (d.serves l = true → d.setLaneState l st = (e.signal (d.laneStrand l) l).storeRec (d.laneStrand l) 0 0 l 0 false))
  ∧ (∀ (l : Nat) (d : Dev),
     ((d.lane l).misses = 2 →
       d.laneMiss l = ((d.setLane l { d.lane l with misses := 0 }).inc (Obj.LANE_LFA_COUNT l)).setLaneState l LaneState.unaligned)
     ∧ ((d.lane l).misses < 2 → d.laneMiss l = d.setLane l { d.lane l with misses := (d.lane l).misses + 1 })
     ∧ (l < 32 → d.laneState l = LaneState.unaligned → d.laneMode l ≠ 2 →
       d.laneSync l false
         = ((d.setBit (Obj.LANE_SYNC_SEEN l) 0 true).setLane l { d.lane l with misses := 0, synced := true }).setLaneState l
             LaneState.aligned)
     ∧ d.laneSync l true = d.setBit (Obj.LANE_SYNC_SEEN l) 1 true)
  ∧ (∀ (l : Fin 32) (ws : List Word) (s : State),
     let st := s.dev.laneState l
     let x := s.dev.lane l
     let r := Dev.prbsRun x.prbs (ws.flatMap fun w => bitsOf 32 w.toNat)
     (st = LaneState.unaligned ∨ st = LaneState.aligned →
       (s.dev.laneMode l ≠ 3 → Yields (.trainingPatternReceived l ws) s (s.dev.trainWords l ws))
       ∧ (s.dev.laneMode l = 3 → Yields (.trainingPatternReceived l ws) s
           ((s.dev.setLane l { x with prbs := r.2 }).add (Obj.LANE_PRBS_ERR l) r.1)))
     ∧ (st ≠ LaneState.unaligned → st ≠ LaneState.aligned → Yields (.trainingPatternReceived l ws) s s.dev))

/-- R48, R49, R59, R74, R88: a frame on a lane in FRAMES or IDLE_ONLY mode. An UNALIGNED lane takes a header as its sync
condition. On an ALIGNED lane, whether or not it serves a strand (R44), a frame whose header, stuffing or CRC-32 fails is
counted as such and discarded, and one that is good is judged for the strand, all of them filling the receive FIFO; of a
discarded frame on a lane that serves its strand the slots with a failing RSP_CRC count too. A lane that loops back sends the
words on first (R56). The block pattern is noted and no frame is read. In NO_SIGNAL and ACQUIRE nothing is received. -/
def Obligations.StrandFrames : Prop :=
  ∀ (l : Fin 32) (ws : List Word) (t : Nat) (s : State),
    let n := s.dev.laneStrand l
    let r := Rodal.deframe (s.dev.framePositions n) ws
    let m := s.dev.framePositions n
    let a := s.dev.setLane l { s.dev.lane l with train := 0, trainC := 0, blockRun := 0 }
    let b := if s.dev.laneLoops l ∧ s.dev.serves l = true then a.loopWords l ws else a
    let d := if (Rodal.header? ws).isSome then b.setLane l { b.lane l with synced := true } else b
    let bad := fun (k : Nat) (f : Rodal.Frame) =>
      let e := (d.inc k).fillFifo l (Rodal.bitsTaken m ws)
      if s.dev.serves l then e.countSlots n (f.slots.take (Rodal.slotsTaken m ws)) else e
    s.dev.laneMode l ≠ 1 → s.dev.laneMode l ≠ 3 →
      (s.dev.laneState l = LaneState.unaligned → (Rodal.header? ws).isSome = true →
        Yields (.strandFrameReceived l ws t) s (a.laneSync l false))
      ∧ (s.dev.laneState l = LaneState.aligned →
          (Rodal.threeOf Rodal.blockWord ws = true →
            Yields (.strandFrameReceived l ws t) s (b.setLane l { b.lane l with blocked := true }))
          ∧ (Rodal.threeOf Rodal.blockWord ws = false →
              (∀ f, r = .good f → s.dev.serves l = true →
                Yields (.strandFrameReceived l ws t) s (((d.fillFifo l (Rodal.bitsTaken m ws)).hear n f.hdr).goodFrame n l f t))
              ∧ (∀ f, r = .good f → s.dev.serves l = false →
                Yields (.strandFrameReceived l ws t) s (d.fillFifo l (Rodal.bitsTaken m ws)))
              ∧ (∀ f, r = .crcErr f → s.dev.serves l = true →
                Yields (.strandFrameReceived l ws t) s ((bad (Obj.LANE_CRC_ERR l) f).hear n f.hdr))
              ∧ (∀ f, r = .crcErr f → s.dev.serves l = false →
                Yields (.strandFrameReceived l ws t) s (bad (Obj.LANE_CRC_ERR l) f))
              ∧ (∀ f ok, r = .stuffErr f ok → Yields (.strandFrameReceived l ws t) s (bad (Obj.LANE_STUFF_ERR l) f))
              ∧ (∀ f ok, r = .hdrErr f ok → Yields (.strandFrameReceived l ws t) s (bad (Obj.LANE_HDR_ERR l) f))
              ∧ (r = .noSync → Yields (.strandFrameReceived l ws t) s d)))
      ∧ (s.dev.laneState l = LaneState.noSignal ∨ s.dev.laneState l = LaneState.acquire →
          Yields (.strandFrameReceived l ws t) s a)

/-- R23, R74: a drained slot whose RSP_CRC fails is counted and leaves the cell table as it is; a second copy of a response
taken already counts its flags and changes nothing else where it is the end-B copy or the first was the end-A copy. R69: each
response field leaves the module as zeros with its RSP_CRC the complement of the right one, so that it fails where no cell
writes it. The command of a position that is EMPTY or ABSENT is BLOCKED, STEP with SEQ 0 in CONFIG, and elsewhere where the
commands of its strand have none for it; that a HELD cell is sent HOLD there, any other BLOCKED, and that neither is a new
command, is the model's reading (assumption log 79). -/
def Obligations.FrameSlots : Prop :=
  (∀ (n p : Nat) (rotB : Bool) (slot : BitVec 128) (d : Dev),
     (Rodal.rspOk p (Rodal.slotRsp slot) = false → d.takeSlot n p rotB slot = d.inc (Obj.CELL_RESP_CRC_ERR (64 * n + p)))
     ∧ (Rodal.rspOk p (Rodal.slotRsp slot) = true → (d.cell (64 * n + p)).present = true →
         rotB = true ∨ (d.cell (64 * n + p)).fromA = true →
         d.takeSlot n p rotB slot = d.countFlags n (64 * n + p) (Rodal.rStatus (Rodal.slotRsp slot))))
  ∧ ((∀ p : Fin 64, Rodal.emptyResponse p = BitVec.ofNat 80 (255 - Rodal.rspCrc p 0#80))
   ∧ (∀ p : Fin 64, Rodal.rspOk p (Rodal.emptyResponse p) = false)
   ∧ (∀ (d : Dev) (n p : Nat), p < d.framePositions n → p < 64 → d.mode = Mode.config ∨ (d.strand n).bank.length ≤ p →
       let st := d.cellState (64 * n + p)
       let cmd := (d.frameCommands n)[p]?
       (st = CellState.empty ∨ st = CellState.absent → cmd = some (Rodal.mkCommand p 0 0 0 0 false false))
         ∧ (st = CellState.held →
             cmd = some (Rodal.mkCommand p 4 0 0 (Rodal.cSeq (d.cell (64 * n + p)).cmd) false false))
         ∧ (st ≠ CellState.empty → st ≠ CellState.absent → st ≠ CellState.held →
             cmd = some (Rodal.mkCommand p 0 0 0 (Rodal.cSeq (d.cell (64 * n + p)).cmd) false false)))
   ∧ ∀ (d : Dev) (n p : Nat) (w : BitVec 48), d.mode ≠ Mode.config → p < d.positions n → (d.strand n).bank[p]? = some w →
       (d.frameCommands n)[p]? = some w)

/-- R90: enumeration ends once every strand has ended its own: each configured position gets its result, and `STR_ENUM_STATE`
reads DONE, or MISMATCH where a strand has cells beyond its positions or a position is ABSENT. R93: in the modes of service a
probe is due on a strand with an ABSENT position; in BOOT and CONFIG, and where none is ABSENT, none is. R91: as a healing
window whose cycles have run out ends, each cell of the strand that is HELD and still missing becomes ABSENT; while it has
cycles left, or none has opened, nothing ends. -/
def Obligations.EnumerationJoinsAndHealing : Prop :=
  (∀ s : State, s.dev.getN Obj.STR_ENUM_STATE = 1 → s.dev.enumEnded = true →
     let d := upTo s.dev.strandCount (fun n d => (upTo (d.positions n) (Dev.enumResult n) d).setEnum n .idle) s.dev
     let absent := (List.range d.strandCount).any fun n => (d.strandCells n).any fun c => d.cellState c == CellState.absent
     let e := d.setN Obj.STR_ENUM_STATE (if d.enumBeyond = true ∨ absent = true then 3 else 2)
     Yields .enumerationComplete s { e with cyc := { e.cyc with enumOk := true } })
  ∧ (∀ (n : Fin 32) (s : State),
     let absent := (s.dev.strandCells n).any fun c => s.dev.cellState c == CellState.absent
     (2 ≤ s.dev.mode → absent = true → Yields (.joinProbe n) s (s.dev.setStrand n { s.dev.strand n with probeDue := true }))
       ∧ (s.dev.mode < 2 ∨ absent = false → Yields (.joinProbe n) s s.dev))
  ∧ (∀ (n : Fin 32) (s : State),
     ((s.dev.strand n).healLeft = 0 → (s.dev.strand n).healArmed = false →
       Yields (.healWindowExpiry n) s ((s.dev.strandCells n).foldl (fun d c =>
         if d.cellState c = CellState.held ∧ (d.cell c).present = false then d.setCellState c CellState.absent else d) s.dev))
     ∧ ((s.dev.strand n).healLeft ≠ 0 ∨ (s.dev.strand n).healArmed = true → Yields (.healWindowExpiry n) s s.dev))

/-! The cell controllers. -/

/-- R51, R65, R73, R74, R77, R84, R86: words that reach a cell, on their first pass and on a later one. A cell without power
takes nothing, and one that forwards the block pattern takes none. The training pattern goes on, and back too where the other
port is DOWN. A frame of another type goes on as it came. A CYCLE or ENUMERATE frame whose epoch does not fit is swallowed and
counted; one not seen before is taken on its first pass; one seen before is sent on with no slot changed, out of the other port
while that is UP. A trailer or stuffing that fails counts at the port; a header that fails too, its first pass marks the cell's
slot alone, and its later one is sent on. What goes out is sent in order. R73: a first pass keeps the frame's epoch and sends
the frame on, folded or not, with no slot changed but the cell's own. R84: while a cell keeps an epoch, a frame passes whose
epoch lies from 0 to 2,047 ahead of it, modulo 4,096; a cell without one takes any. -/
def Obligations.CellFrames : Prop :=
  (∀ (n : Fin 2048) (pb : Bool) (ws : List Word) (t : Nat) (v : BitVec 64) (s : State),
     let c := s.dev.ctl n
     let e := c.portError pb
     let r := Rodal.deframe (CellCtl.peek ws) ws
     let sent := fun (p : CellCtl.Pass) => p.out.foldl (fun (d : Dev) o => d.send (.cell n o.1 o.2)) (s.dev.setCtl n p.ctl)
     let both := fun (p : CellCtl.Pass) =>
       Yields (.cellFirstPass n pb ws t v) s (sent p) ∧ Yields (.cellSecondPass n pb ws t) s (sent p)
     let taken := fun (x : CellCtl) (f : Rodal.Frame) (bad : Bool) =>
       let known := Rodal.hType f.hdr = 1 ∨ Rodal.hType f.hdr = 2
       let fits := x.epochOk (Rodal.hEpoch f.hdr) (x.anyEpochNow f.hdr t)
       (known → fits = true → x.sawBefore f.hdr = none →
         Yields (.cellFirstPass n pb ws t v) s (sent (x.firstPass f bad pb t v)))
       ∧ (∀ first, known → fits = true → x.sawBefore f.hdr = some first →
         Yields (.cellSecondPass n pb ws t) s (sent (x.secondPass f bad pb t first)))
       ∧ (known → fits = false → both { ctl := { x with epochReject := true, rejects := x.rejects + 1 }, out := [] })
       ∧ (¬ known → both { ctl := x, out := [(!pb, ws)] })
     (c.powered = false ∨ c.blocking = true → both { ctl := c, out := [] })
     ∧ (c.powered = true → c.blocking = false →
         (CellCtl.isTraining ws = true → both (c.training pb ws))
         ∧ (CellCtl.isTraining ws = false →
             (∀ f, r = .good f → taken c f false)
             ∧ (∀ f, r = .crcErr f → taken e f true)
             ∧ (∀ f ok, r = .stuffErr f ok → taken e f (!ok))
             ∧ (∀ f ok, r = .hdrErr f ok →
                 (c.sawBefore f.hdr = none → Yields (.cellFirstPass n pb ws t v) s (sent (e.badPass f (!ok) pb t)))
                 ∧ (∀ first, c.sawBefore f.hdr = some first → both { ctl := e, out := [(!pb, f.line (!ok))] }))
             ∧ (r = .noSync → both { ctl := e, out := [(!pb, ws)] }))))
  ∧ (∀ (c : CellCtl) (f : Rodal.Frame) (bad pb : Bool) (t : Nat) (v : BitVec 64),
     let p := c.firstPass f bad pb t v
     let q := c.secondPass f bad pb t
     let up := if pb then c.portA else c.portB
     p.ctl.eLast = some (Rodal.hEpoch f.hdr)
       ∧ (∃ g : Rodal.Frame,
           p.out = (if Rodal.hFoldEn f.hdr = true ∧ up = false then [(pb, g.line bad), (!pb, g.line bad)] else [(!pb, g.line bad)])
             ∧ g.slots.length = f.slots.length ∧ ∀ i, c.pos ≠ some i → g.slots[i]? = f.slots[i]?)
       ∧ ∀ first, (q first).out = if up then [(!pb, f.line bad)] else [])
  ∧ (∀ (c : CellCtl) (e : Nat), e < 4096 →
     (c.eLast = none → c.epochOk e false = true)
       ∧ ∀ l, l < 4096 → c.eLast = some l →
           (c.epochOk e false = true ↔ ∃ k, k < 2048 ∧ e = (l + k) % 4096))

/-- R70–R72: the mailbox at a powered cell. NOP passes. At the target with a right REQ_CRC, READ answers 1 with the
register's content or its RESULT with the data as they came; WRITE stores a valid CFG_POS only in a BLOCKED cell (7, and 5
for an invalid one), CFG_DELAY always, and answers 4 for a read-only register and 3 for a reserved one; an operation that is
reserved answers 2; and a wrong REQ_CRC answers 6 and stores nothing. A cell that is not the target passes the mailbox. R72:
ASSIGN. An assigned cell writes its position into HOP, and answers as well where it is the target; an unassigned cell takes
MBX_POS where HOP is that of its neighbour (MBX_POS − 1 in an end-A frame, none standing for −1; MBX_POS + 1 in an end-B
frame), and answers 1 with its UID; a wrong REQ_CRC answers 6; where the hop does not fit the mailbox passes. A cell without
power does nothing. -/
def Obligations.CellMailbox : Prop :=
  (∀ (n : Fin 2048) (h m : BitVec 128) (v : BitVec 64) (s : State),
     let c := s.dev.ctl n
     let a := Rodal.mAddr m
     let x := Rodal.mData m
     let said := fun (c' : CellCtl) (r y : Nat) => (s.dev.setCtl n c').send (.mailbox n (Rodal.answer m r y))
     c.powered = true →
       Yields (.cellMbxNop n h m) s ((s.dev.setCtl n c).send (.mailbox n m))
       ∧ (c.pos = some (Rodal.hMbxPos h) → CellCtl.reqOk h m = true →
           ((c.readReg a v).1 = 1 → Yields (.cellMbxRead n h m v) s (said c 1 (c.readReg a v).2))
           ∧ ((c.readReg a v).1 ≠ 1 → Yields (.cellMbxRead n h m v) s (said c (c.readReg a v).1 x))
           ∧ (a = 0x10 → c.state = 0 → c.cfgPosOk (BitVec.ofNat 64 x) = true →
               Yields (.cellMbxWrite n h m) s (said { c with cfgPos := some (BitVec.ofNat 64 x) } 1 x))
           ∧ (a = 0x10 → c.state = 0 → c.cfgPosOk (BitVec.ofNat 64 x) = false → Yields (.cellMbxWrite n h m) s (said c 5 x))
           ∧ (a = 0x10 → c.state ≠ 0 → Yields (.cellMbxWrite n h m) s (said c 7 x))
           ∧ (a = 0x11 → Yields (.cellMbxWrite n h m) s
               (said { c with delayA := x / 2 ^ 32 % 2 ^ 32, delayB := x % 2 ^ 32 } 1 x))
           ∧ (0x30 ≤ a ∧ a ≤ 0x3F → Yields (.cellMbxWrite n h m) s
               (said { c with vendor := SMap.set 0#64 c.vendor a (BitVec.ofNat 64 x) } 1 x))
           ∧ (a ≤ 0x03 ∨ (0x20 ≤ a ∧ a ≤ 0x22) → Yields (.cellMbxWrite n h m) s (said c 4 x))
           ∧ ((0x04 ≤ a ∧ a < 0x10) ∨ (0x12 ≤ a ∧ a < 0x20) ∨ (0x23 ≤ a ∧ a < 0x30) ∨ 0x40 ≤ a →
               Yields (.cellMbxWrite n h m) s (said c 3 x))
           ∧ Yields (.cellMbxBadOp n h m) s (said c 2 x))
       ∧ (c.pos = some (Rodal.hMbxPos h) → CellCtl.reqOk h m = false →
           Yields (.cellMbxRead n h m v) s (said c 6 x) ∧ Yields (.cellMbxWrite n h m) s (said c 6 x)
             ∧ Yields (.cellMbxBadOp n h m) s (said c 6 x))
       ∧ (c.pos ≠ some (Rodal.hMbxPos h) →
           Yields (.cellMbxRead n h m v) s ((s.dev.setCtl n c).send (.mailbox n m))
             ∧ Yields (.cellMbxWrite n h m) s ((s.dev.setCtl n c).send (.mailbox n m))
             ∧ Yields (.cellMbxBadOp n h m) s ((s.dev.setCtl n c).send (.mailbox n m))))
  ∧ (∀ (n : Fin 2048) (h m : BitVec 128) (s : State),
     let c := s.dev.ctl n
     let p := Rodal.hMbxPos h
     let hop : Int := if Rodal.mHop m = 0x3F then -1 else Rodal.mHop m
     let fits := (p : Int) = if Rodal.hRotB h = true then hop - 1 else hop + 1
     let said := fun (c' : CellCtl) (y : BitVec 128) => (s.dev.setCtl n c').send (.mailbox n y)
     c.powered = true →
       (∀ q, c.pos = some q →
         let y := Rodal.setFld m 24 6 q
         (q ≠ p → Yields (.cellMbxAssign n h m) s (said c y))
         ∧ (q = p → CellCtl.reqOk h m = true → Yields (.cellMbxAssign n h m) s (said c (Rodal.answer y 1 c.uid.toNat)))
         ∧ (q = p → CellCtl.reqOk h m = false → Yields (.cellMbxAssign n h m) s (said c (Rodal.answer y 6 (Rodal.mData y)))))
       ∧ (c.pos = none → fits → CellCtl.reqOk h m = true →
           Yields (.cellMbxAssign n h m) s
             (said { c with pos := some p } (Rodal.answer (Rodal.setFld m 24 6 p) 1 c.uid.toNat)))
       ∧ (c.pos = none → fits → CellCtl.reqOk h m = false →
           Yields (.cellMbxAssign n h m) s (said c (Rodal.answer m 6 (Rodal.mData m))))
       ∧ (c.pos = none → ¬ fits → Yields (.cellMbxAssign n h m) s (said c m)))
  ∧ (∀ (n : Fin 2048) (h m : BitVec 128) (v : BitVec 64) (s : State), (s.dev.ctl n).powered = false →
     Yields (.cellMbxNop n h m) s s.dev ∧ Yields (.cellMbxRead n h m v) s s.dev ∧ Yields (.cellMbxWrite n h m) s s.dev
       ∧ Yields (.cellMbxAssign n h m) s s.dev ∧ Yields (.cellMbxBadOp n h m) s s.dev)

/-- R77, R78: a powered cell without a latched fault executes, at each instant, the oldest of its accepted commands that the
instant is for; it then waits no longer, but a PULSE with an OFFSET for its second part. STEP takes its state at A_k, DELAYED at
A_k + OFFSET, PULSE takes it at A_k and BYPASS at A_k + OFFSET; any state but BLOCKED comes t_mti after the last transition at
the earliest, the delay is reported in EDGE_DELAY; HOLD keeps the state, and so does a command to the state in effect, and any
command of a BLOCKED cell with a latched fault. R68, R78, R83, R85: a cell latches a fault of its own, and BLOCK_PATTERN, and is
BLOCKED at once; HOLD_TIMEOUT once H cycles without a frame have passed, in a cell that has CFG_POS; the block pattern is sent on
until it ends. CLEAR_FAULT in an accepted command clears the fault where its cause is absent and not where it is present;
CLOSE_BYPASS in two accepted commands closes the switch, and latches BYPASS_FAIL where it does not close. A cell without power
does nothing. -/
def Obligations.CellCommandsAndFaults : Prop :=
  (∀ (n : Fin 2048) (detect : Nat) (x : CellCmd) (s : State),
     let c := s.dev.ctl n
     let st := Rodal.cState x.word
     let off := Rodal.cOffset x.word
     let is := fun (e : Nat) (w : BitVec 48) => Rodal.cEdge w == e && decide (Rodal.cState w ≤ 3)
     let left := fun (e : Nat) => ({ c with cmds := c.cmds.eraseP fun y => is e y.word } : CellCtl)
     let oldest := fun (e : Nat) => c.cmds.find? (fun y => is e y.word) = some x
     let moved := fun (b : CellCtl) (dst : Nat) (t : Int) =>
       let u := if dst = 0 then t else max t (c.lastMove + c.mti)
       if dst = c.state then b
       else { b with state := dst, lastMove := u, edgeDelay := min 0xFFFE ((u - t).toNat + detect) }
     c.powered = true →
       (c.fault = 0 →
         (oldest 0 → Yields (.cellCmdStep n detect) s (s.dev.putCtl n (moved (left 0) st x.ak)))
         ∧ (oldest 1 → Yields (.cellCmdDelayed n detect) s (s.dev.putCtl n (moved (left 1) st (x.ak + off))))
         ∧ (oldest 2 → off ≠ 0 →
             Yields (.cellCmdPulse n false detect) s (s.dev.putCtl n (moved c st x.ak))
               ∧ Yields (.cellCmdPulse n true detect) s (s.dev.putCtl n (moved (left 2) 1 (x.ak + off))))
         ∧ (oldest 2 → off = 0 →
             ∀ o, Yields (.cellCmdPulse n o detect) s (s.dev.putCtl n (moved (left 2) 1 x.ak))))
       ∧ (c.fault ≠ 0 → c.state = 0 →
         (oldest 0 → Yields (.cellCmdStep n detect) s (s.dev.putCtl n (left 0)))
         ∧ (oldest 1 → Yields (.cellCmdDelayed n detect) s (s.dev.putCtl n (left 1)))
         ∧ (oldest 2 → Yields (.cellCmdPulse n true detect) s (s.dev.putCtl n (left 2))))
       ∧ Yields (.cellCmdHold n) s (s.dev.putCtl n { c with cmds := c.cmds.eraseP fun y => Rodal.cState y.word == 4 }))
  ∧ (∀ (n : Fin 2048) (t : Nat) (s : State),
     let c := s.dev.ctl n
     let latched := fun (b : CellCtl) (code : Nat) =>
       { b with fault := code, faultLog := (code :: b.faultLog).take 8, state := 0,
                lastMove := if b.state = 0 then b.lastMove else t }
     let h := c.countMissed t
     c.powered = true →
       (∀ code : Fin 256, Yields (.cellFaultLatch ⟨n, t⟩ code) s (s.dev.putCtl n (latched c code)))
       ∧ (∀ w, c.cfgPos = some w →
           (CellCtl.cfgHold w ≤ h.missed → Yields (.cellHoldTimeout ⟨n, t⟩) s (s.dev.putCtl n (latched h 0x06)))
             ∧ (h.missed < CellCtl.cfgHold w → Yields (.cellHoldTimeout ⟨n, t⟩) s (s.dev.putCtl n h)))
       ∧ (c.cfgPos = none → Yields (.cellHoldTimeout ⟨n, t⟩) s (s.dev.putCtl n h))
       ∧ Yields (.cellBlockPatternDetect ⟨n, t⟩) s (s.dev.putCtl n { latched c 0x07 with blocking := true })
       ∧ Yields (.cellBlockPatternEnd n) s (s.dev.putCtl n { c with blocking := false })
       ∧ (c.clearReq = true →
           Yields (.clearFault n false) s (s.dev.putCtl n { c with clearReq := false, fault := 0 })
             ∧ Yields (.clearFault n true) s (s.dev.putCtl n { c with clearReq := false }))
       ∧ (c.clearReq = false → ∀ b, Yields (.clearFault n b) s (s.dev.putCtl n c))
       ∧ (c.closeReady = true →
           Yields (.closeBypass ⟨n, t⟩ true) s (s.dev.putCtl n { c with bypassClosed := true, closeReady := false })
             ∧ Yields (.closeBypass ⟨n, t⟩ false) s (s.dev.putCtl n { latched c 0x08 with closeReady := false }))
       ∧ (c.closeReady = false → ∀ b, Yields (.closeBypass ⟨n, t⟩ b) s (s.dev.putCtl n c)))
  ∧ (∀ (n : Fin 2048) (t v : Nat) (b : Bool) (code : Fin 256) (s : State), (s.dev.ctl n).powered = false →
     Yields (.cellCmdStep n t) s s.dev ∧ Yields (.cellCmdDelayed n t) s s.dev ∧ Yields (.cellCmdPulse n b t) s s.dev
       ∧ Yields (.cellCmdHold n) s s.dev ∧ Yields (.cellFaultLatch ⟨n, t⟩ code) s s.dev ∧ Yields (.cellHoldTimeout ⟨n, t⟩) s s.dev
       ∧ Yields (.cellBlockPatternDetect ⟨n, t⟩) s s.dev ∧ Yields (.cellBlockPatternEnd n) s s.dev
       ∧ Yields (.clearFault n b) s s.dev ∧ Yields (.closeBypass ⟨n, t⟩ b) s s.dev ∧ Yields (.cellSampleInstant n v t) s s.dev)

/-- R76, R79, R83, R84: at its sample instant a powered cell latches its voltage, temperature and state, and predicts the next a
Tc later; a port goes DOWN with defect words unless defect words brought it down, and returns UP; power-up leaves a cell
unassigned, without CFG_POS, epoch, command or fault, BLOCKED, both ports sending defect words, whatever it was before. R83: the
cycles without a frame taken in count at the predicted T_k, from the T_k of the last frame taken in; the first of them enters
HOLDING and counts a hold. -/
def Obligations.CellSamplesPortsPower : Prop :=
  (∀ (n : Fin 2048) (s : State),
    let c := s.dev.ctl n
    (c.powered = true →
      (∀ v t : Nat, Yields (.cellSampleInstant n v t) s
        (s.dev.putCtl n { c.countMissed c.sk with vcap := v % 65536, temp := t % 256, applied := c.state,
                                                  sk := c.sk + c.tcOf }))
      ∧ (∀ byDefect : Bool,
          Yields (.cellPortDown n true byDefect) s (s.dev.putCtl n { c with portB := false, defectB := !byDefect })
            ∧ Yields (.cellPortDown n false byDefect) s (s.dev.putCtl n { c with portA := false, defectA := !byDefect }))
      ∧ Yields (.cellPortUp n true) s (s.dev.putCtl n { c with portB := true, defectB := false })
      ∧ Yields (.cellPortUp n false) s (s.dev.putCtl n { c with portA := true, defectA := false }))
    ∧ (c.powered = false →
        ∀ b, Yields (.cellPortUp n b) s s.dev ∧ ∀ byDefect : Bool, Yields (.cellPortDown n b byDefect) s s.dev)
    ∧ ∀ uid c0 c1 c2 : BitVec 64,
        let p := CellCtl.powerUp uid c0 c1 c2
        Yields (.cellPowerUp n uid c0 c1 c2) s (s.dev.putCtl n p)
          ∧ p.powered = true ∧ p.uid = uid ∧ p.cap0 = c0 ∧ p.cap1 = c1 ∧ p.cap2 = c2 ∧ p.pos = none ∧ p.cfgPos = none
          ∧ p.eLast = none ∧ p.cmds = [] ∧ p.fault = 0 ∧ p.state = 0 ∧ p.delayA = 0xFFFFFFFF ∧ p.delayB = 0xFFFFFFFF
          ∧ p.defectA = true ∧ p.defectB = true)
  ∧ (∀ (c : CellCtl) (t t0 : Int), c.tTaken = some t0 → 0 < c.tcOf →
     let k := ((t - t0) / (c.tcOf : Int) - 1).toNat
     (k ≤ c.missed → c.countMissed t = c)
       ∧ (c.missed < k → (c.countMissed t).missed = k ∧ (c.countMissed t).holding = true
           ∧ (c.countMissed t).holds = if c.missed = 0 then c.holds + 1 else c.holds))

/-! Objects and writes: access, acceptance, refusal, and the boundary at which a write takes effect. -/

/-- R460: to every writer and reader below Service an object index from 0xC000 on is refused with ROLE, whatever its
subindex, on a read and on a write, before any check of its existence; to Service an index:sub without an object answers
NO_OBJECT or NO_SUB and one with an object exists; and what is written there is logged as every write is. -/
def Obligations.VendorRangeNeedsService : Prop :=
  ∀ (d t : Dev) (m : List Host.Cell) (w : Writer) (rt : Rights) (e : Entry) (core : Option Nat) (role sub ix : Nat), 0xC000 ≤ ix →
    (role < URole.service → d.objAt role ix sub = .error Status.role)
      ∧ (role < URole.service → (d.readObj m role core ix sub).1.1 = Status.role)
      ∧ (rt.role < URole.service → e.index = ix → d.entryStatus w rt e t = (Status.role, t))
      ∧ (Config.serviceObject ix sub = 0 → d.objAt URole.service ix sub = .error Status.noObject)
      ∧ (Config.serviceObject ix sub = 1 → d.objAt URole.service ix sub = .error Status.noSub)
      ∧ (2 ≤ Config.serviceObject ix sub → ∃ r, d.objAt URole.service ix sub = .ok r)
      ∧ ∀ (org : Origin) (v : Val), sub < 256 →
          ∃ (x : Dev) (old : Val), d.applyEntry org { key := ix * 256 + sub, val := v, inst := none }
            = (x.logWrite org (ix * 256 + sub) old v).written org (ix * 256 + sub) old v

/-- R461: on a ZA7140-B the groups of the phasor engine (0x5000–0x53FF) and of fault location (0x4E00–0x4FFF) answer
NO_OBJECT to everyone; every other index:sub answers alike on both ordering codes. -/
def Obligations.OrderingCodeB : Prop :=
  ∀ (d : Dev) (role ix sub : Nat),
    let b := d.set Obj.ID_ORDER_CODE 1
    let f := d.set Obj.ID_ORDER_CODE 0
    ((0x5000 ≤ ix ∧ ix < 0x5400) ∨ (0x4E00 ≤ ix ∧ ix < 0x5000) → b.objAt role ix sub = .error Status.noObject)
      ∧ (¬ ((0x5000 ≤ ix ∧ ix < 0x5400) ∨ (0x4E00 ≤ ix ∧ ix < 0x5000)) → b.objAt role ix sub = f.objAt role ix sub)

/-- R351: the checks of one entry in their order: an object that does not exist answers as step 1 says; a read-only one
READ_ONLY; a role too low ROLE; another type TYPE; a value out of its type or range RANGE, or TOO_LONG; a STOPPED object of a
block that runs STATE. Each holds whatever the later steps would say, and leaves the module as it is but for the two counts
that a refused lock-out reset and a mode request keep. R32, R351, R369: the write of every row that writes an object, and of
OBJECT_WRITE, by an open session with a new sequence number or by a task core with no group open (a core's LE_LOCAL_GROUP:
`Obligations.LocalWindows`). Where its checks pass and
the object is not held (RESTART), it is accepted: it waits, as one group, for the first boundary at least 1 µs later, after
those accepted before it; a mode request and a software step are noted as such. Nothing else of the checked module changes.
R351, R362, R369, R146: the same writes where a check refuses them. A session is answered at once with the status, and the
answer is kept; a core finds the status in its local window; nothing waits. -/
def Obligations.WritesAreChecked : Prop :=
  (∀ (d t : Dev) (w : Writer) (rt : Rights) (e : Entry),
     let k := entryKey e
     (∀ x, t.objAt rt.role e.index e.sub = .error x → d.entryStatus w rt e t = (x, t))
     ∧ ∀ r, t.objAt rt.role e.index e.sub = .ok r →
         (r.acc = .ro → d.entryStatus w rt e t = (Status.readOnly, t))
         ∧ (r.acc ≠ .ro → ¬ (0x5400 + 960 ≤ e.index ∧ e.index < 0x5800) →
             (rt.role < r.role → k ≠ Obj.BW_LOR → d.entryStatus w rt e t = (Status.role, t))
             ∧ (r.role ≤ rt.role →
                 (e.type ≠ r.type.code → d.entryStatus w rt e t = (Status.type, t))
                 ∧ (e.type = r.type.code →
                     (t.rangeStatus r e.index e.sub e.val ≠ Status.ok →
                       d.entryStatus w rt e t = (t.rangeStatus r e.index e.sub e.val, t))
                     ∧ (t.rangeStatus r e.index e.sub e.val = Status.ok → Dev.isMirror w = false → r.cls = .stopped →
                         d.ownerStopped e.index = false → k ≠ Obj.SYS_MODE_REQ →
                         d.entryStatus w rt e t = (Status.state, t))))))
  ∧ (∀ (c : Instr) (s : State) (w : Writer) (e : Entry) (d : Dev) (rt : Rights),
     writeOf c = some (w, e) → s.asks w = some d → d.rights w = some rt →
     (∀ k, w = .core k → entryKey e ≠ Obj.LE_LOCAL_GROUP) →
     let v := d.checkGroup w rt [e]
     v.1.status = Status.ok → v.2.isHeld rt.role e = false →
     Yields c s (({ v.2 with host := { v.2.host with groups := v.2.host.groups ++ [groupOf v.2 w rt e],
                                                     nextGroup := v.2.host.nextGroup + 1 } } : Dev).accepted e))
  ∧ (∀ (c : Instr) (s : State) (w : Writer) (e : Entry) (d : Dev) (rt : Rights),
     writeOf c = some (w, e) → s.asks w = some d → d.rights w = some rt →
     (∀ k, w = .core k → entryKey e ≠ Obj.LE_LOCAL_GROUP) →
     let v := d.checkGroup w rt [e]
     v.1.status ≠ Status.ok →
     (∀ n seq, w = .session n seq → Yields c s (v.2.respond n seq 0x11 v.1.status []))
       ∧ ∀ k, w = .core k →
           Yields c s (v.2.setWin k { v.2.win k with status := v.1.status, seconds := 0, cycle := 0xFFFFFFFF }))

/-- R32, R370: at a boundary the groups due take effect in the order of acceptance. A group accepted less than 1 µs before
waits; one that is due takes effect whole, and the pulse generators it wrote follow (R209); of two that are due together and
exceed C_w objects the first takes effect and the second is deferred and waits. R31: a deferred group counts at rank 8 as it
takes effect. The events of the boundary follow the routing that stood before it (R422), which is kept until the clock ends.
R369: a group that took effect is acknowledged once: the session that wrote
it, while it is still open, is answered OK with the second and cycle of the boundary and the number of objects; a core finds
them in its local window; a session that has closed gets nothing (Table 15-6). -/
def Obligations.GroupsTakeEffect : Prop :=
  ((∀ (d : Dev) (sec cycle : Nat) (g : Sys2Proof.Machine.Group), g.due = none →
     (d.groupDue sec cycle g = true ↔ g.accepted + 1000 * nsUnit ≤ d.tm.mono))
   ∧ (∀ d : Dev, (∀ g ∈ d.host.groups, d.groupDue d.second (d.getN Obj.CYC_INDEX) g = false) →
       d.applyGroups = { d with fm := { d.fm with routes := [] } })
   ∧ (∀ (d : Dev) (g : Sys2Proof.Machine.Group), d.host.groups = [g] → d.groupDue d.second (d.getN Obj.CYC_INDEX) g = true →
       g.entries.length ≤ d.cw →
       let keys := g.entries.map (·.key)
       let routes := (keys.filter Dev.routeKey).map fun k => (k, d.getN k)
       d.applyGroups
         = (({ d with host := { d.host with groups := [] }, fm := { d.fm with routes := routes } } : Dev).applyGroup d.second
             (d.getN Obj.CYC_INDEX) g).pulsesFollow keys)
   ∧ (∀ (d : Dev) (g h : Sys2Proof.Machine.Group), d.host.groups = [g, h] →
       d.groupDue d.second (d.getN Obj.CYC_INDEX) g = true → d.groupDue d.second (d.getN Obj.CYC_INDEX) h = true →
       g.entries.length ≤ d.cw → d.cw < g.entries.length + h.entries.length →
       let keys := g.entries.map (·.key)
       let routes := (keys.filter Dev.routeKey).map fun k => (k, d.getN k)
       d.applyGroups
         = (({ d with host := { d.host with groups := [{ h with deferred := true }] }, fm := { d.fm with routes := routes } }
             : Dev).applyGroup d.second (d.getN Obj.CYC_INDEX) g).pulsesFollow keys)
   ∧ ∀ (d : Dev) (g : Sys2Proof.Machine.Group) (sec cycle : Nat), g.deferred = true →
       d.applyGroup sec cycle g = (d.broken 8).applyGroup sec cycle { g with deferred := false })
  ∧ (∀ (g : Sys2Proof.Machine.Group) (sec cycle : Nat) (d : Dev),
     (∀ n seq, g.writer = .session n seq →
       (d.sesOpen n = true → d.getN (Obj.SES_ID n) = g.org.originId →
         d.ackGroup g sec cycle = d.respond n seq g.opcode Status.ok
           (bytesBE 8 sec ++ bytesBE 4 cycle ++ bytesBE 2 g.objects ++ [0#8, 0#8]))
       ∧ (d.sesOpen n = false ∨ d.getN (Obj.SES_ID n) ≠ g.org.originId → d.ackGroup g sec cycle = d))
     ∧ ∀ c, g.writer = .core c →
       d.ackGroup g sec cycle
         = d.setWin c { d.win c with status := Status.ok, seconds := sec % 4294967296, cycle := cycle })

/-- R50: LANE_BITSLIP and LANE_RX_INVERT have apply class LIVE. A write of 1 to LANE_BITSLIP, or of either value to
LANE_RX_INVERT, by an Engineer or higher or a core passes its checks exactly while the lane is UNALIGNED, and is refused with
STATE else. At its boundary a slip moves the position by one modulo 32 and an inversion takes effect, both flags cleared, in
every state but ALIGNED, and the runs of words counted begin anew; in ALIGNED the position and polarity stay and
LANE_SLIP_DROPPED counts. -/
def Obligations.SlipsAndInversions : Prop :=
  ∀ l : Fin 32,
    (∀ k, k = 6 ∨ k = 7 → ∃ r, objRow? (0x2100 + l) k = some r ∧ r.cls = .live)
    ∧ (∀ (d : Dev) (w : Writer) (rt : Rights) (x : Int), Dev.isMirror w = false → URole.engineer ≤ rt.role →
        d.host.logLimit = false → d.standby = false →
        (d.checkGroup w rt [cmdEntry (Obj.LANE_BITSLIP l) (.num 1)]).1.status
            = (if d.laneState l = LaneState.unaligned then Status.ok else Status.state)
        ∧ (x = 0 ∨ x = 1 →
            (d.checkGroup w rt [cmdEntry (Obj.LANE_RX_INVERT l) (.num x)]).1.status
              = (if d.laneState l = LaneState.unaligned then Status.ok else Status.state)))
    ∧ ∀ (d : Dev) (org : Origin) (old : Val) (x : Nat),
        let p := d.getN (Obj.LANE_SLIP_POS l)
        (d.laneState l ≠ LaneState.aligned →
          d.written org (Obj.LANE_BITSLIP l) old (.num 1)
              = ((d.setN (Obj.LANE_SLIP_POS l) ((p + 1) % 32)).set (Obj.LANE_SYNC_SEEN l) 0).setLane l (Dev.restartLane (d.lane l))
          ∧ d.written org (Obj.LANE_RX_INVERT l) old (.num x)
              = ((d.set (Obj.LANE_RX_INVERT l) x).set (Obj.LANE_SYNC_SEEN l) 0).setLane l (Dev.restartLane (d.lane l)))
        ∧ (d.laneState l = LaneState.aligned →
          d.written org (Obj.LANE_BITSLIP l) old (.num 1) = d.inc (Obj.LANE_SLIP_DROPPED l)
          ∧ d.written org (Obj.LANE_RX_INVERT l) old (.num x) = d.inc (Obj.LANE_SLIP_DROPPED l))

/-! Modes and faults. -/

/-- R426, Table 18-6: a mode request is refused with STATE and its code and detail: 6 at a STANDBY, 1 where Table 18-5 has no
such transition (LOCKOUT leaves by no request, CONFIG never straight to RUN), 4 for CHARGE and RUN while `FM_LEVEL` is 2 or
higher, 5 for RUN while the time base is INVALID, 8 for RUN while a software step waits; one that passes outside CONFIG is
accepted, code 0. On leaving CONFIG the program is validated first and a failed check is code 2 with the object; RUN leaves no
CONFIG. R425, R427, R428, R432, R433, R436: what the writes of modes and faults do at their boundary. An accepted mode request
changes the mode, with event 151, its time and an L0 record, unless LOCKOUT has come (code 7) or Table 18-5 no longer has it
(code 1). `SYS_RELEASE` ends LOCKOUT where its number is the sequence, no L4 cause is present and Breakwater is not latched, and
does nothing else. `SYS_RESET` makes a reset due, from its time on. `SYS_CONFIG_SAVE` stores every writable object but key
material and the safety set, with those that were written at their default. `FM_FIRST_CLEAR` empties the first fault. `FM_ACK`
makes a record whose cause is absent acknowledged and inactive, and leaves every other record. -/
def Obligations.ModeWrites : Prop :=
  (∀ (d : Dev) (t : Nat),
     let said := fun (code detail : Nat) (e : Dev) => (e.setN Obj.SYS_MODE_REFUSAL code).setN Obj.SYS_MODE_DETAIL detail
     let no := fun (code : Nat) => (Status.state, said code 0xFFFFFFFF d)
     (d.standby = true → d.modeRequest t = no 6)
     ∧ (d.standby = false →
         (d.mode = Mode.lockout ∨ d.mode = Mode.boot ∨ (d.mode = Mode.config ∧ t = Mode.run) ∨ (d.mode = Mode.run ∧ t ≠ Mode.ready) →
           d.modeRequest t = no 1)
         ∧ (modeAllowed d.mode t = true →
             (t = Mode.charge ∨ t = Mode.run → 2 ≤ d.getN Obj.FM_LEVEL → d.modeRequest t = no 4)
             ∧ (t = Mode.run → d.getN Obj.FM_LEVEL < 2 → d.getN Obj.TB_STATE = 0 → d.modeRequest t = no 5)
             ∧ (t = Mode.run → d.getN Obj.FM_LEVEL < 2 → d.getN Obj.TB_STATE ≠ 0 → 0 < d.ptp.softDue → d.modeRequest t = no 8)
             ∧ (d.modeBlocked t = 0 → d.mode ≠ Mode.config → d.modeRequest t = (Status.ok, said 0 0xFFFFFFFF d))
             ∧ (d.modeBlocked t = 0 → d.mode = Mode.config → ∀ k, d.devLeValidate.leaveCheck = some k →
                 d.modeRequest t = (Status.state, said 2 k d.devLeValidate)))))
  ∧ (∀ (d : Dev) (org : Origin) (old : Val),
     (d.standby = false → ∀ t : Fin 16,
       let e : Dev := { d with fm := { d.fm with requests := d.fm.requests.erase t } }
       let said := fun (code : Nat) => (e.setN Obj.SYS_MODE_REFUSAL code).setN Obj.SYS_MODE_DETAIL 0xFFFFFFFF
       let moved := (((e.setN Obj.SYS_MODE t).set Obj.SYS_MODE_SINCE e.now96).fmEvent 151 t).storeRec 151 0 0 t 0 false
       let made := d.written org Obj.SYS_MODE_REQ old (.num (t : Nat))
       (d.mode = Mode.lockout → made = said 7)
         ∧ (d.mode ≠ Mode.lockout → modeAllowed d.mode t = false → made = said 1)
         ∧ (modeAllowed d.mode t = true → made = ((moved.armRefresh 0).armRefresh 1).healthRefresh))
     ∧ (d.standby = false → ∀ v : Int,
         let met := v = d.get Obj.SYS_LOCKOUT_SEQ ∧ d.l4Cause = false ∧ d.mode = Mode.lockout ∧ d.on Obj.BW_STATE = false
         (met → d.written org Obj.SYS_RELEASE old (.num v) = d.releaseLockout)
           ∧ (¬ met → d.written org Obj.SYS_RELEASE old (.num v) = d))
     ∧ d.written org Obj.SYS_RESET old (.num 1) = { d with fm := { d.fm with resetDue := true, resetAt := d.tm.mono } }
     ∧ (d.held = [] → d.written org Obj.SYS_CONFIG_SAVE old (.num 1)
         = { d with host := { d.host with storedNum := (d.objs.filter fun x => d.storedKey x.1) ++ d.writtenDefaults,
                                          storedBytes := d.blobs.filter fun x => d.storedKey x.1, stored := true } })
     ∧ d.written org Obj.FM_FIRST_CLEAR old (.num 1) = { d with fm := { d.fm with first := none } }
     ∧ ∀ n : Nat, n < 0xFFFFFFFF →
         let e := d.written org Obj.FM_ACK old (.num n)
         e.fm.queue = d.fm.queue.map fun r =>
           if r.number = n ∧ r.cause = false ∧ r.level ≠ 4 then { r with acked := true, active := false } else r)

/-- R431, R432, R425: a fault is counted and numbered; its record takes a free one of 32 entries, else that of the oldest
inactive record, else it is lost and counted in `FM_OVERFLOW` with its level kept. Records of one clock, that is of one
command (the model's reading, assumption log 70), stand in ascending code: a record is the last and takes the next number when
none of its clock has a greater code. The first record of level 1 or higher is
kept as the first fault until it is emptied. A level 4 fault takes every mode but BOOT and LOCKOUT to LOCKOUT, counting the
sequence; in BOOT it sets the lock-out-pending flag; in LOCKOUT it is recorded alone. R92: the count of an arm group is that
of its cells that are ABSENT, JOINING, FAULTED or BYPASSED; above N_red it raises an L3 arm block with cause on that group,
once while the cause stands, and at or below N_red the cause is gone. -/
def Obligations.FaultsAreRecorded : Prop :=
  (∀ (d : Dev) (code level arms source detail : Nat) (cause : Bool),
     let n := (d.inc Obj.FM_RECORDS).getN Obj.FM_RECORDS
     let e := d.storeRec code level arms source detail cause
     (d.fm.queue.length < 32 → (∀ x ∈ d.fm.queue, d.fm.clk < x.number → x.code ≤ code)
         → (∀ x, d.fm.first = some x → d.fm.clk < x.number → x.code ≤ code) →
       ∃ r : FaultRec, r.number = n ∧ r.code = code ∧ r.level = level ∧ r.arms = arms ∧ r.detail = detail ∧ r.cause = cause
         ∧ r.source = source % 65536 ∧ r.acked = false ∧ r.active = activeOf level cause ∧ r.time = d.now96
         ∧ e.fm.queue = d.fm.queue ++ [r]
         ∧ e.fm.first = (if 1 ≤ level ∧ d.fm.first = none then some { r with active := true, cause := true } else d.fm.first))
     ∧ (d.fm.queue.length < 32 →
         let later := behind d.fm.clk code
         e.fm.queue.map (·.code)
           = (d.fm.queue.filter fun x => !later x).map (·.code) ++ code :: (d.fm.queue.filter later).map (·.code))
     ∧ (32 ≤ d.fm.queue.length → (∀ r ∈ d.fm.queue, r.active = true) →
         e.fm.queue = d.fm.queue ∧ e.fm.first = d.fm.first
           ∧ e.getN Obj.FM_OVR_LEVEL = max 1 (max (d.getN Obj.FM_OVR_LEVEL) level))
     ∧ (level ≠ 4 → d.raiseFault code level arms source detail cause = e)
     ∧ (level = 4 →
         (e.mode = Mode.boot → d.raiseFault code level arms source detail cause
           = { e with fm := { e.fm with bootL4 := true, nvLockout := true } })
         ∧ (e.mode = Mode.lockout → d.raiseFault code level arms source detail cause = e)
         ∧ (e.mode ≠ Mode.boot → e.mode ≠ Mode.lockout →
             let x := d.raiseFault code level arms source detail cause
             x.mode = Mode.lockout ∧ x.get Obj.SYS_LOCKOUT_SEQ = (e.get Obj.SYS_LOCKOUT_SEQ + 1) % 65536 ∧ x.fm.nvLockout = true)))
  ∧ (∀ (a : Nat) (d : Dev),
     let n := ((d.armCells a).filter fun c =>
       [CellState.absent, CellState.joining, CellState.faulted, CellState.bypassed].contains (d.cellState c)).length
     (d.getN (Obj.MOD_N_RED a) < n → d.hasCause 0x0100 a = false →
         d.checkNRed a = d.raiseFault 0x0100 3 (2 ^ a) a n true)
       ∧ (d.getN (Obj.MOD_N_RED a) < n → d.hasCause 0x0100 a = true → d.checkNRed a = d)
       ∧ (n ≤ d.getN (Obj.MOD_N_RED a) → d.checkNRed a = d.clearCause 0x0100 a))

/-! What the writes of the blocks do at their boundary, `d` being the module with the value in force. -/

/-- R66, R73, R89, R101, R131, R145, R161, R167, R188: strands, modulation, loop engine and supervision. An ENUMERATE starts
one on every strand with positions; a mailbox request waits for its strand; a join permission lets the cell that waits for
one go on; `MOD_ARM_ENABLE` brings its arm group to the state of Table 04-1; `LE_VALIDATE` publishes the state, error and
schedule of the program; `LE_RESET` brings an instance to its INIT values and is reported at the next run; `REP_CLEAR`
empties a channel's memory; `SUP_PEAK_CLEAR` clears the three peaks; `DIAG_RUN` starts the units that are idle. -/
def Obligations.StrandAndLoopWrites : Prop :=
  ∀ (d : Dev) (org : Origin) (old : Val),
    (let e := d.written org Obj.STR_ENUM_CMD old (.num 1)
     e.getN Obj.STR_ENUM_STATE = 1 ∧ e.cyc.enumOk = false
       ∧ ∀ s : Fin 32, (e.strand s).txn = none
           ∧ (e.strand s).enum = (if s < d.strandCount ∧ 0 < d.positions s then .assign 0 else .idle))
    ∧ (∀ (s : Fin 32) (b : List Byte), b.length = 12 →
        d.written org (Obj.STR_MBX_REQ s) old (.bytes b)
          = d.setStrand s { d.strand s with
              software := some ((b.getD 0 0#8).toNat % 64, (b.getD 1 0#8).toNat % 16, (b.getD 2 0#8).toNat,
                                natLE ((b.drop 3).take 8)) })
    ∧ (∀ n : Fin 2048, (d.cell n).turn = some .waitManual →
        d.written org (Obj.CELL_JOIN n) old (.num 1) = (d.setCell n { d.cell n with turn := some (.caps 0) }).nextJoin (n.val / 64))
    ∧ (∀ (a : Fin 2) (v : Int),
        d.written org (Obj.MOD_ARM_ENABLE a) old (.num v) = (d.setModEng a { d.modEng a with written := true }).armRefresh a)
    ∧ (let e := d.written org Obj.LE_VALIDATE old (.num 1)
       e = d.devLeValidate
         ∧ e.getN Obj.LE_PROG_STATE = (if d.leInsts = [] then 0 else if d.leCheck.1 = 0 then 1 else 2)
         ∧ e.getN Obj.LE_PROG_ERR = d.leCheck.1 ∧ e.getN Obj.LE_PROG_ERR_INST = d.leCheck.2
         ∧ e.getN Obj.LE_L_SCHED = Dev.lSched d.leSchedule)
    ∧ (∀ i : Fin 512, d.leType i ≠ 0x1E →
        let e := d.written org (Obj.LE_RESET i) old (.num 1)
        e.loop.resets = (d.initInst i).loop.resets ++ [i.val] ∧ e.objs = (d.initInst i).objs)
    ∧ (∀ c : Fin 16, d.written org (Obj.REP_CLEAR c) old (.num 1) = d.setRep c { d.rep c with mem := [], stage := none })
    ∧ d.written org Obj.SUP_PEAK_CLEAR old (.num 1)
        = ((d.set Obj.SUP_LOOP_END_MAX 0).set Obj.SUP_MOD_END_MAX 0).set Obj.SUP_COMMIT_END_MAX 0
    ∧ ∀ v : Int, d.written org Obj.DIAG_RUN old (.num v) = (d.diagStart 0).diagStart 1

/-- R221, R224, R229, R238, R254, R255, R283, R293: Tidepool, travelling waves, tasks and the sequencer. ARM takes the lowest
free record slot with `TP_POST` latched; STOP discards the record in progress; FORCE is kept by an ARMED or READY pool; a
release frees an unlocked record, and a FULL pool goes on with it. A remote arrival of another line or of this end is rejected,
counted, with event 111. A task that is enabled waits with its dependencies at their start and its instants armed; one that is
disabled leaves the queue, or, running, is disabled as it ends. The sequencer's VALIDATE publishes error and instance and keeps
a valid program, START runs it from fresh data, STOP ends its task. -/
def Obligations.TideTaskAndSequencerWrites : Prop :=
  ∀ (d : Dev) (org : Origin) (old : Val),
    (∀ p : Fin 4,
      let x := d.pool p
      let st := d.getN (Obj.TP_STATE p)
      (∀ s, d.tpArmStatus p = 0 → d.tpFreeSlot p = some s →
        d.written org (Obj.TP_CMD p) old (.num 1)
          = (d.setPool p { x with post := d.getN (Obj.TP_POST p), force := false, recent := [] }).tpTake p s)
      ∧ (st ≠ TpState.idle → st ≠ TpState.done →
          d.written org (Obj.TP_CMD p) old (.num 2)
            = (d.setPool p { TpPool.init with recs := x.recs, post := x.post }).setN (Obj.TP_STATE p) TpState.idle)
      ∧ (st = TpState.armed ∨ st = TpState.ready → d.written org (Obj.TP_CMD p) old (.num 3) = d.setPool p { x with force := true })
      ∧ ∀ s : Fin 16, x.recs.any (·.1 = s) = true → d.tpLocked p s = false → st ≠ TpState.full →
          d.written org (Obj.TP_RELEASE p) old (.num (s : Nat)) = d.setPool p { x with recs := SMap.del x.recs s })
    ∧ (∀ (l : Fin 4) (b : List Byte), d.twOn l = true → b.length = 32 →
        natLE (b.take 4) ≠ d.getN (Obj.TW_LINE_ID l) ∨ (b.getD 4 0).toNat = d.getN (Obj.TW_END l) →
        d.written org (Obj.TW_REMOTE_IN l) old (.bytes b) = (d.inc (Obj.TW_REMOTE_REJECTS l)).tpEvent 111 l)
    ∧ (∀ t : Fin 960,
        let st := d.taskState t
        let x := d.task t
        (d.on (Obj.TASK_ENABLE t) = true → st = TaskState.disabled →
          d.written org (Obj.TASK_ENABLE t) old (.num 1)
            = ((d.setN (Obj.TASK_STATE t) TaskState.waiting).setN (Obj.TASK_DEP t) (d.getN (Obj.TASK_DEP_INIT t))).armEnabled t)
        ∧ (d.on (Obj.TASK_ENABLE t) = true → st ≠ TaskState.disabled → x.off = true →
            d.written org (Obj.TASK_ENABLE t) old (.num 1)
              = ((d.setTask t { x with off := false }).setN (Obj.TASK_DEP t) (d.getN (Obj.TASK_DEP_INIT t))).armEnabled t)
        ∧ (d.on (Obj.TASK_ENABLE t) = false → st = TaskState.running →
            d.written org (Obj.TASK_ENABLE t) old (.num 0) = d.setTask t { x with off := true, pend := none })
        ∧ (d.on (Obj.TASK_ENABLE t) = false → st ≠ TaskState.disabled → st ≠ TaskState.running →
            d.written org (Obj.TASK_ENABLE t) old (.num 0)
              = ((d.unqueue t).setTask t { x with pend := none }).setN (Obj.TASK_STATE t) TaskState.disabled))
    ∧ (let v := d.validateImage d.seq.staged
       let e := d.written org Obj.SEQ_CMD old (.num 1)
       let x := (d.setN Obj.SEQ_IMG_ERR v.1).setN Obj.SEQ_IMG_ERR_INST v.2
       (v.1 ≠ 0 → e = x.setSeq { d.seq with valid := none })
         ∧ (v.1 = 0 → d.getN Obj.SEQ_STATE ≠ 0 → e = x.setSeq { d.seq with valid := some (parseProg d.seq.staged) })
         ∧ (v.1 = 0 → d.getN Obj.SEQ_STATE = 0 →
             e = (x.setSeq { d.seq with valid := some (parseProg d.seq.staged) }).setN Obj.SEQ_STATE 1))
    ∧ (∀ p, d.seq.valid = some p →
        let e := d.written org Obj.SEQ_CMD old (.num 2)
        e.seq.prog = p ∧ e.seq.data = (p.insts.map fun i => (i.id, Dev.seqFresh i 0)) ∧ e.seq.tx = [] ∧ e.getN Obj.SEQ_STATE = 2)
    ∧ (let e := d.written org Obj.SEQ_CMD old (.num 3)
       e.seq.tx = [] ∧ e.getN Obj.SEQ_STATE = 1 ∧ e.getN (Obj.TASK_ENABLE 960) = 0)
    ∧ ∀ p, d.seq.valid = some p →
        let e := d.written org Obj.SEQ_CMD old (.num 4)
        e.seq.prog = p ∧ e.seq.swapped = true ∧ e.seq.data.map (·.1) = p.insts.map (·.id)

/-- R196, R213, R202, R374, R367, R373, R309, R311, R313: time, host access and Breakwater. An addend set is the addend. A
step not in RUN moves the time base by its offset and takes one software step off those that wait. A raw transmit tail is
served at the next boundary; an activated image at the next boundary too; a debug unlock opens debug to its session, with
event 167 and an UNLOCK record. `BW_LOR` clears the latch where its number, the causes and the window allow, else it is
refused and counted; `BW_SET_ACTIVATE` makes the staged set the active one; `BW_TEST` latches the enabled input it names, pin A or
pin B of a trip input, with a free duration where it was the one that latched, and does nothing for one that is not enabled. -/
def Obligations.TimeHostAndSafetyWrites : Prop :=
  ∀ (d : Dev) (org : Origin) (old : Val),
    (∀ v : Int, d.written org Obj.TB_ADDEND_SET old (.num v)
      = (d.putAddend v).setPtp { d.ptp with rho := F64.ofRatio (v * 1000000000) 8589934592 })
    ∧ (d.mode ≠ Mode.run →
        let stepped := fun (v : Int) =>
          let m := d.makeStep v 0xFFFF
          let e := m.setPtp { m.ptp with softDue := m.ptp.softDue - 1 }
          (if m.getN Obj.TB_STATE = 0 then e.setTbState TbState.freerun else e).stepPending
        ∀ v : Int,
          d.written org Obj.TB_STEP old (.num v) = Dev.afterStep d (stepped v)
            ∧ d.written org Obj.RTC_SET old (.num v)
                = Dev.afterStep d (((stepped (((time96Units v : Int) - d.tm.now) / 65536)).loadRtc (time96Units v)).setN Obj.RTC_STATE 2))
    ∧ (∀ n : Nat, d.written org Obj.HOST_RAW_TX_TAIL old (.num n) = { d with host := { d.host with txTail := some n } })
    ∧ d.written org Obj.FW_ACTIVATE old (.num 1) = { d with host := { d.host with fwDue := true } }
    ∧ (let n := org.originId % 16
       d.written org Obj.SEC_DEBUG_UNLOCK old (.num 1)
         = (({ d with host := { d.host with debug := some n } } : Dev).hostEvent 167 n).logNote 7 0 org)
    ∧ (∀ v : Int,
        let met := v = d.get Obj.BW_LOR_SEQ ∧ d.getN Obj.BW_CAUSES = 0 ∧ d.on Obj.BW_STATE = true
          ∧ (d.on Obj.BW_LOR_STRAP = true → d.on Obj.BW_LOR_ARMED = true)
        (¬ met → d.written org Obj.BW_LOR old (.num v) = (d.inc Obj.BW_LOR_REFUSED).bwEvent 139 (noSource 139))
        ∧ (met → d.mode ≠ Mode.lockout →
            let e := ((d.set Obj.BW_LOR_ARMED 0).bwClear).bwEvent 138 (noSource 138)
            d.written org Obj.BW_LOR old (.num v) = { e with cyc := { e.cyc with clearFrames := 8 } }))
    ∧ (let act := safetyKeys.foldl (fun m k => SMap.set (objDefault k) m k (d.get k)) []
       let e := d.setN Obj.BW_SET_ACTIVE (1 - d.getN Obj.BW_SET_ACTIVE)
       d.written org Obj.BW_SET_ACTIVATE old (.num 1) = (e.setBw { e.bw with act := act }).bwRefresh)
    ∧ ∀ v : Fin 16,
        let i := if v.val < 8 then v.val else 8 + (v.val - 8) % 4
        let forced := fun (e : Dev) =>
          if v.val < 8 then e.bwLatch (2 ^ v.val)
          else
            let k := Obj.TRIPIN_STATE ((v.val - 8) % 4)
            ((e.setN k (e.getN k ||| (if v.val < 12 then 1 else 2))).bwLatch (2 ^ i)).setN k (e.getN k)
        (d.bwEnabled i = true → d.on Obj.BW_STATE = true →
          d.written org Obj.BW_TEST old (.num (v : Nat)) = forced d)
        ∧ (d.bwEnabled i = true → d.on Obj.BW_STATE = false →
            d.written org Obj.BW_TEST old (.num (v : Nat))
              = forced (d.takeFree.2.setN Obj.BW_TEST_RESULT (d.takeFree.1 % 4294967296)))
        ∧ (d.bwEnabled i = false → d.written org Obj.BW_TEST old (.num (v : Nat)) = d)

/-- R385, R386, R388, R390, R394, R398, R399, R400, R404, R408, R411: field channels, PWM and CAN. `FIO_OUT` drives the
commanded channels; enabling the outputs ends the latched off state; a kick restarts the application watchdog; a survey begins
with its first channel. A trip clear lets a running timer restart at its next period, a mask set is applied or released with
event 188, a commit is kept for the loading, the split bits clear by writing 1. A transmit request is queued (that a base
identifier is the low 11 bits of its field: assumption log 88), an abort ends the named requests that no attempt holds, and a
recovery is asked of a controller in BUS_OFF. -/
def Obligations.FieldPwmAndCanWrites : Prop :=
  ∀ (d : Dev) (org : Origin) (old : Val),
    (∀ v : Int, d.written org Obj.FIO_OUT old (.num v) = d.fioDrive)
    ∧ (∀ v : Int,
        (d.on Obj.FIO_OUT_ENABLE = true → d.written org Obj.FIO_OUT_ENABLE old (.num v)
          = ((d.setBit Obj.FIO_STATUS FioBit.offLatched false).setN Obj.FIO_SHUTDOWN_CAUSE 0).fioDrive)
        ∧ (d.on Obj.FIO_OUT_ENABLE = false → d.written org Obj.FIO_OUT_ENABLE old (.num v) = d.fioDrive))
    ∧ (∀ v : Int, d.written org Obj.FIO_APP_KICK old (.num v) = d.setFio { d.fio with wdt := false, kickAt := d.tm.mono })
    ∧ (let e := (((List.range 16).foldl (fun d c => d.setN (Obj.FIO_LOAD_CLASS c) 0) d).setBit Obj.FIO_STATUS FioBit.survey true).setN
          Obj.FIO_SURVEY_STATE 1
       ∀ c, e.surveyNext 0 = some c → d.written org Obj.FIO_SURVEY old (.num 1) = e.setFio { e.fio with survey := some c, surveyAt := d.tm.mono })
    ∧ (∀ (v : Nat) (t : Fin 10),
        let e := d.written org Obj.PWM_TRIP_CLEAR old (.num v)
        e.bit Obj.PWM_TRIP_FLAG t = (d.bit Obj.PWM_TRIP_FLAG t && !v.testBit t)
          ∧ (d.bit Obj.PWM_TRIP_FLAG t = true → v.testBit t = true → (d.timer t).run = true → (e.timer t).restart = true))
    ∧ (∀ m : Fin 4, d.on (Obj.PWM_MASK_ACTIVE m) = false →
        d.written org (Obj.PWM_MASK_CTRL m) old (.num 1) = ((d.setB (Obj.PWM_MASK_ACTIVE m) true).pwmEvent 188 m).pwmPins)
    ∧ (∀ m : Fin 4, d.on (Obj.PWM_MASK_ACTIVE m) = true → d.written org (Obj.PWM_MASK_CTRL m) old (.num 2) = d.devPwmMaskRelease m)
    ∧ (∀ t : Fin 10, d.on (Obj.PWM_LOAD_MODE t) = true →
        d.written org (Obj.PWM_COMMIT t) old (.num 1) = d.setTimer t { d.timer t with commit := true })
    ∧ (∀ v : Int, d.written org Obj.PWM_ENABLE old (.num v) = d.pwmEnabled)
    ∧ (∀ o v : Nat, d.written org Obj.PWM_SPLIT (.num o) (.num v)
        = d.setN Obj.PWM_SPLIT (mask16 fun t => o.testBit t && !v.testBit t))
    ∧ ∀ c : Fin 2,
        (∀ b : List Byte,
          let fl := (b.getD 1 0#8).toNat
          d.written org (Obj.CAN_TX c) old (.bytes b) = d.canRequest c
            { buf := (b.getD 0 0#8).toNat, flags := fl, data := (b.drop 8).take (b.getD 2 0#8).toNat, station := none,
              id := (let w := natLE ((b.drop 4).take 4)
                     if fl.testBit 2 then w % 536870912 + 0x80000000 else w % 2048),
              at_ := d.tm.mono })
        ∧ (∀ v : Nat, d.written org (Obj.CAN_TX_ABORT c) old (.num v) = d.devCanTxAbort c v)
        ∧ (d.canState c = CanState.busOff →
            d.written org (Obj.CAN_RECOVER c) old (.num 1) = d.setCan c { d.can c with recover := true })

/-! The local windows of the task cores, supervision and measurement. -/

/-- R146: a core opens a group, empty, whatever stood open; discards it; and submits it: accepted, it waits whole as one
group; refused, nothing waits, and its status stands in the local window, GROUP_FAIL with the object where one write is
refused or the cause of the refusal; an empty one just ends. Any other write of LE_LOCAL_GROUP is checked as a write of the
core, and ends an open group. R355, R356, Table 11-1:
accesses of a core. A store of 1, 2, 4 or 8 bytes to memory writes its little-endian bytes; one of 8 bytes to the slot of a
numeric object is a write of that object; one outside the map, within a slot, or to no object is an access fault at the core.
A 64-bit load of a STRING of at most 512 bytes copies it into the core's snapshot buffer and answers length and address; a
load of memory answers its 8 bytes. `LE_LOCAL_STATUS` answers the status, seconds and cycle of the last write. -/
def Obligations.LocalWindows : Prop :=
  (∀ (c : Fin 8) (s : State),
     let x := s.dev.win c
     let ended := s.dev.setWin c { x with group := none }
     Yields (.localGroupOpen c) s (s.dev.setWin c { x with group := some [] })
     ∧ Yields (.localGroupDiscard c) s ended
     ∧ (x.group = none → Yields (.localGroupSubmit c) s s.dev)
     ∧ (x.group = some [] → Yields (.localGroupSubmit c) s ended)
     ∧ ∀ es rt, x.group = some es → es ≠ [] → ended.rights (.core c) = some rt →
         let v := ended.checkGroup (.core c) rt es
         (v.1.status = Status.ok → Yields (.localGroupSubmit c) s (v.2.acceptGroup (.core c) rt 0 none es))
           ∧ (v.1.status ≠ Status.ok →
               let said := fun (st sec : Nat) =>
                 Yields (.localGroupSubmit c) s
                   (v.2.setWin c { v.2.win c with status := st, seconds := sec, cycle := 0xFFFFFFFF })
               let key := fun (i : Nat) => entryKey (es.getD i { index := 0, sub := 0, type := 0, val := .num 0 })
               (∀ i st, v.1.entry = some (i, st) → said Status.groupFail (key i))
                 ∧ (∀ i, v.1.entry = none → v.1.budgetAt = some i → said Status.groupFail (key i))
                 ∧ (v.1.entry = none → v.1.budgetAt = none → said v.1.status 0)))
  ∧ (∀ (c : Fin 8) (e : Entry) (s : State), entryKey e = Obj.LE_LOCAL_GROUP →
     (∀ n, 1 ≤ n → n ≤ 3 → e.type = OType.u8.code → e.val ≠ .num n) →
     Yields (.objectWrite (.core c) e) s
       ((s.dev.setWin c { s.dev.win c with group := none }).coreSubmit c (s.dev.win c).group.isSome [e]))
  ∧ (∀ (c : Fin 8) (s : State),
     (∀ (a size : Nat) (v : BitVec 64), slotOf a = none →
       (size = 1 ∨ size = 2 ∨ size = 4 ∨ size = 8 → spanInMap a size = true →
         Stores (.localWindowStore c a size v) s [(coreAddr c a, bytesLE size v.toNat)] s.dev)
       ∧ (spanInMap a size = false → Yields (.localWindowStore c a size v) s (s.dev.send (.coreFault c a))))
     ∧ (∀ (ix sub off : Nat) (v : BitVec 64), ix < 65536 → sub < 256 → off < 8 →
         let a := 0x80000000 + ix * 2048 + sub * 8 + off
         (∀ ty, off = 0 → s.dev.slotType ix sub = some ty → isDescribed ty = false →
           Yields (.localWindowStore c a 8 v) s
             (s.dev.coreWrite c { index := ix, sub := sub, type := ty.code, val := .num (numOfSlot ty v.toNat) }))
         ∧ (off ≠ 0 ∨ s.dev.slotType ix sub = none →
             Yields (.localWindowStore c a 8 v) s (s.dev.send (.coreFault c a))
               ∧ Yields (.localWindowDescriptorLoad c a) s (s.dev.send (.coreFault c a)))
         ∧ (∀ ty b, off = 0 → s.dev.slotType ix sub ≠ none → isDescribed ty = true →
             s.dev.readObj s.mem URole.engineer (some c.val) ix sub = ((Status.ok, ty, .bytes b), s.dev) → b.length ≤ 512 →
             Stores (.localWindowDescriptorLoad c a) s [(snapshot c, b)]
               (s.dev.send (.core c (snapshot c + b.length * 4294967296)))))
     ∧ (∀ a : Nat, slotOf a = none → spanInMap a 8 = true →
         Yields (.localWindowDescriptorLoad c a) s (s.dev.send (.core c (natLE (readBytes s.mem (coreAddr c a) 8)))))
     ∧ (let w := s.dev.win c
        let b := [BitVec.ofNat 8 w.status, 0#8, 0#8, 0#8] ++ bytesLE 4 w.seconds ++ bytesLE 4 w.cycle
        Stores (.leLocalStatusRead c) s [(snapshot c, b)] (s.dev.send (.core c (snapshot c + b.length * 4294967296)))))

/-- R160, R164: an entry that holds its measurement trips when its hold count reaches the maximum, TRIPPED with its cause,
event 43 and an L4 fault; it recovers after its agreeing runs, NORMAL with its counts and window cleared, no cause, event 42; before
either, nothing changes. A frozen repetitive channel learns again when its hold-off has run out, with event 47. -/
def Obligations.SupervisionCommands : Prop :=
  ∀ (e : Fin 16) (s : State),
    let st := s.dev.getN (Obj.SV_STATE e)
    let clear := s.dev.clearCause 41 e
    (st = 1 → s.dev.getN (Obj.SV_HOLD_MAX e) ≤ s.dev.getN (Obj.SV_HOLD_CYCLES e) →
      let a := (clear.setN (Obj.SV_STATE e) 2).setN (Obj.SV_CAUSE e) (s.dev.getN (Obj.SV_CAUSE e))
      Yields (.svHoldMaxReached e) s
        (((a.setSv e { a.sv e with tripDue := false, subst := false }).supEvent 43 e).raiseFault 43 4 0 e 0 false))
    ∧ (st ≠ 1 ∨ s.dev.getN (Obj.SV_HOLD_CYCLES e) < s.dev.getN (Obj.SV_HOLD_MAX e) → Yields (.svHoldMaxReached e) s s.dev)
    ∧ (st = 1 → s.dev.on (Obj.SV_RECOVER e) = true → s.dev.getN (Obj.SV_RECOVER e) ≤ (s.dev.sv e).agree →
        let a := (clear.setN (Obj.SV_STATE e) 0).setN (Obj.SV_HOLD_CYCLES e) 0
        Yields (.svRecover e) s
          (((a.setSv e { a.sv e with window := [], saved := none, agree := 0, subst := false, tripDue := false, causes := 0 }).setN
            (Obj.SV_CAUSE e) 0).supEvent 42 e))
    ∧ (st ≠ 1 ∨ s.dev.on (Obj.SV_RECOVER e) = false ∨ (s.dev.sv e).agree < s.dev.getN (Obj.SV_RECOVER e) →
        Yields (.svRecover e) s s.dev)
    ∧ ((s.dev.rep e).cause = false → (s.dev.rep e).left = 0 → s.dev.bit (Obj.REP_STATUS e) 0 = true →
        Yields (.repRelease e) s ((s.dev.setBit (Obj.REP_STATUS e) 0 false).supEvent 47 e))
    ∧ ((s.dev.rep e).cause = true ∨ (s.dev.rep e).left ≠ 0 → Yields (.repRelease e) s s.dev)

/-- R175, R181, R182, R187, R188: the commands of the measurement inputs. An output of a running path is formed from exactly the
bits of its window, saturated, kept in its code register, and completes its cycle sample; other bits form none. CLK_LOSS of a
clock takes its running channels, with one event; DATA_LOSS takes its channel, with event 69; either going away makes the path
settle from then on, and a path leaves SETTLING with event 78 once t_settle has passed, and not before. Once an entry's delay
has passed its conversions begin, and a conversion is kept until the entry has its repetitions. -/
def Obligations.MeasurementCommands : Prop :=
  ∀ (c : Fin 32) (s : State),
    let d := s.dev
    let settling := fun (c : Nat) (d : Dev) =>
      (d.setMeasCh c { d.measCh c with settleAt := d.tm.mono }).setBit (Obj.MEAS_STATUS c) MeasBit.settling true
    (∀ (fine : Bool) (m a : Nat) (bits : List Bool), d.measAnchor c = some a → d.measRuns c = true →
      d.bit (Obj.MEAS_STATUS c) MeasBit.clkLoss = false → (d.measCh c).start ≤ a + m * d.tOut c fine →
      let fast := fastCode (d.getN (Obj.MEAS_FAST_ORDER c)) (d.getN (Obj.MEAS_FAST_OSR c)) (d.on (Obj.MEAS_INVERT c)) bits
      let slow := fineCode (d.getN (Obj.MEAS_FINE_ORDER c)) (d.getN (Obj.MEAS_FINE_OSR c)) (d.getN (Obj.MEAS_FIR_DEC c))
        (d.getN (Obj.MEAS_NOTCH_M c)) (firCoefs 32 (d.blob (Obj.MEAS_FIR_COEF c))) (d.on (Obj.MEAS_INVERT c)) bits
      let r := a + m * d.tOut c fine
      (∀ v, fine = false → fast = some v →
        Yields (.filterOutput c false m bits) s ((d.set (Obj.MEAS_FAST_CODE c) v).formSample c false m r v))
      ∧ (∀ v, fine = true → slow = some v →
        Yields (.filterOutput c true m bits) s ((d.takeFine c r v).formSample c true m r v))
      ∧ ((if fine then slow else fast) = none → Yields (.filterOutput c fine m bits) s d))
    ∧ (∀ k : Fin 12,
        let named := Dev.clockChannels k
        let cs := named.filter fun c => d.measRuns c && !d.bit (Obj.MEAS_STATUS c) MeasBit.clkLoss
        (k.val < 8 ∨ d.getN (Obj.MEAS_GRP_CLK_SRC (k.val - 8)) ≠ 1 → cs ≠ [] →
          Yields (.clkLossAssert k) s
            ((cs.foldl (fun d c => d.setLoss c MeasBit.clkLoss true) d).measEvent (if k.val < 8 then 64 else 65 + (k.val - 8))
              (if k.val < 8 then k.val else k.val - 8)))
        ∧ Yields (.clkLossClear k) s (named.foldl (fun d c =>
            if d.bit (Obj.MEAS_STATUS c) MeasBit.clkLoss then settling c (d.setLoss c MeasBit.clkLoss false) else d) d))
    ∧ (d.measRuns c = true → d.bit (Obj.MEAS_STATUS c) MeasBit.dataLoss = false →
        Yields (.dataLossAssert c) s ((d.setLoss c MeasBit.dataLoss true).measEvent 69 c))
    ∧ (d.bit (Obj.MEAS_STATUS c) MeasBit.dataLoss = true →
        Yields (.dataLossClear c) s (settling c (d.setLoss c MeasBit.dataLoss false)))
    ∧ (d.bit (Obj.MEAS_STATUS c) MeasBit.settling = true → d.measLoss c = false →
        (d.waited (d.measCh c).settleAt (d.tSettle c true * nsUnit) = true →
          Yields (.pathSettled c) s ((d.setBit (Obj.MEAS_STATUS c) MeasBit.settling false).measEvent 78 c))
        ∧ (d.waited (d.measCh c).settleAt (d.tSettle c true * nsUnit) = false → Yields (.pathSettled c) s d))
    ∧ ∀ (u : Fin 2) (e : Nat), (d.diag u).pos = some e →
        let past := d.waited (d.diag u).since (d.getN (Obj.DIAG_DELAY e) * 1000 * nsUnit)
        ((d.diag u).ready = false → past = true →
          Yields (.diagDelayExpiry u) s (d.setDiag u { d.diag u with ready := true, results := [] }))
        ∧ ((d.diag u).ready = true ∨ past = false → Yields (.diagDelayExpiry u) s d)
        ∧ ∀ v : F32, (d.diag u).ready = true →
            let rs := v :: (d.diag u).results
            (rs.length < d.getN (Obj.DIAG_REPEAT e) →
              Yields (.diagConversionEnd u v) s (d.setDiag u { d.diag u with results := rs }))
            ∧ (d.getN (Obj.DIAG_REPEAT e) ≤ rs.length →
              Yields (.diagConversionEnd u v) s ((d.diagResult e rs).diagNext u e))

/-! Time. -/

/-- R202, R203, R196, R199: Sync and phase steps with TIMECLK running. On the asCapable slave port a one-step Sync of the present
master, in the module's domain and tagged as its own messages are, gives the offset t2 − origin − correction − link delay to the
servo at once; a two-step one waits, and its Follow_Up gives it with both corrections; any other Sync, and a Follow_Up that
matches none, changes nothing. What steps the time base reaches the pools and timers too. A phase step moves time by its offset,
counts it and raises event 91, and is not made in RUN. -/
def Obligations.SyncAndPhaseSteps : Prop :=
  ∀ (q : Fin 4) (h : PtpHdr) (gm n ms : Nat) (cap origin corr : Int) (s : State), s.dev.tm.timeclk = true →
    let d := s.dev
    let x := d.port q
    let t2 := cap - nsToFrac (d.getF (Obj.PTP_PORT_INT_RX q)) - psToFrac (d.get (Obj.PTP_PORT_RX_CORR q))
    let usable := d.on Obj.PTP_ENABLE = true ∧ d.getN Obj.PTP_SLAVE_PORT = q ∧ d.on (Obj.PTP_PORT_AS_CAPABLE q) = true
      ∧ h = { domain := d.getN Obj.PTP_DOMAIN, vlan := d.getN Obj.PTP_VLAN }
    (usable → d.getN Obj.PTP_GM_ID = gm →
      Yields (.ptpSyncReceived ⟨q, h⟩ gm false n cap origin corr ms) s
        (Dev.afterStep d (d.servoSync (t2 - origin - corr - x.link) ms))
      ∧ Yields (.ptpSyncReceived ⟨q, h⟩ gm true n cap origin corr ms) s
        (Dev.afterStep d (d.setPort q { x with wait := some { gm := gm, seqId := n, t2 := t2, corr := corr, interval := ms } })))
    ∧ (¬ usable ∨ d.getN Obj.PTP_GM_ID ≠ gm → ∀ two, Yields (.ptpSyncReceived ⟨q, h⟩ gm two n cap origin corr ms) s d)
    ∧ (∀ w, x.wait = some w →
        (usable → w.gm = gm → w.seqId = n →
          Yields (.ptpFollowUpReceived ⟨q, h⟩ gm n origin corr) s
            (Dev.afterStep d ((d.setPort q { x with wait := none }).servoSync (w.t2 - origin - (w.corr + corr) - x.link) w.interval)))
        ∧ (¬ usable ∨ w.gm ≠ gm ∨ w.seqId ≠ n → Yields (.ptpFollowUpReceived ⟨q, h⟩ gm n origin corr) s d))
    ∧ (x.wait = none → Yields (.ptpFollowUpReceived ⟨q, h⟩ gm n origin corr) s d)
    ∧ (d.mode = Mode.run → ∀ off servo, Yields (.phaseStep off servo) s d)
    ∧ (d.mode ≠ Mode.run → ∀ off : Int,
        let m := d.makeStep off d.slaveSrc
        let w := d.makeStep off 0xFFFF
        let e := w.setPtp { w.ptp with softDue := w.ptp.softDue - 1 }
        Yields (.phaseStep off true) s (Dev.afterStep d (m.setPtp { m.ptp with servoDue := false, after := 2 }).stepPending)
          ∧ Yields (.phaseStep off false) s
              (Dev.afterStep d (if w.getN Obj.TB_STATE = 0 then e.setTbState TbState.freerun else e).stepPending)
          ∧ (0 ≤ off → m.tm.now = d.tm.now + off.toNat * 65536)
          ∧ m.get Obj.TB_STEP_COUNT = (d.get Obj.TB_STEP_COUNT + 1) % 4294967296 ∧ m.get Obj.TB_LAST_STEP = off)

/-- R199, R200, R201, R207: peer delay, master selection and the transparent clock with TIMECLK running. Messages leave with
their address, tag, Ethertype, type and domain; of those received, one of another domain or tag is not taken (assumption log
36). Each port sends its request with the next number, one a second; a request is answered with the turnaround of the corrected
timestamps; a response gives half of what is left of the round trip, less the turnaround its message or its Follow_Up carries,
as the link delay, and asCapable by its threshold; three seconds without one the port is not asCapable. An Announce becomes its
port's master and the best one is chosen; that of the slave port gives the quality flags and, with PTP as its source, UTC offset
and leap. A message that crosses its line switch leaves with its residence time and the link delay added, a one-step Sync in
itself and a two-step one in its Follow_Up, and counts where the link delay is not known; one for another port goes nowhere. -/
def Obligations.PortsAndTransparentClock : Prop :=
  ∀ (q : Fin 4) (h : PtpHdr) (s : State), s.dev.tm.timeclk = true →
    let d := s.dev
    let x := d.port q
    let own : PtpHdr := { domain := d.getN Obj.PTP_DOMAIN, vlan := d.getN Obj.PTP_VLAN }
    let rx := fun (p : Nat) (c : Int) => c - nsToFrac (d.getF (Obj.PTP_PORT_INT_RX p)) - psToFrac (d.get (Obj.PTP_PORT_RX_CORR p))
    let tx := fun (p : Nat) (c : Int) => c + nsToFrac (d.getF (Obj.PTP_PORT_INT_TX p)) + psToFrac (d.get (Obj.PTP_PORT_TX_CORR p))
    let frame := fun (out : Nat) (dest : List Byte) (g : PtpHdr) (type : Byte) (body : List Byte) =>
      Output.ether out .ptp (dest ++ (if g.vlan = 0 then [] else bytesBE 2 0x8100 ++ bytesBE 2 g.vlan) ++ bytesBE 2 0x88F7
        ++ [type, BitVec.ofNat 8 g.domain] ++ body)
    let peers := [0x01#8, 0x80#8, 0xC2#8, 0#8, 0#8, 0x0E#8]
    let all := [0x01#8, 0x1B#8, 0x19#8, 0#8, 0#8, 0#8]
    let due := x.reqAt.all fun t => d.waited t secUnit
    (due = true → Yields (.pdelayReqSend q) s
      ((d.setPort q { x with reqSeq := (x.reqSeq + 1) % 65536, reqAt := some d.tm.mono }).send
        (frame q peers own 2#8 (bytesBE 2 x.reqSeq))))
    ∧ (due = false → Yields (.pdelayReqSend q) s d)
    ∧ (∀ (n : Nat) (t2 t3 : Int),
        (h = own → Yields (.pdelayReqReceived ⟨q, h⟩ n t2 t3) s
          (d.send (frame q peers own 3#8 (bytesBE 2 n ++ bytesBE 8 ((tx q t3 - rx q t2) % 18446744073709551616).toNat))))
        ∧ (h ≠ own → Yields (.pdelayReqReceived ⟨q, h⟩ n t2 t3) s d))
    ∧ (∀ (two : Bool) (t1 t2 t3 t4 corr : Int),
        let link := Int.fdiv (rx q t4 - tx q t1 - (if two then t3 - t2 + corr else corr)) 2
        let v := F32.ofRatio link 65536
        let ratio := if two then ((t3, rx q t4) :: x.ratio).take 9 else x.ratio
        let e := (d.setPort q { x with link := link, seen := true, ratio := ratio, respAt := d.tm.mono }).setF (Obj.PTP_PORT_LINK_DELAY q) v
        let lo := e.setF (Obj.PTP_PORT_LINK_MIN q) (if x.seen then F32.min (e.getF (Obj.PTP_PORT_LINK_MIN q)) v else v)
        let hi := lo.setF (Obj.PTP_PORT_LINK_MAX q) (if x.seen then F32.max (lo.getF (Obj.PTP_PORT_LINK_MAX q)) v else v)
        (h = own → Yields (.pdelayRespReceived ⟨q, h⟩ two t1 t2 t3 t4 corr) s
          ((hi.setD (Obj.PTP_PORT_RATE_RATIO q) (Dev.rateRatio ratio)).setAsCapable q
            (decide (link ≤ (d.getN Obj.PTP_PDELAY_TH : Int) * 65536))))
        ∧ (h ≠ own → Yields (.pdelayRespReceived ⟨q, h⟩ two t1 t2 t3 t4 corr) s d))
    ∧ (d.waited x.respAt (3 * secUnit) = true → Yields (.pdelayResponseTimeout q) s (d.setAsCapable q false))
    ∧ (d.waited x.respAt (3 * secUnit) = false → Yields (.pdelayResponseTimeout q) s d)
    ∧ (∀ (gm p1 cc ac va p2 st : Nat) (uo : Int) (uv : Bool) (lp : Fin 3) (tr : Bool) (ina : Nat),
        let m : Master := { order := [p1, cc, ac, va, p2, gm], gm := gm, steps := st }
        let c := (d.setPort q { x with master := some m }).selectMaster
        let i := if c.getN Obj.PTP_PROFILE = 1 then c.setN Obj.PTP_GM_INACCURACY ina else c
        let k := (i.setBit Obj.TB_QUALITY 1 uv).setBit Obj.TB_QUALITY 2 tr
        (d.on Obj.PTP_ENABLE = false ∨ h ≠ own → Yields (.ptpAnnounceReceived ⟨q, h⟩ gm p1 cc ac va p2 st uo uv lp tr ina) s d)
        ∧ (d.on Obj.PTP_ENABLE = true → h = own → c.getN Obj.PTP_SLAVE_PORT ≠ q →
            Yields (.ptpAnnounceReceived ⟨q, h⟩ gm p1 cc ac va p2 st uo uv lp tr ina) s c)
        ∧ (d.on Obj.PTP_ENABLE = true → h = own → c.getN Obj.PTP_SLAVE_PORT = q →
            Yields (.ptpAnnounceReceived ⟨q, h⟩ gm p1 cc ac va p2 st uo uv lp tr ina) s
              (if k.getN Obj.UTC_SOURCE = 0 then (k.set Obj.UTC_OFFSET uo).setN Obj.UTC_LEAP lp else k)))
    ∧ ∀ (out : Fin 4) (n : Nat) (tr tt corr : Int),
        (out.val ≠ Dev.switchPort q → ∀ kind, Yields (.transparentClockForward ⟨q, h⟩ out kind n tr tt corr) s d)
        ∧ (out.val = Dev.switchPort q →
            let res := tx out tt - rx q tr
            let f := d.inc (Obj.PTP_TC_FRAMES out)
            let g := f.setF (Obj.PTP_TC_RES_MAX out) (F32.max (f.getF (Obj.PTP_TC_RES_MAX out)) (F32.ofRatio res 65536))
            let made := fun (k : Byte) (c : Int) =>
              frame out all h k (bytesBE 2 n ++ bytesBE 8 (c % 18446744073709551616).toNat)
            let keep := fun (e : Dev) (add : Int) =>
              e.setPort q { x with fwd := (x.fwd ++ [(out.val, n, add)]).drop (x.fwd.length + 1 - 4) }
            Yields (.transparentClockForward ⟨q, h⟩ out 3 n tr tt corr) s (d.send (made 0x0B#8 corr))
            ∧ (d.on (Obj.PTP_PORT_AS_CAPABLE q) = true →
                Yields (.transparentClockForward ⟨q, h⟩ out 0 n tr tt corr) s (g.send (made 0#8 (corr + (res + x.link))))
                ∧ Yields (.transparentClockForward ⟨q, h⟩ out 1 n tr tt corr) s ((keep g (res + x.link)).send (made 0#8 corr)))
            ∧ (d.on (Obj.PTP_PORT_AS_CAPABLE q) = false →
                let k := g.inc (Obj.PTP_TC_NO_LINK q)
                Yields (.transparentClockForward ⟨q, h⟩ out 0 n tr tt corr) s (k.send (made 0#8 (corr + (res + 0))))
                ∧ Yields (.transparentClockForward ⟨q, h⟩ out 1 n tr tt corr) s ((keep k (res + 0)).send (made 0#8 corr)))
            ∧ (∀ f, (x.fwd.find? fun f => f.1 == out.val && f.2.1 == n) = some f →
                Yields (.transparentClockForward ⟨q, h⟩ out 2 n tr tt corr) s
                  ((d.setPort q { x with fwd := x.fwd.filter fun g => !(g.1 == out.val && g.2.1 == n) }).send
                    (made 8#8 (corr + f.2.2))))
            ∧ ((x.fwd.find? fun f => f.1 == out.val && f.2.1 == n) = none →
                Yields (.transparentClockForward ⟨q, h⟩ out 2 n tr tt corr) s (d.send (made 8#8 corr))))

/-- R197, R211, R212, R214, R208, R210: clocks, pulses and stamps. Without Sync the other port of the same master takes over,
else LOCKED goes to HOLDOVER and ACQUIRING to FREERUN; HOLDOVER beyond its error limit goes to FREERUN with event 99. LOCKED,
the RTC is loaded with the second and its drift reported; an oscillator stop makes it not valid and counted, a low battery is
flagged, both with event 98. A flagged leap whose instant can have come (assumption log 67) moves the offset by one and ends its
flag with event 93. A pulse that is due is made once, counted, and a periodic generator goes on one period later. An edge of the
selected kind that lasts long enough is queued with its number, event 94 where the queue was empty; on a full queue it is lost
and counted, at rank 6 too, with event 95. -/
def Obligations.ClocksPulsesAndStamps : Prop :=
  ∀ (u : Fin 4) (s : State), s.dev.tm.timeclk = true →
    let d := s.dev
    let q := d.getN Obj.PTP_SLAVE_PORT
    let lost := if q < 4 then d.setPort q { d.port q with master := none, wait := none } else d
    (∀ r, lost.slaveFor (d.getN Obj.PTP_GM_ID) = some r →
      Yields .ptpSyncTimeout s
        ((((lost.setN Obj.PTP_SLAVE_PORT r).setN Obj.PTP_STEPS_REMOVED (lost.portSteps r)).setPtp
          { lost.ptp with moved := true }).portStates))
    ∧ (lost.slaveFor (d.getN Obj.PTP_GM_ID) = none →
        (d.getN Obj.TB_STATE = 3 → Yields .ptpSyncTimeout s (lost.setTbState TbState.holdover).selectMaster)
        ∧ (d.getN Obj.TB_STATE = 2 → Yields .ptpSyncTimeout s (lost.setTbState TbState.freerun).selectMaster)
        ∧ (d.getN Obj.TB_STATE ≠ 2 → d.getN Obj.TB_STATE ≠ 3 → Yields .ptpSyncTimeout s lost.selectMaster))
    ∧ (d.getN Obj.TB_STATE = 4 → d.getN Obj.TB_ERR_LIMIT < d.errEst →
        let b := d.bringDrift
        let e := b.setPtp { b.ptp with errIn := b.errEst, driftIn := b.ptp.drift, lockRun := 0, unlockRun := 0 }
        Yields .holdoverLimitExceeded s ((e.setN Obj.TB_STATE TbState.freerun).tbEvent 99 0xFFFF))
    ∧ (d.getN Obj.TB_STATE ≠ 4 ∨ d.errEst ≤ d.getN Obj.TB_ERR_LIMIT → Yields .holdoverLimitExceeded s d)
    ∧ (∀ drift : F32,
        (d.getN Obj.TB_STATE = 3 →
          let r := d.loadRtc (d.second * secUnit)
          Yields (.rtcDiscipline drift) s
            (((r.setRtc { r.time.rtc with measured := true }).setF Obj.RTC_DRIFT drift).setN Obj.RTC_STATE 2))
        ∧ (d.getN Obj.TB_STATE ≠ 3 → Yields (.rtcDiscipline drift) s d))
    ∧ Yields .rtcOscStop s
        ((((d.setRtc { d.time.rtc with lastDisc := none }).setN Obj.RTC_STATE 0).inc Obj.RTC_OSC_STOPS).tbEvent 98 0xFFFF)
    ∧ Yields .vbatLow s ((d.setB Obj.RTC_VBAT_LOW true).tbEvent 98 0xFFFF)
    ∧ (let sec := (d.tm.now + d.tc * nsUnit) / secUnit
       let off := d.get Obj.UTC_OFFSET
       let u := Int.fmod ((sec : Int) - off) 86400
       let due := fun (plus : Bool) =>
         (plus = true ∧ d.getN Obj.UTC_LEAP = 1 ∧ u = 0) ∨ (plus = false ∧ d.getN Obj.UTC_LEAP = 2 ∧ u = 86399)
       (∀ plus : Bool, due plus →
         let e := (d.set Obj.UTC_OFFSET (off + if plus then 1 else -1)).setN Obj.UTC_LEAP 0
         Yields .leapApply s
           ((e.setPtp { d.ptp with leapAt := some d.tm.mono, leapSec := some (sec, off, plus) }).tbEvent 93 0xFFFF))
       ∧ ((∀ plus, ¬ due plus) → Yields .leapApply s d))
    ∧ (∀ t, (d.pulse u).due = some t →
        let e := (d.send (.pulse u t (d.getN (Obj.PG_WIDTH u)) (!d.on (Obj.PG_POLARITY u)))).inc (Obj.PG_FIRED u)
        (d.getN (Obj.PG_MODE u) = 2 → Yields (.pgPulse u) s (e.setPulse u { due := some (t + d.getN (Obj.PG_PERIOD u)) }))
          ∧ (d.getN (Obj.PG_MODE u) ≠ 2 → Yields (.pgPulse u) s (e.setPulse u { due := none })))
    ∧ ((d.pulse u).due = none → Yields (.pgPulse u) s d)
    ∧ ∀ (rising : Bool) (width t : Nat),
        let x := d.tsu u
        let wanted := d.getN (Obj.TSU_EDGE u) = 3 ∨ (d.getN (Obj.TSU_EDGE u) = 1 ∧ rising = true)
          ∨ (d.getN (Obj.TSU_EDGE u) = 2 ∧ rising = false)
        (wanted → d.getN (Obj.TSU_MIN_WIDTH u) ≤ width → 32 ≤ x.fifo.length →
          Yields (.tsuEdgeCapture u rising width t) s
            ((((d.setTsu u { x with lost := true }).inc (Obj.TSU_OVERFLOW u)).broken 6).tbEvent 95 u))
        ∧ (wanted → d.getN (Obj.TSU_MIN_WIDTH u) ≤ width → x.fifo = [] →
            ∃ e : TsuEntry, e.seq = x.seq ∧ e.edge = (if rising then 1 else 0)
              ∧ e.time = time96 ((((t / 8192 : Nat) : Int) - d.get (Obj.TSU_SKEW u)).toNat * 8192 * 65536)
              ∧ Yields (.tsuEdgeCapture u rising width t) s
                  ((d.setTsu u { fifo := [e], lost := false, seq := (x.seq + 1) % 65536 }).tbEvent 94 u))
        ∧ (wanted → d.getN (Obj.TSU_MIN_WIDTH u) ≤ width → x.fifo ≠ [] → x.fifo.length < 32 →
            ∃ e : TsuEntry, e.seq = x.seq ∧ e.edge = (if rising then 1 else 0)
              ∧ Yields (.tsuEdgeCapture u rising width t) s
                  (d.setTsu u { fifo := x.fifo ++ [e], lost := false, seq := (x.seq + 1) % 65536 }))
        ∧ (¬ wanted ∨ width < d.getN (Obj.TSU_MIN_WIDTH u) → Yields (.tsuEdgeCapture u rising width t) s d)

/-! Recorders and the phasor engine. -/

/-- R221–R226, R230: a pool takes samples from ARMED to POST. A sample that finds the write buffer full is dropped, the gap
flagged, and counted once for its excursion at rank 6. In ARMED and READY the sample joins the record; in ARMED crossings
within the first 64 samples are counted as ignored; READY triggers on a crossing, an event, the automatic time or FORCE, with
event 104 + p; in POST samples join until `TP_POST`, and crossings are counted as ignored. 64 samples make ARMED READY; the
automatic time, once it has passed since then, acts in READY and mode AUTO; a full POST completes with event 100 + p, the record
kept: outside mode REPEAT the pool is DONE, in it it goes on with a free slot, or the oldest where it may overwrite, else it is
FULL. -/
def Obligations.TidepoolRecords : Prop :=
  ∀ (p : Fin 4) (m : Nat) (s : State),
    let d := s.dev
    let x := d.pool p
    let st := d.getN (Obj.TP_STATE p)
    let y := { x with full := false, recent := (d.poolSample p :: x.recent).take 18 }
    let r := (d.setPool p y).poolConds p
    (st = TpState.idle ∨ st = TpState.done ∨ st = TpState.full → ∀ full, Yields (.tpSampleWritten p m full) s d)
    ∧ (st = TpState.armed ∨ st = TpState.ready ∨ st = TpState.post →
        let g := d.setPool p { x with gap := true, full := true }
        (x.full = false → Yields (.tpSampleWritten p m true) s ((g.inc (Obj.TP_GAPS p)).broken 6))
          ∧ (x.full = true → Yields (.tpSampleWritten p m true) s g))
    ∧ (let e := r.2.setPool p { y with samples := (d.poolSample p :: x.samples).take (max 1 (r.2.tpCapacity p)),
                                       written := x.written + 1 }
       let others := (if x.event then [13] else []) ++ (if x.auto then [14] else []) ++ (if x.force then [15] else [])
       (st = TpState.armed → x.written < 64 →
         Yields (.tpSampleWritten p m false) s (e.add (Obj.TP_TRIG_IGNORED p) r.1.length))
       ∧ (st = TpState.armed → 64 ≤ x.written → Yields (.tpSampleWritten p m false) s e)
       ∧ (st = TpState.ready → r.1 = [] → others = [] → Yields (.tpSampleWritten p m false) s e)
       ∧ (st = TpState.ready → r.1 ≠ [] ∨ others ≠ [] → Yields (.tpSampleWritten p m false) s (e.tpTrigger p m r.1 others)))
    ∧ (st = TpState.post →
        (x.after < x.post → Yields (.tpSampleWritten p m false) s
          ((r.2.setPool p { y with samples := d.poolSample p :: x.samples, after := x.after + 1, written := x.written + 1 }).add
            (Obj.TP_TRIG_IGNORED p) r.1.length))
        ∧ (x.post ≤ x.after → Yields (.tpSampleWritten p m false) s (r.2.add (Obj.TP_TRIG_IGNORED p) r.1.length)))
    ∧ (st = TpState.armed → 64 ≤ x.written →
        Yields (.tpReady p) s ((d.setPool p { x with readyAt := d.tm.mono }).setN (Obj.TP_STATE p) TpState.ready))
    ∧ (st ≠ TpState.armed ∨ x.written < 64 → Yields (.tpReady p) s d)
    ∧ (let past := d.waited x.readyAt (d.getN (Obj.TP_AUTO_TIMEOUT p) * 1000000 * nsUnit)
       (st = TpState.ready → d.getN (Obj.TP_MODE p) = 1 → past = true →
         Yields (.tpAutoTimeout p) s (d.setPool p { x with auto := true }))
       ∧ (st ≠ TpState.ready ∨ d.getN (Obj.TP_MODE p) ≠ 1 ∨ past = false → Yields (.tpAutoTimeout p) s d))
    ∧ (st = TpState.post → x.post ≤ x.after → ∀ rec0, d.tpOpen p false = some rec0 →
        let e := d.inc (Obj.TP_RECORDS p)
        let k := e.setPool p { x with slot := none, samples := [], trig := none, after := 0,
                                      recs := SMap.ins x.recs rec0.slot { rec0 with seq := e.getN (Obj.TP_RECORDS p) } }
        let y := k.setN (Obj.TP_LAST_SLOT p) rec0.slot
        let slot := match y.tpFreeSlot p with
          | some n => some n
          | none => if y.on (Obj.TP_OVERWRITE p) then y.tpOldest p else none
        (d.getN (Obj.TP_MODE p) ≠ 2 →
          Yields (.tpRecordComplete p) s ((y.setN (Obj.TP_STATE p) TpState.done).tpEvent (100 + p) p))
        ∧ (∀ n, d.getN (Obj.TP_MODE p) = 2 → slot = some n →
            Yields (.tpRecordComplete p) s ((y.tpTake p n).tpEvent (100 + p) p))
        ∧ (d.getN (Obj.TP_MODE p) = 2 → slot = none →
            Yields (.tpRecordComplete p) s ((y.setN (Obj.TP_STATE p) TpState.full).tpEvent (100 + p) p)))
    ∧ (st ≠ TpState.post ∨ x.after < x.post → Yields (.tpRecordComplete p) s d)

/-- R232, R233, R235, R236: travelling waves, on a ZA7140-F with the line enabled. A record without gap or loss that shows the
line's condition gives one arrival, counted, published in 32 bytes with event 108, with 10 ns on its error, matched or kept, and
pushed to the object's subscribers; any other record gives none. A single-ended result says status 4 for a record with gap or
loss or a step, 3 for one that ends before the reflection can come, 2 where none is found, 1 where one is. Both count as runs of
the line's tasks (the vendor descriptors are the model's choice, assumption log 86), with a miss where the response reaches 200 µs
and 2 ms. The oldest local arrival unmatched in time is removed with status and event 111; a remote one is removed silently; one
whose time cannot have passed (assumption log 67) stays. -/
def Obligations.TravellingWaves : Prop :=
  ∀ (l : Fin 4) (n : Nat) (s : State),
    let d := s.dev
    let x := d.twLine l
    let p := d.getN (Obj.TW_POOL l)
    let ran := fun (k limit due : Nat) (e : Dev) =>
      let t := 961 + 3 * l.val + k
      let resp := e.nsSince due
      let f := (e.inc (Obj.TASK_RUNS t)).setN (Obj.TASK_RESP_LAST t) resp
      let g := f.setN (Obj.TASK_RESP_MAX t) (max resp (f.getN (Obj.TASK_RESP_MAX t)))
      if limit ≤ resp then g.countMiss t resp else g
    (d.twOn l = false → Yields (.twLocalArrival l n) s d ∧ Yields (.twSingleEndedResult l n) s d)
    ∧ (d.tpView p n = none → Yields (.twLocalArrival l n) s d)
    ∧ (∀ r, d.tpView p n = some r → r.trig.lines.contains l.val = true ∨ r.flags / 4 ≠ 0 ∨ d.lineArrival l r = none →
        Yields (.twLocalArrival l n) s d)
    ∧ (d.twOn l = true → ∀ r, d.tpView p n = some r → r.trig.lines.contains l.val = false → r.flags / 4 = 0 →
        ∀ j k t, d.lineArrival l r = some (j, k, t) →
          let due := ((r.trig.at0 : Int) + ((t : Int) - r.trig.time) * 65536).toNat + d.getN (Obj.TW_BLANK l) * 1000 * nsUnit
          ∃ b : List Byte, b.length = 32 ∧ b.take 4 = bytesLE 4 (d.getN (Obj.TW_LINE_ID l)) ∧ (b.drop 8).take 12 = fracTime t
            ∧ Yields (.twLocalArrival l n) s
                (ran 0 200000 due
                  ((((((d.twTaken l p n).inc (Obj.TW_ARRIVALS l)).setBlob (Obj.TW_LOCAL_OUT l) b).tpEvent 108 l).twLocal l
                    { time := t, err := min (r.trig.err + 10) 0xFFFFFFFF, locked := decide (r.trig.state = 3),
                      since := d.tm.mono }).pushObject s.mem (Obj.TW_LOCAL_OUT l))))
    ∧ (d.tpRecord p n = none → Yields (.twSingleEndedResult l n) s d)
    ∧ (d.twOn l = true → ∀ r, d.tpRecord p n = some r →
        let said := fun (st : Nat) (e : Dev) =>
          Yields (.twSingleEndedResult l n) s (ran 1 2000000 r.ended ((e.setN (Obj.TW_SE_STATUS l) st).tpEvent 109 l))
        (r.flags / 2 ≠ 0 → said 4 d)
        ∧ (r.flags / 2 = 0 → d.lineArrival l r = none → Yields (.twSingleEndedResult l n) s d)
        ∧ (r.flags / 2 = 0 → ∀ j k t, d.lineArrival l r = some (j, k, t) →
            let len := d.getD (Obj.TW_LENGTH l)
            let v := d.getD (Obj.TW_VELOCITY l)
            let short := F64.lt (Dev.secondsOf ((r.nPost * r.trig.step : Nat) : Int)) (F64.div (F64.mul (F64.ofInt 2) len) v)
            let start := (t + d.getN (Obj.TW_BLANK l) * 1000 * nsFrac - r.trig.first + r.trig.step - 1) / r.trig.step
            let pol := d.getN (Obj.TW_SE_POLARITY l)
            let echo := (d.lineCrossings l r start).find? fun y =>
              pol == 2 || (pol == 0 && y.2.neg == k.neg) || (pol == 1 && y.2.neg != k.neg)
            (short = true → said 3 d)
            ∧ (short = false → echo = none → said 2 d)
            ∧ (short = false → ∀ j2 k2, echo = some (j2, k2) →
                let t2 := d.crossTime p (d.getN (Obj.TW_COND l)) r j2 k2
                let u := F64.div (F64.mul v (Dev.secondsOf ((t2 : Int) - t))) (F64.ofInt 2)
                said 1 ((d.setD (Obj.TW_SE_X l) u).setD (Obj.TW_SE_ALT l) (F64.sub len u)))))
    ∧ (let past := fun (a : TwArrival) => d.waited a.since (d.getN (Obj.TW_MATCH_TIMEOUT l) * 1000000 * nsUnit)
       (x.locals = [] → Yields (.twMatchTimeout l true) s d)
       ∧ (x.remotes = [] → Yields (.twMatchTimeout l false) s d)
       ∧ (∀ a t, x.locals = a :: t →
           (past a = true → Yields (.twMatchTimeout l true) s
             (((d.setTwLine l { x with locals := t }).setN (Obj.TW_DE_STATUS l) (if t = [] then 3 else 1)).tpEvent 111 l))
           ∧ (past a = false → Yields (.twMatchTimeout l true) s d))
       ∧ (∀ a t, x.remotes = a :: t →
           (past a = true → Yields (.twMatchTimeout l false) s (d.setTwLine l { x with remotes := t }))
           ∧ (past a = false → Yields (.twMatchTimeout l false) s d)))

/-- R245, R250, R252, R253, R255: the phasor engine with TIMECLK running. A report whose span can have ended is taken by its
stream's sets; its frame goes to the stream's destination and is counted, with the blocks of its sets, where the stream sends:
it is on, the time is valid, no stop holds, the report is later than the last and not before the stream's start. Past its limit
the frame is dropped, counted with event 115 and at rank 6. A datagram to another port does nothing. A command from an address
the stream allows turns it off, or on to its sender, with event 112, or is answered to its sender with the header, CFG-2 or
CFG-3 frame; one the module does not support is counted; one from another address, of an unknown IDCODE or with a wrong CHK is
counted as rejected, with event 114 (where no stream has the IDCODE, at the first enabled one: the model's choice, assumption
log 85). Under STOP, `PH_UNLOCK_STOP` outside LOCKED stops the frames. -/
def Obligations.PhasorCommands : Prop :=
  ∀ (q : Fin 4) (udp idcode port : Nat) (addr : List Byte) (s : State), s.dev.tm.timeclk = true →
    let d := s.dev
    let switched := fun (on : Bool) (e : Dev) => (e.setB (Obj.PHS_STATE q) on).phEvent 112 q
    let dest := padTo 16 0#8 addr ++ bytesBE 2 port
    let sent := fun (sync : Nat) (body : List Byte) =>
      d.hostSend 0 .phasor (dest ++ bytesBE 2 (d.getN Obj.PH_UDP_PORT)) (Dev.phFrame sync (d.getN (Obj.PHS_IDCODE q)) (d.phSoc d.second)
        (d.phQuality * 16777216 + (d.tm.now % secUnit) * 12000000 / secUnit) body)
    let every := fun (e : Dev) =>
      Yields (.phCmdDataOff ⟨udp, idcode⟩ addr) s e ∧ Yields (.phCmdDataOn ⟨udp, idcode⟩ addr port) s e
        ∧ Yields (.phCmdHeader ⟨udp, idcode⟩ addr port) s e ∧ Yields (.phCmdCfg2 ⟨udp, idcode⟩ addr port) s e
        ∧ Yields (.phCmdCfg3 ⟨udp, idcode⟩ addr port) s e ∧ Yields (.phCmdIgnored ⟨udp, idcode⟩ addr true) s e
    let rejected := fun (k : Nat) => (d.inc (Obj.PHS_CMD_REJECT k)).phEvent 114 k
    let hears := d.phOn = true ∧ d.getN Obj.PH_UDP_PORT = udp
    (¬ hears → every d ∧ Yields (.phCmdIgnored ⟨udp, idcode⟩ addr false) s d)
    ∧ (hears →
        (d.phByIdcode idcode = some q.val → d.phAllows q addr = true →
          Yields (.phCmdDataOff ⟨udp, idcode⟩ addr) s (switched false d)
          ∧ Yields (.phCmdDataOn ⟨udp, idcode⟩ addr port) s (switched true (d.setPhStream q { d.phStream q with dest := dest }))
          ∧ Yields (.phCmdHeader ⟨udp, idcode⟩ addr port) s (sent 0xAA11 (d.blob Obj.PH_HEADER))
          ∧ Yields (.phCmdCfg2 ⟨udp, idcode⟩ addr port) s (sent 0xAA31 (d.cfg2Body q))
          ∧ Yields (.phCmdCfg3 ⟨udp, idcode⟩ addr port) s (sent 0xAA51 (d.cfg3Body q))
          ∧ Yields (.phCmdIgnored ⟨udp, idcode⟩ addr true) s (d.inc (Obj.PHS_CMD_REJECT q)))
        ∧ (d.phByIdcode idcode = some q.val → d.phAllows q addr = false → every (rejected q))
        ∧ (d.phByIdcode idcode = none → every (rejected d.phFirst))
        ∧ Yields (.phCmdIgnored ⟨udp, idcode⟩ addr false) s (rejected ((d.phByIdcode idcode).getD d.phFirst)))
    ∧ ∀ sec n : Nat,
        let fs := d.getN (Obj.PHS_RATE q)
        let runs := d.phRuns = true ∧ d.on (Obj.PHS_ENABLE q) = true ∧ n < fs
        let due := d.phInstant q sec n + d.phSpan q ≤ d.tm.now + d.tc * nsUnit
        let reps := (d.phSetsOf q).map fun x => (x, d.phReport x sec n fs)
        let e := (reps.foldl (fun d x => d.phTake x.1 sec n fs x.2) d).phResume q sec n
        let past := fun (e : Dev) => e.setPhStream q { e.phStream q with last := some (sec, n) }
        let dropped := fun (e : Dev) => ((((past e).inc (Obj.PHS_LATE q)).broken 6).phEvent 115 q)
        (∀ x : Dev, x.phSends q sec n = true ↔
          x.on (Obj.PHS_STATE q) = true ∧ x.getN Obj.TB_STATE ≠ 0 ∧ (x.ph.stopped = true → x.getN Obj.PH_UNLOCK_ACTION ≠ 1)
            ∧ (∀ y, (x.phStream q).last = some y → y.1 < sec ∨ (y.1 = sec ∧ y.2 < n))
            ∧ (x.phStream q).since ≤ (x.phInstant q sec n : Int) - x.tm.steps ∧ x.standby = false)
        ∧ (¬ runs ∨ ¬ due → Yields (.phFrameReady q sec n) s d)
        ∧ (runs → due →
            (e.phSends q sec n = false → Yields (.phFrameReady q sec n) s e)
            ∧ (e.phSends q sec n = true → d.phLimit q sec n < d.tm.now → Yields (.phFrameReady q sec n) s (dropped e))
            ∧ (e.phSends q sec n = true → d.tm.now ≤ d.phLimit q sec n →
                let f := (past e).inc (Obj.PHS_FRAMES q)
                Yields (.phFrameReady q sec n) s
                  (f.hostSend 0 .phasor (((past e).phStream q).dest ++ bytesBE 2 (f.getN Obj.PH_UDP_PORT))
                    (Dev.phFrame 0xAA01 (d.getN (Obj.PHS_IDCODE q)) (d.phSoc sec)
                      (d.phQuality * 16777216 + n * 12000000 / fs)
                      (reps.flatMap fun x => d.phBlock (d.on (Obj.PHS_POLAR q)) x.2)))))
        ∧ (let act := runs ∧ d.phSends q sec n = true ∧ d.phLimit q sec n ≤ d.tm.now + d.tc * nsUnit
           (act → Yields (.phFrameDropped ⟨q, sec, n⟩) s (dropped d)) ∧ (¬ act → Yields (.phFrameDropped ⟨q, sec, n⟩) s d))
        ∧ (let act := d.getN Obj.PH_UNLOCK_ACTION = 1 ∧ d.getN Obj.TB_STATE ≠ 3
             ∧ d.waited (d.ptp.leftLock.getD 0) (d.getN Obj.PH_UNLOCK_STOP * secUnit) = true
           (act → Yields .phUnlockStop s { d with ph := { d.ph with stopped := true } })
           ∧ (¬ act → Yields .phUnlockStop s d))

/-! Task cores, the Stable and the sequencer. -/

/-- R264–R269, R281, Table 11-2: a release instant that can have come (TIME with TIMECLK, then one period on; CYCLE in its
cycles, once in each) decrements an enabled task's dependences in a mode of its mask, at a STANDBY the vendor stalls' only; the
last one restores them and releases it: a waiting task goes to the tail of its stall's queue, READY, with a record; one READY
or slotted is merged, one running is held and, with one held, dropped, each counted with event 118, and for the scan's
descriptor as late (rank 9, event 128) or skipped (event 129). A core that reads `ztask` while it holds a task traps; it takes
its slot's task; ended by an interrupt it reads 0; else it asks. Its other registers answer the slot's task or 0, the held
task's argument and entry, and the state of `zpref`. A grant serves the core that has asked longest, the lowest number among
equals, with the task the selection names; the slot is filled only when no core asks in vain; a task slotted for
`STB_PREFETCH_RECLAIM` returns to the head of its stall with event 119. -/
def Obligations.ReleasesAndGrants : Prop :=
  ∀ (c : Fin 8) (t : Fin 1024) (s : State),
    let d := s.dev
    let x := d.task t
    let can := d.on (Obj.TASK_ENABLE t) = true ∧ d.taskState t ≠ TaskState.disabled ∧ x.off = false ∧ d.mode ≠ 0
      ∧ d.bit (Obj.TASK_MODES t) (d.mode - 1) = true ∧ (d.standby = false ∨ 14 ≤ d.taskStall t)
    let dep := d.getN (Obj.TASK_DEP t)
    let cycles := d.tm.lastT / secUnit * (1000000000 / d.tc) + d.tm.lastT % secUnit / (d.tc * nsUnit)
    let inst := fracOf d.tm.lastT + d.getN (Obj.TASK_CYC_OFFSET t) * nsFrac
    let comes := fun (i : Instr) (act : Prop) (next src : Nat) =>
      let a := d.setTask t { x with next := next }
      (act → ¬ can → Yields i s a)
      ∧ (act → can → 1 < dep → Yields i s (a.setN (Obj.TASK_DEP t) (dep - 1)))
      ∧ (act → can → dep ≤ 1 → Yields i s ((a.setN (Obj.TASK_DEP t) (d.getN (Obj.TASK_DEP_INIT t))).taskRelease t src))
      ∧ (¬ act → Yields i s d)
    let merged := fun (kind : Nat) (e : Dev) => ((e.inc (Obj.TASK_OVERLAPS t)).stbEvent 118 t).tlTask TlKind.overlap 0xFF t kind
    let held := d.setTask t { x with pend := some d.tm.mono }
    comes (.taskTimeRelease t)
      (d.tm.timeclk = true ∧ d.getN (Obj.TASK_RELEASE t) = 1 ∧ d.taskState t ≠ TaskState.disabled
        ∧ x.next ≤ fracOf d.tm.now + d.tc * nsFrac)
      (x.next + max 1 (d.getN (Obj.TASK_PERIOD t))) 0
    ∧ comes (.taskCycleRelease t)
        (d.tm.timeclk = true ∧ d.getN (Obj.TASK_RELEASE t) = 2 ∧ cycles % max 1 (d.getN (Obj.TASK_CYC_N t)) = 0 ∧ x.next ≤ inst)
        (inst + 1) 1
    ∧ (∀ src, d.taskState t = TaskState.waiting →
        d.taskRelease t src
          = ((d.setTask t { x with relAt := d.tm.mono, missed := false, overB := false }).enqueue t false).tlTask TlKind.release 0xFF t
              src)
    ∧ (∀ src, d.taskState t = TaskState.ready ∨ d.taskState t = TaskState.slotted → d.taskRelease t src = merged 0 d)
    ∧ (∀ src, d.taskState t = TaskState.running →
        (x.pend = none → t.val ≠ 960 → d.taskRelease t src = merged 1 held)
        ∧ (x.pend = none → t.val = 960 →
            d.taskRelease t src = merged 1 (((held.inc Obj.SEQ_LATE).broken 9).signalAt Obj.SEQ_EVENT_SRC 128 (noSource 128)))
        ∧ (x.pend ≠ none → t.val ≠ 960 → d.taskRelease t src = merged 2 d)
        ∧ (x.pend ≠ none → t.val = 960 →
            d.taskRelease t src = merged 2 ((d.inc Obj.SEQ_SKIPPED).signalAt Obj.SEQ_EVENT_SRC 129 (noSource 129))))
    ∧ (∀ ended same, (d.core c).held ≠ none → Yields (.ztask c ⟨ended, same⟩) s (d.send (.coreTrap c 0x7C0)))
    ∧ ((d.core c).held = none →
        (∀ ended same k, (d.core c).slot = some k →
          Yields (.ztask c ⟨ended, same⟩) s (d.takePrefetch c k) ∧ Yields (.ztpoll ⟨c, .ztpoll⟩) s (d.takePrefetch c k))
        ∧ ((d.core c).slot = none →
            (∀ ended same, ended = true ∨ d.irqPending c = true →
              Yields (.ztask c ⟨ended, same⟩) s
                ((({ d with stb := { d.stb with asking := d.stb.asking.filter (·.1 != c.val) } } : Dev).setN (Obj.CORE_STATE c) 3).send
                  (.core c 0)))
            ∧ Yields (.ztpoll ⟨c, .ztpoll⟩) s (d.send (.core c 0))
            ∧ (d.irqPending c = false → ∀ same : Bool,
                ((∃ n, (c.val, n) ∈ d.stb.asking) → Yields (.ztask c ⟨false, same⟩) s d)
                ∧ ((∀ n, (c.val, n) ∉ d.stb.asking) →
                    let n := if same then d.stb.askClk else d.stb.askClk + 1
                    Yields (.ztask c ⟨false, same⟩) s
                      (({ d with stb := { d.stb with asking := d.stb.asking ++ [(c.val, n)], askClk := n } } : Dev).setN
                        (Obj.CORE_STATE c) 1)))))
    ∧ ((d.core c).held ≠ none → Yields (.ztpoll ⟨c, .ztpoll⟩) s (d.send (.core c 0)))
    ∧ Yields (.ztpoll ⟨c, .zpref⟩) s
        (d.send (.core c ((if (d.core c).pref = true then 1 else 0) + (if (d.core c).slot ≠ none then 0x80000000 else 0))))
    ∧ (∀ k, (d.core c).held = some k →
        Yields (.ztpoll ⟨c, .ztarg⟩) s (d.send (.core c (d.getN (Obj.TASK_ARG k))))
        ∧ Yields (.ztpoll ⟨c, .ztentry⟩) s (d.send (.core c (d.getN (Obj.TASK_ENTRY k)))))
    ∧ (∀ q, d.nextAsking = some q → ∃ n, (q, n) ∈ d.stb.asking ∧ (∃ st, st < 16 ∧ d.readyFor st q ≠ none)
        ∧ ∀ y m, (y, m) ∈ d.stb.asking → (∃ st, st < 16 ∧ d.readyFor st y ≠ none) → n < m ∨ (n = m ∧ q ≤ y))
    ∧ (∀ latency q e, d.nextAsking = some q →
        (∀ k, d.selectTask q = (some k, e) →
          Yields (.taskGrant latency) s
            ((({ e with stb := { e.stb with asking := e.stb.asking.filter (·.1 != q) } } : Dev).beginTask q k false).tlTask
              TlKind.grant 0xFF k latency))
        ∧ (d.selectTask q = (none, e) → Yields (.taskGrant latency) s d))
    ∧ (∀ latency, d.nextAsking = none → Yields (.taskGrant latency) s d)
    ∧ (let fills := (d.core c).pref = true ∧ (d.core c).slot = none ∧ d.nextAsking = none
       (∀ k e, fills → d.selectTask c = (some k, e) →
        Yields (.prefetchSlotFill c) s
          ((((e.setCore c { e.core c with slot := some k, slotAt := e.tm.mono }).setN (Obj.TASK_STATE k)
            TaskState.slotted).setPrefetchLine c true).tlTask TlKind.slot 0xFF k 0))
       ∧ (¬ fills ∨ (d.selectTask c).1 = none → Yields (.prefetchSlotFill c) s d))
    ∧ (∀ v : Word, Yields (.zpref c v) s (d.setCore c { d.core c with pref := v.toNat.testBit 0 }))
    ∧ ((d.core c).slot = none → Yields (.prefetchReclaim c) s d)
    ∧ ∀ k, (d.core c).slot = some k →
        let past := d.waited (d.core c).slotAt (d.getN Obj.STB_PREFETCH_RECLAIM * nsUnit)
        (past = true →
          Yields (.prefetchReclaim c) s
            (((((d.setCore c { d.core c with slot := none }).setPrefetchLine c false).enqueue k true).tlTask TlKind.slot 0xFF k
              2).stbEvent 119 k))
        ∧ (past = false → Yields (.prefetchReclaim c) s d)

/-- R268, R270–R272, R423: completions, deadlines and the cores' other registers. `zdone` without a task counts with event
121; with one it keeps the status, event 124 where it is not 0, and posts the completion, but not while an earlier one
stalls. A DMA channel's end posts its completion. At an acceptance the collector has moved what waits, and the oldest
completion ends its run or counts its producer, and decrements every successor. A response time that reaches the deadline
counts once at rank 7 with event 116, a running time that reaches the budget once with event 117, and a task held for
`STB_CORE_WDT` raises event 120 and an L2 fault once. `ztrace` gives a USER record, `zsev` its events, a one written to
`zipend` clears its line but never line 63. -/
def Obligations.CompletionsAndCores : Prop :=
  ∀ (c : Fin 8) (t : Fin 1024) (v : Word) (s : State),
    let d := s.dev
    let x := d.task t
    let core := d.core c
    (core.held = none → Yields (.zdone c v) s ((d.inc Obj.STB_BAD_DONE).stbEvent 121 c))
    ∧ (∀ k, core.held = some k → d.doneStalled c = false →
        let e := d.setN (Obj.TASK_STATUS_LAST k) v.toNat
        Yields (.zdone c v) s ((if v = 0#32 then e else e.stbEvent 124 k).post { prod := c, task := some k, status := v.toNat }))
    ∧ (∀ k, core.held = some k → d.doneStalled c = true → Yields (.zdone c v) s d)
    ∧ (∀ ch : Fin 2, Yields (.dmaTransferEnd ch) s (d.post { prod := 10 + ch, task := none, status := 0 }))
    ∧ (let m := d.collect
       (m.stb.queue = [] → Yields .completionAccepted s m)
       ∧ (∀ k q, m.stb.queue = k :: q →
          let e : Dev := { m with stb := { m.stb with queue := q } }
          (∀ u, k.task = some u →
            let r := e.endRun u k.status k.prod
            Yields .completionAccepted s ((r.decrementAll (r.succsOf k)).collect))
          ∧ (k.task = none →
              let n := e.inc (Obj.STB_PROD_COUNT (k.prod - 8))
              let f := n.tideline TlKind.engine k.prod 0xFFFF 0xFF 0 (n.getN (Obj.STB_PROD_COUNT (k.prod - 8)))
              Yields .completionAccepted s ((f.decrementAll (f.succsOf k)).collect))))
    ∧ (let missed := d.getN (Obj.TASK_DEADLINE t) ≠ 0 ∧ d.taskState t ≠ TaskState.disabled ∧ d.taskState t ≠ TaskState.waiting
         ∧ x.missed = false ∧ d.waited x.relAt (d.getN (Obj.TASK_DEADLINE t) * nsUnit) = true
       (missed →
        Yields (.taskDeadlineMiss t) s
          (((((d.setTask t { x with missed := true }).inc (Obj.TASK_MISSES t)).broken 7).stbEvent 116 t).tlTask TlKind.miss 0xFF t
            (d.nsSince x.relAt)))
       ∧ (¬ missed → Yields (.taskDeadlineMiss t) s d))
    ∧ (let spent := d.getN (Obj.TASK_BUDGET t) ≠ 0 ∧ (∃ k : Fin 8, (d.core k).held = some t.val) ∧ x.overB = false
         ∧ d.waited x.grantAt (d.getN (Obj.TASK_BUDGET t) * nsUnit) = true
       (spent →
        Yields (.taskOverBudget t) s
          ((((d.setTask t { x with overB := true }).inc (Obj.TASK_OVER_BUDGET t)).stbEvent 117 t).tlTask TlKind.overBudget 0xFF t
            (d.nsSince x.grantAt)))
       ∧ (¬ spent → Yields (.taskOverBudget t) s d))
    ∧ (let hung := d.getN Obj.STB_CORE_WDT ≠ 0 ∧ core.held ≠ none ∧ core.wdt = false
         ∧ d.waited core.heldAt (d.getN Obj.STB_CORE_WDT * 1000 * nsUnit) = true
       (∀ k, core.held = some k → hung →
          Yields (.coreWatchdog c) s (((d.setCore c { core with wdt := true }).stbEvent 120 c).raiseFault 120 2 0 c k true))
       ∧ (¬ hung → Yields (.coreWatchdog c) s d))
    ∧ (core.held = none → Yields (.ztrace c v) s (d.tideline TlKind.user c 0xFFFF 0xFF 0 v.toNat))
    ∧ (∀ k, core.held = some k → Yields (.ztrace c v) s (d.tlTask TlKind.user c k v.toNat))
    ∧ (let a := if v.toNat.testBit 0 then d.stbEvent 126 c else d
       Yields (.zsev c v) s (if v.toNat.testBit 1 then a.stbEvent 127 c else a))
    ∧ ∃ p q : BitVec 64, Yields (.zipendClear c false v) s (d.setWin c { d.win c with pend := p })
        ∧ Yields (.zipendClear c true v) s (d.setWin c { d.win c with pend := q })
        ∧ (∀ i : Nat, i < 32 → p.getLsbD i = ((d.win c).pend.getLsbD i && !v.getLsbD i)
            ∧ p.getLsbD (32 + i) = (d.win c).pend.getLsbD (32 + i))
        ∧ ∀ i : Nat, i < 32 → q.getLsbD i = (d.win c).pend.getLsbD i
            ∧ q.getLsbD (32 + i) = ((d.win c).pend.getLsbD (32 + i) && (!v.getLsbD i || i == 31))

/-- R280, R286, R292, R294, R295: a scan of a sequencer that is not RUNNING, in BOOT or at a STANDBY does nothing; one that runs
counts, latches the stations' images, reports the first scan of an exchanged program with event 133, evaluates the program's
instances in their order on what was latched, reports its duration, posts completion 12, submits its object writes as one
group, sends the stations' frames and, at the ACTIVE module of a pair, the instance data. A station that gave no input frame
for `STN_TIMEOUT` is STALE, counted, with event 130; one that is not good already, or disabled, is left as it is. -/
def Obligations.SequencerScans : Prop :=
  ∀ (n : Fin 32) (dur : Nat) (s : State),
    let d := s.dev
    (d.getN Obj.SEQ_STATE ≠ 2 ∨ d.mode = Mode.boot ∨ d.standby = true → Yields (.seqScan dur) s d)
    ∧ (d.getN Obj.SEQ_STATE = 2 → d.mode ≠ Mode.boot → d.standby = false →
        let ts := d.scanClock
        let a := (d.inc Obj.SEQ_SCAN_COUNT).seqLatch
        let x := if a.seq.swapped then (a.setN Obj.SEQ_EXCH_SCAN (a.getN Obj.SEQ_SCAN_COUNT)).seqEvent 133 (noSource 133) else a
        let b := x.setSeq { x.seq with prev := some ts, swapped := false }
        let r := (b.seq.prog.insts.foldl (fun e i =>
          Dev.seqEval b (Dev.seqRead s.mem b) ts (ts - d.seq.prev.getD ts) i e) b).seqOutput
        let e := (r.2.setN Obj.SEQ_SCAN_LAST (min 0xFFFFFFFF dur)).postEngine 12
        let f := e.seqSubmit (r.1.objs.map fun x => (x.1, e.storeEntry x.2.1 x.2.2))
        let g := r.1.frames.foldl (fun d x => d.stationSend x.1 x.2) f
        Yields (.seqScan dur) s
          (if g.getN Obj.PR_ROLE = 1 ∧ g.on Obj.PR_LINK_STATE = true then g.send (.instances g.seq.data) else g))
    ∧ (let late := d.on (Obj.STN_ENABLE n) = true ∧ d.getN (Obj.STN_QUALITY n) = 0
         ∧ d.waited (SMap.get 0 d.seq.heard n.val) (d.getN (Obj.STN_TIMEOUT n) * 1000000 * nsUnit) = true
       (late → Yields (.stationTimeout n) s (((d.set (Obj.STN_QUALITY n) 1).inc (Obj.STN_DROPOUTS n)).seqEvent 130 n))
       ∧ (¬ late → Yields (.stationTimeout n) s d))

/-! Breakwater, the guard cores and the safety layer. -/

/-- R301, R303–R305, R312: the latch. Causes that become active at a clear latch set it with their bits, the lowest as first
cause, the time, one more sequence and count, event 136 and an L4 fault; at a set latch each new bit is added with event 137;
each half latches the causes that reach it; without the oscillator nothing latches. While the latch is set or the guard
forces, both BLOCK pins are low; else both are high. Injection runs in the guard's force, and at a set latch in mode 1, within
its minimum, and while a cause is present. -/
def Obligations.BreakwaterLatch : Prop :=
  ∀ (d : Dev) (bits : Nat), bits ≠ 0 →
    (d.bw.rcDead = true → d.bwLatch bits = d)
    ∧ (d.bw.rcDead = false → d.on Obj.BW_STATE = false →
        let e := d.bwLatch bits
        e.on Obj.BW_STATE = true ∧ e.getN Obj.BW_LATCHED = d.getN Obj.BW_LATCHED ||| bits ∧ e.getN Obj.BW_FIRST_CAUSE = lowestBit bits
          ∧ e.get Obj.BW_LATCH_TIME = d.now96 ∧ e.getN Obj.BW_LOR_SEQ = (d.getN Obj.BW_LOR_SEQ + 1) % 65536
          ∧ e.get Obj.BW_LATCH_COUNT = (d.get Obj.BW_LATCH_COUNT + 1) % 4294967296 ∧ e.bw.minOpen = true
          ∧ (d.mode ≠ Mode.boot → e.mode = Mode.lockout))
    ∧ (d.bw.rcDead = false → d.on Obj.BW_STATE = true →
        let e := d.bwLatch bits
        e.on Obj.BW_STATE = true ∧ (∀ b, b < 16 → e.bit Obj.BW_LATCHED b = (d.bit Obj.BW_LATCHED b || bits.testBit b))
          ∧ e.getN Obj.BW_FIRST_CAUSE = d.getN Obj.BW_FIRST_CAUSE ∧ e.get Obj.BW_LATCH_TIME = d.get Obj.BW_LATCH_TIME)
    ∧ (d.bw.rcDead = false →
        let e := d.bwLatch bits
        e.bw.halfA = d.bw.halfA ||| d.bwReaching 0 bits ∧ e.bw.halfB = d.bw.halfB ||| d.bwReaching 1 bits)
    ∧ d.bwOutputs.getN Obj.BW_PIN_READBACK = (if d.on Obj.BW_STATE = true ∨ d.bw.force = true then 0 else 3)
    ∧ d.bwOutputs.on Obj.BW_INJECTING
        = (d.bw.force || (d.on Obj.BW_STATE && (d.actN Obj.BW_INJECT_MODE == 1 || d.bw.minOpen || d.getN Obj.BW_CAUSES != 0)))

/-- R301–R305, R307, R309, R310, R312, R314: the commands of Breakwater and the guard cores. A cause that comes or goes changes
its raw bit, a trip input its reported pins, and the causes are formed anew; one latched already sets the bit of each half it
reaches. A pulse of at least 11 ns below the filter counts as a glitch; one beyond its margin latches. Pins that disagree are
counted with event 142; a pin that does not read back as driven raises event 142 and the guard force. Guard functions 5, 7, 8
are set and cleared by their checks, a failed cross-check counted at rank 1 with event 141; the oscillator's return latches SELF
with the causes then present. A heartbeat lost is a cause of SELF. With the strap set a low phase of 100 ms to 10 s arms the
reset, a longer one raises event 139; the arming ends with its window. Timed injection ends after its minimum when no cause is
present. Once the set is verified and the heartbeat runs SELF ends, and the latch with it where no cause is present. -/
def Obligations.BreakwaterCommands : Prop :=
  ∀ s : State,
    let d := s.dev
    let strap := d.on Obj.BW_LOR_STRAP = true
    (∀ (c : Fin 16) (pins : Fin 4),
      let a := if 8 ≤ c.val ∧ c.val < 12 then d.setN (Obj.TRIPIN_STATE (c.val - 8)) pins else d
      let b := if 8 ≤ c.val ∧ c.val < 12 then d.set (Obj.TRIPIN_STATE (c.val - 8)) 0 else d
      let has := d.bw.raw.testBit c
      let r := (a.setBw { d.bw with raw := if has then d.bw.raw else d.bw.raw + 2 ^ c.val }).bwRefresh
      let again := r.bit Obj.BW_LATCHED c = true ∧ r.bwEnabled c = true ∧ r.bw.rcDead = false
      (again → Yields (.bwCauseActive c pins) s (r.bwHalves (2 ^ c.val)))
      ∧ (¬ again → Yields (.bwCauseActive c pins) s r)
      ∧ Yields (.bwCauseInactive c) s
          (b.setBw { d.bw with raw := if has then d.bw.raw - 2 ^ c.val else d.bw.raw,
                               hbLost := if c.val = 15 then false else d.bw.hbLost }).bwRefresh)
    ∧ (∀ (i : Fin 12) (w : Nat),
        (w < 11 → Yields (.glitchRejected i w) s d)
        ∧ (11 ≤ w → 100 * w < 105 * d.bwFilter i + 1100 →
            Yields (.glitchRejected i w) s (d.inc (if i.val < 8 then Obj.BWC_GLITCHES i else Obj.TRIPIN_GLITCHES (i.val - 8))))
        ∧ (11 ≤ w → 105 * d.bwFilter i + 1100 ≤ 100 * w → d.bwEnabled i = true →
            Yields (.glitchRejected i w) s (d.bwLatch (2 ^ i.val)))
        ∧ (11 ≤ w → 105 * d.bwFilter i + 1100 ≤ 100 * w → d.bwEnabled i = false → Yields (.glitchRejected i w) s d))
    ∧ (∀ (n pins : Fin 4),
        Yields (.tripinDiscrepancy n pins) s (((d.setN (Obj.TRIPIN_STATE n) pins).inc (Obj.TRIPIN_DISC_COUNT n)).bwEvent 142 n))
    ∧ (∀ levels : Fin 4,
        let drive := if d.on Obj.BW_STATE = true ∨ d.bw.force = true then 0 else 3
        (levels.val = drive → Yields (.blockPinReadbackMismatch levels) s (d.setN Obj.BW_PIN_READBACK levels))
        ∧ (levels.val ≠ drive →
            let e := d.bwEvent 142 (if levels.val % 2 = drive % 2 then 1 else 0)
            Yields (.blockPinReadbackMismatch levels) s
              (((e.setBw { e.bw with force := true }).bwOutputs).setN Obj.BW_PIN_READBACK levels)))
    ∧ (d.tm.timeclk = true →
        (∀ lane pin, d.on Obj.BW_STATE = true → (lane || pin) = true → Yields (.guardCrossCheck lane pin) s
          ((((((d.broken 1).inc Obj.GD_XCHECK_FAIL).bwEvent 141 5).guardSet 5 true).guardApply)))
        ∧ (d.on Obj.BW_STATE = true → Yields (.guardCrossCheck false false) s (d.guardSet 5 false).guardApply)
        ∧ (d.on Obj.BW_STATE = false → ∀ lane pin, Yields (.guardCrossCheck lane pin) s d)
        ∧ (∀ same, Yields (.guardParamCheck same) s (d.guardSet 8 (!same)).guardApply)
        ∧ (∀ khz, khz ≠ 0 → d.bw.rcDead = false →
            Yields (.guardRcClockCheck khz) s
              ((d.setBw { d.bw with rcDead := false }).guardSet 7 (decide (khz < 95000 ∨ 105000 < khz))).guardApply)
        ∧ (∀ khz, khz ≠ 0 → d.bw.rcDead = true →
            let e := d.setBw { d.bw with rcDead := false }
            Yields (.guardRcClockCheck khz) s
              ((e.bwLatch (e.bwCauses ||| (2 ^ 15 + 2 ^ 12))).guardSet 7 (decide (khz < 95000 ∨ 105000 < khz))).guardApply)
        ∧ Yields (.guardRcClockCheck 0) s ((d.setBw { d.bw with rcDead := true }).guardSet 7 true).guardApply)
    ∧ (d.tm.timeclk = false → ∀ (lane pin same : Bool) (khz : Nat),
        Yields (.guardCrossCheck lane pin) s d ∧ Yields (.guardParamCheck same) s d ∧ Yields (.guardRcClockCheck khz) s d)
    ∧ Yields .guardHeartbeatLoss s (d.setBw { d.bw with hbLost := true }).bwRefresh
    ∧ (strap → ∀ low high, d.bw.lorStuck = false ∨ 1000 ≤ high →
        (100 ≤ low → low ≤ 10000 →
          Yields (.lorNPulse low high) s ((d.setBw { d.bw with lorStuck := false, armedAt := d.tm.mono }).set Obj.BW_LOR_ARMED 1))
        ∧ (low < 100 ∨ 10000 < low → Yields (.lorNPulse low high) s (d.setBw { d.bw with lorStuck := false })))
    ∧ (strap → d.bw.lorStuck = true → ∀ low high, high < 1000 → Yields (.lorNPulse low high) s d)
    ∧ (¬ strap → ∀ low high, Yields (.lorNPulse low high) s d ∧ Yields .lorNTooLong s d)
    ∧ (strap → Yields .lorNTooLong s ((d.setBw { d.bw with lorStuck := true }).bwEvent 139 (noSource 139)))
    ∧ (let past := d.waited d.bw.armedAt (d.getN Obj.BW_LOR_WINDOW * secUnit)
       (past = true → Yields .lorWindowExpiry s (d.set Obj.BW_LOR_ARMED 0)) ∧ (past = false → Yields .lorWindowExpiry s d))
    ∧ (let ends := d.on Obj.BW_STATE = true ∧ d.actN Obj.BW_INJECT_MODE = 0 ∧ d.getN Obj.BW_CAUSES = 0
         ∧ d.waited d.bw.latchAt (d.actN Obj.BW_INJECT_MIN * 1000 * nsUnit) = true
       (ends → Yields .injectionEnd s ((d.setBw { d.bw with minOpen := false }).bwOutputs))
       ∧ (¬ ends → Yields .injectionEnd s d))
    ∧ (d.bw.powerUp = true → d.bw.hbLost = false →
        let e := d.setBw { d.bw with powerUp := false }
        (e.bwCauses = 0 → Yields (.powerUpRelease true) s (((e.setN Obj.BW_CAUSES 0).bwClear).bwEvent 138 0))
        ∧ (e.bwCauses ≠ 0 →
            Yields (.powerUpRelease true) s (((e.setN Obj.BW_CAUSES e.bwCauses).bwHalves e.bwCauses).bwEntry e.bwCauses)))
    ∧ (d.bw.powerUp = false ∨ d.bw.hbLost = true → Yields (.powerUpRelease true) s d)
    ∧ Yields (.powerUpRelease false) s d

/-- R315–R319: safety frames, with TIMECLK running. At an instant of its grid a heartbeat goes out on the four ports alike where
the layer is enabled, a late one counted at rank 4. A received copy goes on to the opposite line port; one whose identities
match no subscription raises event 143; one that fails its checks is counted at its subscription too. A good copy acts at once
on its TRIP flag; the first of a pair opens a window, the second closes it and, where the bytes agree, is accepted: GOOD, from
LOST with event 144 and its fault's cause gone, its numbers and time kept; where they differ it is counted with event 143. A
window of 200 µs without a partner is counted. A GOOD subscription without frames for `SLS_TIMEOUT` is LOST, with event 144 and
its reaction. -/
def Obligations.SafetyFrames : Prop :=
  ∀ (m : Fin 16) (port : Fin 4) (t : Nat) (head b : List Byte) (s : State), s.dev.tm.timeclk = true →
    let d := s.dev
    let f := d.send (.ether (Dev.switchPort port) .safety (head ++ b))
    let seq := Dev.pduField b 2 2
    let trip := (Dev.pduField b 0x18 1).testBit 0
    let formOk := b.length = 36 ∧ Dev.slCrc (b.take 32) = Dev.pduField b 0x20 4 ∧ Dev.pduField b 0 1 = 1
      ∧ (Dev.pduField b 1 1 = 1 ∨ Dev.pduField b 1 1 = 2)
    let got := fun (e : Dev) => Yields (.safetyFrameReceived ⟨port, t, head⟩ b) s e
    (∀ late,
      let acts := d.on Obj.SL_ENABLE = true ∧ d.heartbeatDue late = true
      (acts → late ≤ 1000 → Yields (.safetyHeartbeatSend late) s (d.sendSafety 1))
      ∧ (acts → 1000 < late → Yields (.safetyHeartbeatSend late) s (((d.sendSafety 1).inc Obj.SL_TX_LATE).broken 4))
      ∧ (¬ acts → Yields (.safetyHeartbeatSend late) s d))
    ∧ (d.pduSub b = none → got (f.bwEvent 143 (noSource 143)))
    ∧ (d.pduSub b = some m.val → ¬ formOk ∨ d.copyOk m (port / 2) (t * 65536) b = false →
        got ((f.inc (Obj.SLS_REJECTS m)).bwEvent 143 m))
    ∧ (d.pduSub b = some m.val → formOk → d.copyOk m (port / 2) (t * 65536) b = true →
        let y := if trip then f.actTrip m true else f
        let x := y.safeSub m
        ((x.wins.find? fun w => w.seq == seq) = none →
          got (y.setSafeSub m { x with wins := x.wins ++ [{ seq := seq, lan := port / 2, pdu := b, at_ := y.tm.mono }] }))
        ∧ (∀ w, (x.wins.find? fun w => w.seq == seq) = some w →
            let e := y.setSafeSub m { x with wins := x.wins.filter (·.seq != seq) }
            (w.pdu = b →
              let g := (e.setSafeSub m { e.safeSub m with last := some (seq, Dev.pduTime b, t * 65536), heard := e.tm.mono }).setN
                (Obj.SLS_STATE m) 1
              let h := if e.getN (Obj.SLS_STATE m) = 2 then (g.bwEvent 144 m).clearCause 144 m else g
              got (if trip then h.bwRefresh else h.actTrip m false))
            ∧ (w.pdu ≠ b → got ((e.inc (Obj.SLS_MISMATCH m)).bwEvent 143 m))))
    ∧ (let x := d.safeSub m
       (x.wins = [] → Yields (.safetyWindowExpiry m) s d)
       ∧ (∀ w ws, x.wins = w :: ws →
          (d.waited w.at_ (200000 * nsUnit) = true →
            Yields (.safetyWindowExpiry m) s ((d.setSafeSub m { x with wins := ws }).inc (Obj.SLS_SINGLE m)))
          ∧ (d.waited w.at_ (200000 * nsUnit) = false → Yields (.safetyWindowExpiry m) s d)))
    ∧ (let lost := d.getN (Obj.SLS_STATE m) = 1 ∧ d.waited (d.safeSub m).heard (d.actN (Obj.SLS_TIMEOUT m) * 1000 * nsUnit) = true
       let e := (d.setN (Obj.SLS_STATE m) 2).bwEvent 144 m
       let r := d.actN (Obj.SLS_LOSS_REACTION m)
       (lost → r = 5 → Yields (.subscriptionLost m) s e.bwRefresh)
       ∧ (lost → r ≠ 5 → Yields (.subscriptionLost m) s (e.raiseFault 144 r 0 m 0 true))
       ∧ (¬ lost → Yields (.subscriptionLost m) s d))

/-! Pair mode. -/

/-- R327–R330, R334, R337, R339, R340: roles. Two modules that meet in CONFIG and PAIR topology with a link up and pass the
check form the couple, the preferred one ACTIVE and sending every mirrored object, the other STANDBY, event 153; else the lowest
failing code is reported with event 159 and both are SOLO; without these conditions nothing happens. A rising ARB_ACT at a
STANDBY outside BOOT and CONFIG is a takeover, at an instant within the cycle in progress (a free value, assumption log 52):
ACTIVE, warm where it was ready and counted so, else cold, counted apart and with an L3 fault; elsewhere the level alone is
taken; a falling one returns the ACTIVE module to STANDBY, where it yielded with the exercise's dwell begun. The epoch taken is
the even one after the newest known at the preferred module, the odd one at the other. A lane of the link that changes raises
event 153; both down end the couple's link, a lane up again brings it back, and the ACTIVE module sends every mirrored object
anew. -/
def Obligations.PairRoles : Prop :=
  ∀ s : State,
    let d := s.dev
    let meets := fun (p : PartnerId) =>
      d.mode = Mode.config ∧ p.config = true ∧ d.topology = 2 ∧ p.pair = true ∧ d.on Obj.PR_LINK_STATE = true
    (∀ p : PartnerId, meets p →
      let c := d.coupleCheck p
      let e := ((d.setN Obj.PR_MISMATCH c).setN Obj.PR_PARTNER_NODE p.node).setF Obj.PR_LINK_DELAY p.delay
      let f := (e.setN Obj.PR_COUPLE Couple.formed).pairEvent 153 (noSource 153)
      (c = 0 → d.on Obj.PR_PREF = true → Yields (.coupleFormation p) s f.enterActive.mirrorAll)
      ∧ (c = 0 → d.on Obj.PR_PREF = false → Yields (.coupleFormation p) s f.enterStandby)
      ∧ (c ≠ 0 → Yields (.coupleFormation p) s
          (((e.setN Obj.PR_COUPLE Couple.mismatch).pairEvent 159 (noSource 159)).setRole Role.solo).pairRefresh))
    ∧ (∀ p : PartnerId, ¬ meets p → Yields (.coupleFormation p) s d)
    ∧ (let up := d.set Obj.PR_ARB_STATE 1
       let at_ := d.tm.now + Config.freeValue d.free % (d.tc * nsUnit)
       let takes := d.getN Obj.PR_ROLE = 2 ∧ d.mode ≠ Mode.boot ∧ d.mode ≠ Mode.config
       (takes →
        let x : TakeSt :=
          { at_ := d.tm.mono + (at_ - d.tm.now), warm := d.on Obj.PR_READY, loaded := false, frame := d.pair.heard }
        let b := (({ up with free := d.free + 1 } : Dev).setPair { d.pair with take := some x }).set Obj.PR_LAST_TAKEOVER (time96 at_)
        (d.on Obj.PR_READY = true → Yields .arbActRise s (b.inc Obj.PR_TAKEOVERS).enterActive)
          ∧ (d.on Obj.PR_READY = false →
              Yields .arbActRise s
                ((b.inc Obj.PR_COLD_TAKEOVERS).enterActive.raiseFault 0x0104 3 0 (noSource 0x0104) 0 false)))
       ∧ (¬ takes → Yields .arbActRise s up))
    ∧ (let down := d.set Obj.PR_ARB_STATE 0
       let leaves := d.getN Obj.PR_ROLE = 1 ∧ d.mode ≠ Mode.boot ∧ d.mode ≠ Mode.config
       let dwell := if d.pair.yielding then
           some { start := down.runIndex, at_ := d.tm.mono, epoch := down.getN Obj.STR_EPOCH_TX, seen := 0 } else d.pair.dwell
       (leaves → Yields .arbActFall s
          ((down.setPair { d.pair with leaving := true, yielding := false, dwell := dwell, cp := none }).setRole
            Role.stand).pairRefresh)
       ∧ (¬ leaves → Yields .arbActFall s down))
    ∧ (let own := d.getN Obj.STR_EPOCH_TX
       let seen := d.getN Obj.PR_EPOCH_SEEN
       let newest := if epochNewer seen own then seen else own
       let base := if newest % 2 = 0 then newest else (newest + 1) % 4096
       d.takeEpoch = d.setN Obj.STR_EPOCH_TX ((base + (if d.on Obj.PR_PREF then 2 else 1)) % 4096))
    ∧ ∀ (l : Fin 2) (up : Bool),
        (d.bit Obj.PR_LINK_STATE l = up → Yields (.pairLinkLaneChange l up) s d)
        ∧ (d.bit Obj.PR_LINK_STATE l ≠ up →
            let e := (d.setBit Obj.PR_LINK_STATE l up).pairEvent 153 l
            let c := d.getN Obj.PR_COUPLE
            let ends := c = Couple.formed ∧ e.on Obj.PR_LINK_STATE = false
            let back := c = Couple.linkDown ∧ e.on Obj.PR_LINK_STATE = true
            let f := (e.setN Obj.PR_COUPLE Couple.formed).pairRefresh
            (¬ ends → ¬ back → Yields (.pairLinkLaneChange l up) s e.pairRefresh)
            ∧ (ends → Yields (.pairLinkLaneChange l up) s
                ((e.setN Obj.PR_COUPLE Couple.linkDown).setPair { e.pair with resync := true }).pairRefresh)
            ∧ (back → d.getN Obj.PR_ROLE = 1 → Yields (.pairLinkLaneChange l up) s f.mirrorAll)
            ∧ (back → d.getN Obj.PR_ROLE ≠ 1 → Yields (.pairLinkLaneChange l up) s f))

/-- R332, R334, R337, R339, R343, R345, R346: what passes between the modules. A checkpoint replaces the last at a STANDBY of
a formed couple, its repetitive slots in place, its epoch noted; loaded, it is the engines' state at a warm takeover, and a
cold one starts from INIT. A mirrored write that passes waits for the boundary reported. A strand enters and leaves split
service with event 156, at the ACTIVE module where it is broken. A preferred standby ready for `PR_REVERT_HOLDOFF` asks for the
return with event 157. An exercise that is due yields where mode and partner allow, and the next instant is noted; not granted
within 10 s it is reported with event 158; at the end of its dwell the outcome is reported with event 158, a failed one raises
an L2 fault, and a ready standby asks for the return. -/
def Obligations.PairExchange : Prop :=
  ∀ s : State,
    let d := s.dev
    let hears := d.getN Obj.PR_ROLE = 2 ∧ d.getN Obj.PR_COUPLE = Couple.formed
    (∀ cp : Checkpoint, hears →
      let e := cp.reps.foldl (fun d (c, _, sl) =>
        d.setRep c { d.rep c with mem := sl.foldl (fun m (k, v) => SMap.set F64.zero m k v) (d.rep c).mem }) d
      Yields (.checkpointReceived cp) s
        ((((e.setPair { e.pair with cp := some cp, resync := false }).seeEpoch cp.epoch).cpAge).pairRefresh))
    ∧ (∀ cp, ¬ hears → Yields (.checkpointReceived cp) s d)
    ∧ (∀ t, d.pair.take = some t →
        let done := fun (e : Dev) =>
          Yields .checkpointLoadComplete s ((e.set Obj.PR_CP_AGE 0).setPair { e.pair with take := some { t with loaded := true } })
        (∀ cp, t.warm = true → d.pair.cp = some cp → done (d.loadCheckpoint cp))
        ∧ (t.warm = false ∨ d.pair.cp = none → done d.startLoop))
    ∧ (d.pair.take = none → Yields .checkpointLoadComplete s d)
    ∧ (∀ (r : Fin 5) (es : List Entry) (sec cycle : Nat),
        ∀ rt : Rights, d.rights (.mirror r) = some rt →
          let v := d.checkGroup (.mirror r) rt es
          (v.1.status = Status.ok → Yields (.mirroredWrite r es sec cycle) s (v.2.acceptGroup (.mirror r) rt 0 (some (sec, cycle)) es))
            ∧ (v.1.status ≠ Status.ok → Yields (.mirroredWrite r es sec cycle) s v.2))
    ∧ (∀ n : Fin 32,
        let may := d.bit Obj.PR_SPLIT_STRANDS n = false ∧ d.getN Obj.PR_COUPLE = Couple.formed
          ∧ (d.getN Obj.PR_ROLE = 2 ∨ (d.getN Obj.PR_ROLE ≠ 0 ∧ d.strandBroken n = true))
        (may → Yields (.splitServiceStart n) s ((d.setBit Obj.PR_SPLIT_STRANDS n true).pairEvent 156 n).pairRefresh)
        ∧ (¬ may → d.getN Obj.PR_ROLE ≤ 2 → Yields (.splitServiceStart n) s d)
        ∧ (d.bit Obj.PR_SPLIT_STRANDS n = true →
            Yields (.splitServiceEnd n) s ((d.setBit Obj.PR_SPLIT_STRANDS n false).pairEvent 156 n).pairRefresh)
        ∧ (d.bit Obj.PR_SPLIT_STRANDS n = false → Yields (.splitServiceEnd n) s d))
    ∧ (let asks := d.on Obj.PR_REVERT_ENABLE = true ∧ d.on Obj.PR_PREF = true ∧ d.getN Obj.PR_ROLE = 2 ∧ d.on Obj.PR_READY = true
         ∧ d.healthCode = 1 ∧ d.waited d.pair.readyAt (d.getN Obj.PR_REVERT_HOLDOFF * secUnit) = true
       (asks → Yields .revertRequest s (((d.setN Obj.PR_HEALTH 2).send (.pins 1 2)).pairEvent 157 (noSource 157)))
       ∧ (¬ asks → Yields .revertRequest s d))
    ∧ (let next := time96Units (d.get Obj.PR_EXERCISE_NEXT)
       let due := d.on Obj.PR_EXERCISE_PERIOD = true ∧ next ≤ d.tm.now + d.tc * nsUnit
       let e := d.set Obj.PR_EXERCISE_NEXT (d.exerciseAfter (max d.tm.now next))
       let may := (∃ st, d.pair.status = some st ∧ st.ready = true) ∧ d.getN Obj.PR_COUPLE = Couple.formed ∧ d.getN Obj.PR_ROLE = 1
         ∧ d.on Obj.PR_PREF = true ∧ 0 < d.mode ∧ d.bit Obj.PR_EXERCISE_MODES (d.mode - 1) = true ∧ e.healthCode = 1
       (due → may → Yields .exerciseStart s
          (((e.setPair { d.pair with yielding := true, yieldAt := d.tm.mono }).setN Obj.PR_HEALTH 3).send (.pins 1 3)))
       ∧ (due → ¬ may → Yields .exerciseStart s e)
       ∧ (¬ due → Yields .exerciseStart s d))
    ∧ (let ends := d.pair.yielding = true ∧ d.getN Obj.PR_ROLE = 1 ∧ d.waited d.pair.yieldAt (10 * secUnit) = true
       let e := d.setPair { d.pair with yielding := false }
       let f := if e.getN Obj.PR_HEALTH = 3 then (e.setN Obj.PR_HEALTH 1).send (.pins 1 1) else e
       (ends → Yields .exerciseNotGranted s (((f.setN Obj.PR_EXERCISE_RESULT 2).pairEvent 158 (noSource 158)).healthRefresh))
       ∧ (¬ ends → Yields .exerciseNotGranted s d))
    ∧ (d.pair.dwell = none → ∀ gap, Yields (.exerciseDwellEnd gap) s d)
    ∧ ∀ w gap, d.pair.dwell = some w →
        let past := d.waited w.at_ (d.getN Obj.PR_EXERCISE_DWELL * secUnit)
        let good := gap ≤ d.gapBound ∧ ∀ n, n < 32 → 0 < d.positions n → w.seen.testBit n = true
        let e := fun (r : Nat) => ((d.setPair { d.pair with dwell := none }).setN Obj.PR_EXERCISE_RESULT r).pairEvent 158 (noSource 158)
        let asks := fun (x : Dev) =>
          if x.getN Obj.PR_ROLE = 2 ∧ x.on Obj.PR_READY = true ∧ x.healthCode = 1 then
            ((x.setN Obj.PR_HEALTH 2).send (.pins 1 2)).pairEvent 157 (noSource 157)
          else x
        (past = true → good → Yields (.exerciseDwellEnd gap) s (asks (e 1)))
          ∧ (past = true → ¬ good →
              Yields (.exerciseDwellEnd gap) s (asks ((e 3).raiseFault 0x0105 2 0 (noSource 0x0105) 0 false)))
          ∧ (past = false → Yields (.exerciseDwellEnd gap) s d)

/-! Sessions. -/

/-- R363, R364, R357: discovery, with TIMECLK running. A HELLO request is answered with the identity block; the periodic one
goes, each `HOST_DISC_PERIOD`, to the groups of the address families in use on both LANs. A HELLO of another module enters it in
the table of 64 peers with event 161, changes its entry with event 161, or refreshes it; with the table full it is not entered;
of the module's own address, or not of 48 bytes, it changes nothing; with the module's own
node ID it is a conflict: the state, event 164 and an L1 record, once. Entries older than 3 periods leave with event 161; the
conflict ends 10 s after its last HELLO with event 164. PRP supervision goes out each 2 s on both LANs with the next number. -/
def Obligations.Discovery : Prop :=
  ∀ (addr : List Byte) (n : Nat) (s : State), s.dev.tm.timeclk = true →
    let d := s.dev
    Yields (.hello addr n) s (d.hostSend 0 .hello addr (d.zoaPlain 1 0x01 Status.ok 0 n d.identity))
    ∧ (let due := d.waited d.host.helloAt (d.getN Obj.HOST_DISC_PERIOD * 1000000 * nsUnit)
       let e : Dev := { d with host := { d.host with helloAt := d.tm.mono } }
       let sent := fun (group : List Byte) (x : Dev) =>
         let m := x.zoaPlain 1 0x01 Status.ok 0 0 x.identity
         if x.on Obj.HOST_PRP then x.hostSend 0 .hello group m
         else (x.hostSend 0 .hello group m).hostSend 2 .hello group m
       let a := if e.on Obj.HOST_IPV4 then sent helloGroup4 e else e
       (due = true →
          Yields .helloPeriodic s (if ((a.blob Obj.HOST_IPV6).take 16).any (· != 0#8) then sent helloGroup6 a else a))
       ∧ (due = false → Yields .helloPeriodic s d))
    ∧ (∀ block : List Byte,
        let at_ := fun i => (block.getD i 0#8).toNat
        let a := padTo 16 0#8 addr
        (block.length ≠ 48 ∨ (block.drop 36).take 6 = d.mac → Yields (.peerHelloReceived block addr) s d)
        ∧ (block.length = 48 → (block.drop 36).take 6 ≠ d.mac →
            let e := d.notePeer (at_ 9) (at_ 10) (at_ 8) a
            (at_ 9 ≠ d.getN Obj.HOST_NODE_ID ∨ at_ 9 = 0 → Yields (.peerHelloReceived block addr) s e)
            ∧ (at_ 9 = d.getN Obj.HOST_NODE_ID → at_ 9 ≠ 0 → Yields (.peerHelloReceived block addr) s e.nodeConflict))
        ∧ (∀ p, d.host.peers.find? (·.addr = a) = some p → p.node = at_ 9 → p.role = at_ 10 → p.order = at_ 8 →
            d.notePeer (at_ 9) (at_ 10) (at_ 8) a
              = { d with host := { d.host with peers := d.host.peers.map fun x => if x.addr = a then { p with tLast := d.tm.mono } else x } })
        ∧ (∀ p, d.host.peers.find? (·.addr = a) = some p → ¬ (p.node = at_ 9 ∧ p.role = at_ 10 ∧ p.order = at_ 8) →
            d.notePeer (at_ 9) (at_ 10) (at_ 8) a
              = d.setPeers (d.host.peers.map fun x =>
                  if x.addr = a then { p with node := at_ 9, role := at_ 10, order := at_ 8, tLast := d.tm.mono } else x))
        ∧ (d.host.peers.find? (·.addr = a) = none → 64 ≤ d.host.peers.length → d.notePeer (at_ 9) (at_ 10) (at_ 8) a = d)
        ∧ (d.host.peers.find? (·.addr = a) = none → d.host.peers.length < 64 →
            ∃ flags, d.notePeer (at_ 9) (at_ 10) (at_ 8) a
              = d.takeFree.2.setPeers (d.host.peers ++ [{ node := at_ 9, role := at_ 10, order := at_ 8, flags := flags, addr := a,
                                                          tLast := d.tm.mono }])))
    ∧ (let t : Dev := { d with host := { d.host with tConflict := d.tm.mono } }
       (d.on Obj.HOST_NODE_CONFLICT = true → d.nodeConflict = t)
        ∧ (d.on Obj.HOST_NODE_CONFLICT = false →
            d.nodeConflict
              = ((t.setN Obj.HOST_NODE_CONFLICT 1).hostEvent 164 (noSource 164)).raiseFault 164 1 0 (noSource 164) (d.getN Obj.HOST_NODE_ID) true))
    ∧ (let old := fun (p : Peer) => p.node = n ∧ d.waited p.tLast (3 * d.getN Obj.HOST_DISC_PERIOD * 1000000 * nsUnit) = true
       ((∀ p ∈ d.host.peers, ¬ old p) → Yields (.peerAgeOut n) s d)
        ∧ ((∃ p ∈ d.host.peers, old p) →
            ∃ left, (∀ p, p ∈ left ↔ p ∈ d.host.peers ∧ ¬ old p) ∧ Yields (.peerAgeOut n) s (d.setPeers left)))
    ∧ (let due := d.on Obj.HOST_NODE_CONFLICT = true ∧ d.waited d.host.tConflict (10 * secUnit) = true
       (due → Yields .nodeConflictClear s
          (((d.setN Obj.HOST_NODE_CONFLICT 0).hostEvent 164 (noSource 164)).clearCause 164 (noSource 164)))
        ∧ (¬ due → Yields .nodeConflictClear s d))
    ∧ (d.on Obj.HOST_PRP = true → d.waited d.host.prpAt (2 * secUnit) = true →
        let body := [0x00#8, 0x01#8] ++ bytesBE 2 d.host.prpSup ++ [20#8, 6#8] ++ d.mac ++ [0#8, 0#8]
        Yields .prpSupervisionSend s
          ((({ d with host := { d.host with prpSup := (d.host.prpSup + 1) % 65536, prpAt := d.tm.mono } } : Dev).send
            (.ether 0 .prp body)).send (.ether 2 .prp body)))
    ∧ (d.on Obj.HOST_PRP = false ∨ d.waited d.host.prpAt (2 * secUnit) = false → Yields .prpSupervisionSend s d)

/-- R365–R367, R359: logins and ends of sessions, with TIMECLK running. A refused challenge is answered STATE, LOCKED (with
event 163), ROLE, AUTH or, without a free slot, BUSY; one that passes takes the lowest free slot, PENDING, with the next
session number and a nonce. A proof in time opens the session; a wrong one, and 2 s without one, free the slot after a record
and a count, and enough within 60 s lock the user. A session closed or idle ends with its record, its subscriptions,
transfers and debug access. A failed tag is counted; the first in a second raises event 162. -/
def Obligations.Logins : Prop :=
  ∀ (n : Fin 16) (seq : Nat) (s : State), s.dev.tm.timeclk = true →
    let d := s.dev
    let x := d.ses n
    (∀ (pl : List Byte) (port : Fin 4) (addr : List Byte),
      let c : Instr := .loginChallenge pl port addr seq
      let user := d.userNamed (trimZeros (pl.take 16))
      let role := (pl.getD 16 0#8).toNat
      let flags := (pl.getD 17 0#8).toNat
      let st := d.challengeStatus user role (flags % 2 == 1)
      (pl.length < 36 → Yields c s (d.plainAnswer port addr 0 seq 0x02 Status.type []))
      ∧ (36 < pl.length → Yields c s (d.plainAnswer port addr 0 seq 0x02 Status.tooLong []))
      ∧ (pl.length = 36 → st ≠ Status.ok → st ≠ Status.locked → Yields c s (d.plainAnswer port addr 0 seq 0x02 st []))
      ∧ (pl.length = 36 → st = Status.locked →
          Yields c s ((d.hostEvent 163 (user.getD 0xFFFF)).plainAnswer port addr 0 seq 0x02 Status.locked []))
      ∧ (pl.length = 36 → st = Status.ok → d.freeSessions = [] → Yields c s (d.plainAnswer port addr 0 seq 0x02 Status.busy []))
      ∧ (∀ k rest, pl.length = 36 → st = Status.ok → d.freeSessions = k :: rest →
          let id := Dev.nextGen (d.ses k).gen * 16 + k
          ∃ nM : List Byte, nM.length = 16 ∧
            let e := d.takeFree.2.setSes k { SesSt.init with
              gen := Dev.nextGen (d.ses k).gen, user := user, roleReq := role, flags := flags, nC := (pl.drop 20).take 16, nM := nM,
              port := port, addr := padTo 18 0#8 addr, tChal := d.tm.mono }
            Yields c s
              ((((e.setN (Obj.SES_STATE k) 1).setN (Obj.SES_ID k) id).setBlob (Obj.SES_ADDR k)
                (zoaDomain 0x1100 5 (padTo 18 0#8 addr))).plainAnswer port addr 0 seq 0x02 Status.ok (bytesBE 4 id ++ nM))))
    ∧ (∀ proof : List Byte,
        let id := d.getN (Obj.SES_ID n)
        (d.getN (Obj.SES_STATE n) ≠ 1 → Yields (.loginProof n seq proof) s d)
        ∧ (d.getN (Obj.SES_STATE n) = 1 → d.provenUser n proof = none →
            Yields (.loginProof n seq proof) s ((d.loginFailed n).plainAnswer x.port x.addr id seq 0x03 Status.auth []))
        ∧ (∀ u, d.getN (Obj.SES_STATE n) = 1 → d.provenUser n proof = some u → d.getN (Obj.USR_ROLE u) < x.roleReq →
            Yields (.loginProof n seq proof) s ((d.freeSlot n).plainAnswer x.port x.addr id seq 0x03 Status.role []))
        ∧ (∀ u, d.getN (Obj.SES_STATE n) = 1 → d.provenUser n proof = some u → x.roleReq ≤ d.getN (Obj.USR_ROLE u) →
            let sig := (d.loginMac n (d.blob (Obj.USR_KEY u)) "ZOA1-S" true []).take 16
            let e := d.openSession n u
            Yields (.loginProof n seq proof) s
              (e.proofAnswer n seq (sig ++ [BitVec.ofNat 8 x.roleReq, BitVec.ofNat 8 (x.flags % 2)]
                ++ bytesBE 2 (e.getN Obj.HOST_SES_TIMEOUT)))))
    ∧ (let due := d.getN (Obj.SES_STATE n) = 1 ∧ d.waited x.tChal (2 * secUnit) = true
       (due → Yields (.loginTimeout n) s (d.loginFailed n)) ∧ (¬ due → Yields (.loginTimeout n) s d))
    ∧ (∀ u : Nat,
        let e := d.inc (Obj.USR_FAILS u)
        let recent := (u, d.tm.mono) :: d.host.fails.filter fun y => decide (d.tm.mono < y.2 + 60 * secUnit)
        let f : Dev := { e with host := { e.host with fails := recent.filter (·.1 != u) } }
        ((recent.filter (·.1 = u)).length < e.getN Obj.SEC_LOCK_FAILS →
          d.userFailed u = { e with host := { e.host with fails := recent } })
        ∧ (e.getN Obj.SEC_LOCK_FAILS ≤ (recent.filter (·.1 = u)).length →
            d.userFailed u = f.set (Obj.USR_LOCKED_UNTIL u) (time96 (f.tm.now + f.getN Obj.SEC_LOCK_TIME * secUnit))))
    ∧ (s.fresh n seq = true → Yields (.close n seq) s (((s.at n seq).respond n seq 0x7F Status.ok []).closeSession n))
    ∧ (let idle := d.waited x.tLast (d.getN Obj.HOST_SES_TIMEOUT * secUnit) = true
       (idle → Yields (.sessionIdleTimeout n) s (d.closeSession n)) ∧ (¬ idle → Yields (.sessionIdleTimeout n) s d))
    ∧ (d.sesOpen n = true →
        let e := d.logNote 3 0 (d.sesOrigin n)
        d.closeSession n
          = (({ e with host := { e.host with subs := e.host.subs.filter (·.slot != n.val),
                                             transfers := e.host.transfers.filter (·.slot != n.val),
                                             debug := if e.host.debug = some n.val then none else e.host.debug } } : Dev).freeSlot
              n).hostEvent 160 n)
    ∧ (d.sesOpen n = false → d.closeSession n = d ∧ Yields (.tagFailure n) s d)
    ∧ (d.sesOpen n = true →
        let e := d.inc (Obj.SES_AUTH_FAIL n)
        (e.host.tagSec = some e.second → Yields (.tagFailure n) s e)
          ∧ (e.host.tagSec ≠ some e.second →
              Yields (.tagFailure n) s (({ e with host := { e.host with tagSec := some e.second } } : Dev).hostEvent 162 n)))

/-- R374–R377: the change log and the firmware. The oldest record that waits is programmed with the next number and its link,
the first 8 bytes of the hash of the record before it (or the seed of record 0); a full log of 131,072 records loses its
oldest 64; when fewer than 512 are left waiting after the limit of 768 event 166 says so; records lost are reported by a GAP
record; with none waiting nothing changes. An hour in the running slot, outside BOOT and without a fallback, raises the
rollback counter to the image's security version, never lowers it. -/
def Obligations.LogProgramming : Prop :=
  ∀ s : State,
    let d := s.dev
    (d.host.logWait = [] → Yields .logRecordProgrammed s d)
    ∧ (∀ r rest, d.host.logWait = r :: rest →
        let a := d.logErase
        let b := Dev.logBytes r (a.getN Obj.LOG_NEXT) a.nextLink
        let e : Dev := { a with host := { a.host with log := a.host.log ++ [b], logWait := rest } }
        let f := ((e.setN Obj.LOG_NEXT ((a.getN Obj.LOG_NEXT + 1) % 4294967296)).setN Obj.LOG_HEAD_LINK
          (natBE ((sha256 b).take 8))).setN Obj.LOG_PENDING rest.length
        (f.host.logLimit = false ∨ 512 ≤ rest.length → Yields .logRecordProgrammed s f.logGapRecord)
          ∧ (f.host.logLimit = true → rest.length < 512 →
              Yields .logRecordProgrammed s
                (({ f with host := { f.host with logLimit := false } } : Dev).hostEvent 166 (noSource 166)).logGapRecord))
    ∧ (∀ b, d.host.log.getLast? = some b → d.nextLink = (sha256 b).take 8)
    ∧ (d.host.log = [] → d.nextLink = (sha256 (bytesLE 8 (d.getN Obj.ID_SERIAL) ++ Dev.ascii "ZOA-LOG")).take 8)
    ∧ (d.host.log.length < 131072 → d.logErase = d)
    ∧ (131072 ≤ d.host.log.length →
        d.logErase = ({ d with host := { d.host with log := d.host.log.drop 64 } } : Dev).add Obj.LOG_FIRST 64)
    ∧ (d.host.logGap = 0 → d.logGapRecord = d)
    ∧ (let due := d.mode ≠ Mode.boot ∧ d.getN Obj.FW_STATUS ≠ 4 ∧ d.waited d.host.tFw (3600 * secUnit) = true
       (due → Yields .fwRollbackRaise s (d.setN Obj.FW_ROLLBACK (max (d.getN Obj.FW_ROLLBACK) d.fwRunning.version)))
        ∧ (¬ due → Yields .fwRollbackRaise s d))

/-! Requests of open sessions and the raw ring. -/

/-- R358, R362: sequence numbers. A request whose number is among the answers kept is answered again and refreshes the
session; one that is not ahead of the highest taken is counted and dropped; without an open session or with TIMECLK stopped
it changes nothing. It holds of every request of a session. R368, R369: writes of sessions. A payload of value entries that
passes the checks of R351 is taken whole and waits; one that does not is answered and nothing of it waits: a WRITE with its
status, a WRITE_GROUP with GROUP_FAIL and the entry that failed; bytes that end too soon are TYPE, bytes left over TOO_LONG.
-/
def Obligations.WriteRequests : Prop :=
  (∀ (n : Fin 16) (seq : Nat) (pl : List Byte) (ctl : Fin 2) (unit : Fin 4) (s : State) (c : Instr),
     c ∈ [Instr.read n seq pl, .write n seq pl, .readList n seq pl, .writeGroup n seq pl, .subscribe n seq pl, .domainOpen n seq pl,
          .domainBlock n seq pl, .domainEnd n seq pl, .domainAbort n seq pl, .close n seq, .tsuFifoOut n seq unit, .tlData n seq,
          .canTxDone n seq ctl, .canRxData n seq ctl] →
     let d := s.dev
     let x := d.ses n
     let ahead := (seq + 4294967296 - x.seqHigh % 4294967296) % 4294967296
     (d.sesOpen n = false ∨ d.tm.timeclk = false → Yields c s d)
     ∧ (d.sesOpen n = true → d.tm.timeclk = true →
         (∀ k, x.kept.find? (·.seq = seq) = some k →
           Yields c s ((d.setSes n { x with tLast := d.tm.mono }).answer n seq k.opcode k.status k.payload))
         ∧ (x.kept.find? (·.seq = seq) = none → ahead = 0 ∨ 2147483648 < ahead → Yields c s (d.inc (Obj.SES_SEQ_DROPS n)))))
  ∧ (∀ (n : Fin 16) (seq : Nat) (pl : List Byte) (s : State), s.fresh n seq = true →
     let e := s.at n seq
     let w : Instr := .write n seq pl
     let g : Instr := .writeGroup n seq pl
     (∀ st, parseEntries 1 pl = .error st → Yields w s (e.respond n seq 0x11 st []))
     ∧ (∀ es rt, parseEntries 1 pl = .ok es → e.rights (.session n seq) = some rt →
         let v := e.checkGroup (.session n seq) rt es
         (v.1.status = Status.ok → Yields w s (v.2.acceptGroup (.session n seq) rt 0x11 none es))
           ∧ (v.1.status ≠ Status.ok → Yields w s (v.2.respond n seq 0x11 v.1.status [])))
     ∧ (pl.length < 4 → Yields g s (e.respond n seq 0x13 Status.type []))
     ∧ (∀ st, 4 ≤ pl.length → parseEntries (fieldBE pl 0 2) (pl.drop 4) = .error st →
         Yields g s (e.respond n seq 0x13 st []))
     ∧ (∀ es rt, 4 ≤ pl.length → parseEntries (fieldBE pl 0 2) (pl.drop 4) = .ok es → e.rights (.session n seq) = some rt →
         let v := e.checkGroup (.session n seq) rt es
         (v.1.status = Status.ok → Yields g s (v.2.acceptGroup (.session n seq) rt 0x13 none es))
         ∧ (∀ i st, v.1.status ≠ Status.ok → v.1.entry = some (i, st) →
             Yields g s (v.2.respond n seq 0x13 Status.groupFail (Dev.failBytes es i st)))
         ∧ (v.1.status ≠ Status.ok → v.1.entry = none → Yields g s (v.2.respond n seq 0x13 v.1.status []))))

/-- R360, R371, R275, R210, R411, R413: reads. A READ answers seconds and cycle of the last boundary and one value entry, or
the status of the failing check; a list answers an entry for each of at most 128 objects, a failing one with its status; each
payload that is too short is TYPE, too long TOO_LONG. Records of the Tideline, of a time stamp unit and of a CAN controller
leave by the same read, whole records from the oldest on. -/
def Obligations.ReadRequests : Prop :=
  ∀ (n : Fin 16) (seq : Nat) (s : State), s.fresh n seq = true →
    let e := s.at n seq
    (∀ pl : List Byte,
      (pl.length < 4 → Yields (.read n seq pl) s (e.respond n seq 0x10 Status.type []))
      ∧ (4 < pl.length → Yields (.read n seq pl) s (e.respond n seq 0x10 Status.tooLong []))
      ∧ (pl.length = 4 →
          let r := e.readEntry s.mem (e.sesRole n) (fieldBE pl 0 2) (fieldBE pl 2 1)
          (r.1.1 = Status.ok → Yields (.read n seq pl) s (r.2.respond n seq 0x10 Status.ok (r.2.boundaryStamp ++ r.1.2)))
            ∧ (r.1.1 ≠ Status.ok → Yields (.read n seq pl) s (r.2.respond n seq 0x10 r.1.1 []))))
    ∧ (∀ pl : List Byte,
        let k := fieldBE pl 0 2
        let c : Instr := .readList n seq pl
        let r := e.readEntries s.mem (e.sesRole n) (Dev.objectList k (pl.drop 4))
        let body := r.2.boundaryStamp ++ bytesBE 2 k ++ [0#8, 0#8] ++ r.1.flatten
        (pl.length < 4 → Yields c s (e.respond n seq 0x12 Status.type []))
        ∧ (4 ≤ pl.length → 128 < k ∨ 4 + 4 * k < pl.length → Yields c s (e.respond n seq 0x12 Status.tooLong []))
        ∧ (4 ≤ pl.length → k ≤ 128 → pl.length < 4 + 4 * k → Yields c s (e.respond n seq 0x12 Status.type []))
        ∧ (pl.length = 4 + 4 * k → k ≤ 128 →
            (body.length ≤ 1432 → Yields c s (r.2.respond n seq 0x12 Status.ok body))
              ∧ (1432 < body.length → Yields c s (e.respond n seq 0x12 Status.tooLong []))))
    ∧ (∀ (c : Instr) (k : Nat),
        (c, k) ∈ [(Instr.tlData n seq, Obj.TL_DATA)]
            ∨ (∃ u : Fin 4, (c, k) = (.tsuFifoOut n seq u, Obj.TSU_FIFO_OUT u))
            ∨ (∃ u : Fin 2, (c, k) = (.canTxDone n seq u, Obj.CAN_TX_DONE u) ∨ (c, k) = (.canRxData n seq u, Obj.CAN_RX_DATA u)) →
          let r := e.readEntry s.mem (e.sesRole n) (k / 256) (k % 256)
          (r.1.1 = Status.ok → Yields c s (r.2.respond n seq 0x10 Status.ok (r.2.boundaryStamp ++ r.1.2)))
            ∧ (r.1.1 ≠ Status.ok → Yields c s (r.2.respond n seq 0x10 r.1.1 [])))
    ∧ (∀ (u : Fin 2) (x : CanDone) (rest : List CanDone), (e.can u).done = x :: rest →
        e.readObj s.mem (e.sesRole n) none (0x6C20 + u) 8
          = ((Status.ok, .domain, .bytes (Dev.canDoneBytes x)), e.setCan u { e.can u with done := rest }))
    ∧ (∀ u : Fin 2,
        let left := min 14 (e.canUnread u)
        let len := max 1 (e.getN (Obj.CAN_RX_LEN u))
        let rd := e.getN (Obj.CAN_RX_RD u)
        e.readObj s.mem (e.sesRole n) none (0x6C20 + u) 0x0C
          = ((Status.ok, .domain,
              .bytes ((List.range left).flatMap fun i => readBytes s.mem (e.canEntryAddr u ((rd + i) % len)) 96)),
             e.setN (Obj.CAN_RX_RD u) ((rd + left) % len)))
    ∧ (let left := min 88 (e.stb.unread / 16)
       let size := max 1 (e.getN Obj.TL_SIZE)
       let rd := e.getN Obj.TL_RD_PTR
       e.readObj s.mem (e.sesRole n) none 0x5830 0x0C
         = ((Status.ok, .domain,
             .bytes ((List.range left).flatMap fun i =>
               readBytes s.mem (0x40000000 + (e.getN Obj.TL_BASE + (rd + 16 * i) % size) % 0x40000000) 16)),
            (e.setN Obj.TL_RD_PTR ((rd + 16 * left) % size)).tlReadPtr))

/-- R372: subscriptions. One that passes its form takes the lowest free ID of the session, a CHANGE one with the values it
starts from; one that does not is answered with its status. At the first boundary at or after an instant of its grid (begun anew
in each second, or from TAI second 0 for a period of 1 s and more: assumption log 17) a PUSH of a PERIODIC subscription carries
every value, 1 ms after its last comparison one of a CHANGE subscription those that differ from the last, in messages of at most
1,416 bytes of entries; an EVENT message carries the waiting records and says whether some were lost, and none waits then. In a
closed session, for an ID that is not one of its subscriptions, or before it is due nothing happens. -/
def Obligations.Subscriptions : Prop :=
  ∀ (n : Fin 16) (seq id : Nat) (s : State), s.dev.tm.timeclk = true →
    let d := s.dev
    (s.fresh n seq = true →
      let e := s.at n seq
      (∀ pl : List Byte, e.subscribeStatus n pl ≠ Status.ok →
        Yields (.subscribe n seq pl) s (e.respond n seq 0x20 (e.subscribeStatus n pl) []))
      ∧ (∀ pl : List Byte, e.subscribeStatus n pl = Status.ok → fieldBE pl 0 1 = 2 →
          let x : Subscr := { slot := n, id := e.freeSubId n, mode := 2, period := fieldBE pl 4 4, keys := [],
                              events := natLE ((pl.drop 12).take 24), last := [], recs := [], overflow := false,
                              at_ := e.tm.mono }
          Yields (.subscribe n seq pl) s
            (({ e with host := { e.host with subs := e.host.subs ++ [x] } } : Dev).respond n seq 0x20 Status.ok
              [BitVec.ofNat 8 (e.freeSubId n), 0#8, 0#8, 0#8]))
      ∧ (∀ pl : List Byte, e.subscribeStatus n pl = Status.ok → fieldBE pl 0 1 = 0 →
          let x : Subscr := { slot := n, id := e.freeSubId n, mode := 0, period := fieldBE pl 4 4,
                              keys := (Dev.objectList (fieldBE pl 8 2) (pl.drop 12)).map fun y => y.1 * 256 + y.2,
                              events := 0, last := [], recs := [], overflow := false, at_ := e.tm.lastT }
          Yields (.subscribe n seq pl) s
            (({ e with host := { e.host with subs := e.host.subs ++ [x] } } : Dev).respond n seq 0x20 Status.ok
              [BitVec.ofNat 8 (e.freeSubId n), 0#8, 0#8, 0#8]))
      ∧ (∀ pl : List Byte, e.subscribeStatus n pl = Status.ok → fieldBE pl 0 1 = 1 →
          let keys := (Dev.objectList (fieldBE pl 8 2) (pl.drop 12)).map fun y => y.1 * 256 + y.2
          let v := e.subValues s.mem (e.sesRole n) keys
          let x : Subscr := { slot := n, id := e.freeSubId n, mode := 1, period := fieldBE pl 4 4, keys := keys,
                              events := 0, last := v.1, recs := [], overflow := false, at_ := v.2.tm.mono }
          Yields (.subscribe n seq pl) s
            (({ v.2 with host := { v.2.host with subs := v.2.host.subs ++ [x] } } : Dev).respond n seq 0x20 Status.ok
              [BitVec.ofNat 8 (e.freeSubId n), 0#8, 0#8, 0#8])))
    ∧ (d.sesOpen n = false ∨ d.subOf n id = none → Yields (.push n id) s d ∧ Yields (.event n id) s d)
    ∧ (∀ x, d.sesOpen n = true → d.subOf n id = some x →
        let v := d.subValues s.mem (d.sesRole n) x.keys
        let p := x.period * 1000000 * nsUnit
        let t := if p < secUnit then d.tm.lastT % secUnit else d.tm.lastT
        let grid := d.tm.started = true ∧ d.tm.lastT ≠ x.at_ ∧ t % p < d.tc * nsUnit
        let past := d.waited x.at_ (1000000 * nsUnit)
        (x.mode = 0 → grid → Yields (.push n id) s ((v.2.setSub { x with at_ := v.2.tm.lastT }).pushValues n id v.1))
        ∧ (x.mode = 0 → ¬ grid → Yields (.push n id) s d)
        ∧ (x.mode = 1 → past = true →
            Yields (.push n id) s ((v.2.setSub { x with last := v.1, at_ := v.2.tm.mono }).pushValues n id
              ((v.1.zip x.last).filterMap fun (a, b) => if a = b then none else some a)))
        ∧ (x.mode = 1 → past = false → Yields (.push n id) s d)
        ∧ (x.mode = 2 → Yields (.push n id) s d)
        ∧ (x.recs = [] → Yields (.event n id) s d)
        ∧ (x.recs ≠ [] →
            Yields (.event n id) s ((d.setSub { x with recs := [], overflow := false }).moduleMessage n 0x30
              (if x.overflow then 4 else 0)
              (x.recs.flatMap fun (e, src, t) => [BitVec.ofNat 8 e, 0#8] ++ bytesBE 2 src ++ time96BE t))))
    ∧ ∀ (op flags : Nat) (pl : List Byte),
        let e := d.setSes n { d.ses n with txSeq := ((d.ses n).txSeq + 1) % 4294967296 }
        d.moduleMessage n op flags pl
          = (e.send (.message n op flags (((d.ses n).txSeq + 1) % 4294967296) pl)).hostSend (d.ses n).port .zoa (d.ses n).addr
              (e.zoaSealed n flags op Status.ok (((d.ses n).txSeq + 1) % 4294967296) pl)

/-- R371: DOMAIN transfers. An open one that passes takes the next ID with its snapshot; a read block answers the bytes there
are from its offset; a write block at the number received, or the last one again, is taken, another is SEQ, one beyond the
total or of more than 1,408 bytes TOO_LONG; the end of a write of the right length and CRC is one WRITE, else SEQ; an abort
ends it without effect, and so does 10 s without a block. A header of the wrong length is TYPE or TOO_LONG, a direction above 1
RANGE, an ID that is not a transfer of the session STATE. -/
def Obligations.Transfers : Prop :=
  ∀ (n : Fin 16) (seq : Nat) (pl : List Byte) (s : State),
    (s.fresh n seq = true →
      let e := s.at n seq
      let ix := fieldBE pl 0 2
      let sub := fieldBE pl 2 1
      let dir := fieldBE pl 3 1
      let off := fieldBE pl 8 8
      let len := fieldBE pl 16 4
      let found := e.transferOf n (fieldBE pl 4 4)
      let open_ : Instr := .domainOpen n seq pl
      let block : Instr := .domainBlock n seq pl
      let end_ : Instr := .domainEnd n seq pl
      let abort : Instr := .domainAbort n seq pl
      (pl.length < 24 →
        Yields open_ s (e.respond n seq 0x40 Status.type []) ∧ Yields block s (e.respond n seq 0x41 Status.type [])
          ∧ Yields end_ s (e.respond n seq 0x42 Status.type []) ∧ Yields abort s (e.respond n seq 0x43 Status.type []))
      ∧ (24 < pl.length →
          Yields open_ s (e.respond n seq 0x40 Status.tooLong []) ∧ Yields end_ s (e.respond n seq 0x42 Status.tooLong [])
            ∧ Yields abort s (e.respond n seq 0x43 Status.tooLong []))
      ∧ (∀ x, found = some x → 24 ≤ pl.length →
          let want := 24 + (if x.isWrite then len else 0)
          (pl.length < want → Yields block s (e.respond n seq 0x41 Status.type []))
          ∧ (want < pl.length → Yields block s (e.respond n seq 0x41 Status.tooLong [])))
      ∧ (pl.length = 24 → 1 < dir → Yields open_ s (e.respond n seq 0x40 Status.range []))
      ∧ (pl.length = 24 → found = none →
          Yields block s (e.respond n seq 0x41 Status.state []) ∧ Yields end_ s (e.respond n seq 0x42 Status.state [])
            ∧ Yields abort s (e.respond n seq 0x43 Status.state []))
      ∧ (pl.length = 24 → dir ≤ 1 → e.openStatus n ix sub dir len ≠ Status.ok →
          Yields open_ s (e.respond n seq 0x40 (e.openStatus n ix sub dir len) []))
      ∧ (pl.length = 24 → dir ≤ 1 → e.openStatus n ix sub dir len = Status.ok →
          4 ≤ (e.host.transfers.filter (·.slot = n.val)).length ∨ 16 ≤ e.host.transfers.length →
          Yields open_ s (e.respond n seq 0x40 Status.busy []))
      ∧ (pl.length = 24 → dir = 1 → e.openStatus n ix sub 1 len = Status.ok →
          (e.host.transfers.filter (·.slot = n.val)).length < 4 → e.host.transfers.length < 16 →
          let id := e.host.nextTransfer
          let x : Transfer := { id := id, slot := n, key := ix * 256 + sub, isWrite := true, total := len, data := [], lastOff := 0,
                                lastLen := 0, tLast := e.tm.mono }
          Yields open_ s
            (({ e with host := { e.host with transfers := e.host.transfers ++ [x],
                                             nextTransfer := if id = 4294967295 then 1 else id + 1 } } : Dev).respond n seq 0x40
              Status.ok (transferHeader ix sub 1 id 0 len 0)))
      ∧ (pl.length = 24 → dir = 0 → e.openStatus n ix sub 0 len = Status.ok →
          (e.host.transfers.filter (·.slot = n.val)).length < 4 → e.host.transfers.length < 16 →
          let r := e.transferBytes s.mem (e.sesRole n) (ix * 256 + sub)
          let id := r.2.host.nextTransfer
          let x : Transfer := { id := id, slot := n, key := ix * 256 + sub, isWrite := false, total := r.1.length,
                                data := if Dev.inPlace (ix * 256 + sub) = true then [] else r.1, lastOff := 0, lastLen := 0,
                                tLast := r.2.tm.mono }
          Yields open_ s
            (({ r.2 with host := { r.2.host with transfers := r.2.host.transfers ++ [x],
                                                 nextTransfer := if id = 4294967295 then 1 else id + 1 } } : Dev).respond n seq 0x40
              Status.ok (transferHeader ix sub 0 id 0 r.1.length 0)))
      ∧ (∀ x, found = some x → x.isWrite = true → pl.length = 24 + len →
          let b := pl.drop 24
          let last := off = x.lastOff ∧ b.length = x.lastLen
          let y : Transfer := { x with data := x.data.take off ++ b, lastOff := off, lastLen := b.length, tLast := e.tm.mono }
          (1408 < b.length → Yields block s (e.respond n seq 0x41 Status.tooLong []))
          ∧ (b.length ≤ 1408 → off ≠ x.data.length → ¬ last → Yields block s (e.respond n seq 0x41 Status.seq []))
          ∧ (b.length ≤ 1408 → off = x.data.length ∨ last → x.total < off + b.length →
              Yields block s (e.respond n seq 0x41 Status.tooLong []))
          ∧ (b.length ≤ 1408 → off = x.data.length ∨ last → off + b.length ≤ x.total →
              Yields block s ((e.setTransfer y).respond n seq 0x41 Status.ok
                (transferHeader (x.key / 256) (x.key % 256) 1 x.id off b.length 0))))
      ∧ (∀ x, found = some x → x.isWrite = false → pl.length = 24 →
          let all := if Dev.inPlace x.key = true then (e.transferBytes s.mem (e.sesRole n) x.key).1 else x.data
          let b := ((all.take x.total).drop off).take len
          (1408 < len → Yields block s (e.respond n seq 0x41 Status.tooLong []))
          ∧ (len ≤ 1408 → x.total < off → Yields block s (e.respond n seq 0x41 Status.seq []))
          ∧ (len ≤ 1408 → off ≤ x.total →
              Yields block s ((e.setTransfer { x with tLast := e.tm.mono }).respond n seq 0x41 Status.ok
                (transferHeader (x.key / 256) (x.key % 256) 0 x.id off b.length 0 ++ b))))
      ∧ (∀ x, found = some x → pl.length = 24 →
          let f := e.dropTransfer x.id
          Yields abort s (f.respond n seq 0x43 Status.ok [])
          ∧ (x.isWrite = false → Yields end_ s (f.respond n seq 0x42 Status.ok []))
          ∧ (x.isWrite = true → x.data.length < x.total ∨ fieldBE pl 20 4 ≠ crc32 x.data →
              Yields end_ s (f.respond n seq 0x42 Status.seq []))
          ∧ (x.isWrite = true → x.total ≤ x.data.length → fieldBE pl 20 4 = crc32 x.data →
              Yields end_ s (f.sessionWrite n seq 0x42 [entryOf (x.key / 256) (x.key % 256) (f.typeOf x.key).code x.data]))))
    ∧ ∀ id : Nat,
        let due := ∃ x ∈ s.dev.host.transfers, x.id = id ∧ s.dev.waited x.tLast (10 * secUnit) = true
        (due → Yields (.domainTransferTimeout id) s (s.dev.dropTransfer id)) ∧ (¬ due → Yields (.domainTransferTimeout id) s s.dev)

/-- R373, R206: reception into the raw ring, with TIMECLK running. A frame while the ring is disabled, shorter than 14 bytes,
of another type than `HOST_RAW_ETYPE`, or without an owned descriptor is counted as dropped; a duplicate of the other LAN is
not; else it goes to the descriptor's buffer, a longer one than the buffer without its data, its length, port, status and
time stamp are written back, the head moves on, with event 165; a time stamp that was lost is marked not valid and counts at
rank 6; a buffer outside the map stops the machine, and only that does. Without TIMECLK no frame arrives. -/
def Obligations.RawReception : Prop :=
  (∀ (q : Fin 4) (f : List Byte) (cap : Int) (fcs late : Bool) (s : State), s.dev.tm.timeclk = false →
    Yields (.rawFrameReceived q f cap ⟨fcs, late⟩) s s.dev)
  ∧ ∀ (q : Fin 4) (f : List Byte) (cap : Int) (fcs late : Bool) (s : State), s.dev.tm.timeclk = true →
    let c : Instr := .rawFrameReceived q f cap ⟨fcs, late⟩
    let p := s.dev.prpCheck f
    let e := p.2
    let etype := e.getN Obj.HOST_RAW_ETYPE
    let desc := e.rawDesc Obj.HOST_RAW_RX_BASE e.host.rxHead
    let refused := e.on Obj.HOST_RAW_ENABLE = false ∨ f.length < 14 ∨ (etype ≠ 0 ∧ natBE ((f.drop 12).take 2) ≠ etype)
      ∨ (natLE (readBytes s.mem (desc + 0x0C) 4)).testBit 31 = false
    let buf := natLE (readBytes s.mem desc 4)
    let len := natLE (readBytes s.mem (desc + 4) 2)
    (p.1 = true → Yields c s e)
    ∧ (p.1 = false → refused → Yields c s (e.inc Obj.HOST_DROPS))
    ∧ (p.1 = false → ¬ refused → dmaSpan buf len = true →
        let steps := e.get Obj.TB_STEP_COUNT
        let stamp := rawStamp (e.tRx q cap).toNat (!late) (steps != e.host.rxSteps) q false (e.getN Obj.TB_STATE)
        let status := if len < f.length then 2 else if fcs = true then 1 else 0
        let g : Dev := { e with host := { e.host with rxHead := (e.host.rxHead + 1) % max 1 (e.getN Obj.HOST_RAW_RING_LEN),
                                                      rxSteps := steps } }
        Stores c s
          ((if len < f.length then [] else [(buf, f)])
            ++ [(desc + 6, bytesLE 2 f.length), (desc + 0x0C, bytesLE 4 (2 ^ (24 + q.val) + status)), (desc + 0x10, stamp)])
          ((if late then g.broken 6 else g).hostEvent 165 q))
    ∧ (p.1 = false → ¬ refused → dmaSpan buf len = false → exec c s = .fault .addressOutsideMap)
    ∧ (s.dev.on Obj.HOST_PRP = false → p = (false, s.dev))

/-! Field channels and PWM. -/

/-- R383–R392: field channels. A frame, with REFCLK, takes over L+ and the readback, begins and ends each disagreement, and
samples each channel; an input that has differed for its debounce changes with the time of its first sample and event 172. A
disagreement of 5 ms and a thermal shutdown set FAULT, event 173, and a retry after 100 ms ends the latter. Sag, 2 ms without a
frame and the watchdog switch the outputs off, latched with the first cause and event 175. Below 18.0 V SAG is set, above 19.0 V
inputs are valid again, event 174. The survey measures channel after channel, each for 5 ms, and ends with event 175. What the
field die times may end 5 % early. -/
def Obligations.FieldChannels : Prop :=
  ∀ s : State,
    let d := s.dev
    (∀ (levels readback limit : BitVec 16) (v : F32), d.tm.refclk = false → Yields (.fieldDieFrame levels readback v limit) s d)
    ∧ (∀ (levels readback limit : BitVec 16) (v : F32), d.tm.refclk = true →
      let e := (d.setF Obj.FIO_LPLUS v).setBit Obj.FIO_STATUS FioBit.linkOk true
      let differs := fun (c : Nat) => e.fioIsOut c && readback.toNat.testBit c != e.fioCommanded c
      let f := e.setFio { e.fio with
        raw := levels.toNat
        linkAt := e.tm.mono
        limit := mask16 fun c => limit.toNat.testBit c && e.fioIsOut c
        dis := mask16 fun c => e.fio.dis.testBit c && differs c
        disAt := (List.range 16).filterMap fun c =>
          if differs c then some (c, (e.fio.disAt.lookup c).getD e.tm.mono) else none }
      Yields (.fieldDieFrame levels readback v limit) s
        (((List.range 16).foldl (fun d c => d.fioSample c (levels.toNat.testBit c) (readback.toNat.testBit c)) f).fioDrive.fioFault))
    ∧ (∀ (c : Fin 16) (level back : Bool),
        (d.bit Obj.FIO_DIR c = true → d.fioSample c level back = d.setBit Obj.FIO_IN c back)
        ∧ (d.bit Obj.FIO_DIR c = false → d.bit Obj.FIO_STATUS FioBit.inValid = false →
            d.fioSample c level back = d.setBit Obj.FIO_IN c false)
        ∧ (d.bit Obj.FIO_DIR c = false → d.bit Obj.FIO_STATUS FioBit.inValid = true → level ≠ d.bit Obj.FIO_IN c →
            d.getN (Obj.FIO_DEBOUNCE c) = 0 →
            d.fioSample c level back
              = ((d.setBit Obj.FIO_IN c level).set (Obj.FIO_IN_TIME c) d.now96).fioEvent 172 c)
        ∧ (d.bit Obj.FIO_DIR c = false → d.bit Obj.FIO_STATUS FioBit.inValid = true → level ≠ d.bit Obj.FIO_IN c →
            d.getN (Obj.FIO_DEBOUNCE c) ≠ 0 → d.fio.since.any (·.1 = c.val) = false →
            d.fioSample c level back = d.setFio { d.fio with since := SMap.ins d.fio.since c.val (d.now96, d.tm.mono) })
        ∧ (d.bit Obj.FIO_DIR c = false → d.bit Obj.FIO_STATUS FioBit.inValid = true → level ≠ d.bit Obj.FIO_IN c →
            d.getN (Obj.FIO_DEBOUNCE c) ≠ 0 → d.fio.since.any (·.1 = c.val) = true → d.fioSample c level back = d)
        ∧ (d.bit Obj.FIO_DIR c = false → d.bit Obj.FIO_STATUS FioBit.inValid = true → level = d.bit Obj.FIO_IN c →
            d.fioSample c level back = d.setFio { d.fio with since := SMap.del d.fio.since c.val }))
    ∧ (∀ (c : Fin 16),
        let level := d.fio.raw.testBit c
        let e := d.setFio { d.fio with since := SMap.del d.fio.since c.val }
        (d.fio.since.lookup c.val = none → Yields (.inputDebounceExpiry c) s d)
        ∧ (∀ t u, d.fio.since.lookup c.val = some (t, u) →
            let past := d.waited u (d.getN (Obj.FIO_DEBOUNCE c) * 1000 * nsUnit)
            let changes := d.bit Obj.FIO_DIR c = false ∧ d.bit Obj.FIO_STATUS FioBit.inValid = true ∧ level ≠ d.bit Obj.FIO_IN c
            (past = false → Yields (.inputDebounceExpiry c) s d)
            ∧ (past = true → changes →
                Yields (.inputDebounceExpiry c) s (((e.setBit Obj.FIO_IN c level).set (Obj.FIO_IN_TIME c) t).fioEvent 172 c))
            ∧ (past = true → ¬ changes → Yields (.inputDebounceExpiry c) s e))
        ∧ (let lasts := d.bit Obj.FIO_DIR c = true
             ∧ ∃ u, d.fio.disAt.lookup c.val = some u ∧ d.waitedField u (5000000 * nsUnit) = true
           (lasts → Yields (.outputDisagreement c) s
              (d.setFio { d.fio with dis := mask16 fun i => d.fio.dis.testBit i || i == c }).fioFault)
           ∧ (¬ lasts → Yields (.outputDisagreement c) s d))
        ∧ (let hot := d.fioCommanded c = true ∧ d.fio.thermal.testBit c = false
           (hot → Yields (.outputThermalShutdown c) s
              (d.setFio { d.fio with thermal := mask16 fun i => d.fio.thermal.testBit i || i == c,
                                     thermAt := SMap.ins d.fio.thermAt c.val d.tm.mono }).fioDrive.fioFault)
           ∧ (¬ hot → Yields (.outputThermalShutdown c) s d))
        ∧ (let again := ∃ u, d.fio.thermAt.lookup c.val = some u ∧ d.waitedField u (100000000 * nsUnit) = true
           (again → Yields (.outputRetry c) s
              (d.setFio { d.fio with thermal := mask16 fun i => d.fio.thermal.testBit i && i != c,
                                     thermAt := SMap.del d.fio.thermAt c.val }).fioDrive.fioFault)
           ∧ (¬ again → Yields (.outputRetry c) s d)))
    ∧ (let v := d.fio.dis != 0 || d.fio.limit != 0 || d.fio.thermal != 0 || d.bit Obj.FIO_STATUS FioBit.sag
       let e := d.setBit Obj.FIO_STATUS FioBit.fault v
       (v = d.bit Obj.FIO_STATUS FioBit.fault → d.fioFault = d)
        ∧ (v = true → d.bit Obj.FIO_STATUS FioBit.fault = false → d.fioFault = (e.inc Obj.FIO_FAULT_COUNT).fioEvent 173 (noSource 173))
        ∧ (v = false → d.bit Obj.FIO_STATUS FioBit.fault = true → d.fioFault = e.fioEvent 173 (noSource 173)))
    ∧ (let low := d.setBit Obj.FIO_STATUS FioBit.inValid false
       let off := low.setN Obj.FIO_IN (mask16 fun c => low.fioIsOut c && low.bit Obj.FIO_IN c)
       Yields .sag s (((off.setFio { off.fio with since := [] }).fioEvent 174 1).fioLatchOff 1))
    ∧ (let past := d.waitedField d.fio.linkAt (2000000 * nsUnit)
       (past = true → Yields .fieldLinkLoss s ((d.setBit Obj.FIO_STATUS FioBit.linkOk false).fioLatchOff 2))
       ∧ (past = false → Yields .fieldLinkLoss s d))
    ∧ (let past := d.on Obj.FIO_APP_WDT = true ∧ d.waitedField d.fio.kickAt (d.getN Obj.FIO_APP_WDT * 1000000 * nsUnit) = true
       (past → Yields .appWdtExpiry s ((d.setFio { d.fio with wdt := true }).fioLatchOff 3))
       ∧ (¬ past → Yields .appWdtExpiry s d))
    ∧ (∀ cause : Fin 4,
        let o := d.set Obj.FIO_OUT_ENABLE 0
        (d.bit Obj.FIO_STATUS FioBit.offLatched = true → d.fioLatchOff cause = o.fioDrive)
        ∧ (d.bit Obj.FIO_STATUS FioBit.offLatched = false →
            d.fioLatchOff cause
              = ((o.setBit Obj.FIO_STATUS FioBit.offLatched true).setN Obj.FIO_SHUTDOWN_CAUSE cause).fioDrive.fioEvent 175 cause))
    ∧ Yields .lplusLowWarn s ((d.setBit Obj.FIO_STATUS FioBit.sag true).fioEvent 174 0).fioFault
    ∧ (let e := (d.setBit Obj.FIO_STATUS FioBit.sag false).setBit Obj.FIO_STATUS FioBit.inValid true
       let f := e.setFio { e.fio with since := ((List.range 16).filterMap fun c =>
         if !e.fioIsOut c && e.fio.raw.testBit c != e.bit Obj.FIO_IN c then some (c, (e.now96, e.tm.mono)) else none) }
       Yields .lplusRecover s (f.fioEvent 174 2).fioFault)
    ∧ (∀ before after : F32, d.fio.survey = none → Yields (.surveyChannelDone before after) s d ∧ Yields .surveyAbort s d)
    ∧ (∀ (before after : F32) (c : Nat), d.fio.survey = some c →
        let r := F32.mul after (F32.ofInt 100)
        let e := (d.setF (Obj.FIO_LOAD c) r).setN (Obj.FIO_LOAD_CLASS c) (Dev.surveyClass before r)
        let past := d.waited d.fio.surveyAt (5000000 * nsUnit)
        Yields .surveyAbort s (d.surveyEnd 3 0x0101)
        ∧ (past = false → Yields (.surveyChannelDone before after) s d)
        ∧ (∀ n, past = true → e.surveyNext (c + 1) = some n →
            Yields (.surveyChannelDone before after) s (e.setFio { e.fio with survey := some n, surveyAt := e.tm.mono }))
        ∧ (past = true → e.surveyNext (c + 1) = none → Yields (.surveyChannelDone before after) s (e.surveyEnd 2 0x0100)))

/-- R394–R400: PWM timers. A period start of an enabled timer whose instant can have come transfers its shadows, begins its
outputs, counts, and raises its period event each n-th period; the count's top does where it is the event's point. At a compare
the first edge lowers B and lets A rise after its dead time, the second lowers A and lets B rise; a dead time's end lets the
member rise that waits; an edge timer's output falls; none comes before its instant, or without TIMECLK. A source that becomes
active trips the timers that select it: their outputs to their trip state, flag, count, event 187; one that goes trips nothing.
-/
def Obligations.PwmTimers : Prop :=
  ∀ (t : Fin 10) (s : State),
    let d := s.dev
    let x := d.timer t
    let c := d.getN (Obj.PWM_CMP_ACT t)
    let came := fun (u : Nat) => u ≤ fracOf d.tm.now + d.tc * nsFrac
    let idle := fun (e : Bool) => x.run = false ∨ c = 0 ∨ c = d.pwmP t ∨ ¬ came (d.pwmEdgeAt t e)
    (d.tm.timeclk = false → ∀ e, Yields (.pwmPeriodStart t e) s d ∧ Yields (.pwmCompareEdge t e) s d)
    ∧ (d.bit Obj.PWM_ENABLE t = false ∨ x.next = none → ∀ top, Yields (.pwmPeriodStart t top) s d)
    ∧ (d.tm.timeclk = true → d.bit Obj.PWM_ENABLE t = true → ∀ at_, x.next = some at_ →
        let due := t.val < 6 ∧ d.on (Obj.PWM_EV_POINT t) = true ∧ x.run = true ∧ came (x.start + d.pwmP t * Dev.pwmUnit)
          ∧ x.starts % max 1 (d.getN (Obj.PWM_PRESCALE t)) = 0
        let a := if x.run = true then d.pwmLoad t else d.pwmTransfer t
        let b := (a.inc (Obj.PWM_PERIODS t)).pwmBegin t at_
        let gone := (b.pwmRemoved t).1 || (b.pwmRemoved t).2
        let y : PwmTimer := b.timer t
        let e := Dev.setTimer t { y with removed := gone } b
        let f := if gone = true ∧ y.removed = false then e.pwmEvent 190 t else e
        let quiet := (t.val < 6 ∧ f.on (Obj.PWM_EV_POINT t) = true) ∨ y.starts % max 1 (f.getN (Obj.PWM_PRESCALE t)) ≠ 0
        (due → Yields (.pwmPeriodStart t true) s (d.pwmEvent (176 + t) t))
        ∧ (¬ due → Yields (.pwmPeriodStart t true) s d)
        ∧ (¬ came at_ → Yields (.pwmPeriodStart t false) s d)
        ∧ (came at_ → quiet → Yields (.pwmPeriodStart t false) s f.pwmPins)
        ∧ (came at_ → ¬ quiet → Yields (.pwmPeriodStart t false) s (f.pwmEvent (176 + t) t).pwmPins))
    ∧ (let e := d.setTimer t { x with wPer := false, wCmp := false, wDt := false, commit := false, dt := d.getN (Obj.PWM_DT t) }
       let f := e.setN (Obj.PWM_PER_ACT t) (e.getN (Obj.PWM_PERIOD t))
       d.pwmTransfer t = f.setN (Obj.PWM_CMP_ACT t) (min (f.getN (Obj.PWM_CMP t)) (f.pwmP t)))
    ∧ (∀ e, idle e → Yields (.pwmCompareEdge t e) s d)
    ∧ (d.tm.timeclk = true → ¬ idle true →
        (x.rising = some true → Yields (.pwmCompareEdge t true) s (d.setTimer t { x with b := true, rising := none }).pwmPins)
        ∧ (x.rising = some false → Yields (.pwmCompareEdge t true) s (d.setTimer t { x with a := true, rising := none }).pwmPins)
        ∧ (x.rising = none → Yields (.pwmCompareEdge t true) s d.pwmPins))
    ∧ (d.tm.timeclk = true → ¬ idle false →
        let at_ := d.pwmEdgeAt t false
        (6 ≤ t.val → Yields (.pwmCompareEdge t false) s (d.setTimer t { x with a := false, edges := 1 }).pwmPins)
        ∧ (t.val < 6 → x.edges = 0 →
            Yields (.pwmCompareEdge t false) s (d.pwmRise t false at_ { x with b := false, rising := none, edges := 1 }).pwmPins)
        ∧ (t.val < 6 → x.edges = 1 →
            Yields (.pwmCompareEdge t false) s (d.pwmRise t true at_ { x with a := false, rising := none, edges := 2 }).pwmPins)
        ∧ (t.val < 6 → 2 ≤ x.edges → Yields (.pwmCompareEdge t false) s d))
    ∧ (∀ (isB : Bool) (at_ : Nat) (y : PwmTimer),
        let gone := if isB = true then (d.pwmRemoved t).2 else (d.pwmRemoved t).1
        (gone = true → d.pwmRise t isB at_ y = d.setTimer t y)
        ∧ (gone = false → y.dt = 0 → d.pwmRise t isB at_ y = d.setTimer t (if isB then { y with b := true } else { y with a := true }))
        ∧ (gone = false → y.dt ≠ 0 →
            d.pwmRise t isB at_ y = d.setTimer t { y with rising := some isB, riseAt := at_ + y.dt * Dev.pwmUnit }))
    ∧ (∀ (pin : Fin 2) (active : Bool),
        let rest := d.pwm.pins % 4 - (if d.pwm.pins.testBit pin then 2 ^ pin.val else 0)
        let e : Dev := { d with pwm := { d.pwm with pins := if active = true then rest + 2 ^ pin.val else rest } }
        (e.pwmSources = e.pwm.active → Yields (.pwmTrip pin active) s e)
        ∧ (e.pwmSources ≠ e.pwm.active →
            let rise := e.pwmSources &&& (127 - e.pwm.active)
            let f : Dev := { e with pwm := { e.pwm with active := e.pwmSources } }
            Yields (.pwmTrip pin active) s
              ((List.range 10).foldl (fun d t => if d.getN (Obj.PWM_TRIP_SRC t) &&& rise ≠ 0 then d.pwmTripTimer t else d) f).pwmPins))
    ∧ d.pwmTripTimer t
        = (((d.setTimer t { x with hold := true, a := false, b := false, rising := none, restart := false }).setBit Obj.PWM_TRIP_FLAG t
            true).inc Obj.PWM_TRIP_COUNT).pwmEvent 187 t

/-! CAN FD. -/

/-- R406, R409–R415: CAN, with TIMECLK running. A controller joins after its integration. A valid frame lowers REC (from above
127 to a free value of 119 to 127), reaches its stations, and is stored with its time at the write index, which moves on, unless
the ring is full: then it is counted as lost. At bus idle the pending request of lowest identifier goes out in a mode that
transmits, one at a time; its end changes TEC, but in the two exempt cases, leaves a completion with its status and echoes a
success where asked; a loop delay above 127 ends the frame with a bit error; a request that has not begun within
`CAN_TX_TIMEOUT` ends with TIMEOUT. Errors raise the counters, which give an enabled controller's state, event 168 + c at a
change, bus-off above 255 with every request ended; recovery of an enabled one clears them to ERROR_ACTIVE. -/
def Obligations.CanBus : Prop :=
  ∀ (c : Fin 2) (s : State), s.dev.tm.timeclk = true →
    let d := s.dev
    let x := d.can c
    let off := d.canState c = CanState.busOff
    let tec := d.getN (Obj.CAN_TEC c)
    let rec0 := d.getN (Obj.CAN_REC c)
    let joins := d.on (Obj.CAN_ENABLE c) = true ∧ ¬ off
    (joins → Yields (.canBusIntegration c) s (d.setCan c { x with joined := true }))
    ∧ (¬ joins → Yields (.canBusIntegration c) s d)
    ∧ (∀ (t id flags : Nat) (data : List Byte),
        (d.canOn c = false → Yields (.canFrameReceived c t id flags data) s d)
        ∧ (d.canOn c = true → ∃ v, (rec0 ≤ 127 → v = rec0 - 1) ∧ (127 < rec0 → 119 ≤ v ∧ v ≤ 127) ∧
            let e := (if 127 < rec0 then d.takeFree.2 else d).canCounters c tec v
            let f := if flags.testBit 3 then e else (List.range 32).foldl (fun d n =>
              if d.on (Obj.STN_ENABLE n) = true ∧ d.getN (Obj.STN_BUS n) = c.val ∧ d.getN (Obj.STN_ID_IN n) = id then d.stationInput n data
              else d) e
            let r := f.canStore c (f.canTime c t) id (flags % 16) data
            Stores (.canFrameReceived c t id flags data) s r.1 r.2))
    ∧ (∀ (time : Int) (id flags : Nat) (data : List Byte),
        let n := max 1 (d.getN (Obj.CAN_RX_LEN c))
        let wr := d.getN (Obj.CAN_RX_WR c)
        let full := (wr + 1) % n = d.getN (Obj.CAN_RX_RD c) % n
        let r := d.canStore c time id flags data
        (full → r.1 = [] ∧ r.2.get (Obj.CAN_RX_LOST c) = (d.get (Obj.CAN_RX_LOST c) + 1) % 4294967296
          ∧ r.2.getN (Obj.CAN_RX_WR c) = wr)
        ∧ (¬ full →
            r.1 = [(d.canEntryAddr c wr,
                    Dev.canEntry time id data.length (flags + if x.lost = true then 32 else 0) x.seq data)]
              ∧ r.2.getN (Obj.CAN_RX_WR c) = (wr + 1) % n))
    ∧ (let silent := d.canOn c = false ∨ x.attempt.isSome = true ∨ d.getN (Obj.CAN_MODE c) = 1 ∨ d.standby = true
       ∀ t : Nat,
        (silent → ∀ won, Yields (.canArbitration c ⟨won, t⟩) s d)
        ∧ Yields (.canArbitration c ⟨false, t⟩) s d
        ∧ (d.canNext c = none → Yields (.canArbitration c ⟨true, t⟩) s d)
        ∧ (∀ r, ¬ silent → d.canNext c = some r →
            let e := d.setCan c { x with attempt := some (r.buf, t) }
            (d.getN (Obj.CAN_MODE c) = 2 → Yields (.canArbitration c ⟨true, t⟩) s e)
              ∧ (d.getN (Obj.CAN_MODE c) ≠ 2 → Yields (.canArbitration c ⟨true, t⟩) s (e.send (.can c r.id r.flags r.data)))))
    ∧ (∀ (code : Fin 16) (exempt : Bool) (loop : Option Nat),
        (x.attempt = none → Yields (.canAttemptEnd c code exempt loop) s d)
        ∧ (∀ b t, x.attempt = some (b, t) → x.reqs.find? (·.buf == b) = none →
            Yields (.canAttemptEnd c code exempt loop) s (d.setCan c { x with attempt := none }))
        ∧ (∀ b t r, x.attempt = some (b, t) → x.reqs.find? (·.buf == b) = some r →
            let delay := if r.flags % 4 = 3 then loop else none
            let err : Nat := if delay.any (127 < ·) then 1 else code.val
            let m : Dev := match delay with
              | some n => d.setN (Obj.CAN_TDC_VALUE c) (min 255 n)
              | none => d
            let old := m.getN (Obj.CAN_TEC c)
            let stays := exempt = true ∧ (err = 2 ∨ (err = 4 ∧ m.canState c = CanState.errorPassive))
            let new : Nat := if err = 0 then old - 1 else if stays then old else old + 8
            let status := if err = 0 then 0 else if 255 < new then 3 else if err = 4 then 1 else 2
            let e := (m.setN (Obj.CAN_TEC c) (min 256 new)).canComplete c r (time96 (t * 65536)) status err
            let f := (e.canCounters c new (e.getN (Obj.CAN_REC c))).canStations c
            (err ≠ 0 ∨ f.on (Obj.CAN_RX_ECHO c) = false → Yields (.canAttemptEnd c code exempt loop) s f)
            ∧ (err = 0 → f.on (Obj.CAN_RX_ECHO c) = true →
                let bits := (if r.flags.testBit 0 then 1 else 0) + (if r.flags.testBit 1 then 2 else 0) + 16
                let g := f.canStore c (f.canTime c t) r.id bits r.data
                Stores (.canAttemptEnd c code exempt loop) s g.1 g.2)))
    ∧ (∀ b : Fin 32,
        (∀ r, x.reqs.find? (·.buf == b.val) = some r →
          let past := x.attempt.map (·.1) ≠ some b.val ∧ d.waited r.at_ (d.getN (Obj.CAN_TX_TIMEOUT c) * 1000 * nsUnit) = true
          (past → Yields (.canTxTimeout c b) s ((d.canComplete c r d.now96 4 0).canStations c))
          ∧ (¬ past → Yields (.canTxTimeout c b) s d))
        ∧ (x.reqs.find? (·.buf == b.val) = none → Yields (.canTxTimeout c b) s d))
    ∧ (d.canOn c = false → ∀ ex eight, Yields (.canReceiveError c ex eight) s d)
    ∧ (d.canOn c = true →
        (∀ eight, Yields (.canReceiveError c true eight) s (d.setCan c { x with joined := false }))
        ∧ Yields (.canReceiveError c false true) s (d.canCounters c tec (rec0 + 8))
        ∧ Yields (.canReceiveError c false false) s (d.canCounters c tec (rec0 + 1)))
    ∧ (∀ t r : Nat,
        let e := (d.setN (Obj.CAN_TEC c) (min 256 t)).setN (Obj.CAN_REC c) (min 128 r)
        let on := d.on (Obj.CAN_ENABLE c)
        (255 < t → d.canCounters c t r = e.canBusOff c)
        ∧ (on = false → t ≤ 255 → d.canCounters c t r = e)
        ∧ (on = true → t ≤ 255 → 127 < t ∨ 127 < r → d.canCounters c t r = e.setCanState c CanState.errorPassive)
        ∧ (on = true → t ≤ 127 → r ≤ 127 → 96 ≤ t ∨ 96 ≤ r → d.canCounters c t r = e.setCanState c CanState.warning)
        ∧ (on = true → t < 96 → r < 96 → d.canCounters c t r = e.setCanState c CanState.errorActive))
    ∧ (∀ st : Fin 5,
        (d.canState c = st → d.setCanState c st = d)
          ∧ (d.canState c ≠ st → d.setCanState c st = (d.setN (Obj.CAN_STATE c) st).canEvent (168 + c) c))
    ∧ (off → x.recover = true → d.on (Obj.CAN_ENABLE c) = true →
        let e := d.setCan c { x with recover := false, joined := true }
        Yields (.canRecoveryComplete c) s
          (((e.set (Obj.CAN_TEC c) 0).set (Obj.CAN_REC c) 0).setCanState c CanState.errorActive))
    ∧ (¬ off ∨ x.recover = false ∨ d.on (Obj.CAN_ENABLE c) = false → Yields (.canRecoveryComplete c) s d)

/-! Boot, links and clocks. -/

/-- R427, R374, R425, R450, R456: the end of BOOT, Ethernet links and clocks. A slot that fails its verification or a fatal
self-test is tried again or left; else BOOT ends: time, self-test result and its L2 record, time base from the RTC, stored
configuration, held values, units and the log's record, then CONFIG, or LOCKOUT where one is pending (with its record) or
Breakwater is latched by more than itself. Outside BOOT, held by TEST, or with both slots failed twice, nothing changes. A
port's link sets its bits. REFCLK lost unlocks the quads and, outside BOOT, the guard takes it as missing cycles; its return
ends that. TIMECLK lost is the loss of the guard's heartbeat; its return ends the loss. -/
def Obligations.BootAndClocks : Prop :=
  ∀ s : State,
    let d := s.dev
    (∀ (ok : Bool) (test : BitVec 16) (valid : Bool) (rtc ms : Nat),
      let c : Instr := .bootComplete ok test valid rtc ms
      let t := test.toNat % 1024
      let stays := d.mode ≠ Mode.boot ∨ d.bit Obj.ID_STRAPS 2 = true ∨ 4 ≤ d.host.fwFails
      let fails := ok = false ∨ Dev.fatalTest t = true
      (stays → Yields c s d)
      ∧ (¬ stays → fails → Yields c s (d.bootFails t))
      ∧ (¬ stays → ¬ fails →
          let a := d.pass (ms * 1000000 * nsUnit)
          let b : Dev := { a with host := { a.host with fwFails := 0, tFw := a.tm.mono } }
          let e := ((b.setN Obj.SYS_SELFTEST t).setN Obj.SYS_BOOT_TIME ms)
          let f := e.setBlob Obj.FW_VERSION ((Config.imageText e.fwRunning.image).take 16)
          let g := (if t = 0 then f else f.storeRec 0x010A 2 0 (noSource 0x010A) t false).endClock.loadTime valid rtc
          let h := if g.host.stored = true ∧ t.testBit 3 = false then g.loadConfig else g
          let i := (h.applyHeld (h.held.map (·.1))).startUnits
          Yields c s (i.logNote 5 (i.getN Obj.FW_STATUS) Origin.module).leaveBoot))
    ∧ (let m := { d with fm := { d.fm with bootL4 := false } }
       let latched := d.on Obj.BW_STATE = true ∧ d.getN Obj.BW_LATCHED % 32768 ≠ 0
       (d.fm.nvLockout = false → d.fm.bootL4 = false → ¬ latched → d.leaveBoot = Dev.setMode Mode.config m)
        ∧ (d.fm.nvLockout = false → d.fm.bootL4 = true ∨ latched → d.leaveBoot = Dev.enterLockout m)
        ∧ (d.fm.nvLockout = true → d.fm.bootL4 = true → d.leaveBoot = Dev.enterLockout m)
        ∧ (d.fm.nvLockout = true → d.fm.bootL4 = false →
            let r := d.storeRec 0x010B 4 0 (noSource 0x010B) 0 false
            d.leaveBoot = Dev.enterLockout { r with fm := { r.fm with bootL4 := false } }))
    ∧ (∀ t, d.host.fwFails = 0 ∨ d.host.fwFails = 2 →
        let r := d.resetDev (d.getN Obj.SYS_RESET_CAUSE)
        let e := r.setN Obj.FW_STATUS (d.getN Obj.FW_STATUS)
        d.bootFails t = ({ e with host := { e.host with fwFails := d.host.fwFails + 1 } } : Dev).setN Obj.SYS_SELFTEST t)
    ∧ (∀ t, d.host.fwFails = 1 →
        let r := d.resetDev ResetCause.firmware
        let slot := 1 - r.getN Obj.FW_SLOT
        let e := (r.setN Obj.FW_SLOT slot).fwResult 4 slot Origin.module
        d.bootFails t = ({ e with host := { e.host with fwFails := 2 } } : Dev).setN Obj.SYS_SELFTEST t)
    ∧ (∀ (q : Fin 4) (up verified : Bool),
        Yields (.ethLinkChange q up verified) s
          ((d.setBit Obj.ETH_LINK_UP q up).setBit Obj.SL_PREEMPT_ACTIVE q (up && verified)))
    ∧ (d.tm.refclk = false → Yields .refclkLoss s d
        ∧ Yields .refclkReturn s (({ d with tm := { d.tm with refclk := true } } : Dev).guardCycle false))
    ∧ (d.tm.refclk = true → Yields .refclkReturn s d
        ∧ (let e := upTo 8 (fun q d => d.devQuadUnlock q) { d with tm := { d.tm with refclk := false } }
           (e.mode = Mode.boot → Yields .refclkLoss s e) ∧ (e.mode ≠ Mode.boot → Yields .refclkLoss s (e.guardCycle true))))
    ∧ (d.tm.timeclk = false → Yields .timeclkLoss s d
        ∧ (let e : Dev := { d with tm := { d.tm with timeclk := true } }
           Yields .timeclkReturn s (e.setBw { e.bw with hbLost := false }).bwRefresh))
    ∧ (d.tm.timeclk = true → Yields .timeclkReturn s d
        ∧ Yields .timeclkLoss s ({ d with tm := { d.tm with timeclk := false } } : Dev).devGuardHeartbeatLoss)
end

