-- ==== Sys2Proof/Laws/State.lean ====
section
/-! SUPPORT. What each update of the module leaves as it is: every other field, by definition. -/

namespace Sys2Proof.Machine

open Sys2Proof

/-- `Dev.set` changes `objs` alone. -/
@[simp] theorem Dev.set_fields (k : Nat) (v : Int) (d : Dev) :
    (d.set k v).blobs = d.blobs ∧ (d.set k v).held = d.held ∧ (d.set k v).free = d.free ∧ (d.set k v).tm = d.tm ∧
    (d.set k v).fm = d.fm ∧ (d.set k v).cyc = d.cyc ∧ (d.set k v).lanes = d.lanes ∧
    (d.set k v).strands = d.strands ∧ (d.set k v).cells = d.cells ∧ (d.set k v).ctls = d.ctls ∧
    (d.set k v).wins = d.wins ∧ (d.set k v).host = d.host ∧ (d.set k v).mods = d.mods ∧ (d.set k v).loop = d.loop ∧
    (d.set k v).reps = d.reps ∧ (d.set k v).svs = d.svs ∧ (d.set k v).meas = d.meas ∧ (d.set k v).time = d.time ∧
    (d.set k v).tide = d.tide ∧ (d.set k v).ph = d.ph ∧ (d.set k v).stb = d.stb ∧ (d.set k v).fio = d.fio ∧
    (d.set k v).pwm = d.pwm ∧ (d.set k v).seq = d.seq ∧ (d.set k v).cans = d.cans ∧ (d.set k v).bw = d.bw ∧
    (d.set k v).pair = d.pair ∧ (d.set k v).evq = d.evq ∧ (d.set k v).outs = d.outs := by
  refine ⟨rfl, rfl, rfl, rfl, rfl, rfl, rfl, rfl, rfl, rfl, rfl, rfl, rfl, rfl, rfl, rfl, rfl, rfl, rfl, rfl, rfl, rfl, rfl, rfl, rfl, rfl, rfl, rfl, rfl⟩

/-- `Dev.setN` changes `objs` alone. -/
@[simp] theorem Dev.setN_fields (k v : Nat) (d : Dev) :
    (d.setN k v).blobs = d.blobs ∧ (d.setN k v).held = d.held ∧ (d.setN k v).free = d.free ∧
    (d.setN k v).tm = d.tm ∧ (d.setN k v).fm = d.fm ∧ (d.setN k v).cyc = d.cyc ∧ (d.setN k v).lanes = d.lanes ∧
    (d.setN k v).strands = d.strands ∧ (d.setN k v).cells = d.cells ∧ (d.setN k v).ctls = d.ctls ∧
    (d.setN k v).wins = d.wins ∧ (d.setN k v).host = d.host ∧ (d.setN k v).mods = d.mods ∧
    (d.setN k v).loop = d.loop ∧ (d.setN k v).reps = d.reps ∧ (d.setN k v).svs = d.svs ∧
    (d.setN k v).meas = d.meas ∧ (d.setN k v).time = d.time ∧ (d.setN k v).tide = d.tide ∧ (d.setN k v).ph = d.ph ∧
    (d.setN k v).stb = d.stb ∧ (d.setN k v).fio = d.fio ∧ (d.setN k v).pwm = d.pwm ∧ (d.setN k v).seq = d.seq ∧
    (d.setN k v).cans = d.cans ∧ (d.setN k v).bw = d.bw ∧ (d.setN k v).pair = d.pair ∧ (d.setN k v).evq = d.evq ∧
    (d.setN k v).outs = d.outs := by
  refine ⟨rfl, rfl, rfl, rfl, rfl, rfl, rfl, rfl, rfl, rfl, rfl, rfl, rfl, rfl, rfl, rfl, rfl, rfl, rfl, rfl, rfl, rfl, rfl, rfl, rfl, rfl, rfl, rfl, rfl⟩

/-- `Dev.setF` changes `objs` alone. -/
@[simp] theorem Dev.setF_fields (k : Nat) (v : F32) (d : Dev) :
    (d.setF k v).blobs = d.blobs ∧ (d.setF k v).held = d.held ∧ (d.setF k v).free = d.free ∧
    (d.setF k v).tm = d.tm ∧ (d.setF k v).fm = d.fm ∧ (d.setF k v).cyc = d.cyc ∧ (d.setF k v).lanes = d.lanes ∧
    (d.setF k v).strands = d.strands ∧ (d.setF k v).cells = d.cells ∧ (d.setF k v).ctls = d.ctls ∧
    (d.setF k v).wins = d.wins ∧ (d.setF k v).host = d.host ∧ (d.setF k v).mods = d.mods ∧
    (d.setF k v).loop = d.loop ∧ (d.setF k v).reps = d.reps ∧ (d.setF k v).svs = d.svs ∧
    (d.setF k v).meas = d.meas ∧ (d.setF k v).time = d.time ∧ (d.setF k v).tide = d.tide ∧ (d.setF k v).ph = d.ph ∧
    (d.setF k v).stb = d.stb ∧ (d.setF k v).fio = d.fio ∧ (d.setF k v).pwm = d.pwm ∧ (d.setF k v).seq = d.seq ∧
    (d.setF k v).cans = d.cans ∧ (d.setF k v).bw = d.bw ∧ (d.setF k v).pair = d.pair ∧ (d.setF k v).evq = d.evq ∧
    (d.setF k v).outs = d.outs := by
  refine ⟨rfl, rfl, rfl, rfl, rfl, rfl, rfl, rfl, rfl, rfl, rfl, rfl, rfl, rfl, rfl, rfl, rfl, rfl, rfl, rfl, rfl, rfl, rfl, rfl, rfl, rfl, rfl, rfl, rfl⟩

/-- `Dev.setD` changes `objs` alone. -/
@[simp] theorem Dev.setD_fields (k : Nat) (v : F64) (d : Dev) :
    (d.setD k v).blobs = d.blobs ∧ (d.setD k v).held = d.held ∧ (d.setD k v).free = d.free ∧
    (d.setD k v).tm = d.tm ∧ (d.setD k v).fm = d.fm ∧ (d.setD k v).cyc = d.cyc ∧ (d.setD k v).lanes = d.lanes ∧
    (d.setD k v).strands = d.strands ∧ (d.setD k v).cells = d.cells ∧ (d.setD k v).ctls = d.ctls ∧
    (d.setD k v).wins = d.wins ∧ (d.setD k v).host = d.host ∧ (d.setD k v).mods = d.mods ∧
    (d.setD k v).loop = d.loop ∧ (d.setD k v).reps = d.reps ∧ (d.setD k v).svs = d.svs ∧
    (d.setD k v).meas = d.meas ∧ (d.setD k v).time = d.time ∧ (d.setD k v).tide = d.tide ∧ (d.setD k v).ph = d.ph ∧
    (d.setD k v).stb = d.stb ∧ (d.setD k v).fio = d.fio ∧ (d.setD k v).pwm = d.pwm ∧ (d.setD k v).seq = d.seq ∧
    (d.setD k v).cans = d.cans ∧ (d.setD k v).bw = d.bw ∧ (d.setD k v).pair = d.pair ∧ (d.setD k v).evq = d.evq ∧
    (d.setD k v).outs = d.outs := by
  refine ⟨rfl, rfl, rfl, rfl, rfl, rfl, rfl, rfl, rfl, rfl, rfl, rfl, rfl, rfl, rfl, rfl, rfl, rfl, rfl, rfl, rfl, rfl, rfl, rfl, rfl, rfl, rfl, rfl, rfl⟩

/-- `Dev.setB` changes `objs` alone. -/
@[simp] theorem Dev.setB_fields (k : Nat) (v : Bool) (d : Dev) :
    (d.setB k v).blobs = d.blobs ∧ (d.setB k v).held = d.held ∧ (d.setB k v).free = d.free ∧
    (d.setB k v).tm = d.tm ∧ (d.setB k v).fm = d.fm ∧ (d.setB k v).cyc = d.cyc ∧ (d.setB k v).lanes = d.lanes ∧
    (d.setB k v).strands = d.strands ∧ (d.setB k v).cells = d.cells ∧ (d.setB k v).ctls = d.ctls ∧
    (d.setB k v).wins = d.wins ∧ (d.setB k v).host = d.host ∧ (d.setB k v).mods = d.mods ∧
    (d.setB k v).loop = d.loop ∧ (d.setB k v).reps = d.reps ∧ (d.setB k v).svs = d.svs ∧
    (d.setB k v).meas = d.meas ∧ (d.setB k v).time = d.time ∧ (d.setB k v).tide = d.tide ∧ (d.setB k v).ph = d.ph ∧
    (d.setB k v).stb = d.stb ∧ (d.setB k v).fio = d.fio ∧ (d.setB k v).pwm = d.pwm ∧ (d.setB k v).seq = d.seq ∧
    (d.setB k v).cans = d.cans ∧ (d.setB k v).bw = d.bw ∧ (d.setB k v).pair = d.pair ∧ (d.setB k v).evq = d.evq ∧
    (d.setB k v).outs = d.outs := by
  refine ⟨rfl, rfl, rfl, rfl, rfl, rfl, rfl, rfl, rfl, rfl, rfl, rfl, rfl, rfl, rfl, rfl, rfl, rfl, rfl, rfl, rfl, rfl, rfl, rfl, rfl, rfl, rfl, rfl, rfl⟩

/-- `Dev.inc` changes `objs` alone. -/
@[simp] theorem Dev.inc_fields (k : Nat) (d : Dev) :
    (d.inc k).blobs = d.blobs ∧ (d.inc k).held = d.held ∧ (d.inc k).free = d.free ∧ (d.inc k).tm = d.tm ∧
    (d.inc k).fm = d.fm ∧ (d.inc k).cyc = d.cyc ∧ (d.inc k).lanes = d.lanes ∧ (d.inc k).strands = d.strands ∧
    (d.inc k).cells = d.cells ∧ (d.inc k).ctls = d.ctls ∧ (d.inc k).wins = d.wins ∧ (d.inc k).host = d.host ∧
    (d.inc k).mods = d.mods ∧ (d.inc k).loop = d.loop ∧ (d.inc k).reps = d.reps ∧ (d.inc k).svs = d.svs ∧
    (d.inc k).meas = d.meas ∧ (d.inc k).time = d.time ∧ (d.inc k).tide = d.tide ∧ (d.inc k).ph = d.ph ∧
    (d.inc k).stb = d.stb ∧ (d.inc k).fio = d.fio ∧ (d.inc k).pwm = d.pwm ∧ (d.inc k).seq = d.seq ∧
    (d.inc k).cans = d.cans ∧ (d.inc k).bw = d.bw ∧ (d.inc k).pair = d.pair ∧ (d.inc k).evq = d.evq ∧
    (d.inc k).outs = d.outs := by
  refine ⟨rfl, rfl, rfl, rfl, rfl, rfl, rfl, rfl, rfl, rfl, rfl, rfl, rfl, rfl, rfl, rfl, rfl, rfl, rfl, rfl, rfl, rfl, rfl, rfl, rfl, rfl, rfl, rfl, rfl⟩

/-- `Dev.add` changes `objs` alone. -/
@[simp] theorem Dev.add_fields (k n : Nat) (d : Dev) :
    (d.add k n).blobs = d.blobs ∧ (d.add k n).held = d.held ∧ (d.add k n).free = d.free ∧ (d.add k n).tm = d.tm ∧
    (d.add k n).fm = d.fm ∧ (d.add k n).cyc = d.cyc ∧ (d.add k n).lanes = d.lanes ∧
    (d.add k n).strands = d.strands ∧ (d.add k n).cells = d.cells ∧ (d.add k n).ctls = d.ctls ∧
    (d.add k n).wins = d.wins ∧ (d.add k n).host = d.host ∧ (d.add k n).mods = d.mods ∧ (d.add k n).loop = d.loop ∧
    (d.add k n).reps = d.reps ∧ (d.add k n).svs = d.svs ∧ (d.add k n).meas = d.meas ∧ (d.add k n).time = d.time ∧
    (d.add k n).tide = d.tide ∧ (d.add k n).ph = d.ph ∧ (d.add k n).stb = d.stb ∧ (d.add k n).fio = d.fio ∧
    (d.add k n).pwm = d.pwm ∧ (d.add k n).seq = d.seq ∧ (d.add k n).cans = d.cans ∧ (d.add k n).bw = d.bw ∧
    (d.add k n).pair = d.pair ∧ (d.add k n).evq = d.evq ∧ (d.add k n).outs = d.outs := by
  refine ⟨rfl, rfl, rfl, rfl, rfl, rfl, rfl, rfl, rfl, rfl, rfl, rfl, rfl, rfl, rfl, rfl, rfl, rfl, rfl, rfl, rfl, rfl, rfl, rfl, rfl, rfl, rfl, rfl, rfl⟩

/-- `Dev.setBit` changes `objs` alone. -/
@[simp] theorem Dev.setBit_fields (k b : Nat) (v : Bool) (d : Dev) :
    (d.setBit k b v).blobs = d.blobs ∧ (d.setBit k b v).held = d.held ∧ (d.setBit k b v).free = d.free ∧
    (d.setBit k b v).tm = d.tm ∧ (d.setBit k b v).fm = d.fm ∧ (d.setBit k b v).cyc = d.cyc ∧
    (d.setBit k b v).lanes = d.lanes ∧ (d.setBit k b v).strands = d.strands ∧ (d.setBit k b v).cells = d.cells ∧
    (d.setBit k b v).ctls = d.ctls ∧ (d.setBit k b v).wins = d.wins ∧ (d.setBit k b v).host = d.host ∧
    (d.setBit k b v).mods = d.mods ∧ (d.setBit k b v).loop = d.loop ∧ (d.setBit k b v).reps = d.reps ∧
    (d.setBit k b v).svs = d.svs ∧ (d.setBit k b v).meas = d.meas ∧ (d.setBit k b v).time = d.time ∧
    (d.setBit k b v).tide = d.tide ∧ (d.setBit k b v).ph = d.ph ∧ (d.setBit k b v).stb = d.stb ∧
    (d.setBit k b v).fio = d.fio ∧ (d.setBit k b v).pwm = d.pwm ∧ (d.setBit k b v).seq = d.seq ∧
    (d.setBit k b v).cans = d.cans ∧ (d.setBit k b v).bw = d.bw ∧ (d.setBit k b v).pair = d.pair ∧
    (d.setBit k b v).evq = d.evq ∧ (d.setBit k b v).outs = d.outs := by
  refine ⟨rfl, rfl, rfl, rfl, rfl, rfl, rfl, rfl, rfl, rfl, rfl, rfl, rfl, rfl, rfl, rfl, rfl, rfl, rfl, rfl, rfl, rfl, rfl, rfl, rfl, rfl, rfl, rfl, rfl⟩

/-- `Dev.setBlob` changes `blobs` alone. -/
@[simp] theorem Dev.setBlob_fields (k : Nat) (v : List Byte) (d : Dev) :
    (d.setBlob k v).objs = d.objs ∧ (d.setBlob k v).held = d.held ∧ (d.setBlob k v).free = d.free ∧
    (d.setBlob k v).tm = d.tm ∧ (d.setBlob k v).fm = d.fm ∧ (d.setBlob k v).cyc = d.cyc ∧
    (d.setBlob k v).lanes = d.lanes ∧ (d.setBlob k v).strands = d.strands ∧ (d.setBlob k v).cells = d.cells ∧
    (d.setBlob k v).ctls = d.ctls ∧ (d.setBlob k v).wins = d.wins ∧ (d.setBlob k v).host = d.host ∧
    (d.setBlob k v).mods = d.mods ∧ (d.setBlob k v).loop = d.loop ∧ (d.setBlob k v).reps = d.reps ∧
    (d.setBlob k v).svs = d.svs ∧ (d.setBlob k v).meas = d.meas ∧ (d.setBlob k v).time = d.time ∧
    (d.setBlob k v).tide = d.tide ∧ (d.setBlob k v).ph = d.ph ∧ (d.setBlob k v).stb = d.stb ∧
    (d.setBlob k v).fio = d.fio ∧ (d.setBlob k v).pwm = d.pwm ∧ (d.setBlob k v).seq = d.seq ∧
    (d.setBlob k v).cans = d.cans ∧ (d.setBlob k v).bw = d.bw ∧ (d.setBlob k v).pair = d.pair ∧
    (d.setBlob k v).evq = d.evq ∧ (d.setBlob k v).outs = d.outs := by
  refine ⟨rfl, rfl, rfl, rfl, rfl, rfl, rfl, rfl, rfl, rfl, rfl, rfl, rfl, rfl, rfl, rfl, rfl, rfl, rfl, rfl, rfl, rfl, rfl, rfl, rfl, rfl, rfl, rfl, rfl⟩

/-- `Dev.setLane` changes `lanes` alone. -/
@[simp] theorem Dev.setLane_fields (l : Nat) (x : LaneSt) (d : Dev) :
    (d.setLane l x).objs = d.objs ∧ (d.setLane l x).blobs = d.blobs ∧ (d.setLane l x).held = d.held ∧
    (d.setLane l x).free = d.free ∧ (d.setLane l x).tm = d.tm ∧ (d.setLane l x).fm = d.fm ∧
    (d.setLane l x).cyc = d.cyc ∧ (d.setLane l x).strands = d.strands ∧ (d.setLane l x).cells = d.cells ∧
    (d.setLane l x).ctls = d.ctls ∧ (d.setLane l x).wins = d.wins ∧ (d.setLane l x).host = d.host ∧
    (d.setLane l x).mods = d.mods ∧ (d.setLane l x).loop = d.loop ∧ (d.setLane l x).reps = d.reps ∧
    (d.setLane l x).svs = d.svs ∧ (d.setLane l x).meas = d.meas ∧ (d.setLane l x).time = d.time ∧
    (d.setLane l x).tide = d.tide ∧ (d.setLane l x).ph = d.ph ∧ (d.setLane l x).stb = d.stb ∧
    (d.setLane l x).fio = d.fio ∧ (d.setLane l x).pwm = d.pwm ∧ (d.setLane l x).seq = d.seq ∧
    (d.setLane l x).cans = d.cans ∧ (d.setLane l x).bw = d.bw ∧ (d.setLane l x).pair = d.pair ∧
    (d.setLane l x).evq = d.evq ∧ (d.setLane l x).outs = d.outs := by
  refine ⟨rfl, rfl, rfl, rfl, rfl, rfl, rfl, rfl, rfl, rfl, rfl, rfl, rfl, rfl, rfl, rfl, rfl, rfl, rfl, rfl, rfl, rfl, rfl, rfl, rfl, rfl, rfl, rfl, rfl⟩

/-- `Dev.setStrand` changes `strands` alone. -/
@[simp] theorem Dev.setStrand_fields (n : Nat) (x : StrandSt) (d : Dev) :
    (d.setStrand n x).objs = d.objs ∧ (d.setStrand n x).blobs = d.blobs ∧ (d.setStrand n x).held = d.held ∧
    (d.setStrand n x).free = d.free ∧ (d.setStrand n x).tm = d.tm ∧ (d.setStrand n x).fm = d.fm ∧
    (d.setStrand n x).cyc = d.cyc ∧ (d.setStrand n x).lanes = d.lanes ∧ (d.setStrand n x).cells = d.cells ∧
    (d.setStrand n x).ctls = d.ctls ∧ (d.setStrand n x).wins = d.wins ∧ (d.setStrand n x).host = d.host ∧
    (d.setStrand n x).mods = d.mods ∧ (d.setStrand n x).loop = d.loop ∧ (d.setStrand n x).reps = d.reps ∧
    (d.setStrand n x).svs = d.svs ∧ (d.setStrand n x).meas = d.meas ∧ (d.setStrand n x).time = d.time ∧
    (d.setStrand n x).tide = d.tide ∧ (d.setStrand n x).ph = d.ph ∧ (d.setStrand n x).stb = d.stb ∧
    (d.setStrand n x).fio = d.fio ∧ (d.setStrand n x).pwm = d.pwm ∧ (d.setStrand n x).seq = d.seq ∧
    (d.setStrand n x).cans = d.cans ∧ (d.setStrand n x).bw = d.bw ∧ (d.setStrand n x).pair = d.pair ∧
    (d.setStrand n x).evq = d.evq ∧ (d.setStrand n x).outs = d.outs := by
  refine ⟨rfl, rfl, rfl, rfl, rfl, rfl, rfl, rfl, rfl, rfl, rfl, rfl, rfl, rfl, rfl, rfl, rfl, rfl, rfl, rfl, rfl, rfl, rfl, rfl, rfl, rfl, rfl, rfl, rfl⟩

/-- `Dev.setCell` changes `cells` alone. -/
@[simp] theorem Dev.setCell_fields (n : Nat) (x : CellSt) (d : Dev) :
    (d.setCell n x).objs = d.objs ∧ (d.setCell n x).blobs = d.blobs ∧ (d.setCell n x).held = d.held ∧
    (d.setCell n x).free = d.free ∧ (d.setCell n x).tm = d.tm ∧ (d.setCell n x).fm = d.fm ∧
    (d.setCell n x).cyc = d.cyc ∧ (d.setCell n x).lanes = d.lanes ∧ (d.setCell n x).strands = d.strands ∧
    (d.setCell n x).ctls = d.ctls ∧ (d.setCell n x).wins = d.wins ∧ (d.setCell n x).host = d.host ∧
    (d.setCell n x).mods = d.mods ∧ (d.setCell n x).loop = d.loop ∧ (d.setCell n x).reps = d.reps ∧
    (d.setCell n x).svs = d.svs ∧ (d.setCell n x).meas = d.meas ∧ (d.setCell n x).time = d.time ∧
    (d.setCell n x).tide = d.tide ∧ (d.setCell n x).ph = d.ph ∧ (d.setCell n x).stb = d.stb ∧
    (d.setCell n x).fio = d.fio ∧ (d.setCell n x).pwm = d.pwm ∧ (d.setCell n x).seq = d.seq ∧
    (d.setCell n x).cans = d.cans ∧ (d.setCell n x).bw = d.bw ∧ (d.setCell n x).pair = d.pair ∧
    (d.setCell n x).evq = d.evq ∧ (d.setCell n x).outs = d.outs := by
  refine ⟨rfl, rfl, rfl, rfl, rfl, rfl, rfl, rfl, rfl, rfl, rfl, rfl, rfl, rfl, rfl, rfl, rfl, rfl, rfl, rfl, rfl, rfl, rfl, rfl, rfl, rfl, rfl, rfl, rfl⟩

/-- `Dev.setCtl` changes `ctls` alone. -/
@[simp] theorem Dev.setCtl_fields (n : Nat) (x : CellCtl) (d : Dev) :
    (d.setCtl n x).objs = d.objs ∧ (d.setCtl n x).blobs = d.blobs ∧ (d.setCtl n x).held = d.held ∧
    (d.setCtl n x).free = d.free ∧ (d.setCtl n x).tm = d.tm ∧ (d.setCtl n x).fm = d.fm ∧
    (d.setCtl n x).cyc = d.cyc ∧ (d.setCtl n x).lanes = d.lanes ∧ (d.setCtl n x).strands = d.strands ∧
    (d.setCtl n x).cells = d.cells ∧ (d.setCtl n x).wins = d.wins ∧ (d.setCtl n x).host = d.host ∧
    (d.setCtl n x).mods = d.mods ∧ (d.setCtl n x).loop = d.loop ∧ (d.setCtl n x).reps = d.reps ∧
    (d.setCtl n x).svs = d.svs ∧ (d.setCtl n x).meas = d.meas ∧ (d.setCtl n x).time = d.time ∧
    (d.setCtl n x).tide = d.tide ∧ (d.setCtl n x).ph = d.ph ∧ (d.setCtl n x).stb = d.stb ∧
    (d.setCtl n x).fio = d.fio ∧ (d.setCtl n x).pwm = d.pwm ∧ (d.setCtl n x).seq = d.seq ∧
    (d.setCtl n x).cans = d.cans ∧ (d.setCtl n x).bw = d.bw ∧ (d.setCtl n x).pair = d.pair ∧
    (d.setCtl n x).evq = d.evq ∧ (d.setCtl n x).outs = d.outs := by
  refine ⟨rfl, rfl, rfl, rfl, rfl, rfl, rfl, rfl, rfl, rfl, rfl, rfl, rfl, rfl, rfl, rfl, rfl, rfl, rfl, rfl, rfl, rfl, rfl, rfl, rfl, rfl, rfl, rfl, rfl⟩

/-- `Dev.setWin` changes `wins` alone. -/
@[simp] theorem Dev.setWin_fields (c : Nat) (x : WinSt) (d : Dev) :
    (d.setWin c x).objs = d.objs ∧ (d.setWin c x).blobs = d.blobs ∧ (d.setWin c x).held = d.held ∧
    (d.setWin c x).free = d.free ∧ (d.setWin c x).tm = d.tm ∧ (d.setWin c x).fm = d.fm ∧
    (d.setWin c x).cyc = d.cyc ∧ (d.setWin c x).lanes = d.lanes ∧ (d.setWin c x).strands = d.strands ∧
    (d.setWin c x).cells = d.cells ∧ (d.setWin c x).ctls = d.ctls ∧ (d.setWin c x).host = d.host ∧
    (d.setWin c x).mods = d.mods ∧ (d.setWin c x).loop = d.loop ∧ (d.setWin c x).reps = d.reps ∧
    (d.setWin c x).svs = d.svs ∧ (d.setWin c x).meas = d.meas ∧ (d.setWin c x).time = d.time ∧
    (d.setWin c x).tide = d.tide ∧ (d.setWin c x).ph = d.ph ∧ (d.setWin c x).stb = d.stb ∧
    (d.setWin c x).fio = d.fio ∧ (d.setWin c x).pwm = d.pwm ∧ (d.setWin c x).seq = d.seq ∧
    (d.setWin c x).cans = d.cans ∧ (d.setWin c x).bw = d.bw ∧ (d.setWin c x).pair = d.pair ∧
    (d.setWin c x).evq = d.evq ∧ (d.setWin c x).outs = d.outs := by
  refine ⟨rfl, rfl, rfl, rfl, rfl, rfl, rfl, rfl, rfl, rfl, rfl, rfl, rfl, rfl, rfl, rfl, rfl, rfl, rfl, rfl, rfl, rfl, rfl, rfl, rfl, rfl, rfl, rfl, rfl⟩

/-- `Dev.send` changes `outs` alone. -/
@[simp] theorem Dev.send_fields (o : Output) (d : Dev) :
    (d.send o).objs = d.objs ∧ (d.send o).blobs = d.blobs ∧ (d.send o).held = d.held ∧ (d.send o).free = d.free ∧
    (d.send o).tm = d.tm ∧ (d.send o).fm = d.fm ∧ (d.send o).cyc = d.cyc ∧ (d.send o).lanes = d.lanes ∧
    (d.send o).strands = d.strands ∧ (d.send o).cells = d.cells ∧ (d.send o).ctls = d.ctls ∧
    (d.send o).wins = d.wins ∧ (d.send o).host = d.host ∧ (d.send o).mods = d.mods ∧ (d.send o).loop = d.loop ∧
    (d.send o).reps = d.reps ∧ (d.send o).svs = d.svs ∧ (d.send o).meas = d.meas ∧ (d.send o).time = d.time ∧
    (d.send o).tide = d.tide ∧ (d.send o).ph = d.ph ∧ (d.send o).stb = d.stb ∧ (d.send o).fio = d.fio ∧
    (d.send o).pwm = d.pwm ∧ (d.send o).seq = d.seq ∧ (d.send o).cans = d.cans ∧ (d.send o).bw = d.bw ∧
    (d.send o).pair = d.pair ∧ (d.send o).evq = d.evq := by
  refine ⟨rfl, rfl, rfl, rfl, rfl, rfl, rfl, rfl, rfl, rfl, rfl, rfl, rfl, rfl, rfl, rfl, rfl, rfl, rfl, rfl, rfl, rfl, rfl, rfl, rfl, rfl, rfl, rfl, rfl⟩

/-- `Dev.pass` changes `tm` alone. -/
@[simp] theorem Dev.pass_fields (u : Nat) (d : Dev) :
    (d.pass u).objs = d.objs ∧ (d.pass u).blobs = d.blobs ∧ (d.pass u).held = d.held ∧ (d.pass u).free = d.free ∧
    (d.pass u).fm = d.fm ∧ (d.pass u).cyc = d.cyc ∧ (d.pass u).lanes = d.lanes ∧ (d.pass u).strands = d.strands ∧
    (d.pass u).cells = d.cells ∧ (d.pass u).ctls = d.ctls ∧ (d.pass u).wins = d.wins ∧ (d.pass u).host = d.host ∧
    (d.pass u).mods = d.mods ∧ (d.pass u).loop = d.loop ∧ (d.pass u).reps = d.reps ∧ (d.pass u).svs = d.svs ∧
    (d.pass u).meas = d.meas ∧ (d.pass u).time = d.time ∧ (d.pass u).tide = d.tide ∧ (d.pass u).ph = d.ph ∧
    (d.pass u).stb = d.stb ∧ (d.pass u).fio = d.fio ∧ (d.pass u).pwm = d.pwm ∧ (d.pass u).seq = d.seq ∧
    (d.pass u).cans = d.cans ∧ (d.pass u).bw = d.bw ∧ (d.pass u).pair = d.pair ∧ (d.pass u).evq = d.evq ∧
    (d.pass u).outs = d.outs := by
  refine ⟨rfl, rfl, rfl, rfl, rfl, rfl, rfl, rfl, rfl, rfl, rfl, rfl, rfl, rfl, rfl, rfl, rfl, rfl, rfl, rfl, rfl, rfl, rfl, rfl, rfl, rfl, rfl, rfl, rfl⟩

/-- Taking a free value advances the counter alone. -/
theorem Dev.takeFree_eq (d : Dev) : d.takeFree = (Config.freeValue d.free, { d with free := d.free + 1 }) := rfl

/-! The command queue. -/

@[simp] theorem State.close_pending (r : List MemWrite × Dev) (s : State) : (s.close r).pending = s.pending := by
  unfold State.close; generalize r.2.settle.tlFlush = p; rfl
@[simp] theorem State.close_dev (r : List MemWrite × Dev) (s : State) : (s.close r).dev = r.2.settle.tlFlush.2 := by
  unfold State.close; generalize r.2.settle.tlFlush = p; rfl
@[simp] theorem State.close_mem (r : List MemWrite × Dev) (s : State) :
    (s.close r).mem = writeAll s.mem (r.1 ++ r.2.settle.tlFlush.1) := by
  unfold State.close; generalize r.2.settle.tlFlush = p; rfl

end Sys2Proof.Machine
end

