-- ==== Sys2Proof/Laws/Memory.lean ====
section
/-! SUPPORT. The memories keep their canonical form, and a write changes the bytes it names alone. -/

namespace Sys2Proof

section
variable {α : Type} [DecidableEq α] {d v : α} {m : List (Nat × α)} {k lo : Nat}

theorem SMap.wfFrom_mono {l : Nat} (hl : l ≤ lo) (h : SMap.wfFrom d lo m = true) : SMap.wfFrom d l m = true := by
  cases m with
  | nil => rfl
  | cons x t =>
    simp only [SMap.wfFrom, Bool.and_eq_true, decide_eq_true_eq] at h ⊢
    exact ⟨⟨by omega, h.1.2⟩, h.2⟩

theorem SMap.wfFrom_del (h : SMap.wfFrom d lo m = true) : SMap.wfFrom d lo (SMap.del m k) = true := by
  induction m generalizing lo with
  | nil => rfl
  | cons x t ih =>
    simp only [SMap.wfFrom, Bool.and_eq_true, decide_eq_true_eq] at h
    unfold SMap.del
    split
    · exact SMap.wfFrom_mono (by omega) (ih h.2)
    · simp only [SMap.wfFrom, Bool.and_eq_true, decide_eq_true_eq]
      exact ⟨h.1, ih h.2⟩

theorem SMap.wfFrom_ins (hv : v ≠ d) (hk : lo ≤ k) (h : SMap.wfFrom d lo m = true) :
    SMap.wfFrom d lo (SMap.ins m k v) = true := by
  induction m generalizing lo with
  | nil => simp [SMap.ins, SMap.wfFrom, hv, hk]
  | cons x t ih =>
    have hc := h
    simp only [SMap.wfFrom, Bool.and_eq_true, decide_eq_true_eq] at h
    unfold SMap.ins
    split
    · simp only [SMap.wfFrom, Bool.and_eq_true, decide_eq_true_eq]
      exact ⟨⟨hk, hv⟩, ⟨by omega, h.1.2⟩, h.2⟩
    · split
      · rename_i hx; subst hx
        simp only [SMap.wfFrom, Bool.and_eq_true, decide_eq_true_eq]
        exact ⟨⟨hk, hv⟩, h.2⟩
      · simp only [SMap.wfFrom, Bool.and_eq_true, decide_eq_true_eq]
        exact ⟨h.1, ih (by omega) h.2⟩

/-- Every write keeps the canonical form. -/
theorem SMap.wf_set (h : SMap.wf d m = true) : SMap.wf d (SMap.set d m k v) = true := by
  unfold SMap.set
  split
  · exact SMap.wfFrom_del h
  · rename_i hv; exact SMap.wfFrom_ins hv (Nat.zero_le k) h

end

namespace Machine

variable {m : List Host.Cell}

theorem writeByte_wf (a : Nat) (b : Byte) (h : Memory.wf m = true) : Memory.wf (writeByte m a b) = true := SMap.wf_set h

theorem writeBytes_wf (a : Nat) (l : List Byte) (h : Memory.wf m = true) : Memory.wf (writeBytes m a l) = true := by
  induction l generalizing m a with
  | nil => exact h
  | cons b t ih => exact ih (a + 1) (writeByte_wf a b h)

/-- Every operation that writes memory keeps its canonical form. -/
theorem writeAll_wf (ws : List MemWrite) (h : Memory.wf m = true) : Memory.wf (writeAll m ws) = true := by
  unfold writeAll
  induction ws generalizing m with
  | nil => exact h
  | cons w t ih => exact ih (writeBytes_wf w.1 w.2 h)

theorem close_wf (r : List MemWrite × Dev) (s : State) (h : Memory.wf s.mem = true) : Memory.wf (s.close r).mem = true := by
  rw [State.close_mem]
  exact writeAll_wf _ h

end Machine

end Sys2Proof
end

