-- ==== Sys2Proof/Laws/Objects.lean ====
section
/-! SUPPORT. Reading after writing: the sparse maps, the objects and the tables of the module. -/

namespace Sys2Proof

section
variable {α : Type} {d v : α} {m : List (Nat × α)} {k j : Nat}

theorem SMap.get_del_same : SMap.get d (SMap.del m k) k = d := by
  induction m with
  | nil => rfl
  | cons x t ih => by_cases h : x.1 = k <;> simp_all [SMap.del, SMap.get]

theorem SMap.get_del_ne (h : j ≠ k) : SMap.get d (SMap.del m k) j = SMap.get d m j := by
  induction m with
  | nil => rfl
  | cons x t ih =>
    by_cases hx : x.1 = k
    · subst hx; simp [SMap.del, SMap.get, Ne.symm h, ih]
    · by_cases hj : x.1 = j
      · simp [SMap.del, SMap.get, hj, h]
      · simp [SMap.del, SMap.get, hx, hj, ih]

theorem SMap.get_ins_same : SMap.get d (SMap.ins m k v) k = v := by
  induction m with
  | nil => simp [SMap.ins, SMap.get]
  | cons x t ih =>
    unfold SMap.ins
    split
    · simp [SMap.get]
    · split
      · simp [SMap.get]
      · rename_i h; simp [SMap.get, h, ih]

theorem SMap.get_ins_ne (h : j ≠ k) : SMap.get d (SMap.ins m k v) j = SMap.get d m j := by
  induction m with
  | nil => simp [SMap.ins, SMap.get, Ne.symm h]
  | cons x t ih =>
    unfold SMap.ins
    split
    · simp [SMap.get, Ne.symm h]
    · split
      · rename_i hx; subst hx; simp [SMap.get, Ne.symm h]
      · by_cases hj : x.1 = j <;> simp [SMap.get, hj, ih]

/-- What was written is read. -/
@[simp] theorem SMap.get_set_same [DecidableEq α] : SMap.get d (SMap.set d m k v) k = v := by
  unfold SMap.set
  split
  · rename_i h; rw [h, SMap.get_del_same]
  · exact SMap.get_ins_same

/-- Writing one key leaves every other. -/
theorem SMap.get_set_ne [DecidableEq α] {e : α} (h : j ≠ k) : SMap.get d (SMap.set e m k v) j = SMap.get d m j := by
  unfold SMap.set
  split
  · exact SMap.get_del_ne h
  · exact SMap.get_ins_ne h

end

namespace Machine

variable {d : Dev} {k j : Nat}

@[simp] theorem Dev.get_set_same (v : Int) : (d.set k v).get k = v := SMap.get_set_same
theorem Dev.get_set_ne (v : Int) (h : j ≠ k) : (d.set k v).get j = d.get j := SMap.get_set_ne h
@[simp] theorem Dev.getN_setN_same (v : Nat) : (d.setN k v).getN k = v := by simp [Dev.getN, Dev.setN]
theorem Dev.getN_set_ne (v : Int) (h : j ≠ k) : (d.set k v).getN j = d.getN j := by simp [Dev.getN, Dev.get_set_ne v h]
theorem Dev.getN_setN_ne (v : Nat) (h : j ≠ k) : (d.setN k v).getN j = d.getN j := Dev.getN_set_ne _ h
theorem Dev.get_setN_ne (v : Nat) (h : j ≠ k) : (d.setN k v).get j = d.get j := Dev.get_set_ne _ h
theorem Dev.on_set_ne (v : Int) (h : j ≠ k) : (d.set k v).on j = d.on j := by simp [Dev.on, Dev.get_set_ne v h]
theorem Dev.on_setN_ne (v : Nat) (h : j ≠ k) : (d.setN k v).on j = d.on j := Dev.on_set_ne _ h
theorem Dev.getN_inc_ne (h : j ≠ k) : (d.inc k).getN j = d.getN j := Dev.getN_set_ne _ h
theorem Dev.get_inc_ne (h : j ≠ k) : (d.inc k).get j = d.get j := Dev.get_set_ne _ h

/-- What reads the objects reads alike where the objects are alike. -/
theorem Dev.getN_objs {e : Dev} (h : e.objs = d.objs) (k : Nat) : e.getN k = d.getN k := by simp [Dev.getN, Dev.get, h]
theorem Dev.on_objs {e : Dev} (h : e.objs = d.objs) (k : Nat) : e.on k = d.on k := by simp [Dev.on, Dev.get, h]

@[simp] theorem Dev.lane_setLane_same (l : Nat) (x : LaneSt) : (d.setLane l x).lane l = x := SMap.get_set_same
theorem Dev.lane_setLane_ne {l m : Nat} (x : LaneSt) (h : m ≠ l) : (d.setLane l x).lane m = d.lane m := SMap.get_set_ne h
@[simp] theorem Dev.strand_setStrand_same (l : Nat) (x : StrandSt) : (d.setStrand l x).strand l = x := SMap.get_set_same
theorem Dev.strand_setStrand_ne {l m : Nat} (x : StrandSt) (h : m ≠ l) : (d.setStrand l x).strand m = d.strand m :=
  SMap.get_set_ne h
@[simp] theorem Dev.cell_setCell_same (n : Nat) (x : CellSt) : (d.setCell n x).cell n = x := SMap.get_set_same
theorem Dev.cell_setCell_ne {n m : Nat} (x : CellSt) (h : m ≠ n) : (d.setCell n x).cell m = d.cell m := SMap.get_set_ne h
@[simp] theorem Dev.ctl_setCtl_same (n : Nat) (x : CellCtl) : (d.setCtl n x).ctl n = x := SMap.get_set_same
theorem Dev.ctl_setCtl_ne {n m : Nat} (x : CellCtl) (h : m ≠ n) : (d.setCtl n x).ctl m = d.ctl m := SMap.get_set_ne h
@[simp] theorem Dev.win_setWin_same (n : Nat) (x : WinSt) : (d.setWin n x).win n = x := SMap.get_set_same
theorem Dev.win_setWin_ne {n m : Nat} (x : WinSt) (h : m ≠ n) : (d.setWin n x).win m = d.win m := SMap.get_set_ne h

/-- Carrying an event to the cores changes their interrupt lines alone. -/
theorem Dev.pendCores_eq (n mask line : Nat) (d : Dev) : ∃ w, pendCores n mask line d = { d with wins := w } := by
  induction n generalizing d with
  | zero => exact ⟨d.wins, rfl⟩
  | succ c ih =>
    unfold pendCores
    simp only
    split
    · obtain ⟨w, h⟩ := ih (d.setWin c ((d.win c).pendLine line))
      exact ⟨w, h⟩
    · exact ih d

/-- Everything an event may change at once (R420): its three objects, the interrupt lines, the EVENTS subscriptions, and the
queue of events to be carried further. -/
theorem Dev.signal_eq (e src : Nat) (d : Dev) :
    ∃ w x, x.event = e ∧ d.signal e src =
      { (((d.inc (Obj.EVT_COUNT e)).set (Obj.EVT_LAST e) d.now96).setN (Obj.EVT_LAST_SRC e) src) with
        wins := w, host := { d.host with subs := d.host.subs.map (Subscr.note e src d.now96) }, evq := d.evq ++ [x] } := by
  let r := ((d.inc (Obj.EVT_COUNT e)).set (Obj.EVT_LAST e) d.now96).setN (Obj.EVT_LAST_SRC e) src
  obtain ⟨w, h⟩ := Dev.pendCores_eq 8 (r.routing (Obj.EVT_CORES e)) (r.routing (Obj.EVT_LINE e)) r
  let p := pendCores 8 (r.routing (Obj.EVT_CORES e)) (r.routing (Obj.EVT_LINE e)) r
  refine ⟨w, { event := e, pools := p.routing (Obj.EVT_TP e), masks := p.routing (Obj.EVT_PWM e) }, rfl, ?_⟩
  unfold Dev.signal
  simp only [p, r, Dev.now96, Dev.inc, Dev.setN, Dev.set] at h ⊢
  rw [h]

/-- An event changes no number but its own three objects. -/
theorem Dev.signal_getN {e k : Nat} (src : Nat) (d : Dev) (h1 : k ≠ Obj.EVT_COUNT e) (h2 : k ≠ Obj.EVT_LAST e)
    (h3 : k ≠ Obj.EVT_LAST_SRC e) : (d.signal e src).getN k = d.getN k := by
  obtain ⟨w, x, -, h⟩ := Dev.signal_eq e src d
  have o : (d.signal e src).objs
      = (((d.inc (Obj.EVT_COUNT e)).set (Obj.EVT_LAST e) d.now96).setN (Obj.EVT_LAST_SRC e) src).objs := by rw [h]
  rw [Dev.getN_objs o, Dev.getN_setN_ne _ h3, Dev.getN_set_ne _ h2, Dev.getN_inc_ne h1]

end Machine

end Sys2Proof
end

