-- ==== Sys2Proof/Tests/Slice0.lean ====
section
/-! SUPPORT. Tests: an ill-formed term for each check of well-formedness; what the manual's own examples and tables give for
single operations; and, for each statement of the certificate that has hypotheses, states that meet those of its clauses. -/

namespace Sys2Proof.Tests

open Sys2Proof Sys2Proof.Machine

-- Each kernel check ends before the next theorem: otherwise as many threads wait as there are tests.
set_option Elab.async false

/-! Helpers: the module after reset with some objects at given values, and a state around a module. -/

def mk (l : List (Nat × Int)) : Dev := l.foldl (fun d x => d.set x.1 x.2) Dev.reset
def at_ (l : List (Nat × Int)) : State := { State.reset with dev := mk l }
def around (d : Dev) : State := { State.reset with dev := d }
def ses3 : Dev := mk [(Obj.SYS_MODE, 2), (Obj.SES_STATE 3, 2), (Obj.SES_ROLE 3, 2), (Obj.SES_ID 3, 19)]
def zeros (n : Nat) : List Byte := List.replicate n 0#8

/-! Well-formedness: each check refuses a term. -/

theorem test_illformed_protocol :
    [Instr.strandFrameReceived 0 (List.replicate 1025 0#32) 0, .localWindowStore 0 (2 ^ 32) 8 0, .localWindowStore 0 0 9 0,
     .localWindowDescriptorLoad 0 (2 ^ 32), .safetyFrameReceived ⟨0, 0, []⟩ (zeros 35), .hello (zeros 17) 0, .hello (zeros 18) (2 ^ 32),
     .peerHelloReceived (zeros 47) (zeros 16), .peerHelloReceived (zeros 48) (zeros 15), .loginChallenge (zeros 1433) 0 (zeros 18) 0,
     .loginChallenge [] 0 (zeros 6) 0, .rawFrameReceived 0 (zeros 13) 0 ⟨false, false⟩, .canFrameReceived 0 0 (2 ^ 32) 0 [],
     .canFrameReceived 0 0 0 16 [], .canFrameReceived 0 0 0 0 (zeros 65), .cellSampleInstant 0 0xFFFF 0,
     .cellSampleInstant 0 0 256].all (fun c => !c.wellFormed) = true := by decide +kernel

theorem test_illformed_mailbox :
    [Instr.cellMbxNop 0 0 (1#128 <<< 124), .cellMbxRead 0 0 0 0, .cellMbxWrite 0 0 0, .cellMbxAssign 0 0 0,
     .cellMbxBadOp 0 0 (3#128 <<< 124)].all (fun c => !c.wellFormed) = true := by decide +kernel

theorem test_illformed_requests :
    [Instr.read 0 (2 ^ 32) [], .read 0 0 (zeros 1433), .write 0 (2 ^ 32) [], .write 0 0 (zeros 1433), .readList 0 (2 ^ 32) [],
     .readList 0 0 (zeros 1433), .writeGroup 0 (2 ^ 32) [], .writeGroup 0 0 (zeros 1433), .subscribe 0 (2 ^ 32) [],
     .subscribe 0 0 (zeros 1433), .domainOpen 0 (2 ^ 32) [], .domainOpen 0 0 (zeros 1433), .domainBlock 0 (2 ^ 32) [],
     .domainBlock 0 0 (zeros 1433), .domainEnd 0 (2 ^ 32) [], .domainEnd 0 0 (zeros 1433), .domainAbort 0 (2 ^ 32) [],
     .domainAbort 0 0 (zeros 1433)].all (fun c => !c.wellFormed) = true := by decide +kernel

theorem test_wellformed :
    [Instr.read 15 (2 ^ 32 - 1) (zeros 4), .hello (zeros 18) 1, .cellMbxBadOp 0 0 (4#128 <<< 124), .timeclkLoss].all
      Instr.wellFormed = true := by decide +kernel

/-- The opcode table gives no row bits: no word spells a command. -/
theorem test_no_word_spells_a_command (n w : Nat) : decodeTableWord n w = none := rfl

/-! What the manual gives for single operations. -/

/-- R337, the example of chapter 14: from e_max 678 the preferred module takes 680 and its partner 679; from 679, 682 and
681. -/
theorem test_epochs :
    ([(1, 678), (0, 678), (1, 679), (0, 679)].map fun (x : Int × Int) =>
      (mk [(Obj.PR_PREF, x.1), (Obj.STR_EPOCH_TX, x.2)]).takeEpoch.getN Obj.STR_EPOCH_TX) = [680, 679, 682, 681] := by
  decide +kernel

/-- R458: 0x2120 is not lane 32. -/
theorem test_lane_32_is_no_object : (Dev.reset.objAt 4 0x2120 1 matches .error 1) = true := by decide +kernel

/-- Chapter 16, after R396: `PWM_PERIOD` 12,500 and `PWM_CMP` 240,000 are 40 % duty: 400,000 counts, 160,000 of them on. -/
theorem test_pwm_duty :
    let d := (mk [(Obj.PWM_PERIOD 0, 12500), (Obj.PWM_CMP 0, 240000)]).pwmTransfer 0
    (d.pwmP 0, d.pwmP 0 - d.getN (Obj.PWM_CMP_ACT 0)) = (400000, 160000) := by decide +kernel

/-- R428, R303: after reset the module is in BOOT with the latch set through SELF. -/
theorem test_reset :
    (State.reset.dev.mode, State.reset.dev.getN Obj.BW_STATE, State.reset.dev.bit Obj.BW_LATCHED 15, State.reset.pending.length)
      = (0, 1, true, 0) := by decide +kernel

/-- R44, R45: LOS in ALIGNED takes the lane to NO_SIGNAL and counts. -/
theorem test_los :
    let d := Dev.devLosAssert 4 120 (mk [(Obj.LANE_STATE 4, 4)])
    (d.getN (Obj.LANE_STATE 4), d.getN (Obj.LANE_LOS_COUNT 4), d.getN (Obj.LANE_AMPLITUDE 4)) = (1, 1, 120) := by decide +kernel

/-- R84: epochs 0 to 2,047 ahead pass, modulo 4,096. -/
theorem test_epoch_window :
    ([4095, 0, 2046, 2047, 4094].map fun e => ({ CellCtl.init with eLast := some 4095 } : CellCtl).epochOk e false)
      = [true, true, true, false, false] := by decide +kernel



/-! Witnesses: states and operands that meet the hypotheses of each statement's clauses. -/

theorem test_meets_queue_and_memory :
    State.reset.pending = []
      ∧ (∃ s t, Inv s ∧ s.mem = [(0x10000000, 7#8)] ∧ step s = .next t)
      ∧ ownMemory .vbatLow = false ∧ (∃ t, exec .vbatLow State.reset = .next t)
      ∧ (∃ s t d, Stores (.localWindowStore 0 0x10000000 1 5) s [(0x10000000, [5#8])] d
          ∧ exec (.localWindowStore 0 0x10000000 1 5) s = .next t
          ∧ ∀ x ∈ [((0x10000000 : Nat), [5#8])], (3 : Nat) < x.1 ∨ x.1 + x.2.length ≤ 3) :=
  ⟨rfl, ⟨{ State.reset with mem := [(0x10000000, 7#8)] }, _, show Memory.wf _ = true by decide +kernel, rfl, rfl⟩, rfl, ⟨_, rfl⟩,
    ⟨State.reset, _, _, rfl, rfl, by decide⟩⟩

theorem test_meets_resets :
    let d := Dev.reset
    let e : Dev := { d with fm := { d.fm with resetDue := true } }
    let f : Dev := { e with tm := { e.tm with mono := secUnit } }
    e.fm.resetDue = true ∧ e.waited e.fm.resetAt (1000000 * nsUnit) = false ∧ f.waited f.fm.resetAt (1000000 * nsUnit) = true
      ∧ d.fm.resetDue = false ∧ d.mode = Mode.boot := by decide +kernel

/-- A module with one strand of two positions, its lanes ALIGNED, in READY, one cycle after a start. -/
def plant : Dev :=
  let d := mk [(Obj.SYS_MODE, 3), (Obj.STR_POSITIONS 0, 2), (Obj.LANE_ENABLE 0, 1), (Obj.LANE_ENABLE 1, 1), (Obj.LANE_STATE 0, 4),
    (Obj.LANE_STATE 1, 4)]
  { d with tm := { d.tm with started := true, lastT := d.tc * nsUnit, now := d.tc * nsUnit + 5 } }

theorem test_meets_cycle_start :
    plant.tm.started = true ∧ plant.tm.now < plant.reachT.tm.lastT ∧ Dev.reset.tm.started = false := by decide +kernel

theorem test_meets_cycle_commands :
    (plant.devCycleBoundary none).host.txTail = none ∧ plant.tm.timeclk = true ∧ plant.tm.refclk = true
      ∧ ({ plant with tm := { plant.tm with refclk := false } } : Dev).tm.timeclk = true
      ∧ ({ plant with tm := { plant.tm with timeclk := false } } : Dev).tm.timeclk = false
      ∧ 2 ≤ plant.mode ∧ plant.cyc.tin = false
      ∧ ({ plant with cyc := { plant.cyc with phase := .loop } } : Dev).cyc.phase = .loop
      ∧ ({ plant with cyc := { plant.cyc with phase := .modulation } } : Dev).cyc.phase = .modulation := by decide +kernel

/-- The count of consecutive overruns against its limit, as the statement forms both. -/
def overrunRoom (d : Dev) : Bool :=
  let a := (((d.abandonLoop.abandonArm 0).abandonArm 1).svAbandon).undoRun.cpOverrun
  let b := (a.inc Obj.CYC_OVR_LOOP).signal 32 (noSource 32)
  let n := b.getN Obj.CYC_OVR_CONSEC + 1
  decide (n < ((b.broken 3).setN Obj.CYC_OVR_CONSEC (min 15 n)).getN Obj.CYC_OVR_LIMIT)

/-- Neither the event nor the count of the loop overrun touches the row of overruns or its limit. -/
theorem overrunRoom_eq (d : Dev) :
    overrunRoom d =
      (let c := ((((d.abandonLoop.abandonArm 0).abandonArm 1).svAbandon).undoRun.cpOverrun).inc Obj.CYC_OVR_LOOP
       decide (c.getN Obj.CYC_OVR_CONSEC + 1 < c.getN Obj.CYC_OVR_LIMIT)) := by
  have h (d : Dev) : d.broken 3 = d.inc (Obj.CYC_BROKEN 2) := rfl
  simp only [overrunRoom, h]
  rw [Dev.getN_setN_ne _ (by decide), Dev.getN_inc_ne (by decide), Dev.signal_getN _ _ (by decide) (by decide) (by decide),
    Dev.signal_getN _ _ (by decide) (by decide) (by decide)]

theorem test_meets_overrun :
    let d : Dev := { plant with cyc := { plant.cyc with due := true, phase := .loop } }
    d.cyc.due = true ∧ d.cyc.phase ≠ .committed ∧ overrunRoom d = true ∧ overrunRoom (d.setN Obj.CYC_OVR_CONSEC 15) = false := by
  simp only [overrunRoom_eq]
  decide +kernel

theorem test_meets_lane_detectors :
    ([2, 3, 4].all fun (st : Nat) => (plant.setN (Obj.LANE_STATE 5) st).laneState 5 == st) = true
      ∧ (plant.setN (Obj.LANE_STATE 5) 1).laneState 5 = LaneState.noSignal
      ∧ (plant.setN (Obj.LANE_STATE 5) 0).laneState 5 = LaneState.off
      ∧ (({ LaneSt.init with gateBad := false, los := false } : LaneSt).gateBad, LaneSt.init.los) = (false, false)
      ∧ ((((262144 + 78 : Nat) : Int) - 262144) * 1000000).natAbs ≤ 300 * 262144
      ∧ 300 * 262144 < ((((262144 + 79 : Nat) : Int) - 262144) * 1000000).natAbs
      ∧ ({ LaneSt.init with gateBad := true } : LaneSt).gateBad = true
      ∧ plant.quadArms 0 ≠ 0 ∧ plant.quadArms 1 = 0 := by decide +kernel

theorem test_meets_lane_alignment :
    (3 : Nat) ≠ plant.laneState 0 ∧ plant.serves 0 = true ∧ plant.serves 2 = false
      ∧ ((plant.setLane 0 { plant.lane 0 with misses := 2 }).lane 0).misses = 2 ∧ (plant.lane 0).misses < 2
      ∧ (plant.setN (Obj.LANE_STATE 0) 3).laneState 0 = LaneState.unaligned ∧ plant.laneMode 0 ≠ 2
      ∧ plant.laneState 0 = LaneState.aligned ∧ (plant.setN (Obj.LANE_TX_MODE 0) 3).laneMode 0 = 3 ∧ plant.laneMode 0 ≠ 3
      ∧ (plant.setN (Obj.LANE_STATE 0) 2).laneState 0 ≠ LaneState.unaligned
      ∧ (plant.setN (Obj.LANE_STATE 0) 2).laneState 0 ≠ LaneState.aligned := by decide +kernel

/-- A CYCLE frame of two positions, and its words with a good and a bad trailer. -/
def frame2 : Rodal.Frame :=
  { hdr := Rodal.mkHeader { type := 1, epoch := 7, node := 1, tc := 10, sec := 0, cycle := 3, rotB := false, foldEn := true,
                            positions := 2, mbxPos := 0, apply := 100, lead := 50 },
    slots := [Rodal.mkSlot (Rodal.mkCommand 0 2 0 0 1 false false) (Rodal.emptyResponse 0),
              Rodal.mkSlot (Rodal.mkCommand 1 2 0 0 1 false false) (Rodal.emptyResponse 1)],
    mbx := Rodal.mkMailbox 0 0 0 0 0 0 0x3F }
def words2 : List Word := frame2.line false

set_option maxRecDepth 1000000 in
theorem test_meets_strand_frames :
    (plant.setN (Obj.LANE_STATE 0) 3).laneState 0 = LaneState.unaligned ∧ (Rodal.header? words2).isSome = true
      ∧ plant.laneState 0 = LaneState.aligned ∧ plant.laneMode 0 ≠ 1 ∧ plant.laneMode 0 ≠ 3 ∧ plant.serves 0 = true
      ∧ (plant.setN (Obj.LANE_STATE 2) 4).laneState 2 = LaneState.aligned ∧ (plant.setN (Obj.LANE_STATE 2) 4).serves 2 = false
      ∧ (plant.setN (Obj.LANE_STATE 0) 1).laneState 0 = LaneState.noSignal
      ∧ Rodal.threeOf Rodal.blockWord (List.replicate 3 Rodal.blockWord) = true
      ∧ Rodal.threeOf Rodal.blockWord words2 = false
      ∧ Rodal.deframe (plant.framePositions 0) words2 = .good frame2
      ∧ Rodal.deframe (plant.framePositions 0) (frame2.line true) = .crcErr frame2 := by decide +kernel

set_option maxRecDepth 1000000 in
theorem test_meets_stuffing_and_header_errors :
    let stuck := words2.take 7 ++ List.replicate 20 0#32
    let wrong := words2.take 1 ++ List.replicate 20 0x5A5A5A5A#32
    (Rodal.deframe 2 stuck matches .stuffErr ..) = true ∧ (Rodal.header? stuck).isSome = true
      ∧ (Rodal.deframe 2 wrong matches .hdrErr ..) = true ∧ (Rodal.header? wrong).isSome = false
      ∧ Rodal.deframe 2 [0#32] = .noSync := by decide +kernel

theorem test_meets_frame_slots :
    let good := Rodal.mkSlot 0#48 (Rodal.mkResponse 1 100 0 25 0 1 0)
    let d := plant.setCell 1 { plant.cell 1 with present := true, fromA := true }
    Rodal.rspOk 1 (Rodal.slotRsp (Rodal.mkSlot 0#48 (Rodal.emptyResponse 1))) = false
      ∧ Rodal.rspOk 1 (Rodal.slotRsp good) = true ∧ (d.cell (64 * 0 + 1)).present = true ∧ (d.cell (64 * 0 + 1)).fromA = true
      ∧ (plant.setN Obj.SYS_MODE 1).mode = Mode.config ∧ plant.mode ≠ Mode.config ∧ 1 < plant.framePositions 0
      ∧ (plant.strand 0).bank.length ≤ 1 ∧ 1 < plant.positions 0
      ∧ ((plant.setStrand 0 { plant.strand 0 with bank := [0#48, 1#48] }).strand 0).bank[1]? = some 1#48
      ∧ ([0, 1, 6, 3].all fun (st : Nat) => (plant.setCellState 1 st).cellState 1 == st) = true := by decide +kernel

theorem test_meets_enumeration_joins_healing :
    (plant.setN Obj.STR_ENUM_STATE 1).getN Obj.STR_ENUM_STATE = 1
      ∧ ((plant.setN Obj.STR_ENUM_STATE 1).setEnum 0 .done).enumEnded = true
      ∧ 2 ≤ plant.mode
      ∧ (((plant.setCellState 1 CellState.absent).strandCells 0).any fun c =>
          (plant.setCellState 1 CellState.absent).cellState c == CellState.absent) = true
      ∧ Dev.reset.mode < 2 ∧ ((plant.setStrand 0 { plant.strand 0 with healLeft := 3 }).strand 0).healLeft ≠ 0
      ∧ (plant.strand 0).healLeft = 0 ∧ (plant.strand 0).healArmed = true
      ∧ ((plant.setStrand 0 { plant.strand 0 with healArmed := false }).strand 0).healArmed = false := by decide +kernel

/-- The module with cell 0 powered, unassigned, and with it at position 0. -/
def cell0 : CellCtl := CellCtl.powerUp 0xABCD 0 0 0
def celled (c : CellCtl) : Dev := plant.setCtl 0 c

set_option maxRecDepth 1000000 in
theorem test_meets_cell_frames :
    let c := cell0
    let old := { c with eLast := some 8 }
    let twice := { c with seen := [(1, 3, false, 40, 0)] }
    let strange := { frame2 with hdr := Rodal.mkHeader { type := 9, epoch := 7, node := 1, tc := 10, sec := 0, cycle := 3, rotB := false,
                                                         foldEn := true, positions := 2, mbxPos := 0, apply := 100, lead := 50 } }
    ((celled c).ctl 0).powered = true ∧ c.blocking = false ∧ Rodal.deframe (CellCtl.peek words2) words2 = .good frame2
      ∧ Rodal.hType frame2.hdr = 1
      ∧ c.epochOk (Rodal.hEpoch frame2.hdr) (c.anyEpochNow frame2.hdr 50) = true ∧ c.sawBefore frame2.hdr = none
      ∧ twice.sawBefore frame2.hdr = some 40
      ∧ old.epochOk (Rodal.hEpoch frame2.hdr) (old.anyEpochNow frame2.hdr 50) = false
      ∧ CellCtl.isTraining (List.replicate 3 Rodal.syncWord) = true ∧ CellCtl.isTraining words2 = false
      ∧ Rodal.hType strange.hdr = 9 ∧ CellCtl.init.powered = false ∧ ({ c with blocking := true } : CellCtl).blocking = true
      ∧ Rodal.hFoldEn frame2.hdr = true ∧ c.portA = false ∧ ({ c with portA := true } : CellCtl).portA = true
      ∧ c.eLast = none ∧ c.pos ≠ some 1 := by decide +kernel

theorem test_meets_cell_mailbox :
    let h := frame2.hdr
    let c := { cell0 with pos := some 0 }
    let good := Rodal.mkMailbox 0 1 0x00 5 0 0 0x3F
    let bad := good ^^^ 0x40000000#128
    c.powered = true ∧ c.pos = some (Rodal.hMbxPos h) ∧ CellCtl.reqOk h good = true ∧ CellCtl.reqOk h bad = false
      ∧ (c.readReg 0x00 0).1 = 1 ∧ (c.readReg 0x04 0).1 ≠ 1 ∧ c.state = 0 ∧ ({ c with state := 2 } : CellCtl).state ≠ 0
      ∧ cell0.pos ≠ some (Rodal.hMbxPos h) ∧ cell0.pos = none ∧ Rodal.mHop good = 0x3F ∧ Rodal.hMbxPos h = 0
      ∧ Rodal.hRotB h = false ∧ Rodal.mHop (Rodal.mkMailbox 0 3 0 5 0 0 4) = 4
      ∧ CellCtl.reqOk h (Rodal.mkMailbox 0 3 0 5 0 0 4) = true ∧ CellCtl.init.powered = false := by decide +kernel

theorem test_meets_cell_writes :
    let h := frame2.hdr
    let m := fun a x => Rodal.mkMailbox 0 2 a 5 0 x 0x3F
    ([0x10, 0x11, 0x03, 0x20, 0x22, 0x04, 0x0F, 0x12, 0x1F, 0x23, 0x2F, 0x30, 0x3F, 0x40].all fun a =>
      CellCtl.reqOk h (m a 0) && Rodal.mAddr (m a 0) == a) = true
      ∧ ({ cell0 with pos := some 0 } : CellCtl).cfgPosOk (BitVec.ofNat 64 (2 * 2 ^ 46 + 4 * 2 ^ 39 + 10 * 2 ^ 31)) = true
      ∧ ({ cell0 with pos := some 0 } : CellCtl).cfgPosOk (BitVec.ofNat 64 0) = false := by decide +kernel
theorem test_meets_cell_commands :
    let w := fun e st off => Rodal.mkCommand 0 st e off 1 false false
    let of := fun (e : Nat) (x : BitVec 48) => Rodal.cEdge x == e && decide (Rodal.cState x ≤ 3)
    let x := fun e off => { word := w e 2 off, ak := 9 : CellCmd }
    let c := fun (y : CellCmd) => { cell0 with cmds := [y] }
    ((celled (c (x 0 0))).ctl 0).powered = true ∧ (c (x 0 0)).fault = 0 ∧ (c (x 0 0)).state = 0
      ∧ [0, 1, 2].all (fun e => (c (x e 40)).cmds.find? (fun y => of e y.word) == some (x e 40)) = true
      ∧ Rodal.cOffset (x 2 40).word = 40 ∧ (c (x 2 0)).cmds.find? (fun y => of 2 y.word) = some (x 2 0)
      ∧ Rodal.cOffset (x 2 0).word = 0 ∧ Rodal.cState (w 0 4 0) = 4
      ∧ ({ c (x 0 0) with fault := 6 } : CellCtl).fault ≠ 0 ∧ CellCtl.init.powered = false := by decide +kernel

theorem test_meets_cell_faults :
    cell0.powered = true ∧ ({ cell0 with cfgPos := some 5 } : CellCtl).cfgPos ≠ none
      ∧ ({ cell0 with clearReq := true } : CellCtl).clearReq = true ∧ ({ cell0 with closeReady := true } : CellCtl).closeReady = true
      ∧ cell0.clearReq = false ∧ cell0.closeReady = false ∧ cell0.cfgPos = none
      ∧ (let w := BitVec.ofNat 64 (2 * 2 ^ 46 + 4 * 2 ^ 39 + 10 * 2 ^ 31)
         let c := { cell0 with cfgPos := some w, tTaken := some 0 }
         0 < c.tcOf ∧ CellCtl.cfgHold w = 4 ∧ (c.countMissed (4 * c.tcOf)).missed < 4 ∧ 4 ≤ (c.countMissed (5 * c.tcOf)).missed)
      := by decide +kernel

theorem test_meets_vendor_range :
    (0xC000 ≤ 0xC000 ∧ URole.engineer < URole.service) ∧ (entryKey (cmdEntry 0xC00001 (.num 0)) = 0xC00001)
      ∧ (cmdEntry 0xC00001 (.num 0)).index = 0xC000 := by decide +kernel

theorem test_meets_ordering_code_b :
    (0x5000 ≤ 0x5000 ∧ 0x5000 < 0x5400) ∧ (0x4E00 ≤ 0x4FFF ∧ 0x4FFF < 0x5000)
      ∧ ¬ ((0x5000 ≤ 0x5400 ∧ 0x5400 < 0x5400) ∨ (0x4E00 ≤ 0x5400 ∧ 0x5400 < 0x5000)) := by decide

/-- Whether an object is there for a role, with a property of its row. -/
def rowHas (d : Dev) (role k : Nat) (p : ObjRow → Bool) : Bool :=
  match d.objAt role (k / 256) (k % 256) with
  | .ok r => p r
  | .error _ => false

theorem test_meets_entry_checks :
    let a := Obj.LANE_STATE 0
    let b := Obj.CYC_OVR_LIMIT
    let e := cmdEntry b (.num 1)
    (Dev.reset.objAt 2 0x2120 1 matches .error 1) = true
      ∧ rowHas plant 2 a (fun r => r.acc == .ro) = true
      ∧ rowHas plant 2 b (fun r => r.acc != .ro && decide (0 < r.role) && r.type.code == e.type
          && plant.rangeStatus r e.index e.sub (.num 0xFFFFF) != Status.ok
          && plant.rangeStatus r e.index e.sub (.num 1) == Status.ok) = true
      ∧ b ≠ Obj.BW_LOR ∧ ({ e with type := e.type + 1 } : Entry).type ≠ e.type
      ∧ rowHas plant 2 (Obj.STR_POSITIONS 0) (fun r => r.cls == .stopped && r.acc != .ro
          && plant.rangeStatus r (Obj.STR_POSITIONS 0 / 256) (Obj.STR_POSITIONS 0 % 256) (.num 2) == Status.ok) = true
      ∧ plant.ownerStopped (Obj.STR_POSITIONS 0 / 256) = false := by decide +kernel

/-- What a session or a core asks for, and the verdict on it. -/
def verdict (s : State) (c : Instr) : Option (Nat × Bool × Bool) :=
  match writeOf c with
  | none => none
  | some (w, e) =>
    match s.asks w with
    | none => none
    | some d =>
      match d.rights w with
      | none => none
      | some rt =>
        let v := d.checkGroup w rt [e]
        some (v.1.status, v.2.isHeld rt.role e, entryKey e == Obj.LE_LOCAL_GROUP)

theorem test_meets_accepted_write :
    [verdict (around ses3) (.fioAppKick (.session 3 1) 1), verdict (around ses3) (.fioAppKick (.core 2) 1)]
      = [some (Status.ok, false, false), some (Status.ok, false, false)] := by decide +kernel

theorem test_meets_refused_write :
    ((verdict (around ses3) (.laneBitslip (.session 3 1) 4 1)).map (·.1) = some Status.state)
      ∧ (verdict (around ses3) (.laneBitslip (.core 2) 4 1)).map (·.1) = some Status.state := by decide +kernel

/-- A group of one object by session 3, accepted at an elapsed time, and a second one like it. -/
def group1 (t : Nat) : Machine.Group :=
  { number := 0, writer := .session 3 1, org := { Origin.module with originId := 19 }, opcode := 0x11, accepted := t, due := none,
    deferred := false, objects := 1, entries := [{ key := Obj.CYC_OVR_LIMIT, val := .num 2, inst := none }] }
def later (l : List Machine.Group) : Dev :=
  { ses3 with tm := { ses3.tm with mono := 2000 * nsUnit }, host := { ses3.host with groups := l } }

theorem test_meets_groups :
    let d := later [group1 0]
    let half := { group1 0 with entries := List.replicate 100 { key := Obj.CYC_OVR_LIMIT, val := .num 2, inst := none } }
    let full := later [half, half]
    (group1 0).due = none ∧ (∀ g ∈ (later []).host.groups, g.objects = 1)
      ∧ d.groupDue d.second (d.getN Obj.CYC_INDEX) (group1 0) = true ∧ (group1 0).entries.length ≤ d.cw
      ∧ d.groupDue d.second (d.getN Obj.CYC_INDEX) (group1 (1500 * nsUnit)) = false
      ∧ full.groupDue full.second (full.getN Obj.CYC_INDEX) half = true ∧ half.entries.length ≤ full.cw
      ∧ full.cw < half.entries.length + half.entries.length ∧ half.deferred = false
      ∧ ses3.sesOpen 3 = true ∧ ses3.getN (Obj.SES_ID 3) = (group1 0).org.originId
      ∧ ses3.sesOpen 4 = false ∧ ({ group1 0 with writer := .core 1 } : Machine.Group).writer = .core 1 := by decide +kernel

theorem test_meets_slips :
    let d := ses3.set (Obj.LANE_STATE 4) 3
    (∃ r, objRow? 0x2104 6 = some r) ∧ Dev.isMirror (.session 3 1) = false ∧ URole.engineer ≤ 2
      ∧ d.host.logLimit = false ∧ d.standby = false ∧ d.laneState 4 = LaneState.unaligned
      ∧ plant.laneState 0 = LaneState.aligned :=
  ⟨(objRow? 0x2104 6).isSome_iff_exists.mp (by decide +kernel), rfl, by decide, by decide +kernel⟩
theorem test_meets_mode_requests :
    let run := plant.set Obj.TB_STATE 1
    let config := plant.set Obj.SYS_MODE 1
    (plant.set Obj.PR_ROLE 2).standby = true ∧ plant.standby = false ∧ plant.mode = Mode.ready
      ∧ modeAllowed plant.mode Mode.run = true ∧ modeAllowed plant.mode Mode.charge = true
      ∧ 2 ≤ (plant.set Obj.FM_LEVEL 2).getN Obj.FM_LEVEL ∧ plant.getN Obj.FM_LEVEL < 2 ∧ plant.getN Obj.TB_STATE = 0
      ∧ run.getN Obj.TB_STATE ≠ 0 ∧ 0 < (run.setPtp { run.ptp with softDue := 1 }).ptp.softDue
      ∧ run.modeBlocked Mode.config = 0 ∧ config.modeBlocked Mode.ready = 0 ∧ modeAllowed Mode.config Mode.ready = true
      ∧ config.devLeValidate.leaveCheck.isSome = true ∧ modeAllowed Mode.ready Mode.ready = false := by decide +kernel

theorem test_meets_mode_writes :
    let out := plant.set Obj.SYS_MODE 5
    plant.standby = false ∧ out.mode = Mode.lockout ∧ out.l4Cause = false ∧ out.on Obj.BW_STATE = true
      ∧ (out.set Obj.BW_STATE 0).on Obj.BW_STATE = false ∧ (1 : Int) ≠ out.get Obj.SYS_LOCKOUT_SEQ ∧ plant.held = []
      ∧ plant.mode ≠ Mode.lockout := by decide +kernel

/-- Thirty-two active records. -/
def fullQueue : Dev :=
  let r : FaultRec := { time := 0, number := 1, code := 1, level := 2, arms := 0, active := true, cause := true, acked := false,
                        applied := true, first := false, source := 0, detail := 0 }
  { plant with fm := { plant.fm with queue := List.replicate 32 r } }

theorem test_meets_faults :
    plant.fm.queue.length < 32 ∧ 32 ≤ fullQueue.fm.queue.length ∧ (∀ r ∈ fullQueue.fm.queue, r.active = true)
      ∧ (Dev.reset.storeRec 1 4 0 0 0 true).mode = Mode.boot ∧ (plant.storeRec 1 4 0 0 0 true).mode = Mode.ready
      ∧ ((plant.set Obj.SYS_MODE 5).storeRec 1 4 0 0 0 true).mode = Mode.lockout
      ∧ plant.armCells 0 ≠ [] ∧ plant.hasCause 0x0100 0 = false
      ∧ (plant.raiseFault 0x0100 3 1 0 0 true).hasCause 0x0100 0 = true := by decide +kernel

theorem test_meets_reduced_cells :
    let d := plant.set (Obj.MOD_N_RED 0) 1
    let n := fun (d : Dev) => ((d.armCells 0).filter fun c =>
      [CellState.absent, CellState.joining, CellState.faulted, CellState.bypassed].contains (d.cellState c)).length
    d.getN (Obj.MOD_N_RED 0) < n ((d.setCellState 0 CellState.absent).setCellState 1 CellState.absent)
      ∧ n ((d.setCellState 0 1).setCellState 1 1) ≤ d.getN (Obj.MOD_N_RED 0) := by decide +kernel
theorem test_meets_strand_and_loop_writes :
    (zeros 12).length = 12
      ∧ ((plant.setCell 1 { plant.cell 1 with turn := some .waitManual }).cell 1).turn = some .waitManual
      ∧ plant.leType 0 ≠ 0x1E := by decide +kernel

/-- Pool 0 ready to be armed with two slots, and pools in other states. -/
def pooled (st : Int) : Dev := mk [(Obj.TP_SLOTS 0, 2), (Obj.TP_POST 0, 100), (Obj.TP_POOL_MIB 0, 1), (Obj.TP_POOL_MASK 0, 1), (Obj.TP_SLOT_CH 0, 3), (Obj.TP_STATE 0, st), (Obj.SYS_MODE, 3)]
def rec0 : TpRec :=
  { pool := 0, slot := 1, seq := 1, nPost := 100, short := false, stepped := false, gap := false, samples := [], ended := 0,
    trig := { causes := 1, primary := 0, time := 0, first := 0, nPre := 0, neg := false, state := 3, err := 0, step := 100,
              chans := [], scale := [], offset := [], at0 := 0, lines := [] } }
def withRec (r : TpRec) (d : Dev) : Dev := d.setPool 0 { d.pool 0 with recs := [(1, r)] }

theorem test_meets_pool_writes :
    (pooled 0).tpArmStatus 0 = 0 ∧ (pooled 0).tpFreeSlot 0 = some 0
      ∧ (pooled 2).getN (Obj.TP_STATE 0) = TpState.ready ∧ (pooled 2).getN (Obj.TP_STATE 0) ≠ TpState.idle
      ∧ (((withRec rec0 (pooled 2)).pool 0).recs.any (·.1 = 1)) = true ∧ (withRec rec0 (pooled 2)).tpLocked 0 1 = false
      ∧ (pooled 2).getN (Obj.TP_STATE 0) ≠ TpState.full := by decide +kernel

theorem test_meets_wave_and_task_writes :
    let d := mk [(Obj.TW_ENABLE 0, 1), (Obj.TW_LINE_ID 0, 5), (Obj.TASK_ENABLE 7, 1), (Obj.TASK_STATE 8, 1), (Obj.TASK_STATE 9, 4)]
    d.twOn 0 = true ∧ (zeros 32).length = 32 ∧ natLE ((zeros 32).take 4) ≠ d.getN (Obj.TW_LINE_ID 0)
      ∧ ((zeros 32).getD 4 0).toNat = d.getN (Obj.TW_END 0)
      ∧ d.on (Obj.TASK_ENABLE 7) = true ∧ d.taskState 7 = TaskState.disabled
      ∧ d.on (Obj.TASK_ENABLE 9) = false ∧ d.taskState 9 = TaskState.running
      ∧ d.taskState 8 ≠ TaskState.disabled ∧ d.taskState 8 ≠ TaskState.running := by decide +kernel

/-- A block image without instances. -/
def emptyImage : List Byte :=
  let h := bytesLE 4 0x53514231 ++ bytesLE 2 1 ++ zeros 14 ++ bytesLE 4 0x40 ++ bytesLE 4 0x40 ++ bytesLE 4 68
  let b := h ++ zeros (64 - h.length)
  b ++ bytesLE 4 (crc32 b)

set_option maxRecDepth 1000000 in
theorem test_meets_sequencer_writes :
    let d := mk []
    let e := { d with seq := { d.seq with valid := some (parseProg emptyImage) } }
    (d.validateImage []).1 ≠ 0 ∧ (d.validateImage emptyImage).1 = 0 ∧ d.getN Obj.SEQ_STATE = 0
      ∧ (d.setN Obj.SEQ_STATE 2).getN Obj.SEQ_STATE ≠ 0 ∧ e.seq.valid = some (parseProg emptyImage) := by decide +kernel

theorem test_meets_time_and_safety_writes :
    let set := mk [(Obj.SYS_MODE, 3), (Obj.BW_LOR_SEQ, 4), (Obj.BW_CAUSES, 0), (Obj.BW_STATE, 1)]
    let act := set.setBw { set.bw with act := [(Obj.BWC_ENABLE 2, 1)] }
    plant.mode ≠ Mode.run ∧ (4 : Int) = set.get Obj.BW_LOR_SEQ ∧ set.getN Obj.BW_CAUSES = 0 ∧ set.on Obj.BW_STATE = true
      ∧ set.on Obj.BW_LOR_STRAP = false ∧ (3 : Int) ≠ set.get Obj.BW_LOR_SEQ ∧ set.mode ≠ Mode.lockout
      ∧ act.bwEnabled 2 = true ∧ act.on Obj.BW_STATE = true ∧ (act.set Obj.BW_STATE 0).on Obj.BW_STATE = false := by decide +kernel

theorem test_meets_field_pwm_can_writes :
    let d := mk [(Obj.FIO_DIR, 6), (Obj.PWM_TRIP_FLAG, 2), (Obj.PWM_MASK_ACTIVE 1, 1), (Obj.PWM_LOAD_MODE 3, 1), (Obj.CAN_STATE 1, 3),
      (Obj.FIO_OUT_ENABLE, 1)]
    let e := d.setTimer 1 { d.timer 1 with run := true }
    d.on Obj.FIO_OUT_ENABLE = true ∧ Dev.reset.on Obj.FIO_OUT_ENABLE = false ∧ d.surveyNext 0 = some 1
      ∧ e.bit Obj.PWM_TRIP_FLAG 1 = true ∧ (2 : Nat).testBit 1 = true ∧ (e.timer 1).run = true
      ∧ d.on (Obj.PWM_MASK_ACTIVE 0) = false ∧ d.on (Obj.PWM_MASK_ACTIVE 1) = true ∧ d.on (Obj.PWM_LOAD_MODE 3) = true
      ∧ d.canState 1 = CanState.busOff := by decide +kernel
theorem test_meets_local_groups :
    let ok := [cmdEntry Obj.FIO_APP_KICK (.num 1)]
    let no := [cmdEntry (Obj.LANE_BITSLIP 4) (.num 1)]
    let d := mk []
    (d.win 2).group = none ∧ ((d.setWin 2 { d.win 2 with group := some [] }).win 2).group = some []
      ∧ ((d.setWin 2 { d.win 2 with group := some ok }).win 2).group = some ok ∧ ok ≠ []
      ∧ ((d.rights (.core 2)).map fun rt => (d.checkGroup (.core 2) rt ok).1.status) = some Status.ok
      ∧ ((d.rights (.core 2)).map fun rt => (d.checkGroup (.core 2) rt no).1.status) = some Status.state := by decide +kernel

theorem test_meets_local_windows :
    let d := mk []
    slotOf 0x10000000 = none ∧ spanInMap 0x10000000 8 = true ∧ spanInMap 0x0FFFFFFF 8 = false ∧ slotOf 0x0FFFFFFF = none
      ∧ (d.slotType (Obj.FIO_APP_KICK / 256) (Obj.FIO_APP_KICK % 256)).isSome = true
      ∧ ((d.slotType (Obj.FIO_APP_KICK / 256) (Obj.FIO_APP_KICK % 256)).map isDescribed) = some false
      ∧ d.slotType 0x2120 1 = none
      ∧ ((d.slotType (Obj.ID_PART / 256) (Obj.ID_PART % 256)).map isDescribed) = some true
      ∧ (match d.readObj [] URole.engineer (some 2) (Obj.ID_PART / 256) (Obj.ID_PART % 256) with
        | ((st, _, .bytes b), _) => decide (st = Status.ok) && decide (b.length ≤ 512)
        | _ => false) = true := by decide +kernel

theorem test_meets_supervision :
    let d := mk [(Obj.SV_STATE 3, 1), (Obj.SV_HOLD_MAX 3, 2), (Obj.SV_HOLD_CYCLES 3, 2), (Obj.SV_RECOVER 3, 2), (Obj.REP_STATUS 3, 1)]
    let e := (d.setSv 3 { d.sv 3 with agree := 2 }).set (Obj.SV_HOLD_CYCLES 3) 1
    d.getN (Obj.SV_STATE 3) = 1 ∧ d.getN (Obj.SV_HOLD_MAX 3) ≤ d.getN (Obj.SV_HOLD_CYCLES 3)
      ∧ e.getN (Obj.SV_HOLD_CYCLES 3) < e.getN (Obj.SV_HOLD_MAX 3)
      ∧ d.on (Obj.SV_RECOVER 3) = true ∧ e.getN (Obj.SV_RECOVER 3) ≤ (e.sv 3).agree
      ∧ (d.sv 3).agree < d.getN (Obj.SV_RECOVER 3)
      ∧ (d.rep 3).cause = false ∧ (d.rep 3).left = 0 ∧ d.bit (Obj.REP_STATUS 3) 0 = true
      ∧ ((d.setRep 3 { d.rep 3 with left := 4 }).rep 3).left ≠ 0 := by decide +kernel

/-- Channel 9 runs on group 0's clock, anchored at second 0, with a fast path of order 1 over 8 bits. -/
def measured : Dev :=
  let d := mk [(Obj.MEAS_STATUS 9, 2 ^ MeasBit.running), (Obj.MEAS_FAST_ORDER 9, 1), (Obj.MEAS_FAST_OSR 9, 8), (Obj.MEAS_FINE_ORDER 9, 1),
    (Obj.MEAS_FINE_OSR 9, 8), (Obj.MEAS_NOTCH_M 9, 1), (Obj.MEAS_STATUS 10, 2 ^ MeasBit.dataLoss + 2 ^ MeasBit.settling),
    (Obj.MEAS_STATUS 11, 2 ^ MeasBit.settling)]
  { d with meas := { d.meas with anchors := [(1, 0), (2, 0)] } }

theorem test_meets_measurement :
    let d := measured
    let fast := fun (bits : List Bool) =>
      fastCode (d.getN (Obj.MEAS_FAST_ORDER 9)) (d.getN (Obj.MEAS_FAST_OSR 9)) (d.on (Obj.MEAS_INVERT 9)) bits
    d.measAnchor 9 = some 0 ∧ d.measRuns 9 = true ∧ d.bit (Obj.MEAS_STATUS 9) MeasBit.clkLoss = false
      ∧ (d.measCh 9).start ≤ 0 + 0 * d.tOut 9 false ∧ (fast (List.replicate 8 true)).isSome = true ∧ fast [] = none
      ∧ (Dev.clockChannels 8).filter (fun c => d.measRuns c && !d.bit (Obj.MEAS_STATUS c) MeasBit.clkLoss) = [9]
      ∧ d.getN (Obj.MEAS_GRP_CLK_SRC 0) ≠ 1 ∧ d.bit (Obj.MEAS_STATUS 9) MeasBit.dataLoss = false
      ∧ d.bit (Obj.MEAS_STATUS 10) MeasBit.dataLoss = true ∧ d.bit (Obj.MEAS_STATUS 11) MeasBit.settling = true
      ∧ d.measLoss 11 = false
      ∧ (let e := { d with tm := { d.tm with mono := 10 * secUnit } }
         e.waited (e.measCh 11).settleAt (e.tSettle 11 true * nsUnit) = true
           ∧ ((e.setMeasCh 11 { e.measCh 11 with settleAt := 10 * secUnit }).set (Obj.MEAS_FINE_OSR 11) 100000).waited (10 * secUnit)
             (((e.set (Obj.MEAS_FINE_OSR 11) 100000).set (Obj.MEAS_FINE_ORDER 11) 3).tSettle 11 true * nsUnit) = false)
      ∧ (fineCode 1 8 0 1 (firCoefs 32 (d.blob (Obj.MEAS_FIR_COEF 9))) false (List.replicate 8 true)).isSome = true := by decide +kernel

theorem test_meets_diagnosis :
    let d := plant.setDiag 1 { plant.diag 1 with pos := some 3, ready := true }
    (d.diag 1).pos = some 3 ∧ (d.diag 1).ready = true
      ∧ ((0#32 :: (d.diag 1).results).length < (d.set (Obj.DIAG_REPEAT 3) 2).getN (Obj.DIAG_REPEAT 3))
      ∧ ((d.set (Obj.DIAG_REPEAT 3) 1).getN (Obj.DIAG_REPEAT 3) ≤ (0#32 :: (d.diag 1).results).length) := by decide +kernel
/-- A slave on port 2 of grandmaster 77, with a two-step Sync of number 5 waiting. -/
def slaved : Dev :=
  let m : Master := { order := [1, 2, 3, 4, 5, 77], gm := 77, steps := 1 }
  let d := mk [(Obj.PTP_ENABLE, 1), (Obj.PTP_SLAVE_PORT, 2), (Obj.PTP_PORT_AS_CAPABLE 2, 1), (Obj.PTP_PORT_AS_CAPABLE 0, 1),
    (Obj.PTP_GM_ID, 77), (Obj.TB_STATE, 3), (Obj.SYS_MODE, 3)]
  (d.setPort 2 { d.port 2 with master := some m, wait := some { gm := 77, seqId := 5, t2 := 9, corr := 0, interval := 125 },
                               fwd := [(3, 6, 100)] }).setPort 0 { d.port 0 with master := some m }

theorem test_meets_sync :
    let d := slaved
    d.tm.timeclk = true ∧ d.on Obj.PTP_ENABLE = true ∧ d.getN Obj.PTP_SLAVE_PORT = 2 ∧ d.on (Obj.PTP_PORT_AS_CAPABLE 2) = true
      ∧ d.getN Obj.PTP_GM_ID = 77 ∧ d.getN Obj.PTP_GM_ID ≠ 78 ∧ (d.port 2).wait.map (fun w => (w.gm, w.seqId)) = some (77, 5)
      ∧ (d.port 1).wait = none ∧ (d.set Obj.SYS_MODE 4).mode = Mode.run ∧ d.mode ≠ Mode.run ∧ (0 : Int) ≤ 40 := by decide +kernel

theorem test_meets_ports :
    let d := slaved
    let x := d.port 1
    let m : Master := { order := [1, 2, 3, 4, 5, 80], gm := 80, steps := 1 }
    (d.set Obj.PTP_ENABLE 0).on Obj.PTP_ENABLE = false ∧ d.on Obj.PTP_ENABLE = true
      ∧ (d.setPort 1 { x with master := some m }).selectMaster.getN Obj.PTP_SLAVE_PORT ≠ 1
      ∧ Dev.switchPort 2 = 3 ∧ (0 : Nat) ≠ Dev.switchPort 2 ∧ d.on (Obj.PTP_PORT_AS_CAPABLE 2) = true
      ∧ ((d.port 2).fwd.find? fun f => f.1 == 3 && f.2.1 == 6) = some (3, 6, 100)
      ∧ x.reqAt.all (fun t => d.waited t secUnit) = true ∧ (some 0).all (fun t => d.waited t secUnit) = false
      ∧ d.waited x.respAt (3 * secUnit) = false
      ∧ Dev.waited { d with tm := { d.tm with mono := 3 * secUnit } } x.respAt (3 * secUnit) = true := by decide +kernel

theorem test_meets_clocks :
    let d := slaved
    let lost := d.setPort 2 { d.port 2 with master := none, wait := none }
    let alone := d.set (Obj.PTP_PORT_AS_CAPABLE 0) 0
    let aloneLost := alone.setPort 2 { alone.port 2 with master := none, wait := none }
    let hold := (alone.set Obj.TB_STATE 4).set Obj.TB_ERR_LIMIT 10
    lost.slaveFor (d.getN Obj.PTP_GM_ID) = some 0 ∧ aloneLost.slaveFor (d.getN Obj.PTP_GM_ID) = none ∧ alone.getN Obj.TB_STATE = 3
      ∧ (alone.set Obj.TB_STATE 2).getN Obj.TB_STATE = 2 ∧ hold.getN Obj.TB_STATE = 4
      ∧ hold.getN Obj.TB_ERR_LIMIT < (hold.setPtp { hold.ptp with errIn := 11 }).errEst
      ∧ (d.set Obj.UTC_LEAP 1).getN Obj.UTC_LEAP = 1 ∧ (d.set Obj.UTC_LEAP 2).getN Obj.UTC_LEAP = 2 := by decide +kernel

theorem test_meets_pulses_and_stamps :
    let d := (mk [(Obj.PG_MODE 1, 2), (Obj.TSU_EDGE 1, 1), (Obj.TSU_MIN_WIDTH 1, 20)]).setPulse 1 { due := some 700 }
    let e : TsuEntry := { time := 0, edge := 1, flags := 0, seq := 0 }
    (d.pulse 1).due = some 700 ∧ d.getN (Obj.PG_MODE 1) = 2 ∧ (d.pulse 2).due = none ∧ d.getN (Obj.PG_MODE 2) ≠ 2
      ∧ d.getN (Obj.TSU_EDGE 1) = 1 ∧ d.getN (Obj.TSU_MIN_WIDTH 1) ≤ 20 ∧ 19 < d.getN (Obj.TSU_MIN_WIDTH 1) ∧ (d.tsu 1).fifo = []
      ∧ 32 ≤ ((d.setTsu 1 { d.tsu 1 with fifo := List.replicate 32 e }).tsu 1).fifo.length := by decide +kernel
theorem test_meets_pool_samples :
    let at_ := fun st w => (pooled st).setPool 0 { (pooled st).pool 0 with written := w, slot := some 0, post := 100 }
    let event := at_ 2 70
    let done := (at_ 3 70).setPool 0 { (at_ 3 70).pool 0 with trig := some rec0.trig, after := 100 }
    [0, 1, 2, 3, 4, 5].all (fun (st : Nat) => (pooled st).getN (Obj.TP_STATE 0) == st) = true
      ∧ ((at_ 1 63).pool 0).written < 64 ∧ 64 ≤ ((at_ 1 64).pool 0).written ∧ ((at_ 1 64).pool 0).full = false
      ∧ (let y := { (at_ 2 70).pool 0 with full := false, recent := [] }
         (((at_ 2 70).setPool 0 y).poolConds 0).1 = [])
      ∧ ((event.setPool 0 { event.pool 0 with force := true }).pool 0).force = true
      ∧ ((at_ 3 70).pool 0).after < ((at_ 3 70).pool 0).post ∧ (done.pool 0).post ≤ (done.pool 0).after
      ∧ (done.tpOpen 0 false).isSome = true ∧ done.getN (Obj.TP_MODE 0) ≠ 2
      ∧ ((pooled 2).set (Obj.TP_MODE 0) 1).getN (Obj.TP_MODE 0) = 1 ∧ ((at_ 2 70).pool 0).full = false
      ∧ ((event.setPool 0 { event.pool 0 with full := true }).pool 0).full = true
      ∧ ((event.setPool 0 { event.pool 0 with event := true }).pool 0).event = true
      ∧ ((pooled 2).waited 0 0) = true ∧ (pooled 2).waited secUnit 0 = false
      ∧ ((done.set (Obj.TP_MODE 0) 2).getN (Obj.TP_MODE 0)) = 2
      ∧ ((done.set (Obj.TP_SLOTS 0) 0).tpFreeSlot 0) = none := by decide +kernel

/-- A line over pool 0, whose record in slot 1 shows a change of 100 between its two samples at the trigger. -/
def lined (r : TpRec) : Dev :=
  let d := mk [(Obj.TP_SLOTS 0, 2), (Obj.TP_POOL_MIB 0, 1), (Obj.TP_POOL_MASK 0, 1), (Obj.TP_SLOT_CH 0, 3), (Obj.TW_ENABLE 0, 1),
    (Obj.TW_POOL 0, 0), (Obj.TW_COND 0, 0), (Obj.TC_KIND 0, 1), (Obj.TC_SLOT 0, 0)]
  withRec r { d with tide := { d.tide with conds := [(0, { th := 50, hi := 0, hyst := 0, armed := false })] } }
def sampleOf (v : Int) : TpSample := { codes := [v], bad := [false], loss := false }
def edge0 : TpRec := { rec0 with samples := [sampleOf 0, sampleOf 0, sampleOf 100, sampleOf 100], trig := { rec0.trig with nPre := 2 } }

theorem test_meets_travelling_waves :
    let d := lined edge0
    Dev.reset.twOn 0 = false ∧ d.twOn 0 = true ∧ (d.tpView (d.getN (Obj.TW_POOL 0)) 1) = some edge0
      ∧ (d.tpRecord (d.getN (Obj.TW_POOL 0)) 1) = some edge0 ∧ edge0.trig.lines.contains 0 = false ∧ edge0.flags / 4 = 0
      ∧ edge0.flags / 2 = 0 ∧ (d.lineArrival 0 edge0).isSome = true ∧ d.lineArrival 0 { edge0 with samples := [] } = none
      ∧ d.tpRecord (d.getN (Obj.TW_POOL 0)) 2 = none ∧ d.tpView (d.getN (Obj.TW_POOL 0)) 2 = none
      ∧ ({ edge0 with gap := true } : TpRec).flags / 4 ≠ 0 ∧ (d.twLine 0).locals = [] ∧ (d.twLine 0).remotes = []
      ∧ (let a : TwArrival := { time := 1, err := 0, locked := true, since := 0 }
         let e := d.setTwLine 0 { locals := [a], remotes := [a] }
         let wait := d.getN (Obj.TW_MATCH_TIMEOUT 0) * 1000000 * nsUnit
         (e.twLine 0).locals = [a] ∧ (e.twLine 0).remotes = [a] ∧ e.waited a.since wait = false
           ∧ ({ e with tm := { e.tm with mono := 100 * secUnit } } : Dev).waited a.since wait = true) := by decide +kernel

/-- Stream 1 with IDCODE 9, allowed to the zero address, and set 0 in it. -/
def streamed : Dev :=
  mk [(Obj.PH_ENABLE, 1), (Obj.PHS_ENABLE 1, 1), (Obj.PHS_IDCODE 1, 9), (Obj.PHS_SETS 1, 1), (Obj.PHS_RATE 1, 50), (Obj.SYS_MODE, 3),
    (Obj.PHS_STATE 1, 1), (Obj.TB_STATE, 2), (Obj.PHS_ENABLE 0, 0)]

theorem test_meets_phasor_commands :
    let d := streamed.setBlob (Obj.PHS_ALLOW 1) (zeros 64)
    let due := fun (d : Dev) => decide (d.phInstant 1 5 3 + d.phSpan 1 ≤ d.tm.now + d.tc * nsUnit)
    let at_ := fun (t : Nat) => { d with tm := { d.tm with now := t } }
    let soon := at_ (d.phInstant 1 5 3 + d.phSpan 1)
    let stop := d.set Obj.PH_UNLOCK_ACTION 1
    d.tm.timeclk = true ∧ d.phByIdcode 9 = some 1 ∧ d.phByIdcode 8 = none ∧ d.phAllows 1 (zeros 16) = true
      ∧ d.phAllows 1 [1#8] = false ∧ d.phOn = true ∧ (d.set Obj.PH_ENABLE 0).phOn = false ∧ d.getN Obj.PH_UDP_PORT ≠ 1
      ∧ d.phRuns = true ∧ d.on (Obj.PHS_ENABLE 1) = true ∧ 3 < d.getN (Obj.PHS_RATE 1) ∧ due d = false ∧ due soon = true
      ∧ soon.tm.now ≤ soon.phLimit 1 5 3 ∧ soon.phLimit 1 5 3 < (at_ (6 * secUnit)).tm.now ∧ due (at_ (6 * secUnit)) = true
      ∧ (at_ (6 * secUnit)).phLimit 1 5 3 ≤ (at_ (6 * secUnit)).tm.now + d.tc * nsUnit
      ∧ ((((soon.phSetsOf 1).map fun x => (x, soon.phReport x 5 3 50)).foldl
          (fun d x => d.phTake x.1 5 3 50 x.2) soon).phResume 1 5 3).phSends 1 5 3 = true
      ∧ soon.phSends 1 5 3 = true ∧ (soon.set (Obj.PHS_STATE 1) 0).phSends 1 5 3 = false
      ∧ stop.getN Obj.PH_UNLOCK_ACTION = 1 ∧ d.getN Obj.TB_STATE ≠ 3
      ∧ ({ stop with tm := { stop.tm with mono := 100000 * secUnit } } : Dev).waited (stop.ptp.leftLock.getD 0)
          (stop.getN Obj.PH_UNLOCK_STOP * secUnit) = true := by decide +kernel
/-- Task 7 waits for its last dependence, task 8 runs on core 2, task 9 is ready in stall 0 for core 3, which asks. -/
def stabled : Dev :=
  let d := mk [(Obj.SYS_MODE, 3), (Obj.TASK_ENABLE 7, 1), (Obj.TASK_STATE 7, 1), (Obj.TASK_MODES 7, 4), (Obj.TASK_RELEASE 7, 1),
    (Obj.TASK_DEP 7, 1), (Obj.TASK_STATE 8, 4), (Obj.TASK_DEADLINE 8, 5), (Obj.TASK_BUDGET 8, 5), (Obj.TASK_STATE 9, 2),
    (Obj.TASK_CORES 9, 8), (Obj.STALL_WEIGHT 0, 1), (Obj.STB_CORE_WDT, 1), (Obj.TASK_CYC_N 7, 1)]
  let e := d.setCore 2 { d.core 2 with held := some 8 }
  { e with stb := { e.stb with fifos := [(0, [9])], asking := [(3, 1)], askClk := 1 } }

theorem test_meets_releases :
    let d := stabled
    d.tm.timeclk = true ∧ d.on (Obj.TASK_ENABLE 7) = true ∧ d.taskState 7 ≠ TaskState.disabled ∧ (d.task 7).off = false ∧ d.mode ≠ 0
      ∧ d.bit (Obj.TASK_MODES 7) (d.mode - 1) = true ∧ d.standby = false ∧ d.getN (Obj.TASK_RELEASE 7) = 1
      ∧ d.getN (Obj.TASK_DEP 7) ≤ 1 ∧ 1 < (d.set (Obj.TASK_DEP 7) 2).getN (Obj.TASK_DEP 7)
      ∧ (d.task 7).next ≤ fracOf d.tm.now + d.tc * nsFrac ∧ (d.set Obj.SYS_MODE 0).mode = 0
      ∧ (d.set (Obj.TASK_RELEASE 7) 2).getN (Obj.TASK_RELEASE 7) = 2
      ∧ (d.tm.lastT / secUnit * (1000000000 / d.tc) + d.tm.lastT % secUnit / (d.tc * nsUnit))
          % max 1 (d.getN (Obj.TASK_CYC_N 7)) = 0
      ∧ (d.task 7).next ≤ fracOf d.tm.lastT + d.getN (Obj.TASK_CYC_OFFSET 7) * nsFrac
      ∧ d.taskState 7 = TaskState.waiting ∧ d.taskState 9 = TaskState.ready ∧ d.taskState 8 = TaskState.running
      ∧ (d.setN (Obj.TASK_STATE 9) TaskState.slotted).taskState 9 = TaskState.slotted ∧ (d.task 8).pend = none
      ∧ ((d.setTask 8 { d.task 8 with pend := some 0 }).task 8).pend ≠ none
      ∧ (d.setN (Obj.TASK_STATE 960) TaskState.running).taskState 960 = TaskState.running := by decide +kernel

theorem test_meets_grants :
    let d := stabled
    let slotted := d.setCore 4 { d.core 4 with slot := some 9 }
    let quiet : Dev := { d.setCore 3 { d.core 3 with pref := true } with stb := { (d.setCore 3 { d.core 3 with pref := true }).stb with asking := [] } }
    (d.core 2).held ≠ none ∧ (slotted.core 4).held = none ∧ (slotted.core 4).slot = some 9 ∧ (d.core 3).slot = none
      ∧ d.irqPending 3 = false ∧ (3, 1) ∈ d.stb.asking ∧ (∀ y ∈ d.stb.asking, y.1 ≠ 5) ∧ d.nextAsking = some 3
      ∧ (d.selectTask 3).1 = some 9 ∧ (d.core 2).held = some 8 ∧ d.readyFor 0 3 ≠ none
      ∧ (({ d with stb := { d.stb with fifos := [] } } : Dev).selectTask 3).1 = none
      ∧ slotted.waited (slotted.core 4).slotAt (slotted.getN Obj.STB_PREFETCH_RECLAIM * nsUnit) = true
      ∧ (let e := slotted.set Obj.STB_PREFETCH_RECLAIM 100000
         e.waited (e.core 4).slotAt (e.getN Obj.STB_PREFETCH_RECLAIM * nsUnit) = false)
      ∧ quiet.nextAsking = none ∧ (quiet.core 3).pref = true ∧ (quiet.core 3).slot = none ∧ (quiet.selectTask 3).1 = some 9 := by
  decide +kernel

theorem test_meets_completions :
    let d := stabled
    let q := fun (k : Compl) => { d with stb := { d.stb with queue := [k] } }
    (d.core 3).held = none ∧ (d.core 2).held = some 8 ∧ d.doneStalled 2 = false
      ∧ ({ d with stb := { d.stb with waiting := [{ prod := 2, task := none, status := 0 }] } } : Dev).doneStalled 2 = true
      ∧ d.stb.queue = [] ∧ (q { prod := 2, task := some 8, status := 0 }).stb.queue ≠ []
      ∧ (q { prod := 10, task := none, status := 0 }).stb.queue.map (·.task) = [none]
      ∧ d.getN (Obj.TASK_DEADLINE 8) ≠ 0 ∧ d.taskState 8 = TaskState.running ∧ (d.task 8).missed = false
      ∧ d.getN (Obj.TASK_BUDGET 8) ≠ 0 ∧ (d.task 8).overB = false ∧ d.getN Obj.STB_CORE_WDT ≠ 0 ∧ (d.core 2).wdt = false
      ∧ d.waited (d.task 8).relAt (d.getN (Obj.TASK_DEADLINE 8) * nsUnit) = true
      ∧ d.waited (d.task 8).grantAt (d.getN (Obj.TASK_BUDGET 8) * nsUnit) = true
      ∧ d.waited (d.core 2).heldAt (d.getN Obj.STB_CORE_WDT * 1000 * nsUnit) = true
      ∧ d.getN (Obj.TASK_DEADLINE 7) = 0 ∧ (d.set Obj.STB_CORE_WDT 0).getN Obj.STB_CORE_WDT = 0 := by decide +kernel

theorem test_meets_scans :
    let d := mk [(Obj.SEQ_STATE, 2), (Obj.SYS_MODE, 3), (Obj.STN_ENABLE 1, 1)]
    d.getN Obj.SEQ_STATE = 2 ∧ d.mode ≠ Mode.boot ∧ d.standby = false ∧ d.seq.swapped = false ∧ Dev.reset.getN Obj.SEQ_STATE ≠ 2
      ∧ d.on (Obj.STN_ENABLE 1) = true ∧ (d.set (Obj.STN_QUALITY 1) 0).getN (Obj.STN_QUALITY 1) = 0
      ∧ (d.set (Obj.STN_QUALITY 1) 1).getN (Obj.STN_QUALITY 1) ≠ 0 ∧ (d.set Obj.PR_ROLE 2).standby = true
      ∧ (let e : Dev := { d with tm := { d.tm with mono := 1000 * secUnit } }
         e.waited (SMap.get 0 e.seq.heard 1) (e.getN (Obj.STN_TIMEOUT 1) * 1000000 * nsUnit) = true) := by decide +kernel

theorem test_meets_breakwater :
    let d := mk [(Obj.BW_STATE, 1), (Obj.BW_LOR_STRAP, 1), (Obj.BW_CAUSES, 0), (Obj.SYS_MODE, 3)]
    let act := d.setBw { d.bw with act := [(Obj.BWC_ENABLE 2, 1), (Obj.BW_INJECT_MODE, 0)], raw := 4, lorStuck := true }
    let later_ : Dev := { act with tm := { act.tm with mono := 100000 * secUnit } }
    (2 : Nat) ≠ 0 ∧ d.bw.rcDead = false ∧ (d.setBw { d.bw with rcDead := true }).bw.rcDead = true ∧ d.on Obj.BW_STATE = true
      ∧ (d.set Obj.BW_STATE 0).on Obj.BW_STATE = false ∧ act.bw.raw.testBit 2 = true ∧ act.bw.raw.testBit 3 = false
      ∧ 100 * 11 < 105 * act.bwFilter 2 + 1100 ∧ 105 * act.bwFilter 2 + 1100 ≤ 100 * 10000000 ∧ act.bwEnabled 2 = true
      ∧ d.on Obj.BW_LOR_STRAP = true ∧ d.bw.lorStuck = false ∧ act.bw.lorStuck = true ∧ (d.set Obj.BW_LOR_STRAP 0).on Obj.BW_LOR_STRAP = false
      ∧ act.actN Obj.BW_INJECT_MODE = 0 ∧ act.getN Obj.BW_CAUSES = 0 ∧ d.tm.timeclk = true
      ∧ (d.setBw { d.bw with powerUp := true }).bw.powerUp = true ∧ (d.setBw { d.bw with powerUp := false, act := [] }).bwCauses = 0
      ∧ (act.setBw { act.bw with powerUp := false }).bwCauses ≠ 0 ∧ d.bw.hbLost = false ∧ act.bwEnabled 3 = false
      ∧ (let r := (act.set Obj.BW_LATCHED 4).bwRefresh
         r.bit Obj.BW_LATCHED 2 = true ∧ r.bwEnabled 2 = true ∧ r.bw.rcDead = false)
      ∧ later_.waited later_.bw.armedAt (later_.getN Obj.BW_LOR_WINDOW * secUnit) = true
      ∧ (act.setBw { act.bw with armedAt := secUnit }).waited secUnit (act.getN Obj.BW_LOR_WINDOW * secUnit) = false
      ∧ later_.waited later_.bw.latchAt (later_.actN Obj.BW_INJECT_MIN * 1000 * nsUnit) = true
      ∧ ({ d with tm := { d.tm with timeclk := false } } : Dev).tm.timeclk = false := by decide +kernel
/-- A safety frame of sequence number 4, its CRC right or wrong, and subscription 2 that names it. -/
def pdu (trip : Bool) : List Byte :=
  let b := [1#8, 1#8] ++ bytesBE 2 4 ++ bytesBE 4 5 ++ bytesBE 4 6 ++ zeros 12 ++ [if trip then 1#8 else 0#8] ++ zeros 7
  b ++ bytesBE 4 (Dev.slCrc b)
def subscribed : Dev :=
  let d := mk [(Obj.SYS_MODE, 3), (Obj.SL_ENABLE, 1)]
  d.setBw { d.bw with act := [(Obj.SLS_SRC_ID 2, 5), (Obj.SLS_DST_ID 2, 6), (Obj.SLS_ENABLE 2, 1)] }

set_option maxRecDepth 1000000 in
theorem test_meets_safety_frames :
    let d := subscribed
    let b := pdu false
    let open_ := d.setSafeSub 2 { d.safeSub 2 with wins := [{ seq := 4, lan := 1, pdu := b, at_ := 0 }] }
    let heard := d.setN (Obj.SLS_STATE 2) 1
    let later_ : Dev := { heard with tm := { heard.tm with mono := 100000 * secUnit } }
    d.pduSub b = some 2 ∧ d.pduSub (zeros 36) = none ∧ b.length = 36 ∧ Dev.slCrc (b.take 32) = Dev.pduField b 0x20 4
      ∧ Dev.pduField b 0 1 = 1 ∧ Dev.pduField b 1 1 = 1 ∧ d.copyOk 2 0 0 b = true ∧ (Dev.pduField b 0x18 1).testBit 0 = false
      ∧ Dev.pduField b 2 2 = 4 ∧ (d.safeSub 2).wins = [] ∧ (open_.copyOk 2 0 0 b) = true ∧ (open_.safeSub 2).wins ≠ []
      ∧ (open_.copyOk 2 1 0 b) = false ∧ open_.getN (Obj.SLS_STATE 2) ≠ 2 ∧ d.on Obj.SL_ENABLE = true
      ∧ heard.getN (Obj.SLS_STATE 2) = 1 ∧ d.tm.timeclk = true ∧ d.heartbeatDue 0 = true
      ∧ later_.waited 0 (200000 * nsUnit) = true ∧ open_.waited secUnit (200000 * nsUnit) = false
      ∧ later_.waited (later_.safeSub 2).heard (later_.actN (Obj.SLS_TIMEOUT 2) * 1000 * nsUnit) = true := by decide +kernel

set_option maxRecDepth 1000000 in
theorem test_meets_safety_trip :
    let d := subscribed
    let b := pdu true
    d.pduSub b = some 2 ∧ b.length = 36 ∧ Dev.slCrc (b.take 32) = Dev.pduField b 0x20 4 ∧ (Dev.pduField b 0x18 1).testBit 0 = true
      ∧ d.copyOk 2 0 0 b = true ∧ ((d.actTrip 2 true).safeSub 2).wins = [] := by decide +kernel

/-- Two modules that may form the couple. -/
def partner0 : PartnerId :=
  { node := 2, order := 0, spread := 0, tc := 10000, pref := true, hash := [], config := true, pair := true, delay := 0#32 }
def paired : Dev :=
  mk [(Obj.SYS_MODE, 1), (Obj.STR_TOPOLOGY, 2), (Obj.PR_LINK_STATE, 3), (Obj.ID_ORDER_CODE, 0), (Obj.CYC_SPREAD_PPM, 0),
    (Obj.CYC_TC, 10000), (Obj.PR_PREF, 0)]
def couple (role : Int) : Dev :=
  mk [(Obj.SYS_MODE, 3), (Obj.STR_TOPOLOGY, 2), (Obj.PR_LINK_STATE, 1), (Obj.PR_COUPLE, 1), (Obj.PR_ROLE, role), (Obj.PR_PREF, 1),
    (Obj.BW_STATE, 0), (Obj.PR_HEALTH, 1), (Obj.PR_READY, 1), (Obj.PR_REVERT_ENABLE, 1), (Obj.PR_EXERCISE_PERIOD, 1),
    (Obj.PR_EXERCISE_MODES, 4)]

theorem test_meets_pair_roles :
    let p := { partner0 with hash := paired.blob Obj.FW_HASH }
    paired.mode = Mode.config ∧ p.config = true ∧ paired.topology = 2 ∧ p.pair = true ∧ paired.on Obj.PR_LINK_STATE = true
      ∧ paired.coupleCheck p = 0 ∧ paired.on Obj.PR_PREF = false ∧ (paired.set Obj.PR_PREF 1).on Obj.PR_PREF = true
      ∧ (paired.set Obj.PR_PREF 1).coupleCheck { p with pref := false } = 0 ∧ paired.coupleCheck { p with order := 1 } ≠ 0
      ∧ (couple 2).getN Obj.PR_ROLE = 2 ∧ (couple 2).mode ≠ Mode.boot ∧ (couple 2).mode ≠ Mode.config
      ∧ (couple 2).on Obj.PR_READY = true ∧ ((couple 2).set Obj.PR_READY 0).on Obj.PR_READY = false
      ∧ (couple 1).getN Obj.PR_ROLE = 1 ∧ (couple 1).pair.yielding = false
      ∧ (couple 1).bit Obj.PR_LINK_STATE 0 = true ∧ (couple 1).bit Obj.PR_LINK_STATE 1 = false
      ∧ (couple 1).getN Obj.PR_COUPLE = Couple.formed
      ∧ (((couple 1).setBit Obj.PR_LINK_STATE 0 false).pairEvent 153 0).on Obj.PR_LINK_STATE = false
      ∧ ((couple 1).setBit Obj.PR_LINK_STATE 1 true).on Obj.PR_LINK_STATE = true
      ∧ ((couple 1).setN Obj.PR_COUPLE Couple.linkDown).getN Obj.PR_COUPLE = Couple.linkDown
      ∧ paired.pair.yielding = false ∧ (couple 1).getN Obj.PR_ROLE ≠ 2 ∧ (couple 2).getN Obj.PR_ROLE ≠ 1 := by decide +kernel

def checkpoint0 : Checkpoint :=
  { run := 5, insts := [], cells := [], reps := [], arms := [], svs := [], ovrLoop := 0, ovrMod := 0, ovrRow := 0, epoch := 2 }

theorem test_meets_pair_exchange :
    let a := couple 1
    let s := couple 2
    let st : PairStatus := { mode := 3, ready := true, lastRun := 0, loops := [], delay := none, errors := 0, banks := [], seq := [] }
    let b := a.setPair { a.pair with status := some st, yielding := true, dwell := some { start := 0, at_ := 0, epoch := 0, seen := 0 } }
    let past : Dev := { b with tm := { b.tm with mono := 10000000 * secUnit, now := 10000000 * secUnit } }
    let t := s.setPair { s.pair with take := some { at_ := 0, warm := true, loaded := false, frame := 0 }, cp := some checkpoint0 }
    s.getN Obj.PR_ROLE = 2 ∧ s.getN Obj.PR_COUPLE = Couple.formed ∧ a.getN Obj.PR_ROLE ≠ 2
      ∧ t.pair.take ≠ none ∧ t.pair.cp = some checkpoint0 ∧ a.pair.take = none
      ∧ ((s.rights (.mirror 2)).map fun rt =>
          (s.checkGroup (.mirror 2) rt [cmdEntry Obj.CYC_OVR_LIMIT (.num 2)]).1.status) = some Status.ok
      ∧ ((s.rights (.mirror 2)).map fun rt =>
          (s.checkGroup (.mirror 2) rt [cmdEntry Obj.CYC_OVR_LIMIT (.num 99999)]).1.status) = some Status.range
      ∧ a.bit Obj.PR_SPLIT_STRANDS 4 = false ∧ (a.setBit Obj.PR_SPLIT_STRANDS 4 true).bit Obj.PR_SPLIT_STRANDS 4 = true
      ∧ s.on Obj.PR_REVERT_ENABLE = true ∧ s.on Obj.PR_PREF = true ∧ s.on Obj.PR_READY = true ∧ s.healthCode = 1
      ∧ a.on Obj.PR_EXERCISE_PERIOD = true ∧ b.pair.status = some st ∧ st.ready = true ∧ 0 < b.mode
      ∧ b.bit Obj.PR_EXERCISE_MODES (b.mode - 1) = true ∧ (b.set Obj.PR_EXERCISE_NEXT b.exerciseNext).healthCode = 1
      ∧ b.pair.yielding = true ∧ (b.set Obj.PR_HEALTH 3).getN Obj.PR_HEALTH = 3 ∧ a.pair.dwell = none ∧ b.pair.dwell ≠ none
      ∧ (∀ n, n < 32 → b.positions n = 0) ∧ 0 ≤ b.gapBound
      ∧ s.bit Obj.PR_SPLIT_STRANDS 4 = false ∧ ((a.set (Obj.STR_POSITIONS 4) 2).set (Obj.STR_FOLD_A 4) 1).strandBroken 4 = true ∧ (a.set Obj.PR_ROLE 0).getN Obj.PR_ROLE ≤ 2
      ∧ past.waited past.pair.readyAt (past.getN Obj.PR_REVERT_HOLDOFF * secUnit) = true
      ∧ time96Units (past.get Obj.PR_EXERCISE_NEXT) ≤ past.tm.now + past.tc * nsUnit
      ∧ a.waited secUnit (10 * secUnit) = false ∧ past.waited 0 (10 * secUnit) = true
      ∧ past.waited 0 (past.getN Obj.PR_EXERCISE_DWELL * secUnit) = true := by decide +kernel
theorem test_meets_discovery :
    let d := mk [(Obj.HOST_IPV4, 1), (Obj.HOST_PRP, 0), (Obj.HOST_NODE_ID, 3)]
    let p : Peer := { node := 5, role := 0, order := 0, flags := 0, addr := zeros 16, tLast := 0 }
    let e : Dev := { d with host := { d.host with peers := [p] }, tm := { d.tm with mono := 40 * secUnit } }
    let block := (zeros 9) ++ [5#8] ++ zeros 26 ++ List.replicate 6 9#8 ++ zeros 6
    d.on Obj.HOST_IPV4 = true ∧ ((d.blob Obj.HOST_IPV6).take 16).any (· != 0#8) = false ∧ d.on Obj.HOST_PRP = false
      ∧ (d.set Obj.HOST_PRP 1).on Obj.HOST_PRP = true ∧ (d.set Obj.HOST_IPV4 0).on Obj.HOST_IPV4 = false
      ∧ block.length = 48 ∧ (block.drop 36).take 6 ≠ d.mac ∧ (block.getD 9 0#8).toNat ≠ d.getN Obj.HOST_NODE_ID
      ∧ (block.getD 9 0#8).toNat = (d.set Obj.HOST_NODE_ID 5).getN Obj.HOST_NODE_ID ∧ (block.getD 9 0#8).toNat ≠ 0
      ∧ e.host.peers.find? (·.addr = padTo 16 0#8 (zeros 16)) = some p ∧ p.node = (block.getD 9 0#8).toNat
      ∧ d.host.peers.find? (·.addr = zeros 16) = none ∧ d.host.peers.length < 64 ∧ d.on Obj.HOST_NODE_CONFLICT = false
      ∧ (d.set Obj.HOST_NODE_CONFLICT 1).on Obj.HOST_NODE_CONFLICT = true ∧ e.waited e.host.tConflict (10 * secUnit) = true
      ∧ e.waited p.tLast (3 * e.getN Obj.HOST_DISC_PERIOD * 1000000 * nsUnit) = true ∧ d.waited d.host.helloAt secUnit = false
      ∧ e.waited e.host.helloAt (e.getN Obj.HOST_DISC_PERIOD * 1000000 * nsUnit) = true
      ∧ e.waited e.host.prpAt (2 * secUnit) = true ∧ d.waited d.host.prpAt (2 * secUnit) = false
      ∧ p.node ≠ 6 ∧ (block.getD 9 0#8).toNat = p.node := by decide +kernel

/-- User 0, "a", an Engineer; slot 4 waits for his proof. -/
def known : Dev :=
  let d := ((mk [(Obj.USR_ENABLE 0, 1), (Obj.USR_ROLE 0, 2), (Obj.SES_STATE 4, 1), (Obj.SES_ID 4, 20)]).setBlob (Obj.USR_NAME 0)
    [0x61#8]).setBlob (Obj.USR_KEY 0) (zeros 16)
  d.setSes 4 { SesSt.init with user := some 0, roleReq := 2, nC := zeros 16, nM := zeros 16 }
def proof4 : List Byte := known.loginMac 4 (known.blob (Obj.USR_KEY 0)) "ZOA1-P" false [BitVec.ofNat 8 2, BitVec.ofNat 8 0]

theorem test_meets_challenges :
    let d := known
    let full := (List.range 16).foldl (fun (d : Dev) n => d.set (Obj.SES_STATE n) 2) d
    (zeros 36).length = 36 ∧ d.userNamed (trimZeros ([0x61#8] ++ zeros 15)) = some 0 ∧ d.challengeStatus (some 0) 2 false = Status.ok
      ∧ d.challengeStatus (some 0) 3 false = Status.role
      ∧ (d.set (Obj.USR_LOCKED_UNTIL 0) (2 ^ 90)).challengeStatus (some 0) 2 false = Status.locked
      ∧ full.freeSessions = [] ∧ d.freeSessions.head? = some 0 := by decide +kernel

set_option maxRecDepth 1000000 in
theorem test_meets_proofs :
    let d := known
    d.getN (Obj.SES_STATE 4) = 1 ∧ d.getN (Obj.SES_STATE 3) ≠ 1 ∧ d.provenUser 4 [] = none ∧ d.provenUser 4 proof4 = some 0
      ∧ (d.ses 4).roleReq ≤ d.getN (Obj.USR_ROLE 0) ∧ (d.set (Obj.USR_ROLE 0) 1).getN (Obj.USR_ROLE 0) < (d.ses 4).roleReq := by
  decide +kernel

theorem test_meets_session_ends :
    let d := known
    let later_ : Dev := { d with tm := { d.tm with mono := 100000 * secUnit } }
    later_.getN (Obj.SES_STATE 4) = 1 ∧ later_.waited (later_.ses 4).tChal (2 * secUnit) = true
      ∧ later_.waited (later_.ses 4).tLast (later_.getN Obj.HOST_SES_TIMEOUT * secUnit) = true
      ∧ d.waited (d.ses 4).tChal (2 * secUnit) = false
      ∧ 1 < (d.inc (Obj.USR_FAILS 0)).getN Obj.SEC_LOCK_FAILS
      ∧ ((d.set Obj.SEC_LOCK_FAILS 1).inc (Obj.USR_FAILS 0)).getN Obj.SEC_LOCK_FAILS ≤ 1
      ∧ (around ses3).fresh 3 1 = true ∧ ses3.sesOpen 3 = true ∧ d.sesOpen 3 = false
      ∧ ((ses3.inc (Obj.SES_AUTH_FAIL 3)).host.tagSec ≠ some (ses3.inc (Obj.SES_AUTH_FAIL 3)).second) := by decide +kernel

/-- A change record that waits. -/
def note0 : LogRec :=
  { time := 0, kind := 5, org := Origin.module, index := 0, sub := 0, type := 0, aux := 0, old := [], new := [] }

theorem test_meets_log :
    let d := mk [(Obj.SYS_MODE, 3)]
    let e : Dev := { d with host := { d.host with logWait := [note0], log := [zeros 4], logLimit := true } }
    d.host.logWait = [] ∧ e.host.logWait = [note0] ∧ e.host.log.getLast? = some (zeros 4) ∧ d.host.log = [] ∧ d.host.log.length < 131072
      ∧ d.host.logGap = 0 ∧ e.logErase.host.logLimit = true ∧ ([] : List LogRec).length < 512 ∧ d.host.logLimit = false
      ∧ ({ d with tm := { d.tm with mono := 4000 * secUnit } } : Dev).waited d.host.tFw (3600 * secUnit) = true
      ∧ d.mode ≠ Mode.boot ∧ d.getN Obj.FW_STATUS ≠ 4 := by decide +kernel

theorem test_meets_full_log (b : Byte) : 131072 ≤ (List.replicate 131072 [b]).length := by rw [List.length_replicate]

/-- A value entry: a write of 2 to `CYC_OVR_LIMIT`, or of more than it takes. -/
def entryBytes (v : Nat) : List Byte :=
  let k := Obj.CYC_OVR_LIMIT
  let t := (cmdEntry k (.num 0)).type
  bytesBE 2 (k / 256) ++ bytesBE 1 (k % 256) ++ bytesBE 1 t ++ bytesBE 2 1 ++ zeros 2 ++ bytesBE 1 v ++ zeros 3

/-- The verdict on a payload of one entry of session 3. -/
def checked (b : List Byte) : Option (Nat × Bool) :=
  let s := around ses3
  match parseEntries 1 b, (s.at 3 1).rights (.session 3 1) with
  | .ok es, some rt => let v := (s.at 3 1).checkGroup (.session 3 1) rt es; some (v.1.status, v.1.entry.isSome)
  | _, _ => none

theorem test_meets_sequence_numbers :
    let k : Kept := { seq := 7, opcode := 0x10, status := 0, payload := [] }
    let d := ses3.setSes 3 { ses3.ses 3 with kept := [k], seqHigh := 7 }
    d.sesOpen 3 = true ∧ d.sesOpen 4 = false ∧ d.tm.timeclk = true ∧ (d.ses 3).kept.find? (·.seq = 7) = some k
      ∧ (d.ses 3).kept.find? (·.seq = 6) = none ∧ 2147483648 < (6 + 4294967296 - (d.ses 3).seqHigh % 4294967296) % 4294967296 := by
  decide +kernel

theorem test_meets_write_requests :
    (around ses3).fresh 3 1 = true ∧ (parseEntries 1 [] matches .error _) = true
      ∧ (checked (entryBytes 2)).map (·.1) = some Status.ok ∧ checked (entryBytes 200) = some (Status.range, true)
      ∧ 4 ≤ (bytesBE 2 1 ++ zeros 2 ++ entryBytes 2).length ∧ fieldBE (bytesBE 2 1 ++ zeros 2 ++ entryBytes 2) 0 2 = 1
      ∧ (bytesBE 2 1 ++ zeros 2 ++ entryBytes 2).drop 4 = entryBytes 2 ∧ (zeros 3).length < 4
      ∧ (parseEntries 1 ((bytesBE 2 1 ++ zeros 2).drop 4) matches .error _) = true := by decide +kernel
theorem test_meets_reads :
    let e := (around ses3).at 3 1
    let st := fun (k : Nat) => (e.readEntry [] (e.sesRole 3) (k / 256) (k % 256)).1.1
    let one := bytesBE 2 (Obj.CYC_OVR_LIMIT / 256) ++ bytesBE 1 (Obj.CYC_OVR_LIMIT % 256) ++ zeros 1
    st Obj.CYC_OVR_LIMIT = Status.ok ∧ st 0x212001 = Status.noObject ∧ fieldBE one 0 2 = Obj.CYC_OVR_LIMIT / 256
      ∧ fieldBE one 2 1 = Obj.CYC_OVR_LIMIT % 256 ∧ one.length = 4
      ∧ [Obj.TL_DATA, Obj.TSU_FIFO_OUT 1, Obj.CAN_TX_DONE 1, Obj.CAN_RX_DATA 1].all (fun k => st k == Status.ok) = true
      ∧ (bytesBE 2 1 ++ zeros 2 ++ one).length = 4 + 4 * 1 ∧ fieldBE (bytesBE 2 1 ++ zeros 2 ++ one) 0 2 = 1
      ∧ 128 < fieldBE (bytesBE 2 200 ++ zeros 2) 0 2
      ∧ ((e.readEntries [] (e.sesRole 3) (Dev.objectList 1 one)).1.flatten.length ≤ 1400)
      ∧ ((e.setCan 1 { e.can 1 with done := [{ time := 0, buf := 1, status := 0, err := 0, tec := 0 }] }).can 1).done ≠ [] := by
  decide +kernel

/-- Session 3 with one subscription. -/
def with0 (x : Subscr) : Dev := { ses3 with host := { ses3.host with subs := [x] } }

theorem test_meets_subscriptions :
    let s := around ses3
    let e := s.at 3 1
    let object := bytesBE 2 (Obj.CYC_OVR_LIMIT / 256) ++ bytesBE 1 (Obj.CYC_OVR_LIMIT % 256) ++ zeros 1
    let periodic := zeros 4 ++ bytesBE 4 100 ++ bytesBE 2 1 ++ zeros 2 ++ object
    let event := [2#8] ++ zeros 35
    let sub : Subscr := { slot := 3, id := 1, mode := 0, period := 100, keys := [Obj.CYC_OVR_LIMIT], events := 0, last := [], recs := [],
                          overflow := false, at_ := 0 }
    let bound : Dev := { with0 sub with tm := { ses3.tm with started := true, lastT := secUnit } }
    let with_ := with0
    s.dev.tm.timeclk = true ∧ s.fresh 3 1 = true ∧ e.subscribeStatus 3 [] ≠ Status.ok ∧ e.subscribeStatus 3 periodic = Status.ok
      ∧ fieldBE periodic 0 1 = 0 ∧ e.subscribeStatus 3 event = Status.ok ∧ fieldBE event 0 1 = 2
      ∧ ses3.subOf 3 1 = none ∧ ses3.sesOpen 3 = true ∧ (with_ sub).subOf 3 1 = some sub
      ∧ [0, 1, 2].all (fun m => (with_ { sub with mode := m }).subOf 3 1 == some { sub with mode := m }) = true
      ∧ (with_ { sub with recs := [(5, 0, 0)] }).subOf 3 1 = some { sub with recs := [(5, 0, 0)] }
      ∧ bound.tm.started = true ∧ bound.tm.lastT ≠ sub.at_ ∧ bound.tm.lastT % secUnit % (100 * 1000000 * nsUnit) < bound.tc * nsUnit
      ∧ ses3.waited 0 (1000000 * nsUnit) = false
      ∧ ({ ses3 with tm := { ses3.tm with mono := secUnit } } : Dev).waited 0 (1000000 * nsUnit) = true := by decide +kernel

/-- Session 3 with a write and a read transfer of four bytes. -/
def transfers3 : Dev :=
  let x : Transfer := { id := 1, slot := 3, key := Obj.USR_NAME 0, isWrite := true, total := 4, data := [1#8, 2#8], lastOff := 0,
                        lastLen := 2, tLast := 0 }
  let e := (around ses3).at 3 1
  { e with host := { e.host with transfers := [x, { x with id := 2, isWrite := false, data := zeros 4 },
                                               { x with id := 4, data := zeros 4 }] } }
def header (ix sub dir id off len crc : Nat) : List Byte :=
  bytesBE 2 ix ++ bytesBE 1 sub ++ bytesBE 1 dir ++ bytesBE 4 id ++ bytesBE 8 off ++ bytesBE 4 len ++ bytesBE 4 crc

set_option maxRecDepth 1000000 in
theorem test_meets_transfers :
    let e := transfers3
    let k := Obj.ID_PART
    let h := header (k / 256) (k % 256) 0 2 2 2 0
    let full := { e with host := { e.host with transfers := List.replicate 4 ((e.transferOf 3 1).getD (e.host.transfers.headD
      { id := 0, slot := 0, key := 0, isWrite := true, total := 0, data := [], lastOff := 0, lastLen := 0, tLast := 0 })) } }
    h.length = 24 ∧ fieldBE h 3 1 = 0 ∧ fieldBE h 4 4 = 2 ∧ fieldBE h 8 8 = 2 ∧ fieldBE h 16 4 = 2
      ∧ e.openStatus 3 (k / 256) (k % 256) 0 0 = Status.ok ∧ e.openStatus 3 0x2120 1 0 0 ≠ Status.ok
      ∧ e.openStatus 3 (Obj.PH_HEADER / 256) (Obj.PH_HEADER % 256) 1 4 = Status.ok
      ∧ (e.host.transfers.filter (·.slot = 3)).length < 4 ∧ e.host.transfers.length < 16
      ∧ 4 ≤ (full.host.transfers.filter (·.slot = 3)).length ∧ e.transferOf 3 9 = none
      ∧ (e.transferOf 3 1).map (fun x => (x.isWrite, x.data.length, x.total, x.lastOff, x.lastLen)) = some (true, 2, 4, 0, 2)
      ∧ (e.transferOf 3 2).map (fun x => (x.isWrite, Dev.inPlace x.key, x.total)) = some (false, false, 4)
      ∧ (e.transferOf 3 4).map (fun x => (x.isWrite, x.data.length, decide (x.total ≤ x.data.length))) = some (true, 4, true)
      ∧ fieldBE (header 0 0 1 4 0 0 (crc32 (zeros 4))) 20 4 = crc32 (zeros 4) ∧ fieldBE (header 0 0 1 4 0 0 0) 20 4 ≠ crc32 (zeros 4)
      ∧ fieldBE (header 0 0 3 4 0 0 0) 3 1 = 3 ∧ (zeros 23).length < 24 ∧ (header 0 0 1 1 2 2 0 ++ zeros 2).length = 26
      ∧ (let late : Dev := { e with tm := { e.tm with mono := 10 * secUnit } }
         ∃ x ∈ late.host.transfers, x.id = 1 ∧ late.waited x.tLast (10 * secUnit) = true) := by decide +kernel
/-- The raw ring enabled with one descriptor at offset 0 that is owned, its buffer of 64 bytes at an address. -/
def ringed (buf : Nat) : State :=
  { State.reset with dev := mk [(Obj.HOST_RAW_ENABLE, 1), (Obj.HOST_PRP, 0), (Obj.HOST_RAW_RING_LEN, 4)]
                     mem := writeAll [] [((mk []).rawDesc Obj.HOST_RAW_RX_BASE 0,
                       bytesLE 4 buf ++ bytesLE 2 64 ++ zeros 6 ++ bytesLE 4 (2 ^ 31))] }

theorem test_meets_raw_reception :
    let s := ringed 0x40000000
    let desc := s.dev.rawDesc Obj.HOST_RAW_RX_BASE s.dev.host.rxHead
    s.dev.tm.timeclk = true ∧ s.dev.on Obj.HOST_PRP = false ∧ s.dev.on Obj.HOST_RAW_ENABLE = true ∧ (zeros 60).length = 60
      ∧ s.dev.getN Obj.HOST_RAW_ETYPE = 0 ∧ (natLE (readBytes s.mem (desc + 0x0C) 4)).testBit 31 = true
      ∧ dmaSpan (natLE (readBytes s.mem desc 4)) (natLE (readBytes s.mem (desc + 4) 2)) = true
      ∧ dmaSpan (natLE (readBytes (ringed 0x1000).mem desc 4)) (natLE (readBytes (ringed 0x1000).mem (desc + 4) 2)) = false
      ∧ (natLE (readBytes ([] : List Host.Cell) (desc + 0x0C) 4)).testBit 31 = false
      ∧ natLE (readBytes s.mem (desc + 4) 2) < (zeros 65).length ∧ (zeros 13).length < 14
      ∧ ({ s.dev with tm := { s.dev.tm with timeclk := false } } : Dev).tm.timeclk = false ∧ (s.dev.prpCheck (zeros 60)).1 = false := by decide +kernel

theorem test_meets_field_channels :
    let d := mk [(Obj.FIO_DIR, 6), (Obj.FIO_STATUS, 2 ^ FioBit.inValid), (Obj.FIO_DEBOUNCE 4, 5), (Obj.FIO_APP_WDT, 10)]
    let e := d.setFio { d.fio with since := [(4, (9, 0))], raw := 16, drive := 4, survey := some 1, dis := 2, disAt := [(1, 0)],
                                   thermAt := [(1, 0)] }
    let late : Dev := { e with tm := { e.tm with mono := 100 * secUnit } }
    d.bit Obj.FIO_DIR 1 = true ∧ d.bit Obj.FIO_DIR 4 = false ∧ d.bit Obj.FIO_STATUS FioBit.inValid = true
      ∧ Dev.reset.bit Obj.FIO_STATUS FioBit.inValid = false ∧ true ≠ d.bit Obj.FIO_IN 4 ∧ d.getN (Obj.FIO_DEBOUNCE 4) ≠ 0
      ∧ (d.set (Obj.FIO_DEBOUNCE 5) 0).getN (Obj.FIO_DEBOUNCE 5) = 0 ∧ d.fio.since.any (·.1 = 4) = false
      ∧ e.fio.since.lookup 4 = some (9, 0) ∧ d.fio.since.lookup 4 = none ∧ d.tm.refclk = true ∧ e.fio.raw.testBit 4 ≠ e.bit Obj.FIO_IN 4 ∧ e.fio.drive.testBit 2 = true
      ∧ e.fio.drive.testBit 3 = false ∧ e.bit Obj.FIO_STATUS FioBit.fault = false
      ∧ (e.setBit Obj.FIO_STATUS FioBit.fault true).bit Obj.FIO_STATUS FioBit.fault = true
      ∧ d.on Obj.FIO_APP_WDT = true ∧ (d.set Obj.FIO_APP_WDT 0).on Obj.FIO_APP_WDT = false
      ∧ d.bit Obj.FIO_STATUS FioBit.offLatched = false ∧ (d.setBit Obj.FIO_STATUS FioBit.offLatched true).bit Obj.FIO_STATUS
          FioBit.offLatched = true
      ∧ late.waited 0 (late.getN (Obj.FIO_DEBOUNCE 4) * 1000 * nsUnit) = true ∧ e.fio.disAt.lookup 1 = some 0
      ∧ e.fio.thermAt.lookup 1 = some 0 ∧ late.waitedField 0 (100000000 * nsUnit) = true ∧ late.waitedField 0 (5000000 * nsUnit) = true
      ∧ late.waitedField late.fio.linkAt (2000000 * nsUnit) = true ∧ (e.setFio { e.fio with linkAt := secUnit }).waitedField secUnit
          (2000000 * nsUnit) = false
      ∧ late.waitedField late.fio.kickAt (late.getN Obj.FIO_APP_WDT * 1000000 * nsUnit) = true
      ∧ late.waited late.fio.surveyAt (5000000 * nsUnit) = true ∧ e.fio.thermal.testBit 1 = false
      ∧ (((e.set Obj.SYS_MODE 1).set Obj.FIO_OUT_ENABLE 1).set Obj.FIO_OUT 2).fioCommanded 1 = true
      ∧ d.fio.survey = none ∧ e.fio.survey = some 1 ∧ e.surveyNext 2 = some 2 ∧ e.surveyNext 3 = none := by decide +kernel

theorem test_meets_pwm_timers :
    let d := mk [(Obj.PWM_ENABLE, 2), (Obj.PWM_EV_POINT 1, 1), (Obj.PWM_PRESCALE 1, 1), (Obj.PWM_PER_ACT 1, 12500),
      (Obj.PWM_CMP_ACT 1, 240000), (Obj.PWM_TRIP_SRC 1, 127)]
    let on := d.setTimer 1 { d.timer 1 with run := true, dt := 10, next := some 0 }
    let long := { on with tm := { on.tm with now := secUnit } }
    let top := (on.setTimer 1 { on.timer 1 with edges := 2 }).setN (Obj.PWM_CMP_ACT 1) 0
    d.bit Obj.PWM_ENABLE 0 = false ∧ d.bit Obj.PWM_ENABLE 1 = true ∧ on.on (Obj.PWM_EV_POINT 1) = true ∧ (on.timer 1).run = true
      ∧ (on.timer 1).starts % max 1 (on.getN (Obj.PWM_PRESCALE 1)) = 0 ∧ (d.timer 1).run = false
      ∧ d.tm.timeclk = true ∧ (on.timer 1).next = some 0 ∧ 0 ≤ fracOf on.tm.now + on.tc * nsFrac ∧ (d.timer 1).next = none
      ∧ (on.timer 1).start + on.pwmP 1 * Dev.pwmUnit ≤ fracOf long.tm.now + long.tc * nsFrac
      ∧ long.pwmEdgeAt 1 false ≤ fracOf long.tm.now + long.tc * nsFrac ∧ long.pwmEdgeAt 1 true ≤ fracOf long.tm.now + long.tc * nsFrac
      ∧ ({ d with tm := { d.tm with timeclk := false } } : Dev).tm.timeclk = false
      ∧ on.getN (Obj.PWM_CMP_ACT 1) ≠ 0 ∧ on.getN (Obj.PWM_CMP_ACT 1) ≠ on.pwmP 1 ∧ (on.timer 1).rising = none
      ∧ (on.timer 1).edges = 0 ∧ (top.timer 1).edges = 2 ∧ on.pwmRemoved 1 = (false, false) ∧ (on.timer 1).dt ≠ 0
      ∧ (let e : Dev := { d with pwm := { d.pwm with pins := 1, active := 0 } }
         e.pwmSources ≠ e.pwm.active)
      ∧ (let e : Dev := { d with pwm := { d.pwm with pins := 0 } }
         ({ e with pwm := { e.pwm with active := e.pwmSources } } : Dev).pwmSources = e.pwmSources) := by decide +kernel

theorem test_meets_can :
    let d := mk [(Obj.CAN_ENABLE 1, 1), (Obj.CAN_STATE 1, 1), (Obj.CAN_RX_LEN 1, 4), (Obj.CAN_MODE 1, 0), (Obj.CAN_RX_ECHO 1, 1)]
    let r : CanReq := { buf := 3, id := 5, flags := 0, data := [], station := none, at_ := 0 }
    let e := d.setCan 1 { d.can 1 with joined := true, reqs := [r] }
    let a := e.setCan 1 { e.can 1 with attempt := some (3, 9) }
    let off := d.setCan 1 { d.can 1 with recover := true }
    d.tm.timeclk = true ∧ d.on (Obj.CAN_ENABLE 1) = true ∧ d.canState 1 ≠ CanState.busOff ∧ d.canOn 1 = false ∧ e.canOn 1 = true
      ∧ e.getN (Obj.CAN_REC 1) ≤ 127 ∧ (8 : Nat).testBit 3 = true ∧ (0 : Nat).testBit 3 = false
      ∧ (e.can 1).attempt = none ∧ e.getN (Obj.CAN_MODE 1) ≠ 1 ∧ e.standby = false ∧ e.canNext 1 = some r
      ∧ (e.set (Obj.CAN_MODE 1) 2).getN (Obj.CAN_MODE 1) = 2 ∧ (a.can 1).attempt = some (3, 9)
      ∧ (a.can 1).reqs.find? (·.buf == 3) = some r ∧ (e.can 1).attempt.map (·.1) ≠ some 3
      ∧ (e.getN (Obj.CAN_RX_WR 1) + 1) % 4 ≠ e.getN (Obj.CAN_RX_RD 1) % 4
      ∧ ((e.set (Obj.CAN_RX_RD 1) 1).getN (Obj.CAN_RX_WR 1) + 1) % 4 = (e.set (Obj.CAN_RX_RD 1) 1).getN (Obj.CAN_RX_RD 1) % 4
      ∧ (off.set (Obj.CAN_STATE 1) 3).canState 1 = CanState.busOff ∧ (off.can 1).recover = true ∧ (e.can 1).attempt.isSome = false
      ∧ (a.can 1).attempt.isSome = true ∧ ((a.setCan 1 { a.can 1 with reqs := [] }).can 1).reqs.find? (·.buf == 3) = none
      ∧ ({ e with tm := { e.tm with mono := 100 * secUnit } } : Dev).waited r.at_ (e.getN (Obj.CAN_TX_TIMEOUT 1) * 1000 * nsUnit) = true
      ∧ d.canNext 1 = none := by decide +kernel

theorem test_meets_boot :
    let d := Dev.reset
    let ready := plant
    d.mode = Mode.boot ∧ d.bit Obj.ID_STRAPS 2 = false ∧ ¬ 4 ≤ d.host.fwFails ∧ (d.set Obj.ID_STRAPS 4).bit Obj.ID_STRAPS 2 = true
      ∧ Dev.fatalTest 0 = false ∧ ((List.range 1024).any Dev.fatalTest) = true ∧ d.fm.nvLockout = false ∧ d.fm.bootL4 = false
      ∧ d.on Obj.BW_STATE = true ∧ d.getN Obj.BW_LATCHED % 32768 = 0 ∧ (d.set Obj.BW_LATCHED 1).getN Obj.BW_LATCHED % 32768 ≠ 0
      ∧ d.host.fwFails = 0 ∧ ({ d with host := { d.host with fwFails := 1 } } : Dev).host.fwFails = 1
      ∧ ready.mode ≠ Mode.boot ∧ d.tm.refclk = true ∧ d.tm.timeclk = true
      ∧ (upTo 8 (fun q (d : Dev) => d.devQuadUnlock q) { d with tm := { d.tm with refclk := false } }).mode = Mode.boot
      ∧ (upTo 8 (fun q (d : Dev) => d.devQuadUnlock q) { ready with tm := { ready.tm with refclk := false } }).mode ≠ Mode.boot := by
  decide +kernel

end Sys2Proof.Tests
end

/-! The lane controls of R50: the checks of `LANE_BITSLIP` and `LANE_RX_INVERT`, and what their writes do at the boundary. -/

namespace Sys2Proof.Machine

open Sys2Proof

/-- The row of `LANE_RX_INVERT` (Table 02-9). -/
def laneRxInvertRow : ObjRow := ⟨0x2100, 32, 6, 1, .bool, .rw, .live, .int 0 1, 2⟩

/-- The row of `LANE_BITSLIP` (Table 02-9). -/
def laneBitslipRow : ObjRow := ⟨0x2100, 32, 7, 1, .u8, .wo, .live, .int 1 1, 2⟩

theorem objRow_laneRxInvert : ∀ l : Fin 32, objRow? (0x2100 + l) 6 = some laneRxInvertRow := by decide +kernel

theorem objRow_laneBitslip : ∀ l : Fin 32, objRow? (0x2100 + l) 7 = some laneBitslipRow := by decide +kernel

theorem laneRxInvert_index (l : Nat) : Obj.LANE_RX_INVERT l / 256 = 0x2100 + l := by
  simp only [Obj.LANE_RX_INVERT]
  omega

theorem laneRxInvert_sub (l : Nat) : Obj.LANE_RX_INVERT l % 256 = 6 := by
  simp only [Obj.LANE_RX_INVERT]
  omega

theorem cmdEntry_laneRxInvert (l : Fin 32) (v : Val) :
    cmdEntry (Obj.LANE_RX_INVERT l) v = { index := 0x2100 + l, sub := 6, type := OType.bool.code, val := v } := by
  simp only [cmdEntry, laneRxInvert_index, laneRxInvert_sub, objRow_laneRxInvert, laneRxInvertRow]

theorem laneBitslip_index (l : Nat) : Obj.LANE_BITSLIP l / 256 = 0x2100 + l := by
  simp only [Obj.LANE_BITSLIP]
  omega

theorem laneBitslip_sub (l : Nat) : Obj.LANE_BITSLIP l % 256 = 7 := by
  simp only [Obj.LANE_BITSLIP]
  omega

theorem cmdEntry_laneBitslip (l : Fin 32) (v : Val) :
    cmdEntry (Obj.LANE_BITSLIP l) v = { index := 0x2100 + l, sub := 7, type := OType.u8.code, val := v } := by
  simp only [cmdEntry, laneBitslip_index, laneBitslip_sub, objRow_laneBitslip, laneBitslipRow]

namespace Dev

variable {d t : Dev} {w : Writer} {rt : Rights} {e : Entry}

/-! The checks of R351. -/

/-- A lane object is what its row says, for every role: it lies in no vendor or fused-off range and is no program variable. -/
theorem objAt_lane {role l sub : Nat} {r : ObjRow} (hl : l < 32) (hrow : objRow? (0x2100 + l) sub = some r) :
    d.objAt role (0x2100 + l) sub = .ok r := by
  unfold objAt
  rw [if_neg (by omega), if_neg (by omega), hrow]
  exact if_neg (by omega)

/-- No condition between objects bears on a lane object. -/
theorem crossRange_lane {l sub : Nat} (hl : l < 32) (hsub : sub < 256) (x : Int) :
    t.crossRange (0x2100 + l) sub x = true := by
  have hrate : t.fastRateOk (0x2100 + l) sub = true := by
    rw [fastRateOk, if_neg (by omega), if_neg (by omega)]
  have hactivate : (0x2100 + l) * 256 + sub ≠ Obj.BW_SET_ACTIVATE := by simp only [Obj.BW_SET_ACTIVATE]; omega
  rw [crossRange, hrate, if_neg (by omega), if_neg hactivate, if_neg (by omega)]
  rfl

theorem rangeStatus_laneRxInvert {l : Nat} {x : Int} (hl : l < 32) (hx : x = 0 ∨ x = 1) :
    t.rangeStatus laneRxInvertRow (0x2100 + l) 6 (.num x) = Status.ok := by
  have hcross := crossRange_lane (t := t) hl (show 6 < 256 by decide) x
  rcases hx with rfl | rfl <;>
    simp [rangeStatus, laneRxInvertRow, OType.isBlob, typeRange, numRange, hcross]

theorem rangeStatus_laneBitslip {l : Nat} (hl : l < 32) :
    t.rangeStatus laneBitslipRow (0x2100 + l) 7 (.num 1) = Status.ok := by
  have hcross := crossRange_lane (t := t) hl (show 7 < 256 by decide) 1
  simp [rangeStatus, laneBitslipRow, OType.isBlob, OType.signed, OType.bytes, typeRange, numRange, hcross]

/-- A LIVE write that passes steps 1 to 5 of R351 on a module that is no STANDBY is left to the checks of its owner. -/
theorem entryStatus_live {r : ObjRow} (hobj : t.objAt rt.role e.index e.sub = .ok r) (hacc : r.acc ≠ .ro)
    (hix : e.index < 0x5400) (hrole : r.role ≤ rt.role) (htype : e.type = r.type.code)
    (hrange : t.rangeStatus r e.index e.sub e.val = Status.ok) (hcls : r.cls = .live) (hw : isMirror w = false)
    (hstandby : d.standby = false) : d.entryStatus w rt e t = ownerStatus d rt e.index e.sub e.val t := by
  have hreserved : ¬ (r.acc = .ro ∨ (960 ≤ e.index - 0x5400 ∧ 0x5400 ≤ e.index ∧ e.index < 0x5800)) := by
    rintro (h | h)
    · exact hacc h
    · omega
  simp [entryStatus, hobj, hreserved, Nat.not_lt.mpr hrole, htype, hrange, hcls, hw, hstandby]

/-- R50: the lane's owner lets its slip and its inversion pass in UNALIGNED alone. -/
theorem ownerStatus_laneControl {l sub : Nat} (hl : l < 32) (hsub : sub = 6 ∨ sub = 7) (v : Val) :
    ownerStatus d rt (0x2100 + l) sub v t = (stateIf (d.laneState l != LaneState.unaligned), t) := by
  have hkey : ∀ k, k < 0x210000 ∨ 0x212000 ≤ k → (0x2100 + l) * 256 + sub ≠ k := by omega
  have hlane : 0x2100 ≤ 0x2100 + l ∧ 0x2100 + l < 0x2120 ∧ (sub = 6 ∨ sub = 7) := ⟨by omega, by omega, hsub⟩
  simp (disch := decide) only [ownerStatus, hkey, hlane, and_true, ↓reduceIte, Nat.add_sub_cancel_left]

/-- The verdict on one write is that of its own checks, where admission has nothing to say of it. -/
theorem checkGroup_single_status {s : Nat} (hlog : d.host.logLimit = false) (hw : isMirror w = false)
    (hcheck : ∀ t, d.entryStatus w rt e t = (s, t)) (hbudget : s ≠ Status.budget)
    (hadmit : ∀ n t, n ≤ 1 → d.groupRefusal [e] n t = none) : (d.checkGroup w rt [e]).1.status = s := by
  have hcount : ([e].filter fun e => !(d.isHeld rt.role e)).length ≤ 1 := List.length_filter_le _ _
  by_cases hs : s = Status.ok
  · simp [checkGroup, firstRefused, hlog, hw, hcheck, hs, hadmit _ _ hcount, Verdict.pass]
  · simp [checkGroup, firstRefused, hlog, hcheck, hs, hbudget]

/-- C_w admits at least one object, as the shortest cycle time is 2.5 µs (R370, Table 01-1). -/
theorem one_le_cw : 1 ≤ d.cw := by
  have htc : 2500 ≤ d.tc := by
    unfold tc tcNs
    split <;> omega
  unfold cw
  omega

/-- The lane objects are no term of admission (R26). -/
theorem groupRefusal_lane {l n : Nat} (hl : l < 32) (hsub : e.sub < 256) (hix : e.index = 0x2100 + l) (hn : n ≤ 1) :
    d.groupRefusal [e] n t = none := by
  have hkey : entryKey e < 0x212000 := by unfold entryKey; omega
  have htask : taskTerm e.index e.sub = false := by simp [taskTerm, hix]; omega
  have hterm : admissionTerm e.index e.sub = false := by rw [admissionTerm, htask]; simp [hix]; omega
  have hperiod : entryKey e ≠ Obj.SEQ_PERIOD := by simp only [Obj.SEQ_PERIOD]; omega
  have hcmd : entryKey e ≠ Obj.SEQ_CMD := by simp only [Obj.SEQ_CMD]; omega
  have hcw : ¬ d.cw < n := by have := one_le_cw (d := d); omega
  simp [groupRefusal, hterm, htask, hperiod, hcmd, hcw]

/-! The writes at their boundary. -/

/-- What a write of a strand, lane or cell object does is left to `hookStrand`. -/
theorem written_strandObject {k : Nat} (hlo : 0x2000 ≤ k / 256) (hhi : k / 256 < 0x3000) (org : Origin) (old : Val) (x : Int) :
    d.written org k old (.num x) = d.hookStrand (k / 256) (k % 256) x.toNat [] (decide (old ≠ .num x)) := by
  unfold written
  dsimp only
  rw [if_neg (by omega), if_neg (by omega), if_pos hhi]

theorem hookStrand_lane {l : Nat} (hl : l < 32) (sub n : Nat) (b : List Byte) (changed : Bool) :
    d.hookStrand (0x2100 + l) sub n b changed
      = if sub = 1 ∨ sub = 8 then d.laneRefresh l
        else if sub = 6 then d.applyRxInvert l n
        else if sub = 7 then d.applyBitslip l
        else d := by
  rw [hookStrand, if_neg (by omega), if_pos (by omega), Nat.add_sub_cancel_left]

theorem written_laneBitslip {l : Nat} (hl : l < 32) (org : Origin) (old : Val) :
    d.written org (Obj.LANE_BITSLIP l) old (.num 1) = d.applyBitslip l := by
  have hix := laneBitslip_index l
  rw [written_strandObject (by omega) (by omega), hix, laneBitslip_sub, hookStrand_lane hl]
  rfl

theorem written_laneRxInvert {l : Nat} (hl : l < 32) (org : Origin) (old : Val) (x : Nat) :
    d.written org (Obj.LANE_RX_INVERT l) old (.num x) = d.applyRxInvert l x := by
  have hix := laneRxInvert_index l
  rw [written_strandObject (by omega) (by omega), hix, laneRxInvert_sub, hookStrand_lane hl]
  rfl

/-- R50: a slip outside ALIGNED moves the position, clears the flags and begins the runs of words anew. -/
theorem applyBitslip_of_ne_aligned {l : Nat} (h : d.laneState l ≠ LaneState.aligned) :
    d.applyBitslip l = ((d.setN (Obj.LANE_SLIP_POS l) ((d.getN (Obj.LANE_SLIP_POS l) + 1) % 32)).set
      (Obj.LANE_SYNC_SEEN l) 0).setLane l (restartLane (d.lane l)) := if_neg h

/-- R50: a slip in ALIGNED is counted and not applied. -/
theorem applyBitslip_of_aligned {l : Nat} (h : d.laneState l = LaneState.aligned) :
    d.applyBitslip l = d.inc (Obj.LANE_SLIP_DROPPED l) := if_pos h

/-- R50: an inversion outside ALIGNED is put in force, clears the flags and begins the runs of words anew. -/
theorem applyRxInvert_of_ne_aligned {l : Nat} (v : Int) (h : d.laneState l ≠ LaneState.aligned) :
    d.applyRxInvert l v = ((d.set (Obj.LANE_RX_INVERT l) v).set
      (Obj.LANE_SYNC_SEEN l) 0).setLane l (restartLane (d.lane l)) := if_neg h

/-- R50: an inversion in ALIGNED is counted and not applied. -/
theorem applyRxInvert_of_aligned {l : Nat} (v : Int) (h : d.laneState l = LaneState.aligned) :
    d.applyRxInvert l v = d.inc (Obj.LANE_SLIP_DROPPED l) := if_pos h

/-! R50: the verdict on a write of a lane control. -/

/-- A lane control that passes steps 1 to 6 of R351 is refused with STATE outside UNALIGNED, and only there. -/
theorem checkGroup_laneControl_status {l : Nat} (hl : l < 32) (hsub : e.sub = 6 ∨ e.sub = 7) (hix : e.index = 0x2100 + l)
    (hw : isMirror w = false) (hlog : d.host.logLimit = false)
    (howner : ∀ t, d.entryStatus w rt e t = ownerStatus d rt e.index e.sub e.val t) :
    (d.checkGroup w rt [e]).1.status = if d.laneState l = LaneState.unaligned then Status.ok else Status.state := by
  have hcheck : ∀ t, d.entryStatus w rt e t = (stateIf (d.laneState l != LaneState.unaligned), t) := fun t => by
    rw [howner, hix, ownerStatus_laneControl hl hsub]
  have hbudget : stateIf (d.laneState l != LaneState.unaligned) ≠ Status.budget := by
    unfold stateIf
    split <;> decide
  rw [checkGroup_single_status hlog hw hcheck hbudget fun n t hn => groupRefusal_lane hl (by omega) hix hn]
  by_cases h : d.laneState l = LaneState.unaligned <;> simp [stateIf, h]

variable (hw : isMirror w = false) (hrole : URole.engineer ≤ rt.role) (hlog : d.host.logLimit = false)
  (hstandby : d.standby = false)
include hw hrole hlog hstandby

theorem checkGroup_laneBitslip_status (l : Fin 32) :
    (d.checkGroup w rt [cmdEntry (Obj.LANE_BITSLIP l) (.num 1)]).1.status
      = if d.laneState l = LaneState.unaligned then Status.ok else Status.state := by
  have hix : 0x2100 + (l : Nat) < 0x5400 := by omega
  rw [cmdEntry_laneBitslip]
  exact checkGroup_laneControl_status l.isLt (.inr rfl) rfl hw hlog fun t =>
    entryStatus_live (objAt_lane l.isLt (objRow_laneBitslip l)) (by decide) hix hrole rfl
      (rangeStatus_laneBitslip l.isLt) rfl hw hstandby

theorem checkGroup_laneRxInvert_status (l : Fin 32) {x : Int} (hx : x = 0 ∨ x = 1) :
    (d.checkGroup w rt [cmdEntry (Obj.LANE_RX_INVERT l) (.num x)]).1.status
      = if d.laneState l = LaneState.unaligned then Status.ok else Status.state := by
  have hix : 0x2100 + (l : Nat) < 0x5400 := by omega
  rw [cmdEntry_laneRxInvert]
  exact checkGroup_laneControl_status l.isLt (.inl rfl) rfl hw hlog fun t =>
    entryStatus_live (objAt_lane l.isLt (objRow_laneRxInvert l)) (by decide) hix hrole rfl
      (rangeStatus_laneRxInvert l.isLt hx) rfl hw hstandby

end Dev

/-- Settles O25: the checks come down to the owner's, which asks for UNALIGNED; the write at its boundary to `applyBitslip`
and `applyRxInvert`, which ask for a lane that is not ALIGNED. -/
theorem slipsAndInversions : Obligations.SlipsAndInversions := by
  unfold Obligations.SlipsAndInversions
  intro l
  refine ⟨?_, ?_, ?_⟩
  · rintro k (rfl | rfl)
    · exact ⟨_, objRow_laneRxInvert l, rfl⟩
    · exact ⟨_, objRow_laneBitslip l, rfl⟩
  · intro d w rt x hw hrole hlog hstandby
    exact ⟨Dev.checkGroup_laneBitslip_status hw hrole hlog hstandby l,
      Dev.checkGroup_laneRxInvert_status hw hrole hlog hstandby l⟩
  · intro d org old x
    dsimp only
    rw [Dev.written_laneBitslip l.isLt, Dev.written_laneRxInvert l.isLt]
    exact ⟨fun h => ⟨Dev.applyBitslip_of_ne_aligned h, Dev.applyRxInvert_of_ne_aligned x h⟩,
      fun h => ⟨Dev.applyBitslip_of_aligned h, Dev.applyRxInvert_of_aligned x h⟩⟩

end Sys2Proof.Machine

/-! The object index (chapter 20): the vendor range of R460, and the groups a ZA7140-B does not have (R461). -/

namespace Sys2Proof.Machine

open Sys2Proof

namespace Dev

variable {d t : Dev} {role ix sub : Nat}

/-! An access whose object is not there for the role: step 1 of R351 decides. -/

theorem readObj_of_objAt_error {x : Nat} (h : d.objAt role ix sub = .error x) (m : List Host.Cell) (core : Option Nat) :
    d.readObj m role core ix sub = ((x, .u8, .num 0), d) := by
  rw [readObj, h]

theorem entryStatus_of_objAt_error {rt : Rights} {e : Entry} {x : Nat} (h : t.objAt rt.role e.index e.sub = .error x)
    (w : Writer) : d.entryStatus w rt e t = (x, t) := by
  rw [entryStatus, h]

/-! The vendor range (R460). -/

section VendorRange

variable (hix : 0xC000 ≤ ix)
include hix

theorem objAt_vendor_of_lt_service (hrole : role < URole.service) : d.objAt role ix sub = .error Status.role := by
  rw [objAt, if_pos hix, if_pos hrole.ne]

/-- To Service the range holds what the vendor has put there, and answers as any other range does. -/
theorem objAt_vendor_service :
    (Config.serviceObject ix sub = 0 → d.objAt URole.service ix sub = .error Status.noObject)
      ∧ (Config.serviceObject ix sub = 1 → d.objAt URole.service ix sub = .error Status.noSub)
      ∧ (2 ≤ Config.serviceObject ix sub → d.objAt URole.service ix sub = .ok (vendorRow ix sub)) := by
  rw [objAt, if_pos hix, if_neg (not_not_intro rfl)]
  refine ⟨fun h => ?_, fun h => ?_, fun h => ?_⟩
  · simp only [h]
  · simp only [h]
  · split
    · omega
    · omega
    · rfl

end VendorRange

/-- R377: the write of any object is logged as it takes effect, ahead of what follows from it. -/
theorem applyEntry_logs (org : Origin) (e : PEntry) (d : Dev) :
    ∃ (x : Dev) (old : Val), d.applyEntry org e = (x.logWrite org e.key old e.val).written org e.key old e.val :=
  ⟨_, _, rfl⟩

/-! The groups of the F ordering code alone (R2, R461). -/

/-- `ID_ORDER_CODE` decides the ordering code (Table 00-2). -/
theorem isB_setOrderCode (v : Int) : (d.set Obj.ID_ORDER_CODE v).isB = (v != 0) := by
  rw [isB, on, get_set_same]

/-- Whether an index lies in a group that Table 20-1 marks "F only". -/
abbrev FOnly (ix : Nat) : Prop := (0x5000 ≤ ix ∧ ix < 0x5400) ∨ (0x4E00 ≤ ix ∧ ix < 0x5000)

theorem objAt_fOnly_of_isB (hb : d.isB = true) (hix : FOnly ix) : d.objAt role ix sub = .error Status.noObject := by
  rw [objAt, if_neg (by omega), if_pos ⟨hb, hix⟩]

/-- The type of an object rests on the running program alone (R285). -/
theorem typeOf_congr (hseq : d.seq = t.seq) (k : Nat) : d.typeOf k = t.typeOf k := by
  simp only [typeOf, hseq]

/-- Outside the F-only groups the objects that are there rest on the running program alone, not on the ordering code. -/
theorem objAt_congr_of_not_fOnly (hseq : d.seq = t.seq) (hix : ¬ FOnly ix) : d.objAt role ix sub = t.objAt role ix sub := by
  have hgroup : ∀ b : Bool, ¬ (b = true ∧ FOnly ix) := fun _ h => hix h.2
  simp only [objAt, hgroup, ↓reduceIte, hseq, typeOf_congr hseq]

end Dev

/-- Settles O21: below Service the range answers ROLE as step 1 of R351, which decides reads and writes alike; to Service it
answers what the vendor has put there; and every write that takes effect passes through the log. -/
theorem vendorRangeNeedsService : Obligations.VendorRangeNeedsService := by
  unfold Obligations.VendorRangeNeedsService
  intro d t m w rt e core role sub ix hix
  obtain ⟨hnoObject, hnoSub, hobject⟩ := Dev.objAt_vendor_service (d := d) (sub := sub) hix
  refine ⟨Dev.objAt_vendor_of_lt_service hix, fun hrole => ?_, fun hrole he => ?_, hnoObject, hnoSub,
    fun h => ⟨_, hobject h⟩, fun org v _ => Dev.applyEntry_logs org _ d⟩
  · rw [Dev.readObj_of_objAt_error (Dev.objAt_vendor_of_lt_service hix hrole)]
  · exact Dev.entryStatus_of_objAt_error (Dev.objAt_vendor_of_lt_service (by rwa [he]) hrole) w

/-- Settles O22: a ZA7140-B refuses the F-only groups before it looks for the object; elsewhere the ordering code is not
looked at. -/
theorem orderingCodeB : Obligations.OrderingCodeB := by
  unfold Obligations.OrderingCodeB
  intro d role ix sub b f
  have hb : b.isB = true := Dev.isB_setOrderCode 1
  have hseq : b.seq = f.seq := rfl
  exact ⟨Dev.objAt_fOnly_of_isB hb, Dev.objAt_congr_of_not_fOnly hseq⟩

end Sys2Proof.Machine

/-! The machine: its queue, its tick and the canonical form of its memories. -/

namespace Sys2Proof.Machine

open Sys2Proof

/-- A command that runs `f` on the module completes with the module `f` leaves. -/
theorem yields_of_run {c : Instr} {s : State} {f : Dev → Dev} {d : Dev} (h : exec c s = s.run f) (hd : f s.dev = d) :
    Yields c s d := by
  rw [Yields, h, State.run, hd]

/-- A command that runs `f` on the module and its memories completes with what `f` writes and leaves. -/
theorem stores_of_runMem {c : Instr} {s : State} {f : Dev → List MemWrite × Dev} {w : List MemWrite} {d : Dev}
    (h : exec c s = s.runMem f) (hd : f s.dev = (w, d)) : Stores c s w d := by
  rw [Stores, h, State.runMem, hd]

theorem yields_of_runMem {c : Instr} {s : State} {f : Dev → List MemWrite × Dev} {d : Dev}
    (h : exec c s = s.runMem f) (hd : f s.dev = ([], d)) : Yields c s d :=
  stores_of_runMem h hd

/-- Every command but the cycle boundary, a raw frame and the power-on answers a state closed over the memory it found. -/
theorem exec_closes {c : Instr} (s : State) (hcycle : ∀ p, c ≠ .cycleBoundary p)
    (hraw : ∀ q f x m, c ≠ .rawFrameReceived q f x m) (hpower : c ≠ .powerOn) : ∃ r, exec c s = .next (s.close r) := by
  cases c
  case cycleBoundary p => exact absurd rfl (hcycle p)
  case rawFrameReceived q f x m => exact absurd rfl (hraw q f x m)
  case powerOn => exact absurd rfl hpower
  all_goals exact ⟨_, rfl⟩

/-- A raw frame that completes answers a state closed over the memory it found. -/
theorem rawReceived_closes {q : Nat} {f : List Byte} {x : Int} {fcs late : Bool} {s t : State}
    (h : s.rawReceived q f x fcs late = .next t) : ∃ r, t = s.close r := by
  unfold State.rawReceived at h
  split at h
  · cases h
  · next r _ => exact ⟨r, (Host.Outcome.next.inj h).symm⟩

/-- The transmissions of a boundary keep the canonical form of memory. -/
theorem Dev.rawServeAll_wf {n tail : Nat} {m m' : List Host.Cell} {d d' : Dev} (h : d.rawServeAll n tail m = some (m', d'))
    (hm : Memory.wf m = true) : Memory.wf m' = true := by
  induction n generalizing m d with
  | zero => cases h; exact hm
  | succ n ih =>
    unfold Dev.rawServeAll at h
    dsimp only at h
    split at h
    · cases h; exact hm
    · split at h
      · cases h
      · split at h
        · cases h; exact writeAll_wf _ hm
        · exact ih h (writeAll_wf _ hm)

theorem Dev.rawTransmit_wf {m m' : List Host.Cell} {d d' : Dev} (h : d.rawTransmit m = some (m', d'))
    (hm : Memory.wf m = true) : Memory.wf m' = true := by
  unfold Dev.rawTransmit at h
  split at h
  · cases h; exact hm
  · dsimp only at h
    split at h
    · cases h; exact hm
    · exact Dev.rawServeAll_wf h hm

theorem State.boundary_inv {p : Option PairStatus} {s t : State} (hs : Inv s) (h : s.boundary p = .next t) : Inv t := by
  unfold State.boundary at h
  split at h
  · cases h
  · next m d hm =>
    rw [← Host.Outcome.next.inj h]
    exact close_wf _ _ (Dev.rawTransmit_wf hm hs)

/-- Every command that completes keeps the canonical form of the memories. -/
theorem exec_inv {c : Instr} {s t : State} (hs : Inv s) (h : exec c s = .next t) : Inv t := by
  by_cases hcycle : ∃ p, c = .cycleBoundary p
  · obtain ⟨p, rfl⟩ := hcycle
    exact State.boundary_inv hs h
  by_cases hraw : ∃ q f x m, c = .rawFrameReceived q f x m
  · obtain ⟨q, f, x, m, rfl⟩ := hraw
    obtain ⟨r, rfl⟩ := rawReceived_closes h
    exact close_wf r s hs
  by_cases hpower : c = .powerOn
  · subst hpower
    have hclosed : exec .powerOn s = .next ({ s with mem := [] }.close ([], s.dev.resetDev 0)) := rfl
    rw [← Host.Outcome.next.inj (hclosed.symm.trans h)]
    exact close_wf _ _ rfl
  · obtain ⟨r, hr⟩ := exec_closes s (fun p hc => hcycle ⟨p, hc⟩) (fun q f x m hc => hraw ⟨q, f, x, m, hc⟩) hpower
    rw [← Host.Outcome.next.inj (hr.symm.trans h)]
    exact close_wf r s hs

/-- Settles O4: an empty queue ticks over the memory as it is, and every command keeps its form. -/
theorem stepKeepsMemoryCanonical : Obligations.StepKeepsMemoryCanonical := by
  intro s t hs h
  unfold step at h
  split at h
  · next c rest _ => exact exec_inv (s := { s with pending := rest }) hs h
  · rw [← Host.Outcome.next.inj h]
    exact close_wf _ s hs

/-- Settles O1: it is what `step` does with a queue. -/
theorem stepRunsFrontCommand : Obligations.StepRunsFrontCommand := fun _ _ _ => rfl

/-- A tick is 2 ns, and the addend while TIMECLK runs (R195). -/
theorem Dev.devTick_eq (d : Dev) : d.devTick =
      { d with tm := { d.tm with
          now := d.tm.now + (if d.tm.timeclk then (2 * 4294967296 + d.get Obj.TB_ADDEND).toNat else 0),
          mono := d.tm.mono + 2 * 4294967296 } } := by
  unfold Dev.devTick
  cases d.tm.timeclk <;> rfl

/-- Settles O2: the tick, with the two cases of TIMECLK. -/
theorem emptyQueueTicks : Obligations.EmptyQueueTicks := by
  intro s h
  rw [← Dev.devTick_eq, step, h, State.run]

/-- Settles O5: the memory and the queue of `State.reset` are empty. -/
theorem resetIsCanonical : Obligations.ResetIsCanonical := ⟨rfl, rfl, rfl⟩

end Sys2Proof.Machine

/-! What follows at once from a command (`Dev.settle`, R422–R435) and the parts of the module it leaves as they are: one rule for
each operation it is made of, from the events up. -/

namespace Sys2Proof.Machine

open Sys2Proof

namespace Untouched

variable {d e f : Dev} {k n : Nat} {v : Int}

theorem refl (d : Dev) : Untouched d d := ⟨rfl, rfl, rfl, rfl, rfl, rfl, rfl, rfl, rfl, rfl, rfl, rfl, rfl, rfl, rfl⟩

theorem ite {c : Prop} [Decidable c] (h : Untouched d e) (h' : Untouched d f) : Untouched d (if c then e else f) := by
  split
  · exact h
  · exact h'

theorem foldl {α : Type} {g : Dev → α → Dev} (hg : ∀ e x, Untouched d e → Untouched d (g e x)) (l : List α)
    (h : Untouched d e) : Untouched d (l.foldl g e) := by
  induction l generalizing e with
  | nil => exact h
  | cons x l ih => exact ih (hg e x h)

theorem upTo {g : Nat → Dev → Dev} (hg : ∀ i e, Untouched d e → Untouched d (g i e)) (h : Untouched d e) :
    Untouched d (upTo n g e) := foldl (fun e i h => hg i e h) _ h

variable (h : Untouched d e)
include h

/-! Objects, outputs and events. -/

theorem set : Untouched d (e.set k v) := h
theorem setN : Untouched d (e.setN k n) := h
theorem setB {b : Bool} : Untouched d (e.setB k b) := h
theorem setBit {b : Bool} : Untouched d (e.setBit k n b) := h
theorem setBlob {b : List Byte} : Untouched d (e.setBlob k b) := h
theorem inc : Untouched d (e.inc k) := h
theorem setCell {x : CellSt} : Untouched d (e.setCell n x) := h
theorem setStrand {x : StrandSt} : Untouched d (e.setStrand n x) := h
theorem setTask {x : TaskSt} : Untouched d (e.setTask n x) := h
theorem setPair {x : PairCtl} : Untouched d (e.setPair x) := h
theorem setRep {x : RepCh} : Untouched d (e.setRep n x) := h
theorem setSv {x : SvSt} : Untouched d (e.setSv n x) := h
theorem setModEng {x : ModSt} : Untouched d (e.setModEng n x) := h
theorem setTimer {x : PwmTimer} : Untouched d (e.setTimer n x) := h
theorem setLeAux {x : InstAux} : Untouched d (e.setLeAux n x) := h
theorem setPairSt {x : PairSt} : Untouched d (e.setPairSt n x) := h
theorem setPhStream {x : PhStream} : Untouched d (e.setPhStream n x) := h
theorem setPool {x : TpPool} : Untouched d (e.setPool n x) := h
theorem send {o : Output} : Untouched d (e.send o) := h
theorem withFm {x : FmSt} : Untouched d { e with fm := x } := h
theorem withCyc {x : CycSt} : Untouched d { e with cyc := x } := h
theorem withLoop {x : LoopSt} : Untouched d { e with loop := x } := h
theorem withMods {x : List (Nat × ModSt)} : Untouched d { e with mods := x } := h
theorem withStb {x : StbSt} : Untouched d { e with stb := x } := h
theorem withPh {x : PhSt} : Untouched d { e with ph := x } := h
theorem withTide {x : TideSt} : Untouched d { e with tide := x } := h
theorem withPwm {x : PwmSt} : Untouched d { e with pwm := x } := h
theorem withFio {x : FioSt} : Untouched d { e with fio := x } := h
theorem withEvq {x : List Raised} : Untouched d { e with evq := x } := h
theorem withWins {x : List (Nat × WinSt)} : Untouched d { e with wins := x } := h
theorem withHeld {x : List (Nat × Held)} : Untouched d { e with held := x } := h
theorem withLogWait {l : List LogRec} : Untouched d { e with host := { e.host with logWait := l } } := h
theorem withLogLimit {b : Bool} : Untouched d { e with host := { e.host with logLimit := b } } := h
theorem withLogGap : Untouched d { e with host := { e.host with logGap := n } } := h

theorem signal {src : Nat} : Untouched d (e.signal n src) := by
  obtain ⟨w, x, -, hs⟩ := Dev.signal_eq n src e
  rw [hs]
  exact h

theorem signalAt {src : Nat} : Untouched d (e.signalAt k n src) := by
  unfold Dev.signalAt
  exact h.setN.signal

/-! The fault manager and the modes. -/

theorem fmEvent {src : Nat} : Untouched d (e.fmEvent n src) := by
  unfold Dev.fmEvent
  exact h.signalAt

theorem armRefresh {a : Nat} : Untouched d (e.armRefresh a) := by
  unfold Dev.armRefresh
  split
  extract_lets d1 d2 d3 d4 lim d5
  have h1 : Untouched d d1 := ite h.set h
  have h3 : Untouched d d3 := ite h1.setN.setN h1.setN
  have h4 : Untouched d d4 := ite h3 h3.set
  have h5 : Untouched d d5 := ite (foldl (fun _ _ h => h.setN) _ h4) h4
  exact ite h1 h5.signal

theorem fmRefresh {src : Nat} : Untouched d (e.fmRefresh src) := by
  unfold Dev.fmRefresh
  extract_lets q lv arms oldLv oldArms d1 d2 d3 d4 d5
  have h3 : Untouched d d3 := h.setN.setN.setN
  have h4 : Untouched d d4 := ite h3 h3.fmEvent
  have h5 : Untouched d d5 := ite h4 h4.fmEvent
  exact ite h5 h5.armRefresh.armRefresh

theorem storeRec {code level arms source detail : Nat} {cause : Bool} :
    Untouched d (e.storeRec code level arms source detail cause) := by
  unfold Dev.storeRec
  extract_lets d1 later before num act lv blocked names applied isFirst r lv' blocked' bump kept
  have h1 : Untouched d d1 := h.inc
  split
  · refine fmRefresh (withFm (fmRefresh ?_))
    exact ite h1.withFm.fmEvent.fmEvent h1.withFm.fmEvent
  · refine fmRefresh (fmEvent ?_)
    exact ite h1.inc.setN.setN h1.inc.setN

theorem healthRefresh : Untouched d e.healthRefresh := by
  unfold Dev.healthRefresh
  exact ite h h.setN.send

theorem setMode {m : Nat} : Untouched d (e.setMode m) := by
  unfold Dev.setMode
  exact h.setN.set.fmEvent.storeRec.armRefresh.armRefresh.healthRefresh

theorem enterLockout : Untouched d e.enterLockout := by
  unfold Dev.enterLockout
  exact h.set.withFm.setMode

theorem raiseFault {code level arms source detail : Nat} {cause : Bool} :
    Untouched d (e.raiseFault code level arms source detail cause) := by
  unfold Dev.raiseFault
  extract_lets d1
  have h1 : Untouched d d1 := h.storeRec
  exact ite (ite h1.withFm (ite h1 h1.enterLockout)) h1

theorem clearCause {code source : Nat} : Untouched d (e.clearCause code source) := by
  unfold Dev.clearCause
  extract_lets hit
  split
  · exact h
  · exact h.withFm.fmRefresh

/-! Events carried to the Stable, the pools and the mask sets (R422). -/

theorem stbEvent {src : Nat} : Untouched d (e.stbEvent n src) := by
  unfold Dev.stbEvent
  exact h.signalAt

theorem broken : Untouched d (e.broken n) := by
  unfold Dev.broken
  exact h.inc

theorem tideline {kind source task stall dep data : Nat} : Untouched d (e.tideline kind source task stall dep data) := by
  unfold Dev.tideline
  split
  · exact h
  · exact ite h.withStb (ite h.withStb.inc.broken h.withStb.inc.broken.stbEvent)

theorem scanOverlap {kind : Nat} : Untouched d (e.scanOverlap kind) := by
  unfold Dev.scanOverlap
  exact ite h.inc.broken.signalAt (ite h.inc.signalAt h)

theorem setFifo {l : List Nat} : Untouched d (e.setFifo n l) := by
  unfold Dev.setFifo
  exact h.withStb.setN

theorem tlTask {kind source t data : Nat} : Untouched d (e.tlTask kind source t data) := by
  unfold Dev.tlTask
  exact h.tideline

theorem enqueue {t : Nat} {head : Bool} : Untouched d (e.enqueue t head) := by
  unfold Dev.enqueue
  exact h.setFifo.setN

theorem taskRelease {t src : Nat} : Untouched d (e.taskRelease t src) := by
  unfold Dev.taskRelease
  extract_lets st x d1 kind d2 d3 d4
  have h2 : Untouched d d2 := ite h.setTask h
  have h3 : Untouched d d3 := ite h2.scanOverlap h2
  exact ite h.setTask.enqueue.tlTask h3.inc.stbEvent.tlTask

theorem taskDecrement {t src : Nat} : Untouched d (e.taskDecrement t src) := by
  unfold Dev.taskDecrement
  exact ite h (ite h.setN.taskRelease h.setN)

theorem stbRouted {event : Nat} : Untouched d (e.stbRouted event) := by
  unfold Dev.stbRouted
  exact foldl (fun _ _ h => ite h.taskDecrement h) _ h

theorem tpRouted {p : Nat} : Untouched d (e.tpRouted p) := by
  unfold Dev.tpRouted
  exact ite h.setPool h

theorem pwmEvent {src : Nat} : Untouched d (e.pwmEvent n src) := by
  unfold Dev.pwmEvent
  exact h.signalAt

theorem pwmPins : Untouched d e.pwmPins := by
  unfold Dev.pwmPins
  exact ite h h.withPwm.send

theorem devPwmMaskApply {m : Nat} : Untouched d (e.devPwmMaskApply m) := by
  unfold Dev.devPwmMaskApply
  exact ite h h.setB.pwmEvent.pwmPins

theorem routeEvent {x : Raised} : Untouched d (e.routeEvent x) := by
  unfold Dev.routeEvent
  exact upTo (fun _ _ h => ite h.devPwmMaskApply h) (upTo (fun _ _ h => ite h.tpRouted h) h.stbRouted)

theorem drain : Untouched d (e.drain n) := by
  induction n generalizing e with
  | zero => exact h
  | succ n ih =>
    unfold Dev.drain
    split
    · exact h
    · exact ih h.withEvq.routeEvent

/-! The units that follow a change of mode (R101, R162, R328, Table 18-4). -/

theorem pairEvent {src : Nat} : Untouched d (e.pairEvent n src) := by
  unfold Dev.pairEvent
  exact h.signalAt

theorem setRole {r : Nat} : Untouched d (e.setRole r) := by
  unfold Dev.setRole
  exact ite h h.setN.pairEvent.storeRec

theorem setFio {x : FioSt} : Untouched d (e.setFio x) := h

theorem fioDrive : Untouched d e.fioDrive := by
  unfold Dev.fioDrive
  exact ite h h.setFio.send

theorem pairRefresh : Untouched d e.pairRefresh := by
  unfold Dev.pairRefresh
  exact healthRefresh (setB (ite h.setPair h))

theorem takeEpoch : Untouched d e.takeEpoch := by
  unfold Dev.takeEpoch
  exact h.setN

theorem enterActive : Untouched d e.enterActive := by
  unfold Dev.enterActive
  exact ite h h.setRole.takeEpoch.fioDrive.pairRefresh

theorem enterStandby : Untouched d e.enterStandby := by
  unfold Dev.enterStandby
  exact h.setRole.pairRefresh

theorem leaveActive : Untouched d e.leaveActive := by
  unfold Dev.leaveActive
  exact h.setPair.enterStandby

theorem takeover {t : Nat} : Untouched d (e.takeover t) := by
  unfold Dev.takeover
  extract_lets warm x d1 d2 d3
  have h3 : Untouched d d3 := h.setPair.set.inc.enterActive
  exact ite h3 h3.raiseFault

theorem pairModeChanged {old : Nat} : Untouched d (e.pairModeChanged old) := by
  unfold Dev.pairModeChanged
  exact ite (ite (ite h.enterActive h.enterStandby) h)
    (ite (ite h.takeEpoch (ite h.leaveActive (ite h.takeover h))) h)

theorem setCellState {st : Nat} : Untouched d (e.setCellState n st) := by
  unfold Dev.setCellState
  exact ite h h.setN.signal

theorem strandsModeChanged {old : Nat} : Untouched d (e.strandsModeChanged old) := by
  unfold Dev.strandsModeChanged
  exact ite (upTo (fun _ _ h => setStrand (foldl (fun _ _ h => ite h.setCell.setCellState h) _ h)) h) h

theorem logPush {r : LogRec} : Untouched d (e.logPush r) := by
  unfold Dev.logPush
  exact ite (ite h.withLogWait.setN.withLogLimit.signalAt h.withLogWait.setN) h.withLogGap.inc

theorem logWrite {org : Origin} {old new : Val} : Untouched d (e.logWrite org k old new) := by
  unfold Dev.logWrite
  exact h.logPush

theorem putVal {x : Val} : Untouched d (e.putVal k x) := by
  cases x with
  | num x => exact h.set
  | bytes b => exact h.setBlob

theorem applyHeld (ks : List Nat) : Untouched d (e.applyHeld ks) := by
  induction ks generalizing e with
  | nil => exact h
  | cons k ks ih =>
    unfold Dev.applyHeld
    split
    · exact ih h
    · exact ih h.withHeld.putVal.logWrite

theorem initInst {i : Nat} : Untouched d (e.initInst i) := by
  unfold Dev.initInst
  exact setBit (setLeAux (foldl (fun _ _ h => h.set) _ (h.applyHeld _)))

theorem startLoop : Untouched d e.startLoop := by
  unfold Dev.startLoop
  exact foldl (fun _ _ h => foldl (fun _ _ h => h.set) _ h.initInst.setN) _ h.withLoop

theorem repRefresh {c : Nat} : Untouched d (e.repRefresh c) := by
  unfold Dev.repRefresh
  split
  · exact h
  · exact h.setN.setBit.setRep

theorem startReps : Untouched d e.startReps := by
  unfold Dev.startReps
  exact foldl (fun _ _ h => h.repRefresh) _ (setN (foldl (fun _ _ h => h.setN) _ h))

theorem devSorterLoad {a : Nat} : Untouched d (e.devSorterLoad a) := by
  unfold Dev.devSorterLoad
  exact foldl (fun _ _ h => h.setN) _ h.setModEng.setN

theorem measEvent {src : Nat} : Untouched d (e.measEvent n src) := by
  unfold Dev.measEvent
  exact h.signalAt

theorem startPair {p : Nat} : Untouched d (e.startPair p) := by
  unfold Dev.startPair
  exact ite h.setPairSt h.setPairSt.setN.measEvent.clearCause

theorem startPairs : Untouched d e.startPairs := by
  unfold Dev.startPairs
  exact foldl (fun _ _ h => h.startPair) _ h

theorem phEvent {src : Nat} : Untouched d (e.phEvent n src) := by
  unfold Dev.phEvent
  exact h.signalAt

theorem phSwitch {q : Nat} {dest : Option (List Byte)} : Untouched d (e.phSwitch q dest) := by
  unfold Dev.phSwitch
  cases dest with
  | none => exact h.setB.phEvent
  | some a => exact h.setPhStream.setB.phEvent

theorem phLeaveConfig : Untouched d e.phLeaveConfig := by
  unfold Dev.phLeaveConfig
  extract_lets d1 x d2
  have h1 : Untouched d d1 := ite h.setN h
  have h2 : Untouched d d2 := h1.withPh
  exact ite h2 (foldl (fun _ _ h => ite (ite h.setPhStream.setPhStream h.setPhStream.phSwitch) h) _ h2)

theorem startEngines : Untouched d e.startEngines := by
  unfold Dev.startEngines
  exact h.startLoop.startReps.devSorterLoad.devSorterLoad.startPairs.phLeaveConfig

theorem abandonLoop : Untouched d e.abandonLoop := by
  unfold Dev.abandonLoop
  exact withLoop (foldl (fun _ _ h => ite h.setRep h) _ h)

theorem shiftCommand {c : BitVec 48} : Untouched d (e.shiftCommand n c) := by
  unfold Dev.shiftCommand
  exact h.setCell

theorem abandonArm {a : Nat} : Untouched d (e.abandonArm a) := by
  unfold Dev.abandonArm
  exact foldl (fun _ _ h => h.shiftCommand) _ h.setModEng

theorem svAbandon : Untouched d e.svAbandon := by
  unfold Dev.svAbandon
  refine foldl (fun e x h => ?_) _ h
  split
  · exact h.setSv
  · exact h

theorem stopEngines : Untouched d e.stopEngines := by
  unfold Dev.stopEngines
  exact h.abandonLoop.abandonArm.abandonArm.svAbandon.withCyc

theorem svNormal {i : Nat} : Untouched d (e.svNormal i) := by
  unfold Dev.svNormal
  exact setSv (setN (setN (ite h.clearCause h)))

theorem svConfig : Untouched d e.svConfig := by
  unfold Dev.svConfig
  exact foldl (fun _ _ h => ite h h.svNormal) _ h

theorem modeHooks {old : Nat} : Untouched d (e.modeHooks old) := by
  unfold Dev.modeHooks
  extract_lets d1 d2
  have h2 : Untouched d d2 := h.pairModeChanged.strandsModeChanged
  exact ite h2.startEngines (ite h2.stopEngines.svConfig h2)

theorem followModes : Untouched d e.followModes := by
  unfold Dev.followModes
  exact ite h h.withCyc.modeHooks

/-! Trips, waiting cores and the Tideline (R399, R267, R275). -/

theorem pwmTripTimer {t : Nat} : Untouched d (e.pwmTripTimer t) := by
  unfold Dev.pwmTripTimer
  exact h.setTimer.setBit.inc.pwmEvent

theorem pwmTrips : Untouched d e.pwmTrips := by
  unfold Dev.pwmTrips
  exact ite h (pwmPins (foldl (fun _ _ h => ite h.pwmTripTimer h) _ h.withPwm))

theorem endAsk {c : Nat} : Untouched d (e.endAsk c) := by
  unfold Dev.endAsk Dev.notAsking
  exact h.withStb.setN.send

theorem wakeCores : Untouched d e.wakeCores := by
  unfold Dev.wakeCores
  exact foldl (fun _ _ h => ite h.endAsk h) _ h

theorem settle : Untouched d e.settle := by
  unfold Dev.settle
  exact h.drain.followModes.pwmTrips.followModes.drain.wakeCores.pairRefresh.withFm

theorem tlPlace : Untouched d e.tlPlace.2 := by
  unfold Dev.tlPlace
  extract_lets size wr
  split
  · exact h
  split
  · exact h.inc
  · next full d1 d2 before after x d3 mark _ _ =>
    have h2 : Untouched d d2 := ite h.setN.setN h.setN
    exact ite h2.withStb.stbEvent h2.withStb

end Untouched

/-- One record of the Tideline's buffer written to the ring, with the writes made so far (R275). -/
def Dev.tlEmit (r : List MemWrite × Dev) (b : List Byte) : List MemWrite × Dev :=
  match r.2.tlPlace with
  | (some off, d) => (r.1 ++ [(0x40000000 + (d.getN Obj.TL_BASE + off) % 0x40000000, b)], d)
  | (none, d) => (r.1, d)

theorem Dev.tlFlush_eq (d : Dev) :
    d.tlFlush = d.stb.tlBuf.foldl Dev.tlEmit ([], { d with stb := { d.stb with tlBuf := [] } }) := rfl

theorem Untouched.tlEmit {d : Dev} {r : List MemWrite × Dev} (h : Untouched d r.2) (b : List Byte) :
    Untouched d (Dev.tlEmit r b).2 := by
  have hp := h.tlPlace
  unfold Dev.tlEmit
  split <;> next heq => rwa [heq] at hp

/-- The flush of the Tideline changes the ring's objects and its event alone. -/
theorem tlFlush_untouched (d : Dev) : Untouched d d.tlFlush.2 := by
  have hfold : ∀ (rs : List (List Byte)) (r : List MemWrite × Dev), Untouched d r.2 → Untouched d (rs.foldl Dev.tlEmit r).2 := by
    intro rs
    induction rs with
    | nil => exact fun _ h => h
    | cons b rs ih => exact fun r h => ih _ (h.tlEmit b)
  rw [Dev.tlFlush_eq]
  exact hfold _ _ (Untouched.refl d).withStb

theorem Untouched.trans {d e f : Dev} (h : Untouched d e) (h' : Untouched e f) : Untouched d f := by
  unfold Untouched at *
  simp only [h', h, and_self]

/-- Settles O6: each part of `Dev.settle`, and the Tideline's flush, keeps what is untouched. -/
theorem followUpFrame : Obligations.FollowUpFrame := fun d =>
  (Untouched.settle (Untouched.refl d)).trans (tlFlush_untouched d.settle)

end Sys2Proof.Machine

/-! The control cycle (R12–R34): the grid of cycle starts, the commands of a cycle in their order, and the overrun. -/

namespace Sys2Proof.Machine

open Sys2Proof

namespace Dev

variable {d : Dev}

/-! The grid of cycle starts (R12, R13). -/

theorem tcUnits_pos (d : Dev) : 0 < d.tcUnits := by
  have htc : 0 < d.tc := by
    unfold tc tcNs
    split <;> omega
  exact Nat.mul_pos htc (by decide)

/-- The first multiple of `u` at or above `n`: it lies less than `u` above. -/
theorem ceil_mul_bounds {u : Nat} (n : Nat) (hu : 0 < u) :
    n ≤ (n + u - 1) / u * u ∧ (n + u - 1) / u * u < n + u := by
  have hmod := Nat.mod_lt (n + u - 1) hu
  have hdiv := Nat.div_add_mod' (n + u - 1) u
  omega

theorem nextT_eq (d : Dev) : d.nextT
    = ((if d.tm.started then d.tm.lastT + d.tcUnits else d.tm.now + 1) + d.tcUnits - 1) / d.tcUnits * d.tcUnits := rfl

theorem reachT_tm (d : Dev) : d.reachT.tm
    = { d.tm with now := d.tm.now + (d.nextT - d.tm.now), mono := d.tm.mono + (d.nextT - d.tm.now),
                  lastT := d.nextT, started := true } := rfl

theorem tcUnits_withTm (x : TimeSt) : ({ d with tm := x } : Dev).tcUnits = d.tcUnits := rfl

theorem getN_reachT_index (d : Dev) : d.reachT.getN Obj.CYC_INDEX = d.nextT % secUnit / d.tcUnits := by
  unfold reachT
  rw [getN_setN_same, tcUnits_withTm]

end Dev

/-- Settles O9: `nextT` is the multiple of Tc that follows, and `reachT` passes just the time to it. -/
theorem cycleStartsOnGrid : Obligations.CycleStartsOnGrid := by
  intro d tc t
  have htm : t.tm = _ := Dev.reachT_tm d
  have hpos : 0 < tc := d.tcUnits_pos
  have hindex : t.getN Obj.CYC_INDEX = d.nextT % secUnit / tc := Dev.getN_reachT_index d
  have hnext := Dev.nextT_eq d
  change _ = (_ + tc - 1) / tc * tc at hnext
  have hmul : d.nextT % tc = 0 := by rw [hnext, Nat.mul_mod_left]
  rw [hindex, htm]
  refine ⟨hmul, rfl, rfl, ?_, ?_, ?_, ?_, fun hs => ?_, fun hs => ?_⟩
  · show d.nextT ≤ d.tm.now + (d.nextT - d.tm.now)
    omega
  · show d.tm.now ≤ d.tm.now + (d.nextT - d.tm.now)
    omega
  · show d.tm.mono + (d.nextT - d.tm.now) + d.tm.now = d.tm.mono + (d.tm.now + (d.nextT - d.tm.now))
    omega
  · show d.tm.now < d.nextT → d.tm.now + (d.nextT - d.tm.now) = d.nextT
    omega
  · rw [hs, if_pos rfl] at hnext
    change _ = (d.tm.lastT + tc + tc - 1) / tc * tc at hnext
    have hb := Dev.ceil_mul_bounds (d.tm.lastT + tc) hpos
    show d.tm.lastT + tc ≤ d.nextT ∧ d.nextT < d.tm.lastT + 2 * tc
    omega
  · rw [hs, if_neg (by simp)] at hnext
    have hb := Dev.ceil_mul_bounds (d.tm.now + 1) hpos
    show d.tm.now < d.nextT ∧ d.nextT ≤ d.tm.now + tc
    omega

end Sys2Proof.Machine

/-! The commands of a cycle (R12, R25, R33, R123, R456). -/

namespace Sys2Proof.Machine

open Sys2Proof

theorem enginesRun_withCyc {d : Dev} (x : CycSt) : ({ d with cyc := x } : Dev).enginesRun = d.enginesRun := rfl

/-- A boundary at which no raw transmission is handed over writes no memory. -/
theorem yields_cycleBoundary {p : Option PairStatus} {s : State} (h : (s.dev.devCycleBoundary p).host.txTail = none) :
    Yields (.cycleBoundary p) s (s.dev.devCycleBoundary p).firmwareReset := by
  change s.boundary p = _
  unfold State.boundary Dev.rawTransmit
  rw [h]

/-- With both clocks running the boundary ends with the cycle begun. -/
theorem Dev.devCycleBoundary_running {d : Dev} (p : Option PairStatus) (htime : d.tm.timeclk = true) (href : d.tm.refclk = true) :
    ∃ e : Dev, d.devCycleBoundary p
      = { e with cyc := { e.cyc with phase := .idle, due := e.enginesRun, runSeq := e.runIndex, tin := false, loopEnd := 0 } } := by
  unfold Dev.devCycleBoundary
  rw [if_neg (by simp [htime]), if_neg (by simp [href])]
  exact ⟨_, rfl⟩

theorem Dev.devCycleBoundary_without_refclk {d : Dev} (p : Option PairStatus) (htime : d.tm.timeclk = true)
    (href : d.tm.refclk = false) : d.devCycleBoundary p = d.reachT := by
  unfold Dev.devCycleBoundary
  rw [if_neg (by simp [htime]), if_pos href]

theorem Dev.devCycleBoundary_without_timeclk {d : Dev} (p : Option PairStatus) (htime : d.tm.timeclk = false) :
    d.devCycleBoundary p = d := if_pos htime

/-- Settles O10: each command of the cycle, where its place in the order is kept, is its steps one after another. -/
theorem cycleCommands : Obligations.CycleCommands := by
  refine ⟨⟨fun p s h => yields_cycleBoundary h, fun p d htime href => ?_,
      fun p d htime href => Dev.devCycleBoundary_without_refclk p htime href,
      fun p d htime => Dev.devCycleBoundary_without_timeclk p htime⟩, fun s hmode htin htime href => ?_,
    fun endNs stalls s hphase => ?_, fun modNs comNs stalls s hphase => ?_⟩
  · intro t
    obtain ⟨e, he⟩ := Dev.devCycleBoundary_running p htime href
    have ht : t = _ := he
    rw [ht]
    exact ⟨rfl, rfl, rfl, (enginesRun_withCyc _).symm⟩
  · have hruns : ¬ (s.dev.mode < 2 ∨ s.dev.cyc.tin = true ∨ s.dev.clocksRun = false) := by
      simp [Dev.clocksRun, htime, href, htin, Nat.not_lt.mpr hmode]
    refine yields_of_run rfl ?_
    unfold Dev.devLoopEngineStart
    rw [if_neg hruns]
  · refine yields_of_run rfl ?_
    unfold Dev.devLoopRunComplete
    rw [if_neg (not_not_intro hphase)]
  · refine yields_of_run rfl ?_
    unfold Dev.devCommitComplete
    rw [if_neg (not_not_intro hphase)]

/-- Settles O11: `overrun`, with the limit on consecutive overruns apart. -/
theorem overrunIsCounted : Obligations.OverrunIsCounted := by
  intro d hdue hphase a b n e
  have hclose : d.closeRun = { d.overrun with cyc := { d.overrun.cyc with phase := .idle, due := false } } := by
    unfold Dev.closeRun
    rw [if_pos ⟨hdue, hphase⟩]
  have hover : d.overrun = if e.getN Obj.CYC_OVR_LIMIT ≤ n then e.raiseFault 0x0102 4 0 (noSource 0x0102) 0 false else e := rfl
  rw [hclose, hover]
  exact ⟨fun hn => by rw [if_neg (Nat.not_le.mpr hn)], fun hn => by rw [if_pos hn]⟩

end Sys2Proof.Machine

/-! The strand lanes (R44–R62): what the detectors, the quad PLLs, the alignment and the words without a frame do. -/

namespace Sys2Proof.Machine

open Sys2Proof

namespace Dev

variable {d : Dev} {l m st : Nat}

/-! What a lane reads after a write elsewhere. -/

theorem lane_set (k : Nat) (v : Int) (d : Dev) (l : Nat) : (d.set k v).lane l = d.lane l := rfl
theorem lane_setN (k n : Nat) (d : Dev) (l : Nat) : (d.setN k n).lane l = d.lane l := rfl
theorem lane_setBit (k b : Nat) (v : Bool) (d : Dev) (l : Nat) : (d.setBit k b v).lane l = d.lane l := rfl
theorem laneState_setLane (x : LaneSt) (d : Dev) (l m : Nat) : (d.setLane m x).laneState l = d.laneState l := rfl
theorem laneState_setN_ne {k : Nat} (n : Nat) (h : Obj.LANE_STATE l ≠ k) : (d.setN k n).laneState l = d.laneState l :=
  getN_setN_ne n h

theorem laneState_amplitude (n : Nat) : (d.setN (Obj.LANE_AMPLITUDE l) n).laneState l = d.laneState l :=
  laneState_setN_ne n ((add_left_injective _).ne (by decide))

/-! The detectors (R45, R46). -/

theorem devLosAssert_of_signal (a : Nat) (hoff : d.laneState l ≠ LaneState.off) (hsig : d.laneState l ≠ LaneState.noSignal) :
    d.devLosAssert l a = (((d.setN (Obj.LANE_AMPLITUDE l) (a % 65536)).setLane l
      { d.lane l with los := true, gateBad := true }).inc (Obj.LANE_LOS_COUNT l)).setLaneState l LaneState.noSignal := by
  unfold devLosAssert
  simp only [laneState_amplitude, laneState_setLane, lane_setN, if_neg hoff, if_neg hsig]

theorem devLosClear_of_noSignal (a : Nat) (h : d.laneState l = LaneState.noSignal) :
    d.devLosClear l a = ((d.setN (Obj.LANE_AMPLITUDE l) (a % 65536)).setLane l
      { d.lane l with los := false }).setLaneState l LaneState.acquire := by
  unfold devLosClear
  simp only [laneState_amplitude, laneState_setLane, lane_setN, if_pos h]

theorem gateOver_iff (n : Nat) : gateOver n = true ↔ 300 * 262144 < (((n : Int) - 262144) * 1000000).natAbs :=
  decide_eq_true_iff

/-- A partial gate reports nothing and moves no lane. -/
theorem devFrequencyGateEnd_partial (n : Nat) (hoff : d.laneState l ≠ LaneState.off)
    (h : (d.lane l).gateBad = true ∨ (d.lane l).los = true) :
    d.devFrequencyGateEnd l n = d.setLane l { d.lane l with gateBad := (d.lane l).los } := by
  unfold devFrequencyGateEnd
  dsimp only
  rw [if_neg hoff, if_pos (by simpa using h)]

section
variable {n : Nat} (hgate : (d.lane l).gateBad = false) (hlos : (d.lane l).los = false)
include hgate hlos

/-- A complete gate reports, and moves the lane by its threshold. -/
theorem devFrequencyGateEnd_complete (hoff : d.laneState l ≠ LaneState.off) :
    let e := (d.setLane l { d.lane l with gateBad := false }).set (Obj.LANE_FREQ_DIFF l) (gatePpm n)
    d.devFrequencyGateEnd l n
      = if gateOver n then
          if d.laneState l = LaneState.unaligned ∨ d.laneState l = LaneState.aligned then
            (e.inc (Obj.LANE_LOL_COUNT l)).setLaneState l LaneState.acquire
          else e
        else if d.laneState l = LaneState.acquire then e.setLaneState l LaneState.unaligned
        else e := by
  unfold devFrequencyGateEnd
  dsimp only
  rw [if_neg hoff, if_neg (by simp [hgate, hlos]), hlos]

theorem devFrequencyGateEnd_within (hst : d.laneState l = LaneState.acquire)
    (h : (((n : Int) - 262144) * 1000000).natAbs ≤ 300 * 262144) :
    d.devFrequencyGateEnd l n = ((d.setLane l { d.lane l with gateBad := false }).set (Obj.LANE_FREQ_DIFF l)
      (gatePpm n)).setLaneState l LaneState.unaligned := by
  have hover : ¬ gateOver n = true := by rw [gateOver_iff]; omega
  rw [devFrequencyGateEnd_complete hgate hlos (by simp [hst]), if_neg hover, if_pos hst]

theorem devFrequencyGateEnd_beyond (hst : d.laneState l = LaneState.unaligned ∨ d.laneState l = LaneState.aligned)
    (h : 300 * 262144 < (((n : Int) - 262144) * 1000000).natAbs) :
    d.devFrequencyGateEnd l n = (((d.setLane l { d.lane l with gateBad := false }).set (Obj.LANE_FREQ_DIFF l)
      (gatePpm n)).inc (Obj.LANE_LOL_COUNT l)).setLaneState l LaneState.acquire := by
  have hoff : d.laneState l ≠ LaneState.off := by rcases hst with h | h <;> simp [h]
  rw [devFrequencyGateEnd_complete hgate hlos hoff, if_pos ((gateOver_iff n).mpr h), if_pos hst]

end

/-! The quad PLLs (R61). -/

theorem lane_send (o : Output) (d : Dev) (l : Nat) : (d.send o).lane l = d.lane l := rfl

theorem idle_fillRefresh (d : Dev) (l m : Nat) : ((d.fillRefresh l).lane m).idle = (d.lane m).idle := by
  unfold fillRefresh
  dsimp only
  split
  · rfl
  · rw [lane_send]
    by_cases h : m = l
    · rw [h, lane_setLane_same]
    · rw [lane_setLane_ne _ h]

theorem idle_foldl_fillRefresh (v : Bool) (ls : List Nat) (d : Dev) (m : Nat) :
    ((ls.foldl (fun d l => (d.setLane l { d.lane l with idle := v }).fillRefresh l) d).lane m).idle
      = if m ∈ ls then v else (d.lane m).idle := by
  induction ls generalizing d with
  | nil => rfl
  | cons l ls ih =>
    rw [List.foldl_cons, ih, idle_fillRefresh]
    by_cases h : m = l
    · simp [h]
    · simp [h, lane_setLane_ne]

/-- The lanes of a quad, and they alone, take the idle it is given. -/
theorem idle_quadIdle (q : Nat) (v : Bool) (d : Dev) (m : Nat) :
    ((d.quadIdle q v).lane m).idle = if m / 4 = q then v else (d.lane m).idle := by
  have hmem : m ∈ [4 * q, 4 * q + 1, 4 * q + 2, 4 * q + 3] ↔ m / 4 = q := by
    simp only [List.mem_cons, List.not_mem_nil, or_false]
    omega
  rw [quadIdle, idle_foldl_fillRefresh]
  simp only [hmem]

theorem devQuadUnlock_eq (q : Nat) (d : Dev) :
    let e := (d.setBit Obj.LANE_QUAD_LOCK q false).quadIdle q true
    d.devQuadUnlock q = if e.quadArms q = 0 then e else e.raiseFault 0x0101 3 (e.quadArms q) q 0 true := rfl

end Dev

/-- Settles O12: an equation of each detector's command in the states it moves, and the idle of a quad's lanes. -/
theorem laneDetectorsAndQuads : Obligations.LaneDetectorsAndQuads := by
  refine ⟨?_, ?_⟩
  · intro l s st x
    refine ⟨fun a hst => ?_, fun a hst => ?_, ?_, fun n hst h => ?_⟩
    · have hstate : st ≠ LaneState.off ∧ st ≠ LaneState.noSignal := by rcases hst with h | h | h <;> simp [h]
      exact yields_of_run rfl (Dev.devLosAssert_of_signal a hstate.1 hstate.2)
    · exact yields_of_run rfl (Dev.devLosClear_of_noSignal a hst)
    · intro n hgate hlos d
      exact ⟨fun hst h => yields_of_run rfl (Dev.devFrequencyGateEnd_within hgate hlos hst h),
        fun hst h => yields_of_run rfl (Dev.devFrequencyGateEnd_beyond hgate hlos hst h)⟩
    · exact yields_of_run rfl (Dev.devFrequencyGateEnd_partial n hst h)
  · intro q s d
    have hunlock := Dev.devQuadUnlock_eq q s.dev
    exact ⟨fun h => yields_of_run rfl (hunlock.trans (if_neg h)), fun h => yields_of_run rfl (hunlock.trans (if_pos h)),
      rfl, fun l => Dev.idle_quadIdle q false _ l⟩

end Sys2Proof.Machine

/-! Lane alignment (R44): a lane number beyond the 32 lanes. -/

namespace Sys2Proof.Machine

open Sys2Proof

/-- A ring of which the lane number 384, beyond the 32 lanes, is enabled: its `LANE_STATE` has the key of the positions of
strand 192, which Table 02-6 maps that number to. -/
def strayLane : Dev := (Dev.reset.set Obj.STR_TOPOLOGY 0).set (Obj.LANE_ENABLE 384) 1

/-- The lane `strayLane` after the change of state to 1, before any event. -/
def strayLaneMoved : Dev :=
  ((strayLane.setN (Obj.LANE_STATE 384) 1).setLane 384 (Dev.restartLane (strayLane.lane 384))).fillRefresh 384

theorem strayLane_serves : strayLane.serves 384 = false ∧ 1 ≠ strayLane.laneState 384 := by decide +kernel

/-- The new state gives strand 192 a position, so that the lane comes to serve it and a record is stored. -/
theorem strayLane_records :
    (strayLane.setLaneState 384 1).getN Obj.FM_RECORDS = 1 ∧ strayLaneMoved.getN Obj.FM_RECORDS = 0 := by decide +kernel

/-- Refutes O13: it speaks of every lane number, and at 384 the change of `LANE_STATE` is one of `STR_POSITIONS` too, so that a
lane that serves no strand raises an event and stores a record. -/
theorem not_laneAlignment : ¬ Obligations.LaneAlignment := by
  rintro ⟨hstate, -, -⟩
  have hsilent : strayLane.setLaneState 384 1 = strayLaneMoved :=
    (hstate 384 1 strayLane strayLane_serves.2).1 strayLane_serves.1
  have hrecords := strayLane_records
  rw [hsilent] at hrecords
  omega

end Sys2Proof.Machine

/-! Frames on a strand lane (R44, R48, R49, R56, R59, R74). -/

namespace Sys2Proof.Machine

open Sys2Proof

/-! Which strand a lane serves rests on the configuration of lanes and strands alone. -/

/-- The objects below the lanes' status and those of the strands' configuration read alike. -/
def SameService (d e : Dev) : Prop := ∀ k, k < 0x214000 ∨ (0x220000 ≤ k ∧ k < 0x230000) → e.get k = d.get k

namespace SameService

variable {d e : Dev} {l k : Nat}

theorem refl (d : Dev) : SameService d d := fun _ _ => rfl

theorem ite {c : Prop} [Decidable c] {f : Dev} (h : SameService d e) (h' : SameService d f) :
    SameService d (if c then e else f) := by
  split
  · exact h
  · exact h'

section
variable (h : SameService d e)
include h

theorem set {v : Int} (hk : (0x214000 ≤ k ∧ k < 0x220000) ∨ 0x230000 ≤ k) : SameService d (e.set k v) := fun j hj => by
  rw [Dev.get_set_ne v (by omega), h j hj]

theorem inc (hk : (0x214000 ≤ k ∧ k < 0x220000) ∨ 0x230000 ≤ k) : SameService d (e.inc k) := h.set hk

theorem setLane {x : LaneSt} : SameService d (e.setLane l x) := h

theorem send {o : Output} : SameService d (e.send o) := h

theorem fillFifo {bits : Nat} (hl : l < 32) : SameService d (e.fillFifo l bits) :=
  h.set (by unfold Obj.LANE_FIFO_PEAK; omega)

theorem countSlots {s : Nat} {slots : List (BitVec 128)} : SameService d (e.countSlots s slots) := by
  have hcrc : ∀ n, (0x214000 ≤ Obj.CELL_RESP_CRC_ERR n ∧ Obj.CELL_RESP_CRC_ERR n < 0x220000)
      ∨ 0x230000 ≤ Obj.CELL_RESP_CRC_ERR n := by
    unfold Obj.CELL_RESP_CRC_ERR
    omega
  unfold Dev.countSlots upTo
  generalize List.range _ = ps
  induction ps generalizing e with
  | nil => exact h
  | cons p ps ih => exact ih (ite h (h.inc (hcrc _)))

theorem loopWords {ws : List Word} (hl : l < 32) : SameService d (e.loopWords l ws) := by
  have hslip : (0x214000 ≤ Obj.LANE_LB_SLIPS l ∧ Obj.LANE_LB_SLIPS l < 0x220000) ∨ 0x230000 ≤ Obj.LANE_LB_SLIPS l := by
    unfold Obj.LANE_LB_SLIPS
    omega
  unfold Dev.loopWords
  rw [Dev.takeFree_eq]
  dsimp -zeta only
  extract_lets x fill held d1 d2
  have h1 : SameService d d1 := h
  have h2 : SameService d d2 := ite h1 (h1.inc hslip)
  exact ite h2 h2.send

theorem topology : e.topology = d.topology := by
  unfold Dev.topology Dev.getN
  rw [h _ (by decide)]

theorem laneStrand (l : Nat) : e.laneStrand l = d.laneStrand l := by
  unfold Dev.laneStrand
  rw [h.topology]

theorem positions {n : Nat} (hn : n < 32) : e.positions n = d.positions n := by
  unfold Dev.positions Dev.getN
  rw [h _ (by unfold Obj.STR_POSITIONS; omega)]

theorem framePositions {n : Nat} (hn : n < 32) : e.framePositions n = d.framePositions n := by
  have hmode : e.mode = d.mode := by
    unfold Dev.mode Dev.getN
    rw [h _ (by decide)]
  unfold Dev.framePositions Dev.enumerating
  rw [hmode, h.positions hn]

theorem serves (hl : l < 32) (hn : d.laneStrand l < 32) : e.serves l = d.serves l := by
  unfold Dev.serves Dev.on
  rw [h.laneStrand, h.positions hn, h _ (by unfold Obj.LANE_ENABLE; omega)]

end

end SameService

namespace Dev

theorem laneStrand_lt {d : Dev} {l : Nat} (hl : l < 32) : d.laneStrand l < 32 := by
  unfold laneStrand
  split <;> omega

/-- A lane that carries frames: the words reach it as a frame, first of all where it loops them back. -/
theorem devStrandFrame_framed {d : Dev} {l : Nat} (ws : List Word) (t : Nat) (htrain : d.laneMode l ≠ 1)
    (hprbs : d.laneMode l ≠ 3) :
    let a := d.setLane l { d.lane l with train := 0, trainC := 0, blockRun := 0 }
    d.devStrandFrame l ws t
      = if d.laneState l = LaneState.unaligned then
          if (Rodal.header? ws).isSome then a.laneSync l false
          else if (Rodal.header? (ws.map fun w => ~~~w)).isSome then a.laneSync l true
          else a
        else if d.laneState l = LaneState.aligned then
          (if d.laneLoops l ∧ d.serves l then a.loopWords l ws else a).alignedFrame l ws t
        else a := by
  intro a
  have hneither : ¬ (d.laneMode l = 1 ∨ d.laneMode l = 3) := by simp [htrain, hprbs]
  unfold devStrandFrame
  extract_lets st x e
  have he : e = a := if_neg hneither
  have hstate : a.laneState l = d.laneState l := laneState_setLane _ d l l
  have hloops : a.laneLoops l = d.laneLoops l := rfl
  have hserves : a.serves l = d.serves l := rfl
  rw [he, hstate, hloops, hserves]
  simp only [st, and_self]

/-- The block pattern at an ALIGNED lane is noted, and no frame is read. -/
theorem alignedFrame_of_block {d : Dev} {l : Nat} {ws : List Word} (t : Nat) (h : Rodal.threeOf Rodal.blockWord ws = true) :
    d.alignedFrame l ws t = d.setLane l { d.lane l with blocked := true } := by
  unfold alignedFrame
  rw [if_pos h]

/-- What a frame that fails a check does: counted under `k`, it fills the FIFO and its slots count on a lane that serves. -/
def failedFrame (l : Nat) (ws : List Word) (k : Nat) (f : Rodal.Frame) (d : Dev) : Dev :=
  let m := d.framePositions (d.laneStrand l)
  let e := (d.inc k).fillFifo l (Rodal.bitsTaken m ws)
  if d.serves l then e.countSlots (d.laneStrand l) (f.slots.take (Rodal.slotsTaken m ws)) else e

/-- A frame at an ALIGNED lane: what each outcome of its checks does. -/
theorem alignedFrame_of_frame {d : Dev} {l : Nat} {ws : List Word} {t : Nat} (hl : l < 32)
    (hblock : Rodal.threeOf Rodal.blockWord ws = false) :
    let n := d.laneStrand l
    let c := if (Rodal.header? ws).isSome then d.setLane l { d.lane l with synced := true } else d
    let filled := c.fillFifo l (Rodal.bitsTaken (d.framePositions n) ws)
    d.alignedFrame l ws t = match Rodal.deframe (d.framePositions n) ws with
      | .noSync => c
      | .hdrErr f _ => c.failedFrame l ws (Obj.LANE_HDR_ERR l) f
      | .stuffErr f _ => c.failedFrame l ws (Obj.LANE_STUFF_ERR l) f
      | .crcErr f =>
        if d.serves l then (c.failedFrame l ws (Obj.LANE_CRC_ERR l) f).hear n f.hdr
        else c.failedFrame l ws (Obj.LANE_CRC_ERR l) f
      | .good f => if d.serves l then (filled.hear n f.hdr).goodFrame n l f t else filled := by
  intro n c filled
  have hn : n < 32 := laneStrand_lt hl
  have hc : SameService d c := .ite (SameService.refl d).setLane (.refl d)
  have hfilled : filled.serves l = d.serves l := (hc.fillFifo hl).serves hl hn
  unfold alignedFrame
  rw [if_neg (by simp [hblock])]
  extract_lets m x c' fails e'
  have hfails : ∀ k f, (0x214000 ≤ k ∧ k < 0x220000) → fails k f c' = c.failedFrame l ws k f := by
    intro k f hk
    have he : SameService d ((c'.inc k).fillFifo l (Rodal.bitsTaken m ws)) := (hc.inc (.inl hk)).fillFifo hl
    unfold failedFrame
    rw [hc.laneStrand, hc.framePositions hn, hc.serves hl hn, ← he.serves hl hn]
  have hbad : ∀ k f, (0x214000 ≤ k ∧ k < 0x220000) → (c.failedFrame l ws k f).serves l = d.serves l := by
    intro k f hk
    have he : SameService d ((c.inc k).fillFifo l (Rodal.bitsTaken (c.framePositions (c.laneStrand l)) ws)) :=
      (hc.inc (.inl hk)).fillFifo hl
    exact (SameService.ite he.countSlots he).serves hl hn
  cases Rodal.deframe m ws with
  | noSync => rfl
  | hdrErr f ok => exact hfails _ f (by unfold Obj.LANE_HDR_ERR; omega)
  | stuffErr f ok => exact hfails _ f (by unfold Obj.LANE_STUFF_ERR; omega)
  | crcErr f =>
    have hk : 0x214000 ≤ Obj.LANE_CRC_ERR l ∧ Obj.LANE_CRC_ERR l < 0x220000 := by unfold Obj.LANE_CRC_ERR; omega
    simp only [hfails _ f hk, hbad _ f hk, n]
  | good f => exact if_congr (by rw [← hfilled]) rfl rfl

end Dev

/-- Settles O14: each outcome of the checks of a frame, on the module whose service is that before the frame. -/
theorem strandFrames : Obligations.StrandFrames := by
  intro l ws t s n r m a b d bad htrain hprbs
  have hl : (l : Nat) < 32 := l.isLt
  have hn : n < 32 := Dev.laneStrand_lt hl
  have ha : SameService s.dev a := (SameService.refl s.dev).setLane
  have hb : SameService s.dev b := .ite (ha.loopWords hl) ha
  have hd : SameService s.dev d := .ite hb.setLane hb
  have hframed := Dev.devStrandFrame_framed (d := s.dev) (l := l) ws t htrain hprbs
  refine ⟨fun hst hhdr => ?_, fun hst => ?_, fun hst => ?_⟩
  · exact yields_of_run rfl (hframed.trans (by rw [if_pos hst, if_pos hhdr]))
  · have haligned : s.dev.devStrandFrame l ws t = b.alignedFrame l ws t := by
      rw [hframed, if_neg (by simp [hst]), if_pos hst]
    refine ⟨fun hblock => yields_of_run rfl (haligned.trans (Dev.alignedFrame_of_block t hblock)), fun hblock => ?_⟩
    have hframe := Dev.alignedFrame_of_frame (d := b) (t := t) hl hblock
    dsimp only at hframe
    rw [← haligned, hb.laneStrand, hb.framePositions hn, hb.serves hl hn] at hframe
    have hbad : ∀ k f, d.failedFrame l ws k f = bad k f := fun k f => by
      unfold Dev.failedFrame
      rw [hd.laneStrand, hd.framePositions hn, hd.serves hl hn]
    refine ⟨fun f hr hserves => ?_, fun f hr hserves => ?_, fun f hr hserves => ?_, fun f hr hserves => ?_,
      fun f ok hr => ?_, fun f ok hr => ?_, fun hr => ?_⟩ <;>
      change Rodal.deframe (s.dev.framePositions (s.dev.laneStrand l)) ws = _ at hr <;> rw [hr] at hframe <;>
      refine yields_of_run rfl (hframe.trans ?_)
    · exact if_pos hserves
    · exact if_neg (by simp [hserves])
    · rw [← hbad]; exact if_pos hserves
    · rw [← hbad]; exact if_neg (by simp [hserves])
    · exact hbad _ f
    · exact hbad _ f
    · rfl
  · have hother : s.dev.laneState l ≠ LaneState.unaligned ∧ s.dev.laneState l ≠ LaneState.aligned := by
      rcases hst with h | h <;> simp [h]
    exact yields_of_run rfl (hframed.trans (by rw [if_neg hother.1, if_neg hother.2]))

end Sys2Proof.Machine

/-! The slots of strand frames (R23, R69, R74), and the ends of enumeration, probes and healing windows (R90, R91, R93). -/

namespace Sys2Proof.Machine

open Sys2Proof

namespace Dev

variable {d : Dev} {n p : Nat}

/-! Slots drained from a frame (R23, R74). -/

theorem takeSlot_of_bad {rotB : Bool} {slot : BitVec 128} (h : Rodal.rspOk p (Rodal.slotRsp slot) = false) :
    d.takeSlot n p rotB slot = d.inc (Obj.CELL_RESP_CRC_ERR (64 * n + p)) := by
  unfold takeSlot
  rw [if_pos h]
  rfl

theorem takeSlot_of_second {rotB : Bool} {slot : BitVec 128} (h : Rodal.rspOk p (Rodal.slotRsp slot) = true)
    (hpresent : (d.cell (64 * n + p)).present = true) (hcopy : rotB = true ∨ (d.cell (64 * n + p)).fromA = true) :
    d.takeSlot n p rotB slot = d.countFlags n (64 * n + p) (Rodal.rStatus (Rodal.slotRsp slot)) := by
  unfold takeSlot
  rw [if_neg (by simp [h]), cellNo, if_pos ⟨hpresent, hcopy⟩]

/-! Slots sent empty (R69). -/

theorem getElem?_frameCommands (hp : p < d.framePositions n) :
    (d.frameCommands n)[p]? = some (if d.enumerating then d.restCommand (64 * n + p)
      else (d.strand n).bank.getD p (d.restCommand (64 * n + p))) := by
  unfold frameCommands
  rw [List.getElem?_map, List.getElem?_range hp]
  rfl

/-- In CONFIG, and where the bank has none for it, a position is sent the command of rest. -/
theorem getElem?_frameCommands_rest (hp : p < d.framePositions n)
    (h : d.mode = Mode.config ∨ (d.strand n).bank.length ≤ p) :
    (d.frameCommands n)[p]? = some (d.restCommand (64 * n + p)) := by
  rw [getElem?_frameCommands hp]
  by_cases hmode : d.mode = Mode.config
  · rw [if_pos (by simp [enumerating, hmode])]
  · rw [if_neg (by simp [enumerating, hmode]), List.getD_eq_default _ _ (h.resolve_left hmode)]

/-- Elsewhere it is sent what its bank holds. -/
theorem getElem?_frameCommands_bank {w : BitVec 48} (hmode : d.mode ≠ Mode.config) (hp : p < d.positions n)
    (hw : (d.strand n).bank[p]? = some w) : (d.frameCommands n)[p]? = some w := by
  have henum : d.enumerating = false := by simp [enumerating, hmode]
  have hpos : p < d.framePositions n := by rw [framePositions, henum]; exact hp
  rw [getElem?_frameCommands hpos, henum, List.getD_eq_getElem?_getD, hw]
  rfl

theorem restCommand_of_none (hp : p < 64)
    (h : d.cellState (64 * n + p) = CellState.empty ∨ d.cellState (64 * n + p) = CellState.absent) :
    d.restCommand (64 * n + p) = Rodal.mkCommand p 0 0 0 0 false false := by
  have hmod : (64 * n + p) % 64 = p := by omega
  unfold restCommand
  rw [if_pos h, hmod]

theorem restCommand_of_cell (hp : p < 64)
    (h : d.cellState (64 * n + p) ≠ CellState.empty) (h' : d.cellState (64 * n + p) ≠ CellState.absent) :
    d.restCommand (64 * n + p) = Rodal.mkCommand p (if d.cellState (64 * n + p) = CellState.held then 4 else 0) 0 0
      (Rodal.cSeq (d.cell (64 * n + p)).cmd) false false := by
  have hmod : (64 * n + p) % 64 = p := by omega
  unfold restCommand
  rw [if_neg (not_or.mpr ⟨h, h'⟩), hmod]

/-! Enumeration, probes and healing (R90, R91, R93). -/

theorem devJoinProbe_of_absent (hmode : 2 ≤ d.mode)
    (h : ((d.strandCells n).any fun c => d.cellState c == CellState.absent) = true) :
    d.devJoinProbe n = d.setStrand n { d.strand n with probeDue := true } := by
  unfold devJoinProbe
  rw [if_neg (by simp only [Mode.boot, Mode.config]; omega), if_pos h]

theorem devJoinProbe_of_none (h : d.mode < 2 ∨ ((d.strandCells n).any fun c => d.cellState c == CellState.absent) = false) :
    d.devJoinProbe n = d := by
  unfold devJoinProbe
  by_cases hmode : d.mode = Mode.boot ∨ d.mode = Mode.config
  · rw [if_pos hmode]
  · have hany := h.resolve_left (by simp only [Mode.boot, Mode.config] at hmode; omega)
    rw [if_neg hmode, hany, if_neg Bool.false_ne_true]

theorem devEnumComplete_of_ended (hstate : d.getN Obj.STR_ENUM_STATE = 1) (hended : d.enumEnded = true) :
    let e := upTo d.strandCount (fun n d => (upTo (d.positions n) (enumResult n) d).setEnum n .idle) d
    let absent := (List.range e.strandCount).any fun n => (e.strandCells n).any fun c => e.cellState c == CellState.absent
    let f := e.setN Obj.STR_ENUM_STATE (if e.enumBeyond = true ∨ absent = true then 3 else 2)
    d.devEnumComplete = { f with cyc := { f.cyc with enumOk := true } } := by
  unfold devEnumComplete
  rw [if_neg (by simp [hstate, hended])]

end Dev

/-- Settles O15: the two branches of `takeSlot` that leave the table, and the command of each kind of position. -/
theorem frameSlots : Obligations.FrameSlots := by
  refine ⟨fun n p rotB slot d => ⟨Dev.takeSlot_of_bad, Dev.takeSlot_of_second⟩, by decide +kernel, by decide +kernel, ?_,
    fun d n p w => Dev.getElem?_frameCommands_bank⟩
  intro d n p hpos hp hrest st cmd
  have hcmd : cmd = some (d.restCommand (64 * n + p)) := Dev.getElem?_frameCommands_rest hpos hrest
  rw [hcmd]
  refine ⟨fun h => ?_, fun h => ?_, fun hempty habsent hheld => ?_⟩
  · rw [Dev.restCommand_of_none hp h]
  · have hstate : st ≠ CellState.empty ∧ st ≠ CellState.absent := by simp [h]
    rw [Dev.restCommand_of_cell hp hstate.1 hstate.2, if_pos h]
  · rw [Dev.restCommand_of_cell hp hempty habsent, if_neg hheld]

/-- Settles O16: an equation of each command where what it ends is due, and where it is not. -/
theorem enumerationJoinsAndHealing : Obligations.EnumerationJoinsAndHealing := by
  refine ⟨fun s hstate hended => ?_, fun n s => ?_, fun n s => ⟨fun hleft harmed => ?_, fun h => ?_⟩⟩
  · exact yields_of_run rfl (Dev.devEnumComplete_of_ended hstate hended)
  · exact ⟨fun hmode h => yields_of_run rfl (Dev.devJoinProbe_of_absent hmode h),
      fun h => yields_of_run rfl (Dev.devJoinProbe_of_none h)⟩
  · exact yields_of_run rfl (if_neg (by simp [hleft, harmed]))
  · exact yields_of_run rfl (if_pos h)

end Sys2Proof.Machine

/-! The cell controllers: their commands, faults, samples and ports (R68, R76–R85), and the mailbox (R70–R72). -/

namespace Sys2Proof.Machine

open Sys2Proof

/-! A cell acts while it has power, and not else. -/

namespace Dev

variable {d : Dev} {n : Nat} {f : CellCtl → CellCtl}

theorem onCell_of_powered {c : CellCtl} (h : (d.ctl n).powered = true) (hf : f (d.ctl n) = c) :
    d.onCell n f = d.putCtl n c := by
  rw [onCell, if_pos h, onCtl, hf]

theorem onCell_of_unpowered (h : (d.ctl n).powered = false) : d.onCell n f = d := by
  rw [onCell, if_neg (by simp [h])]

variable {g : CellCtl → CellCtl × BitVec 128}

theorem onMailbox_of_powered {c : CellCtl} {m : BitVec 128} (h : (d.ctl n).powered = true) (hg : g (d.ctl n) = (c, m)) :
    d.onMailbox n g = (d.setCtl n c).send (.mailbox n m) := by
  rw [onMailbox, if_pos h, hg]

theorem onMailbox_of_unpowered (h : (d.ctl n).powered = false) : d.onMailbox n g = d := by
  rw [onMailbox, if_neg (by simp [h])]

end Dev

section
variable {i : Instr} {s : State} {n : Nat} {f : CellCtl → CellCtl} {c : CellCtl}

theorem yields_onCell (hexec : exec i s = s.run (Dev.onCell n f)) (h : (s.dev.ctl n).powered = true)
    (hf : f (s.dev.ctl n) = c) : Yields i s (s.dev.putCtl n c) :=
  yields_of_run hexec (Dev.onCell_of_powered h hf)

theorem yields_onCell_unpowered (hexec : exec i s = s.run (Dev.onCell n f)) (h : (s.dev.ctl n).powered = false) :
    Yields i s s.dev :=
  yields_of_run hexec (Dev.onCell_of_unpowered h)

variable {g : CellCtl → CellCtl × BitVec 128} {m : BitVec 128}

theorem yields_onMailbox (hexec : exec i s = s.run (Dev.onMailbox n g)) (h : (s.dev.ctl n).powered = true)
    (hg : g (s.dev.ctl n) = (c, m)) : Yields i s ((s.dev.setCtl n c).send (.mailbox n m)) :=
  yields_of_run hexec (Dev.onMailbox_of_powered h hg)

theorem yields_onMailbox_unpowered (hexec : exec i s = s.run (Dev.onMailbox n g)) (h : (s.dev.ctl n).powered = false) :
    Yields i s s.dev :=
  yields_of_run hexec (Dev.onMailbox_of_unpowered h)

end

namespace CellCtl

variable {c : CellCtl}

/-! Commands (R77, R78). -/

/-- A transition of a cell without a latched fault. -/
theorem move_of_unfaulted (st : Nat) (t : Int) (detect : Nat) (h : c.fault = 0) :
    c.move st t detect
      = if st = c.state then c
        else
          let u := if st = 0 then t else max t (c.lastMove + c.mti)
          { c with state := st, lastMove := u, edgeDelay := min 0xFFFE ((u - t).toNat + detect) } := by
  unfold move
  rw [if_neg (not_not_intro h)]

/-- A BLOCKED cell with a latched fault stays as it is. -/
theorem move_of_faulted (st : Nat) (t : Int) (detect : Nat) (h : c.fault ≠ 0) (hstate : c.state = 0) :
    c.move st t detect = c := by
  unfold move
  rw [if_pos h]
  exact if_pos hstate.symm

section
variable {is keep : BitVec 48 → Bool} {f : CellCmd → CellCtl → CellCtl} {x : CellCmd}
  (h : c.cmds.find? (fun y => is y.word) = some x)
include h

theorem execCmd_of_kept (hkeep : keep x.word = true) : c.execCmd is keep f = f x c := by
  rw [execCmd, h]
  simp only [hkeep, ↓reduceIte]

theorem execCmd_of_done (hkeep : keep x.word = false) :
    c.execCmd is keep f = f x { c with cmds := c.cmds.eraseP fun y => is y.word } := by
  rw [execCmd, h]
  simp only [hkeep, Bool.false_eq_true, ↓reduceIte]

end

/-- HOLD takes the oldest HOLD command off those that wait; where there is none, none is taken. -/
theorem execHold_eq (c : CellCtl) : c.execHold = { c with cmds := c.cmds.eraseP fun y => Rodal.cState y.word == 4 } := by
  cases h : c.cmds.find? fun y => Rodal.cState y.word == 4 with
  | none =>
    have hnone : ∀ y ∈ c.cmds, ¬ (Rodal.cState y.word == 4) = true := List.find?_eq_none.mp h
    rw [List.eraseP_of_forall_not hnone, execHold, execCmd, h]
  | some x => exact execCmd_of_done h rfl

/-! The mailbox (R70–R72). -/

section
variable {hdr m : BitVec 128}

theorem isTarget_iff : c.isTarget hdr = true ↔ c.pos = some (Rodal.hMbxPos hdr) := beq_iff_eq

theorem mbxRead_of_other (h : c.pos ≠ some (Rodal.hMbxPos hdr)) (v : BitVec 64) : c.mbxRead hdr m v = m :=
  if_neg (isTarget_iff.not.mpr h)

theorem mbxWrite_of_other (h : c.pos ≠ some (Rodal.hMbxPos hdr)) : c.mbxWrite hdr m = (c, m) :=
  if_neg (isTarget_iff.not.mpr h)

theorem mbxBadOp_of_other (h : c.pos ≠ some (Rodal.hMbxPos hdr)) : c.mbxBadOp hdr m = m :=
  if_neg (isTarget_iff.not.mpr h)

variable (h : c.pos = some (Rodal.hMbxPos hdr))
include h

theorem mbxRead_of_badCrc (hcrc : reqOk hdr m = false) (v : BitVec 64) :
    c.mbxRead hdr m v = Rodal.answer m 6 (Rodal.mData m) := by
  rw [mbxRead, if_pos (isTarget_iff.mpr h), hcrc]
  rfl

theorem mbxWrite_of_badCrc (hcrc : reqOk hdr m = false) : c.mbxWrite hdr m = (c, Rodal.answer m 6 (Rodal.mData m)) := by
  rw [mbxWrite, if_pos (isTarget_iff.mpr h), hcrc]
  rfl

theorem mbxBadOp_at_target : c.mbxBadOp hdr m = Rodal.answer m (if reqOk hdr m then 2 else 6) (Rodal.mData m) :=
  if_pos (isTarget_iff.mpr h)

theorem mbxRead_of_goodCrc (hcrc : reqOk hdr m = true) (v : BitVec 64) :
    c.mbxRead hdr m v = Rodal.answer m (c.readReg (Rodal.mAddr m) v).1
      (if (c.readReg (Rodal.mAddr m) v).1 = 1 then (c.readReg (Rodal.mAddr m) v).2 else Rodal.mData m) := by
  rw [mbxRead, if_pos (isTarget_iff.mpr h), if_pos hcrc]

theorem mbxWrite_of_goodCrc (hcrc : reqOk hdr m = true) {r : Nat} {c' : CellCtl}
    (hw : c.writeReg (Rodal.mAddr m) (Rodal.mData m) = (r, c')) : c.mbxWrite hdr m = (c', Rodal.answer m r (Rodal.mData m)) := by
  rw [mbxWrite, if_pos (isTarget_iff.mpr h), if_pos hcrc, hw]

end

section
variable {a x : Nat}

theorem writeReg_cfgPos_of_moving (h : c.state ≠ 0) : c.writeReg 0x10 x = (7, c) := by
  unfold writeReg
  rw [if_pos rfl, if_pos h]

theorem writeReg_cfgPos_of_ok (h : c.state = 0) (hok : c.cfgPosOk (BitVec.ofNat 64 x) = true) :
    c.writeReg 0x10 x = (1, { c with cfgPos := some (BitVec.ofNat 64 x) }) := by
  unfold writeReg
  rw [if_pos rfl, if_neg (not_not_intro h), if_pos hok]

theorem writeReg_cfgPos_of_bad (h : c.state = 0) (hbad : c.cfgPosOk (BitVec.ofNat 64 x) = false) :
    c.writeReg 0x10 x = (5, c) := by
  unfold writeReg
  rw [if_pos rfl, if_neg (not_not_intro h), hbad]
  rfl

theorem writeReg_readOnly (h : a ≤ 0x03 ∨ (0x20 ≤ a ∧ a ≤ 0x22)) : c.writeReg a x = (4, c) := by
  unfold writeReg
  rw [if_neg (by omega), if_neg (by omega), if_pos h]

theorem writeReg_vendor (h : 0x30 ≤ a ∧ a ≤ 0x3F) :
    c.writeReg a x = (1, { c with vendor := SMap.set 0#64 c.vendor a (BitVec.ofNat 64 x) }) := by
  unfold writeReg
  rw [if_neg (by omega), if_neg (by omega), if_neg (by omega), if_pos h]

theorem writeReg_reserved (h : (0x04 ≤ a ∧ a < 0x10) ∨ (0x12 ≤ a ∧ a < 0x20) ∨ (0x23 ≤ a ∧ a < 0x30) ∨ 0x40 ≤ a) :
    c.writeReg a x = (3, c) := by
  unfold writeReg
  rw [if_neg (by omega), if_neg (by omega), if_neg (by omega), if_neg (by omega)]

end

/-! Missed cycles (R83). -/

theorem countMissed_eq {t t0 : Int} (h : c.tTaken = some t0) (htc : 0 < c.tcOf) :
    let k := ((t - t0) / (c.tcOf : Int) - 1).toNat
    c.countMissed t = if k ≤ c.missed then c
      else { c with missed := k, holding := true, holds := if c.missed = 0 then c.holds + 1 else c.holds } := by
  obtain ⟨tc, heq⟩ := Nat.exists_eq_succ_of_ne_zero htc.ne'
  simp only [countMissed, h, heq]

theorem countMissed_keeps (t : Int) (c : CellCtl) :
    (c.countMissed t).state = c.state ∧ (c.countMissed t).sk = c.sk ∧ (c.countMissed t).tcOf = c.tcOf := by
  unfold countMissed
  split
  · dsimp only
    split
    · exact ⟨rfl, rfl, rfl⟩
    · exact ⟨rfl, rfl, rfl⟩
  · exact ⟨rfl, rfl, rfl⟩

/-! The hold timeout (R83). -/

theorem cfgPos_countMissed (t : Int) (c : CellCtl) : (c.countMissed t).cfgPos = c.cfgPos := by
  unfold countMissed
  split
  · dsimp only
    split <;> rfl
  · rfl

theorem holdTimeout_of_cfg {w : BitVec 64} {t : Nat} (h : c.cfgPos = some w) :
    c.holdTimeout t = if cfgHold w ≤ (c.countMissed t).missed then (c.countMissed t).latch 0x06 t else c.countMissed t := by
  unfold holdTimeout
  dsimp only
  rw [cfgPos_countMissed, h]

theorem holdTimeout_of_none {t : Nat} (h : c.cfgPos = none) : c.holdTimeout t = c.countMissed t := by
  unfold holdTimeout
  dsimp only
  rw [cfgPos_countMissed, h]

end CellCtl

/-- Settles O18: each mailbox operation at a powered cell comes down to the cell's own function, case by case. -/
theorem cellMailbox : Obligations.CellMailbox := by
  refine ⟨?_, ?_, fun n h m v s hp => ⟨yields_onMailbox_unpowered rfl hp, yields_onMailbox_unpowered rfl hp,
    yields_onMailbox_unpowered rfl hp, yields_onMailbox_unpowered rfl hp, yields_onMailbox_unpowered rfl hp⟩⟩
  · intro n h m v s c a x said hp
    refine ⟨yields_onMailbox rfl hp rfl, fun htarget hcrc => ?_, fun htarget hcrc => ⟨?_, ?_, ?_⟩,
      fun hother => ⟨?_, ?_, ?_⟩⟩
    · have hwrite : ∀ {c' : CellCtl} {r : Nat}, c.writeReg a x = (r, c') → Yields (.cellMbxWrite n h m) s (said c' r x) :=
        fun hw => yields_onMailbox rfl hp (CellCtl.mbxWrite_of_goodCrc htarget hcrc hw)
      have hread := CellCtl.mbxRead_of_goodCrc htarget hcrc v
      refine ⟨fun hr => ?_, fun hr => ?_, fun ha hst hok => ?_, fun ha hst hbad => ?_, fun ha hst => ?_, fun ha => ?_,
        fun ha => hwrite (CellCtl.writeReg_vendor ha), fun ha => hwrite (CellCtl.writeReg_readOnly ha),
        fun ha => hwrite (CellCtl.writeReg_reserved ha), ?_⟩
      · exact yields_onMailbox rfl hp (congrArg (Prod.mk c) (hread.trans (by rw [if_pos hr, hr])))
      · exact yields_onMailbox rfl hp (congrArg (Prod.mk c) (hread.trans (by rw [if_neg hr])))
      · exact hwrite (by rw [ha]; exact CellCtl.writeReg_cfgPos_of_ok hst hok)
      · exact hwrite (by rw [ha]; exact CellCtl.writeReg_cfgPos_of_bad hst hbad)
      · exact hwrite (by rw [ha]; exact CellCtl.writeReg_cfgPos_of_moving hst)
      · exact hwrite (by rw [ha]; rfl)
      · exact yields_onMailbox rfl hp (congrArg (Prod.mk c) ((CellCtl.mbxBadOp_at_target htarget).trans (by rw [if_pos hcrc])))
    · exact yields_onMailbox rfl hp (congrArg (Prod.mk c) (CellCtl.mbxRead_of_badCrc htarget hcrc v))
    · exact yields_onMailbox rfl hp (CellCtl.mbxWrite_of_badCrc htarget hcrc)
    · exact yields_onMailbox rfl hp (congrArg (Prod.mk c) ((CellCtl.mbxBadOp_at_target htarget).trans (by rw [hcrc]; rfl)))
    · exact yields_onMailbox rfl hp (congrArg (Prod.mk c) (CellCtl.mbxRead_of_other hother v))
    · exact yields_onMailbox rfl hp (CellCtl.mbxWrite_of_other hother)
    · exact yields_onMailbox rfl hp (congrArg (Prod.mk c) (CellCtl.mbxBadOp_of_other hother))
  · intro n h m s c p hop fits said hp
    have hassign : ∀ {c' : CellCtl} {y : BitVec 128}, c.mbxAssign h m = (c', y) → Yields (.cellMbxAssign n h m) s (said c' y) :=
      fun hy => yields_onMailbox rfl hp hy
    refine ⟨fun q hq => ?_, fun hnone hfits hcrc => hassign ?_, fun hnone hfits hcrc => hassign ?_,
      fun hnone hfits => hassign ?_⟩
    · intro y
      have hpos : c.isTarget h = true ↔ q = p := by rw [CellCtl.isTarget_iff, hq, Option.some.injEq]
      refine ⟨fun hne => hassign ?_, fun heq hcrc => hassign ?_, fun heq hcrc => hassign ?_⟩ <;>
        simp only [CellCtl.mbxAssign, hq]
      · rw [if_neg (hpos.not.mpr hne)]
      · rw [if_pos (hpos.mpr heq), if_pos hcrc]
      · rw [if_pos (hpos.mpr heq), if_neg (by simp [hcrc])]
    · simp only [CellCtl.mbxAssign, hnone]
      rw [if_pos hfits, if_pos hcrc]
    · simp only [CellCtl.mbxAssign, hnone]
      rw [if_pos hfits, if_neg (by simp [hcrc])]
    · simp only [CellCtl.mbxAssign, hnone]
      rw [if_neg hfits]

end Sys2Proof.Machine

/-! Settling the statements on a cell's commands, faults, samples and ports. -/

namespace Sys2Proof.Machine

open Sys2Proof

/-- Settles O19: each command finds the oldest it executes and moves the cell; each fault is a latch. -/
theorem cellCommandsAndFaults : Obligations.CellCommandsAndFaults := by
  refine ⟨?_, ?_, ?_⟩
  · intro n detect x s c st off is left oldest moved hp
    refine ⟨fun hok => ⟨fun h => ?_, fun h => ?_, fun h hoff => ⟨?_, ?_⟩, fun h hoff o => ?_⟩,
      fun hfault hstate => ⟨fun h => ?_, fun h => ?_, fun h => ?_⟩, yields_onCell rfl hp (CellCtl.execHold_eq c)⟩
    · exact yields_onCell rfl hp ((CellCtl.execCmd_of_done h rfl).trans (CellCtl.move_of_unfaulted _ _ _ hok))
    · exact yields_onCell rfl hp ((CellCtl.execCmd_of_done h rfl).trans (CellCtl.move_of_unfaulted _ _ _ hok))
    · refine yields_onCell rfl hp ((CellCtl.execCmd_of_kept h (by simpa using hoff)).trans ?_)
      rw [if_neg hoff]
      exact CellCtl.move_of_unfaulted _ _ _ hok
    · refine yields_onCell rfl hp ((CellCtl.execCmd_of_done h (by rfl)).trans ?_)
      rw [if_neg hoff]
      exact CellCtl.move_of_unfaulted _ _ _ hok
    · have hkeep : (!o && Rodal.cOffset x.word != 0) = false := by
        rw [show Rodal.cOffset x.word = 0 from hoff, bne_self_eq_false, Bool.and_false]
      refine yields_onCell rfl hp ((CellCtl.execCmd_of_done h hkeep).trans ?_)
      rw [if_pos hoff]
      exact CellCtl.move_of_unfaulted _ _ _ hok
    · exact yields_onCell rfl hp ((CellCtl.execCmd_of_done h rfl).trans (CellCtl.move_of_faulted _ _ _ hfault hstate))
    · exact yields_onCell rfl hp ((CellCtl.execCmd_of_done h rfl).trans (CellCtl.move_of_faulted _ _ _ hfault hstate))
    · refine yields_onCell rfl hp ((CellCtl.execCmd_of_done h rfl).trans ?_)
      split
      · exact CellCtl.move_of_faulted _ _ _ hfault hstate
      · exact CellCtl.move_of_faulted _ _ _ hfault hstate
  · intro n t s c latched h hp
    refine ⟨fun code => yields_onCell rfl hp rfl, fun w hw => ⟨fun hle => ?_, fun hlt => ?_⟩, fun hnone => ?_,
      yields_onCell rfl hp rfl, yields_onCell rfl hp rfl, fun hclear => ⟨?_, ?_⟩, fun hclear b => ?_,
      fun hclose => ⟨?_, ?_⟩, fun hclose b => ?_⟩
    · exact yields_onCell rfl hp (by rw [CellCtl.holdTimeout_of_cfg hw, if_pos hle]; rfl)
    · exact yields_onCell rfl hp (by rw [CellCtl.holdTimeout_of_cfg hw, if_neg (Nat.not_le.mpr hlt)])
    · exact yields_onCell rfl hp (CellCtl.holdTimeout_of_none hnone)
    · exact yields_onCell rfl hp (by rw [CellCtl.clear, if_pos hclear]; rfl)
    · exact yields_onCell rfl hp (by rw [CellCtl.clear, if_pos hclear]; rfl)
    · exact yields_onCell rfl hp (if_neg (Bool.eq_false_iff.mp hclear))
    · exact yields_onCell rfl hp (by rw [CellCtl.close, if_pos hclose]; rfl)
    · exact yields_onCell rfl hp (by rw [CellCtl.close, if_pos hclose]; rfl)
    · exact yields_onCell rfl hp (if_neg (Bool.eq_false_iff.mp hclose))
  · intro n t v b code s hp
    exact ⟨yields_onCell_unpowered rfl hp, yields_onCell_unpowered rfl hp, yields_onCell_unpowered rfl hp,
      yields_onCell_unpowered rfl hp, yields_onCell_unpowered rfl hp, yields_onCell_unpowered rfl hp,
      yields_onCell_unpowered rfl hp, yields_onCell_unpowered rfl hp, yields_onCell_unpowered rfl hp,
      yields_onCell_unpowered rfl hp, yields_onCell_unpowered rfl hp⟩

/-- Settles O20: sample, ports and power-up are the cell's own functions; `countMissed_eq` gives the count. -/
theorem cellSamplesPortsPower : Obligations.CellSamplesPortsPower := by
  refine ⟨?_, ?_⟩
  · intro n s c
    refine ⟨fun hp => ⟨fun v t => yields_onCell rfl hp ?_, fun byDefect => ⟨yields_onCell rfl hp rfl, yields_onCell rfl hp rfl⟩,
      yields_onCell rfl hp rfl, yields_onCell rfl hp rfl⟩,
      fun hp b => ⟨yields_onCell_unpowered rfl hp, fun byDefect => yields_onCell_unpowered rfl hp⟩, ?_⟩
    · have hkeep : ∀ c : CellCtl, (c.countMissed c.sk).state = c.state ∧ (c.countMissed c.sk).sk = c.sk
          ∧ (c.countMissed c.sk).tcOf = c.tcOf := fun c => CellCtl.countMissed_keeps c.sk c
      obtain ⟨hstate, hsk, htc⟩ := hkeep c
      show CellCtl.sample v t c = _
      unfold CellCtl.sample
      dsimp only
      rw [hstate, hsk, htc]
    · intro uid c0 c1 c2 p
      exact ⟨yields_of_run rfl rfl, rfl, rfl, rfl, rfl, rfl, rfl, rfl, rfl, rfl, rfl, rfl, rfl, rfl, rfl, rfl⟩
  · intro c t t0 htaken htc k
    have hcount : c.countMissed t = _ := CellCtl.countMissed_eq htaken htc
    refine ⟨fun hk => by rw [hcount, if_pos hk], fun hk => ?_⟩
    rw [hcount, if_neg (Nat.not_le.mpr hk)]
    exact ⟨rfl, rfl, rfl⟩

end Sys2Proof.Machine

/-! Frames at a cell (R51, R65, R73, R74, R77, R84, R86): which of its passes a frame takes, and what a pass sends on. -/

namespace Sys2Proof.Machine

open Sys2Proof

namespace CellCtl

variable {c : CellCtl}

/-! What the timing of a pass leaves of the cell: its position and its ports decide where the frame goes. -/

/-- The cell keeps its position, its ports and its epoch. -/
def SamePlace (c c' : CellCtl) : Prop :=
  c'.pos = c.pos ∧ c'.portA = c.portA ∧ c'.portB = c.portB ∧ c'.eLast = c.eLast

theorem SamePlace.refl (c : CellCtl) : SamePlace c c := ⟨rfl, rfl, rfl, rfl⟩

theorem SamePlace.trans {a b c : CellCtl} (h : SamePlace a b) (h' : SamePlace b c) : SamePlace a c := by
  obtain ⟨hpos, ha, hb, he⟩ := h
  obtain ⟨hpos', ha', hb', he'⟩ := h'
  exact ⟨hpos'.trans hpos, ha'.trans ha, hb'.trans hb, he'.trans he⟩

theorem countMissed_samePlace (t : Int) (c : CellCtl) : SamePlace c (c.countMissed t) := by
  unfold countMissed
  split
  · dsimp only
    split
    · exact .refl c
    · exact ⟨rfl, rfl, rfl, rfl⟩
  · exact .refl c

theorem timeFrom_samePlace (hdr mbx : BitVec 128) (t : Nat) (c : CellCtl) : SamePlace c (c.timeFrom hdr mbx t) := by
  unfold timeFrom
  dsimp only
  split
  · exact .refl c
  · exact ⟨rfl, rfl, rfl, rfl⟩

theorem ringLoop_samePlace (hdr mbx : BitVec 128) (t : Nat) (c : CellCtl) : SamePlace c (c.ringLoop hdr mbx t) := by
  unfold ringLoop
  split
  · exact ⟨rfl, rfl, rfl, rfl⟩
  · exact .refl c

/-! The epoch a pass keeps. -/

theorem eLast_takeCmd (hdr : BitVec 128) (w : BitVec 48) (c : CellCtl) : (c.takeCmd hdr w).eLast = c.eLast := by
  unfold takeCmd
  dsimp only
  split <;> rfl

theorem eLast_writeSlot (f : Rodal.Frame) (p t : Nat) (c : CellCtl) : (c.writeSlot f p t).2.eLast = c.eLast := by
  unfold writeSlot
  extract_lets w ok c1 rsp c2
  have h1 : c1.eLast = c.eLast := by
    show (if _ then _ else _ : CellCtl).eLast = _
    split
    · rfl
    split
    · exact eLast_takeCmd _ _ _
    · rfl
  show (if _ then c2.takeIn f.hdr f.mbx t else c2).eLast = _
  split
  · exact h1
  · exact h1

theorem eLast_writeReg (a x : Nat) (c : CellCtl) : (c.writeReg a x).2.eLast = c.eLast := by
  unfold writeReg
  dsimp only
  repeat' split
  all_goals rfl

theorem eLast_mbxAct (hdr m : BitVec 128) (v : BitVec 64) (c : CellCtl) : (c.mbxAct hdr m v).1.eLast = c.eLast := by
  unfold mbxAct
  split
  · rfl
  · rfl
  · unfold mbxWrite
    split
    · split
      · exact eLast_writeReg _ _ _
      · rfl
    · rfl
  · unfold mbxAssign
    split
    · rfl
    · dsimp only
      repeat' split
      all_goals rfl
  · rfl

/-! The slot a pass writes. -/

/-- A first pass changes no slot but the cell's own, and the number of slots stays. -/
def OwnSlot (c : CellCtl) (f g : Rodal.Frame) : Prop :=
  g.slots.length = f.slots.length ∧ ∀ i, c.pos ≠ some i → g.slots[i]? = f.slots[i]?

theorem writeSlot_ownSlot {f : Rodal.Frame} {p : Nat} (t : Nat) (hp : c.pos = some p) : OwnSlot c f (c.writeSlot f p t).1 := by
  refine ⟨List.length_set, fun i hi => List.getElem?_set_ne ?_⟩
  rintro rfl
  exact hi hp

/-- A first pass keeps the frame's epoch, and sends the frame on with no slot changed but the cell's own: folded back where
the other port is DOWN and the frame allows it. -/
theorem firstPass_sends (f : Rodal.Frame) (bad pb : Bool) (t : Nat) (v : BitVec 64) (c : CellCtl) :
    (c.firstPass f bad pb t v).ctl.eLast = some (Rodal.hEpoch f.hdr)
      ∧ ∃ g : Rodal.Frame, OwnSlot c f g
          ∧ (c.firstPass f bad pb t v).out
              = if (Rodal.hFoldEn f.hdr && !(if pb then c.portA else c.portB)) = true then [(pb, g.line bad), (!pb, g.line bad)]
                else [(!pb, g.line bad)] := by
  unfold firstPass
  extract_lets c1 c2 c3 c4 c5 otherUp folds c6 c7
  obtain ⟨hpos3, ha3, hb3, he3⟩ := timeFrom_samePlace f.hdr f.mbx t c2
  obtain ⟨hpos4, ha4, hb4, he4⟩ := ringLoop_samePlace f.hdr f.mbx t c3
  obtain ⟨hpos1, ha1, hb1, -⟩ := countMissed_samePlace t c
  have hup : otherUp = if pb then c.portA else c.portB := by
    show (if pb then c4.portA else c4.portB) = _
    rw [ha4, hb4, ha3, hb3]
    show (if pb then c1.portA else c1.portB) = _
    rw [ha1, hb1]
  have hplace : c7.pos = c6.pos ∧ c7.eLast = c6.eLast := by
    show (if _ then _ else _ : CellCtl).pos = _ ∧ (if _ then _ else _ : CellCtl).eLast = _
    split <;> exact ⟨rfl, rfl⟩
  have hpos : c7.pos = c.pos := hplace.1.trans (hpos4.trans (hpos3.trans hpos1))
  have he : c7.eLast = some (Rodal.hEpoch f.hdr) := hplace.2.trans (he4.trans he3)
  rw [← hup]
  split
  next f1 c8 hslot =>
  have hwrite : OwnSlot c f f1 ∧ c8.eLast = c7.eLast := by
    split at hslot
    · next p hp =>
      split at hslot
      · rw [show f1 = (c7.writeSlot f p t).1 by rw [hslot], show c8 = (c7.writeSlot f p t).2 by rw [hslot]]
        refine ⟨⟨List.length_set, fun i hi => List.getElem?_set_ne ?_⟩, eLast_writeSlot f p t c7⟩
        rintro rfl
        exact hi (hpos.symm.trans hp)
      · obtain ⟨rfl, rfl⟩ := Prod.mk.inj hslot
        exact ⟨⟨rfl, fun _ _ => rfl⟩, rfl⟩
    · obtain ⟨rfl, rfl⟩ := Prod.mk.inj hslot
      exact ⟨⟨rfl, fun _ _ => rfl⟩, rfl⟩
  split
  next c9 mbx hmbx =>
  extract_lets f2 f3 ws
  refine ⟨?_, f3, ?_, rfl⟩
  · show c9.eLast = _
    rw [show c9 = (c8.mbxAct f1.hdr f1.mbx v).1 by rw [hmbx], eLast_mbxAct, hwrite.2, he]
  · have hslots : f3.slots = f1.slots := by
      show (if _ then _ else _ : Rodal.Frame).slots = _
      split <;> rfl
    unfold OwnSlot
    rw [hslots]
    exact hwrite.1

theorem secondPass_out (f : Rodal.Frame) (bad pb : Bool) (t first : Nat) (c : CellCtl) :
    (c.secondPass f bad pb t first).out = if (if pb then c.portA else c.portB) then [(!pb, f.line bad)] else [] := by
  have hports : (if c.inRing then c else c.pushLoop ((t : Int) - first)).portA = c.portA
      ∧ (if c.inRing then c else c.pushLoop ((t : Int) - first)).portB = c.portB := by
    split <;> exact ⟨rfl, rfl⟩
  unfold secondPass
  dsimp only
  rw [hports.1, hports.2]

/-- R84: the window of 2,048 epochs ahead of the one kept, modulo 4,096. -/
theorem epochOk_iff {e l : Nat} (he : e < 4096) (hl : l < 4096) (hc : c.eLast = some l) :
    c.epochOk e false = true ↔ ∃ k, k < 2048 ∧ e = (l + k) % 4096 := by
  rw [epochOk, hc]
  simp only [Bool.false_or, decide_eq_true_eq]
  constructor
  · intro h
    exact ⟨_, h, by omega⟩
  · rintro ⟨k, hk, rfl⟩
    omega

/-! Which pass a frame takes. -/

variable {f : Rodal.Frame} {bad pb : Bool} {ws : List Word} {t : Nat} {v : BitVec 64}

theorem goodHeader_of_otherType (h : ¬ (Rodal.hType f.hdr = 1 ∨ Rodal.hType f.hdr = 2)) :
    c.goodHeader f bad pb ws t v = { ctl := c, out := [(!pb, ws)] } :=
  if_pos (not_or.mp h)

theorem goodHeader_of_staleEpoch (h : Rodal.hType f.hdr = 1 ∨ Rodal.hType f.hdr = 2)
    (hfit : c.epochOk (Rodal.hEpoch f.hdr) (c.anyEpochNow f.hdr t) = false) :
    c.goodHeader f bad pb ws t v = { ctl := { c with epochReject := true, rejects := c.rejects + 1 }, out := [] } :=
  (if_neg (not_and_or.mpr (h.imp not_not_intro not_not_intro))).trans (if_pos hfit)

theorem goodHeader_of_fits (h : Rodal.hType f.hdr = 1 ∨ Rodal.hType f.hdr = 2)
    (hfit : c.epochOk (Rodal.hEpoch f.hdr) (c.anyEpochNow f.hdr t) = true) (p : Option Nat) (hp : c.sawBefore f.hdr = p) :
    c.goodHeader f bad pb ws t v = p.elim (c.firstPass f bad pb t v) (c.secondPass f bad pb t) := by
  unfold goodHeader
  rw [if_neg (not_and_or.mpr (h.imp not_not_intro not_not_intro)), if_neg (by rw [hfit]; decide), hp]
  cases p <;> rfl

section Reading

variable {ok : Bool} (hp : c.powered = true) (hb : c.blocking = false) (ht : isTraining ws = false)
include hp hb ht

theorem frameIn_of_good (hr : Rodal.deframe (peek ws) ws = .good f) :
    c.frameIn pb ws t v = c.goodHeader f false pb ws t v := by
  rw [frameIn, if_neg (by rw [hp, hb]; decide), if_neg (by rw [ht]; decide), hr]

theorem frameIn_of_crcErr (hr : Rodal.deframe (peek ws) ws = .crcErr f) :
    c.frameIn pb ws t v = (c.portError pb).goodHeader f true pb ws t v := by
  rw [frameIn, if_neg (by rw [hp, hb]; decide), if_neg (by rw [ht]; decide), hr]

theorem frameIn_of_stuffErr (hr : Rodal.deframe (peek ws) ws = .stuffErr f ok) :
    c.frameIn pb ws t v = (c.portError pb).goodHeader f (!ok) pb ws t v := by
  rw [frameIn, if_neg (by rw [hp, hb]; decide), if_neg (by rw [ht]; decide), hr]

theorem frameIn_of_hdrErr (hr : Rodal.deframe (peek ws) ws = .hdrErr f ok) :
    c.frameIn pb ws t v
      = if (c.sawBefore f.hdr).isSome then { ctl := c.portError pb, out := [(!pb, f.line (!ok))] }
        else (c.portError pb).badPass f (!ok) pb t := by
  rw [frameIn, if_neg (by rw [hp, hb]; decide), if_neg (by rw [ht]; decide), hr]

theorem frameIn_of_noSync (hr : Rodal.deframe (peek ws) ws = .noSync) :
    c.frameIn pb ws t v = { ctl := c.portError pb, out := [(!pb, ws)] } := by
  rw [frameIn, if_neg (by rw [hp, hb]; decide), if_neg (by rw [ht]; decide), hr]

end Reading

end CellCtl

section Passes

variable {n : Fin 2048} {pb : Bool} {ws : List Word} {t : Nat} {s : State} {p : CellCtl.Pass}

/-- The module after a pass: the cell as it is left, and what it sends, in order. -/
abbrev Dev.passed (d : Dev) (n : Nat) (p : CellCtl.Pass) : Dev :=
  p.out.foldl (fun (d : Dev) o => d.send (.cell n o.1 o.2)) (d.setCtl n p.ctl)

theorem yields_cellFirstPass {v : BitVec 64} (h : (s.dev.ctl n).frameIn pb ws t v = p) :
    Yields (.cellFirstPass n pb ws t v) s (s.dev.passed n p) :=
  yields_of_run rfl (by rw [Dev.devCellFrame, h])

theorem yields_cellSecondPass (h : (s.dev.ctl n).frameIn pb ws t 0#64 = p) :
    Yields (.cellSecondPass n pb ws t) s (s.dev.passed n p) :=
  yields_of_run rfl (by rw [Dev.devCellFrame, h])

theorem yields_cellPasses {v : BitVec 64} (h : ∀ v, (s.dev.ctl n).frameIn pb ws t v = p) :
    Yields (.cellFirstPass n pb ws t v) s (s.dev.passed n p) ∧ Yields (.cellSecondPass n pb ws t) s (s.dev.passed n p) :=
  ⟨yields_cellFirstPass (h v), yields_cellSecondPass (h _)⟩

end Passes

/-- The four cases of a header that is good (`taken` of the obligation), for the cell `x` that takes it. -/
theorem yields_goodHeader {n : Fin 2048} {pb bad : Bool} {ws : List Word} {t : Nat} {v : BitVec 64} {s : State} {x : CellCtl}
    {f : Rodal.Frame} (h : ∀ v, (s.dev.ctl n).frameIn pb ws t v = x.goodHeader f bad pb ws t v) :
    let known := Rodal.hType f.hdr = 1 ∨ Rodal.hType f.hdr = 2
    let fits := x.epochOk (Rodal.hEpoch f.hdr) (x.anyEpochNow f.hdr t)
    let both := fun (p : CellCtl.Pass) =>
      Yields (.cellFirstPass n pb ws t v) s (s.dev.passed n p) ∧ Yields (.cellSecondPass n pb ws t) s (s.dev.passed n p)
    (known → fits = true → x.sawBefore f.hdr = none →
        Yields (.cellFirstPass n pb ws t v) s (s.dev.passed n (x.firstPass f bad pb t v)))
      ∧ (∀ first, known → fits = true → x.sawBefore f.hdr = some first →
        Yields (.cellSecondPass n pb ws t) s (s.dev.passed n (x.secondPass f bad pb t first)))
      ∧ (known → fits = false → both { ctl := { x with epochReject := true, rejects := x.rejects + 1 }, out := [] })
      ∧ (¬ known → both { ctl := x, out := [(!pb, ws)] }) :=
  ⟨fun hk hf hs => yields_cellFirstPass ((h v).trans (CellCtl.goodHeader_of_fits hk hf _ hs)),
   fun _ hk hf hs => yields_cellSecondPass ((h _).trans (CellCtl.goodHeader_of_fits hk hf _ hs)),
   fun hk hf => yields_cellPasses fun v => (h v).trans (CellCtl.goodHeader_of_staleEpoch hk hf),
   fun hk => yields_cellPasses fun v => (h v).trans (CellCtl.goodHeader_of_otherType hk)⟩

/-- Settles O17: the case of the words decides the pass, `firstPass_sends` and `secondPass_out` what it sends, `epochOk_iff`
the window. -/
theorem cellFrames : Obligations.CellFrames := by
  refine ⟨?_, ?_, ?_⟩
  · intro n pb ws t v s c e r sent both taken
    refine ⟨fun h => yields_cellPasses fun _ => if_pos h, fun hp hb => ⟨fun ht => yields_cellPasses fun _ => ?_,
      fun ht => ⟨fun f hr => ?_, fun f hr => ?_, fun f ok hr => ?_, fun f ok hr => ⟨fun hs => ?_, fun first hs => ?_⟩,
        fun hr => ?_⟩⟩⟩
    · rw [CellCtl.frameIn, if_neg (by rw [hp, hb]; decide), if_pos ht]
    · exact yields_goodHeader fun _ => CellCtl.frameIn_of_good hp hb ht hr
    · exact yields_goodHeader fun _ => CellCtl.frameIn_of_crcErr hp hb ht hr
    · exact yields_goodHeader fun _ => CellCtl.frameIn_of_stuffErr hp hb ht hr
    · exact yields_cellFirstPass ((CellCtl.frameIn_of_hdrErr hp hb ht hr).trans (if_neg (by rw [hs]; decide)))
    · exact yields_cellPasses fun _ => (CellCtl.frameIn_of_hdrErr hp hb ht hr).trans (if_pos (by rw [hs]; rfl))
    · exact yields_cellPasses fun _ => CellCtl.frameIn_of_noSync hp hb ht hr
  · intro c f bad pb t v p q up
    obtain ⟨he, g, ⟨hlen, hother⟩, hout⟩ := CellCtl.firstPass_sends f bad pb t v c
    refine ⟨he, ⟨g, hout.trans ?_, hlen, hother⟩, fun first => CellCtl.secondPass_out f bad pb t first c⟩
    simp only [Bool.and_eq_true, Bool.not_eq_true', up]
  · intro c e he
    refine ⟨fun hc => by rw [CellCtl.epochOk, hc], fun l hl hc => CellCtl.epochOk_iff he hl hc⟩

end Sys2Proof.Machine

/-! The checks of a write in their order (R351), and the fate of a group of one (R32, R362, R369, R146). -/

namespace Sys2Proof.Machine

open Sys2Proof

namespace Dev

variable {d t : Dev} {w : Writer} {rt : Rights} {e : Entry} {r : ObjRow}

/-! The steps of R351, each where those before it have passed. -/

section Steps

variable (hobj : t.objAt rt.role e.index e.sub = .ok r)
include hobj

theorem entryStatus_of_readOnly (hacc : r.acc = .ro) : d.entryStatus w rt e t = (Status.readOnly, t) := by
  rw [entryStatus, hobj]
  exact if_pos (.inl hacc)

variable (hacc : r.acc ≠ .ro) (hvendor : ¬ (0x5400 + 960 ≤ e.index ∧ e.index < 0x5800))
include hacc hvendor

omit hobj in
theorem not_reserved : ¬ (r.acc = .ro ∨ (960 ≤ e.index - 0x5400 ∧ 0x5400 ≤ e.index ∧ e.index < 0x5800)) := by
  rintro (h | h)
  · exact hacc h
  · omega

theorem entryStatus_of_role (hrole : rt.role < r.role) (hlor : entryKey e ≠ Obj.BW_LOR) :
    d.entryStatus w rt e t = (Status.role, t) := by
  rw [entryStatus, hobj]
  dsimp only
  rw [if_neg (not_reserved hacc hvendor), if_pos hrole, decide_eq_false hlor]
  rfl

variable (hrole : r.role ≤ rt.role)
include hrole

theorem entryStatus_of_type (htype : e.type ≠ r.type.code) : d.entryStatus w rt e t = (Status.type, t) := by
  rw [entryStatus, hobj]
  dsimp only
  rw [if_neg (not_reserved hacc hvendor), if_neg (Nat.not_lt.mpr hrole), if_pos htype]

variable (htype : e.type = r.type.code)
include htype

theorem entryStatus_of_range (hrange : t.rangeStatus r e.index e.sub e.val ≠ Status.ok) :
    d.entryStatus w rt e t = (t.rangeStatus r e.index e.sub e.val, t) := by
  rw [entryStatus, hobj]
  dsimp only
  rw [if_neg (not_reserved hacc hvendor), if_neg (Nat.not_lt.mpr hrole), if_neg (not_not_intro htype), if_pos hrange]

theorem entryStatus_of_running (hrange : t.rangeStatus r e.index e.sub e.val = Status.ok) (hw : isMirror w = false)
    (hcls : r.cls = .stopped) (howner : d.ownerStopped e.index = false) (hmode : entryKey e ≠ Obj.SYS_MODE_REQ) :
    d.entryStatus w rt e t = (Status.state, t) := by
  rw [entryStatus, hobj]
  dsimp only
  rw [if_neg (not_reserved hacc hvendor), if_neg (Nat.not_lt.mpr hrole), if_neg (not_not_intro htype),
    if_neg (not_not_intro hrange), if_neg (Bool.eq_false_iff.mp hw), if_pos (.inl ⟨hcls, howner⟩), if_neg hmode]

end Steps

/-! No check of one entry answers GROUP_FAIL: that is the status of a group (R368). -/

theorem objAt_error_ne_groupFail {role ix sub x : Nat} (h : t.objAt role ix sub = .error x) : x ≠ Status.groupFail := by
  unfold objAt at h
  repeat' split at h
  all_goals cases h
  all_goals decide

theorem rangeStatus_ne_groupFail (r : ObjRow) (ix sub : Nat) (v : Val) : t.rangeStatus r ix sub v ≠ Status.groupFail := by
  unfold rangeStatus
  split
  · repeat' split
    all_goals decide
  · split
    · decide
    · unfold lenStatus
      repeat' split
      all_goals decide

theorem stateIf_ne_groupFail (b : Bool) : stateIf b ≠ Status.groupFail := by
  cases b <;> decide

/-- A choice between two verdicts is none that neither is. -/
theorem fst_ite_ne {p : Prop} [Decidable p] {a b : Nat × Dev} {x : Nat} (ha : a.1 ≠ x) (hb : b.1 ≠ x) :
    (if p then a else b).1 ≠ x := by
  split
  · exact ha
  · exact hb

theorem ok_ne_groupFail : Status.ok ≠ Status.groupFail := by decide

theorem state_ne_groupFail : Status.state ≠ Status.groupFail := by decide

theorem modeRequest_ne_groupFail (n : Nat) : (t.modeRequest n).1 ≠ Status.groupFail := by
  unfold modeRequest
  extract_lets code d1
  clear_value d1
  refine fst_ite_ne state_ne_groupFail (fst_ite_ne ?_ ok_ne_groupFail)
  cases d1.leaveCheck
  case some => exact state_ne_groupFail
  case none =>
    cases d1.admitConfig
    exact fst_ite_ne ok_ne_groupFail (show Status.budget ≠ Status.groupFail by decide)

theorem releaseStatus_ne_groupFail (b : Bool) (x : Int) : d.releaseStatus b x ≠ Status.groupFail := by
  unfold releaseStatus
  repeat' split
  all_goals decide

theorem resetStatus_ne_groupFail : d.resetStatus ≠ Status.groupFail := by
  unfold resetStatus
  split <;> decide

theorem firstClearStatus_ne_groupFail : d.firstClearStatus ≠ Status.groupFail := by
  unfold firstClearStatus
  split <;> decide

theorem ackStatus_ne_groupFail (n : Nat) : d.ackStatus n ≠ Status.groupFail := by
  unfold ackStatus
  repeat' split
  all_goals decide

theorem fwCheck_ne_groupFail (org : Origin) (b : List Byte) : (t.fwCheck org b).1 ≠ Status.groupFail := by
  unfold fwCheck
  extract_lets slot
  exact fst_ite_ne (show Status.auth ≠ Status.groupFail by decide)
    (fst_ite_ne (show Status.range ≠ Status.groupFail by decide) ok_ne_groupFail)

theorem lorStatus_ne_groupFail (b : Bool) (x : Int) : d.lorStatus b x ≠ Status.groupFail := by
  unfold lorStatus
  repeat' split
  all_goals decide

theorem fioEnableStatus_ne_groupFail (x : Int) : d.fioEnableStatus x ≠ Status.groupFail := by
  unfold fioEnableStatus
  repeat' split
  all_goals decide

theorem surveyStatus_ne_groupFail : d.surveyStatus ≠ Status.groupFail := by
  unfold surveyStatus
  split <;> decide

theorem pwmClearStatus_ne_groupFail (n : Nat) : t.pwmClearStatus n ≠ Status.groupFail := by
  unfold pwmClearStatus
  split <;> decide

theorem seqCmdStatus_ne_groupFail (n : Nat) : d.seqCmdStatus n ≠ Status.groupFail := by
  unfold seqCmdStatus
  dsimp only
  repeat' split
  all_goals decide

theorem tpArmStatus_ne_groupFail (p : Nat) : t.tpArmStatus p ≠ Status.groupFail := by
  unfold tpArmStatus
  repeat' split
  all_goals decide

theorem canTxStatus_ne_groupFail (c : Nat) (b : List Byte) : d.canTxStatus c b ≠ Status.groupFail := by
  unfold canTxStatus
  dsimp only
  repeat' split
  all_goals decide

theorem busyIf_ne_groupFail (p : Prop) [Decidable p] : (if p then Status.busy else Status.ok) ≠ Status.groupFail := by
  split <;> decide

theorem ownerStatus_ne_groupFail (ix sub : Nat) (v : Val) : (ownerStatus d rt ix sub v t).1 ≠ Status.groupFail := by
  unfold ownerStatus
  extract_lets k x b n say
  refine fst_ite_ne (modeRequest_ne_groupFail n) <| fst_ite_ne (releaseStatus_ne_groupFail _ x) <|
    fst_ite_ne resetStatus_ne_groupFail <| fst_ite_ne (stateIf_ne_groupFail _) <| fst_ite_ne firstClearStatus_ne_groupFail <|
    fst_ite_ne (ackStatus_ne_groupFail n) <| fst_ite_ne (fwCheck_ne_groupFail _ b) <| fst_ite_ne (stateIf_ne_groupFail _) <|
    fst_ite_ne (stateIf_ne_groupFail _) <| fst_ite_ne (stateIf_ne_groupFail _) <|
    fst_ite_ne (fst_ite_ne (lorStatus_ne_groupFail _ x) (lorStatus_ne_groupFail _ x)) <| fst_ite_ne (stateIf_ne_groupFail _) <|
    fst_ite_ne (fioEnableStatus_ne_groupFail x) <| fst_ite_ne surveyStatus_ne_groupFail <|
    fst_ite_ne (pwmClearStatus_ne_groupFail n) <| fst_ite_ne (seqCmdStatus_ne_groupFail n) <|
    fst_ite_ne (stateIf_ne_groupFail _) <| fst_ite_ne (busyIf_ne_groupFail _) <| fst_ite_ne (stateIf_ne_groupFail _) <|
    fst_ite_ne (stateIf_ne_groupFail _) <| fst_ite_ne ?arm <| fst_ite_ne (busyIf_ne_groupFail _) <| fst_ite_ne ?tx <|
    fst_ite_ne (stateIf_ne_groupFail _) ok_ne_groupFail
  case arm =>
    exact fst_ite_ne (tpArmStatus_ne_groupFail _) (fst_ite_ne (stateIf_ne_groupFail _) ok_ne_groupFail)
  case tx =>
    refine fst_ite_ne (canTxStatus_ne_groupFail _ b) ?_
    split
    · exact busyIf_ne_groupFail _
    · exact ok_ne_groupFail

theorem entryStatus_ne_groupFail : (d.entryStatus w rt e t).1 ≠ Status.groupFail := by
  unfold entryStatus
  split
  · next x h => exact objAt_error_ne_groupFail h
  · next r h =>
    exact fst_ite_ne (show Status.readOnly ≠ Status.groupFail by decide) <|
      fst_ite_ne (show Status.role ≠ Status.groupFail by decide) <| fst_ite_ne (show Status.type ≠ Status.groupFail by decide) <|
      fst_ite_ne (rangeStatus_ne_groupFail r _ _ _) <| fst_ite_ne ok_ne_groupFail <| fst_ite_ne state_ne_groupFail <|
      ownerStatus_ne_groupFail _ _ _

/-- The verdict on a group of one is no GROUP_FAIL. -/
theorem checkGroup_single_ne_groupFail : (d.checkGroup w rt [e]).1.status ≠ Status.groupFail := by
  unfold checkGroup
  split
  · exact (show Status.busy ≠ Status.groupFail by decide)
  extract_lets sets t0
  have hbad : ∀ i s, (d.firstRefused w rt 0 [] [e] t0).1 = some (i, s) → s ≠ Status.groupFail := by
    intro i s h
    have hs : s = (d.entryStatus w rt e t0).1 := by
      unfold firstRefused at h
      rw [if_neg (by simp)] at h
      dsimp only at h
      split at h
      · cases h
      · exact ((Prod.mk.inj (Option.some.inj h)).2).symm
    rw [hs]
    exact entryStatus_ne_groupFail
  split
  next bad t hfirst =>
  extract_lets back
  cases bad with
  | some x =>
    have hs := hbad x.1 x.2 (by rw [hfirst])
    dsimp only
    split
    · next hb => exact hs
    · exact hs
  | none =>
    dsimp only
    split
    · exact ok_ne_groupFail
    cases groupRefusal d [e] _ t with
    | some x => exact (show Status.budget ≠ Status.groupFail by decide)
    | none => exact ok_ne_groupFail

/-! Acceptance and refusal of a group of one. -/

theorem mirrorOut_nil (role sec cycle : Nat) : d.mirrorOut role [] sec cycle = d :=
  if_neg fun h => Bool.noConfusion h.2.2

/-- A live write of a group of one waits, after those accepted before it. -/
theorem acceptGroup_single (hw : isMirror w = false) (hheld : d.isHeld rt.role e = false) {op : Nat}
    (hop : (groupOf d w rt e).opcode = op) :
    d.acceptGroup w rt op none [e]
      = ({ d with host := { d.host with groups := d.host.groups ++ [groupOf d w rt e],
                                        nextGroup := d.host.nextGroup + 1 } } : Dev).accepted e := by
  have hlive : [e].filter (fun e => !(d.isHeld rt.role e)) = [e] := by simp [hheld]
  have hnone : [e].filter (fun e => d.isHeld rt.role e) = [] := by simp [hheld]
  subst hop
  unfold acceptGroup
  rw [hlive, hnone]
  dsimp only [List.foldl_nil, List.foldl_cons, List.isEmpty_cons, List.map_cons, List.map_nil, List.length_cons,
    List.length_nil]
  rw [if_neg Bool.false_ne_true, if_neg (Bool.eq_false_iff.mp hw), mirrorOut_nil]
  rfl

/-! The writer's way to the checks. -/

theorem request_of_fresh {s : State} {n seq : Nat} (h : s.fresh n seq = true) (f : Dev → Dev) :
    s.dev.request n seq f = f (s.at n seq) := by
  unfold State.fresh at h
  simp only [Bool.and_eq_true, Option.isNone_iff_eq_none, decide_eq_true_eq] at h
  obtain ⟨⟨⟨hopen, hclock⟩, hkept⟩, hahead⟩ := h
  unfold request
  rw [if_neg (by rw [hopen, hclock]; decide)]
  dsimp only
  rw [hkept]
  exact if_pos hahead

theorem submit_session {s : State} {n : Fin 16} {seq : Nat} (h : s.fresh n seq = true)
    (hrt : (s.at n seq).rights (.session n seq) = some rt) :
    s.dev.submit (.session n seq) e
      = if ((s.at n seq).checkGroup (.session n seq) rt [e]).1.status = Status.ok then
          ((s.at n seq).checkGroup (.session n seq) rt [e]).2.acceptGroup (.session n seq) rt 0x11 none [e]
        else ((s.at n seq).checkGroup (.session n seq) rt [e]).2.respond n seq 0x11
          ((s.at n seq).checkGroup (.session n seq) rt [e]).1.status [] := by
  unfold submit
  dsimp only
  rw [request_of_fresh h, sessionWrite, hrt]
  rfl

theorem submit_core {d : Dev} {k : Fin 8} (hgroup : (d.win k).group = none) (hrt : d.rights (.core k) = some rt)
    (hkey : entryKey e ≠ Obj.LE_LOCAL_GROUP) :
    d.submit (.core k) e
      = if (d.checkGroup (.core k) rt [e]).1.status = Status.ok then
          (d.checkGroup (.core k) rt [e]).2.acceptGroup (.core k) rt 0 none [e]
        else (d.checkGroup (.core k) rt [e]).2.coreResult k (d.checkGroup (.core k) rt [e]).1 [e] := by
  unfold submit
  dsimp only
  unfold coreWrite
  dsimp only
  rw [if_neg hkey, hgroup]
  dsimp only
  rw [coreSubmit, hrt]
  rfl

/-- The result of a refused single write of a core says its status alone. -/
theorem coreResult_of_ne_groupFail {v : Verdict} (h : v.status ≠ Status.groupFail) (k : Fin 8) (es : List Entry) :
    d.coreResult k v es = d.setWin k { d.win k with status := v.status, seconds := 0, cycle := 0xFFFFFFFF } := by
  unfold coreResult
  dsimp only
  rw [if_neg h]

end Dev

/-- Every row that writes one object is its writer's submission of the entry. -/
theorem exec_of_writeOf {c : Instr} {w : Writer} {e : Entry} (s : State) (h : writeOf c = some (w, e)) :
    exec c s = s.run (Dev.submit w e) := by
  cases c
  all_goals
    cases h
  all_goals rfl

/-- Settles O23: the steps of R351 in their order; a group of one that passes waits, and the verdict on one that does not is
its writer's answer. -/
theorem writesAreChecked : Obligations.WritesAreChecked := by
  refine ⟨?_, ?_, ?_⟩
  · intro d t w rt e k
    refine ⟨fun x h => Dev.entryStatus_of_objAt_error h w, fun r hobj => ⟨Dev.entryStatus_of_readOnly hobj,
      fun hacc hvendor => ⟨Dev.entryStatus_of_role hobj hacc hvendor, fun hrole => ⟨Dev.entryStatus_of_type hobj hacc hvendor hrole,
        fun htype => ⟨Dev.entryStatus_of_range hobj hacc hvendor hrole htype,
          Dev.entryStatus_of_running hobj hacc hvendor hrole htype⟩⟩⟩⟩⟩
  · intro c s w e d rt hwrite hasks hrt hkey v hok hheld
    refine yields_of_run (exec_of_writeOf s hwrite) ?_
    cases w with
    | session n seq =>
      obtain ⟨hfresh, hd⟩ := Option.ite_none_right_eq_some.mp hasks
      obtain rfl := Option.some.inj hd
      rw [Dev.submit_session hfresh hrt, if_pos hok]
      exact Dev.acceptGroup_single rfl hheld rfl
    | core k =>
      obtain ⟨hgroup, hd⟩ := Option.ite_none_right_eq_some.mp hasks
      obtain rfl := Option.some.inj hd
      rw [Dev.submit_core (Option.isNone_iff_eq_none.mp hgroup) hrt (hkey k rfl), if_pos hok]
      exact Dev.acceptGroup_single rfl hheld rfl
    | sequencer i => cases hasks
    | mirror r => cases hasks
  · intro c s w e d rt hwrite hasks hrt hkey v hbad
    refine ⟨?_, ?_⟩
    · rintro n seq rfl
      obtain ⟨hfresh, hd⟩ := Option.ite_none_right_eq_some.mp hasks
      obtain rfl := Option.some.inj hd
      exact yields_of_run (exec_of_writeOf s hwrite) ((Dev.submit_session hfresh hrt).trans (if_neg hbad))
    · rintro k rfl
      obtain ⟨hgroup, hd⟩ := Option.ite_none_right_eq_some.mp hasks
      obtain rfl := Option.some.inj hd
      refine yields_of_run (exec_of_writeOf s hwrite) ?_
      rw [Dev.submit_core (Option.isNone_iff_eq_none.mp hgroup) hrt (hkey k rfl), if_neg hbad,
        Dev.coreResult_of_ne_groupFail Dev.checkGroup_single_ne_groupFail]

end Sys2Proof.Machine

/-! What a write does at its boundary: the rule of its block (`written`), and the writes of modes and faults (R425–R436). -/

namespace Sys2Proof.Machine

open Sys2Proof

namespace Dev

variable {d : Dev} {org : Origin} {k : Nat} {old : Val} {x : Int} {b : List Byte}

/-! The object index decides the block whose rule a write follows. -/

theorem written_host (hhi : k / 256 < 0x1800) :
    d.written org k old (.num x) = d.hookHost org (k / 256) (k % 256) x.toNat [] := by
  unfold written
  dsimp only
  rw [if_pos hhi]

theorem written_system (hlo : 0x1800 ≤ k / 256) (hhi : k / 256 < 0x2000) (hcyc : k / 256 ≠ 0x1820) :
    d.written org k old (.num x) = d.hookSystem k x.toNat x := by
  unfold written
  dsimp only
  rw [if_neg (by omega), if_pos hhi, if_neg fun h => hcyc h.1]

theorem written_strandBytes (hlo : 0x2000 ≤ k / 256) (hhi : k / 256 < 0x3000) :
    d.written org k old (.bytes b) = d.hookStrand (k / 256) (k % 256) 0 b (decide (old ≠ .bytes b)) := by
  unfold written
  dsimp only
  rw [if_neg (by omega), if_neg (by omega), if_pos hhi]
  rfl

theorem written_loop (hlo : 0x3000 ≤ k / 256) (hhi : k / 256 < 0x4400) :
    d.written org k old (.num x) = d.hookLoop (k / 256) (k % 256) := by
  unfold written
  dsimp only
  rw [if_neg (by omega), if_neg (by omega), if_neg (by omega), if_pos hhi]

theorem written_meas (hlo : 0x4400 ≤ k / 256) (hhi : k / 256 < 0x4800) :
    d.written org k old (.num x) = d.hookMeas (k / 256) (k % 256) := by
  unfold written
  dsimp only
  rw [if_neg (by omega), if_neg (by omega), if_neg (by omega), if_neg (by omega), if_pos hhi]

theorem written_time (hlo : 0x4800 ≤ k / 256) (hhi : k / 256 < 0x4C00) :
    d.written org k old (.num x) = d.hookTime (k / 256) (k % 256) x := by
  unfold written
  dsimp only
  rw [if_neg (by omega), if_neg (by omega), if_neg (by omega), if_neg (by omega), if_neg (by omega), if_pos hhi]

theorem written_tide (hlo : 0x4C00 ≤ k / 256) (hhi : k / 256 < 0x5000) :
    d.written org k old (.num x) = d.hookTide (k / 256) (k % 256) x.toNat [] := by
  unfold written
  dsimp only
  rw [if_neg (by omega), if_neg (by omega), if_neg (by omega), if_neg (by omega), if_neg (by omega), if_neg (by omega), if_pos hhi]

theorem written_tideBytes (hlo : 0x4C00 ≤ k / 256) (hhi : k / 256 < 0x5000) :
    d.written org k old (.bytes b) = d.hookTide (k / 256) (k % 256) 0 b := by
  unfold written
  dsimp only
  rw [if_neg (by omega), if_neg (by omega), if_neg (by omega), if_neg (by omega), if_neg (by omega), if_neg (by omega), if_pos hhi]
  rfl

theorem written_tasks (hlo : 0x5400 ≤ k / 256) (hhi : k / 256 < 0x6000) :
    d.written org k old (.num x) = d.hookTasks (k / 256) (k % 256) x.toNat [] := by
  unfold written
  dsimp only
  rw [if_neg (by omega), if_neg (by omega), if_neg (by omega), if_neg (by omega), if_neg (by omega), if_neg (by omega),
    if_neg (by omega), if_neg (by omega), if_pos hhi]

theorem written_safety (hlo : 0x6000 ≤ k / 256) (hhi : k / 256 < 0x6800) :
    d.written org k old (.num x) = d.hookSafety k x.toNat x := by
  unfold written
  dsimp only
  rw [if_neg (by omega), if_neg (by omega), if_neg (by omega), if_neg (by omega), if_neg (by omega), if_neg (by omega),
    if_neg (by omega), if_neg (by omega), if_neg (by omega), if_pos hhi]

/-- The number a write finds in force, as the rules of the field channels read it. -/
def oldNat (old : Val) : Nat :=
  match old with
  | .num x => x.toNat
  | .bytes _ => 0

theorem written_field (hlo : 0x6800 ≤ k / 256) (hhi : k / 256 < 0x6C00) :
    d.written org k old (.num x) = d.hookField (k / 256) (k % 256) (oldNat old) x.toNat := by
  unfold written
  dsimp only
  rw [if_neg (by omega), if_neg (by omega), if_neg (by omega), if_neg (by omega), if_neg (by omega), if_neg (by omega),
    if_neg (by omega), if_neg (by omega), if_neg (by omega), if_neg (by omega), if_pos hhi]
  cases old <;> rfl

theorem written_can (hlo : 0x6C00 ≤ k / 256) (hhi : k / 256 < 0x7000) :
    d.written org k old (.num x) = d.hookCan (k / 256) (k % 256) x.toNat [] := by
  unfold written
  dsimp only
  rw [if_neg (by omega), if_neg (by omega), if_neg (by omega), if_neg (by omega), if_neg (by omega), if_neg (by omega),
    if_neg (by omega), if_neg (by omega), if_neg (by omega), if_neg (by omega), if_neg (by omega), if_pos hhi]

theorem written_canBytes (hlo : 0x6C00 ≤ k / 256) (hhi : k / 256 < 0x7000) :
    d.written org k old (.bytes b) = d.hookCan (k / 256) (k % 256) 0 b := by
  unfold written
  dsimp only
  rw [if_neg (by omega), if_neg (by omega), if_neg (by omega), if_neg (by omega), if_neg (by omega), if_neg (by omega),
    if_neg (by omega), if_neg (by omega), if_neg (by omega), if_neg (by omega), if_neg (by omega), if_pos hhi]
  rfl

/-! Mode requests (R426). -/

variable {t : Nat}

theorem modeRequest_of_blocked {c : Nat} (hb : d.modeBlocked t = c) (hc : c ≠ 0) :
    d.modeRequest t = (Status.state, d.refuseMode c 0xFFFFFFFF) := by
  subst hb
  unfold modeRequest
  exact if_pos hc

theorem modeBlocked_of_standby (h : d.standby = true) : d.modeBlocked t = 6 := by
  rw [modeBlocked, if_pos h]

section Passed

variable (hs : d.standby = false)
include hs

theorem modeBlocked_of_not_allowed (h : modeAllowed d.mode t = false) : d.modeBlocked t = 1 := by
  rw [modeBlocked, if_neg (Bool.eq_false_iff.mp hs), if_pos h]

theorem modeBlocked_of_allowed (h : modeAllowed d.mode t = true) :
    d.modeBlocked t = if (t = Mode.charge ∨ t = Mode.run) ∧ 2 ≤ d.getN Obj.FM_LEVEL then 4
      else if t = Mode.run ∧ d.tbState = TbState.invalid then 5
      else if t = Mode.run ∧ 0 < d.ptp.softDue then 8 else 0 := by
  rw [modeBlocked, if_neg (Bool.eq_false_iff.mp hs), if_neg (by rw [h]; decide)]

end Passed

theorem modeRequest_of_passed (hb : d.modeBlocked t = 0) (hm : d.mode ≠ Mode.config) :
    d.modeRequest t = (Status.ok, d.refuseMode 0 0xFFFFFFFF) := by
  unfold modeRequest
  exact (if_neg (not_not_intro hb)).trans (if_neg hm)

theorem modeRequest_of_failedCheck (hb : d.modeBlocked t = 0) (hm : d.mode = Mode.config) {k : Nat}
    (hk : d.devLeValidate.leaveCheck = some k) : d.modeRequest t = (Status.state, d.devLeValidate.refuseMode 2 k) := by
  unfold modeRequest
  extract_lets code e
  refine (if_neg (not_not_intro hb)).trans ((if_pos hm).trans ?_)
  rw [show e.leaveCheck = some k from hk]

theorem modeAllowed_eq_false {m : Nat}
    (h : m = Mode.lockout ∨ m = Mode.boot ∨ (m = Mode.config ∧ t = Mode.run) ∨ (m = Mode.run ∧ t ≠ Mode.ready)) :
    modeAllowed m t = false := by
  rcases h with rfl | rfl | ⟨rfl, rfl⟩ | ⟨rfl, h⟩
  · rfl
  · rfl
  · rfl
  · exact beq_eq_false_iff_ne.mpr h

theorem ne_lockout_of_allowed {m : Nat} (h : modeAllowed m t = true) : m ≠ Mode.lockout := by
  rintro rfl
  cases h

/-! What a write of modes and faults does. -/

theorem written_modeReq (hs : d.standby = false) (t : Nat) : d.written org Obj.SYS_MODE_REQ old (.num t) = d.modeDue t := by
  rw [written_system (by decide) (by decide) (by decide), hookSystem, if_pos rfl, if_neg (Bool.eq_false_iff.mp hs), Int.toNat_natCast]

theorem written_release (hs : d.standby = false) (v : Int) : d.written org Obj.SYS_RELEASE old (.num v) = d.devRelease v := by
  rw [written_system (by decide) (by decide) (by decide), hookSystem, if_neg (by decide), if_pos rfl, if_neg (Bool.eq_false_iff.mp hs)]

theorem written_reset : d.written org Obj.SYS_RESET old (.num x) = d.devSysReset := by
  rw [written_system (by decide) (by decide) (by decide), hookSystem, if_neg (by decide), if_neg (by decide), if_pos rfl]

theorem written_configSave : d.written org Obj.SYS_CONFIG_SAVE old (.num x) = d.saveConfig := by
  rw [written_system (by decide) (by decide) (by decide), hookSystem, if_neg (by decide), if_neg (by decide), if_neg (by decide), if_pos rfl]

theorem written_firstClear : d.written org Obj.FM_FIRST_CLEAR old (.num x) = d.devFirstClear := by
  rw [written_system (by decide) (by decide) (by decide), hookSystem, if_neg (by decide), if_neg (by decide), if_neg (by decide),
    if_neg (by decide), if_pos rfl]

theorem written_ack : d.written org Obj.FM_ACK old (.num x) = d.devAck x.toNat := by
  rw [written_system (by decide) (by decide) (by decide), hookSystem, if_neg (by decide), if_neg (by decide), if_neg (by decide),
    if_neg (by decide), if_neg (by decide), if_pos rfl]

theorem releaseStatus_ok_iff (v : Int) : d.releaseStatus true v = Status.ok ↔
    v = d.get Obj.SYS_LOCKOUT_SEQ ∧ d.l4Cause = false ∧ d.mode = Mode.lockout ∧ d.on Obj.BW_STATE = false := by
  unfold releaseStatus
  by_cases hv : v = d.get Obj.SYS_LOCKOUT_SEQ <;> cases d.l4Cause <;> by_cases hm : d.mode = Mode.lockout <;>
    cases d.on Obj.BW_STATE <;> simp [hv, hm]

theorem saveConfig_of_no_held (h : d.held = []) : d.saveConfig
    = { d with host := { d.host with storedNum := (d.objs.filter fun x => d.storedKey x.1) ++ d.writtenDefaults,
                                     storedBytes := d.blobs.filter fun x => d.storedKey x.1, stored := true } } := by
  unfold saveConfig
  dsimp only
  rw [h]
  rfl

/-! The fault manager's own state, which its events leave as it is. -/

theorem fm_signal (e src : Nat) (d : Dev) : (d.signal e src).fm = d.fm := by
  obtain ⟨w, x, -, h⟩ := signal_eq e src d
  rw [h]
  rfl

theorem fm_setN (k n : Nat) (d : Dev) : (d.setN k n).fm = d.fm := rfl

theorem fm_fmEvent (e src : Nat) (d : Dev) : (d.fmEvent e src).fm = d.fm := by
  rw [fmEvent, signalAt, fm_signal, fm_setN]

theorem fm_foldl_setN (n : Nat) (cs : List Nat) (d : Dev) :
    (cs.foldl (fun d c => d.setN (Obj.CELL_DWELL c) n) d).fm = d.fm := by
  induction cs generalizing d with
  | nil => rfl
  | cons c cs ih => exact ih _

theorem fm_set (k : Nat) (v : Int) (d : Dev) : (d.set k v).fm = d.fm := rfl

theorem fm_armRefresh (a : Nat) (d : Dev) : (d.armRefresh a).fm = d.fm := by
  unfold armRefresh
  split
  extract_lets d1 d2 d3 d4 lim d5
  have h1 : d1.fm = d.fm := by simp only [d1, apply_ite Dev.fm, fm_set, ite_self]
  have h4 : d4.fm = d.fm := by simp only [d4, d3, d2, apply_ite Dev.fm, fm_set, fm_setN, ite_self, h1]
  have h5 : d5.fm = d.fm := by simp only [d5, apply_ite Dev.fm, fm_foldl_setN, ite_self, h4]
  simp only [apply_ite Dev.fm, fm_signal, h5, h1, ite_self]

theorem fm_fmRefresh (src : Nat) (d : Dev) : (d.fmRefresh src).fm = d.fm := by
  unfold fmRefresh
  extract_lets q lv arms oldLv oldArms d1 d2 d3 d4 d5
  have h5 : d5.fm = d.fm := by
    simp only [d5, d4, d3, d2, d1, apply_ite Dev.fm, fm_setN, fm_fmEvent, ite_self]
  simp only [apply_ite Dev.fm, fm_armRefresh, h5, ite_self]

/-- R433: an acknowledged record without its cause, not of level 4, becomes acknowledged and inactive; the others stay. -/
theorem queue_devAck {n : Nat} (h : n ≠ 0xFFFFFFFF) : (d.devAck n).fm.queue
    = d.fm.queue.map fun r =>
        if r.number = n ∧ r.cause = false ∧ r.level ≠ 4 then { r with acked := true, active := false } else r := by
  rw [devAck, if_neg h, ackOne, fm_fmRefresh]
  refine List.map_congr_left fun r _ => ?_
  simp only [Bool.and_eq_true, beq_iff_eq, Bool.not_eq_true', bne_iff_ne, and_assoc]
  rfl

theorem now96_setN (k n : Nat) (d : Dev) : (d.setN k n).now96 = d.now96 := rfl

theorem setMode_eq (m : Nat) (d : Dev) : d.setMode m
    = ((((((d.setN Obj.SYS_MODE m).set Obj.SYS_MODE_SINCE d.now96).fmEvent 151 m).storeRec 151 0 0 m 0 false).armRefresh
        0).armRefresh 1).healthRefresh := by
  unfold setMode
  dsimp only
  rw [now96_setN]

theorem modeDue_of_allowed (h : modeAllowed d.mode t = true) :
    d.modeDue t = ({ d with fm := { d.fm with requests := d.fm.requests.erase t } } : Dev).setMode t := by
  unfold modeDue
  exact (if_neg (ne_lockout_of_allowed h)).trans (if_neg (Bool.not_eq_false _ ▸ h))

end Dev

/-- Settles O26: the checks of a request in their order, and the rule of each written object. -/
theorem modeWrites : Obligations.ModeWrites := by
  refine ⟨?_, ?_⟩
  · intro d t said no
    refine ⟨fun hs => Dev.modeRequest_of_blocked (Dev.modeBlocked_of_standby hs) (by decide), fun hs => ⟨fun h =>
      Dev.modeRequest_of_blocked (Dev.modeBlocked_of_not_allowed hs (Dev.modeAllowed_eq_false h)) (by decide), fun h => ?_⟩⟩
    have hb := Dev.modeBlocked_of_allowed hs h
    refine ⟨fun ht hlv => ?_, fun ht hlv htb => ?_, fun ht hlv htb hdue => ?_, Dev.modeRequest_of_passed,
      fun h0 hm k hk => Dev.modeRequest_of_failedCheck h0 hm hk⟩
    · exact Dev.modeRequest_of_blocked (hb.trans (if_pos ⟨ht, hlv⟩)) (by decide)
    · exact Dev.modeRequest_of_blocked
        (hb.trans ((if_neg fun h => absurd h.2 (Nat.not_le.mpr hlv)).trans (if_pos ⟨ht, htb⟩))) (by decide)
    · exact Dev.modeRequest_of_blocked (hb.trans ((if_neg fun h => absurd h.2 (Nat.not_le.mpr hlv)).trans
        ((if_neg fun h => htb h.2).trans (if_pos ⟨ht, hdue⟩)))) (by decide)
  · intro d org old
    refine ⟨?_, ?_, Dev.written_reset, fun h => Dev.written_configSave.trans (Dev.saveConfig_of_no_held h),
      Dev.written_firstClear, ?_⟩
    · intro hs t e said moved made
      have hmade : made = d.modeDue t := Dev.written_modeReq hs t
      rw [hmade]
      refine ⟨fun hm => if_pos hm, fun hm ha => (if_neg hm).trans (if_pos ha), fun ha => ?_⟩
      exact (Dev.modeDue_of_allowed ha).trans (Dev.setMode_eq _ _)
    · intro hs v met
      rw [Dev.written_release hs, Dev.devRelease]
      exact ⟨fun h => if_pos ((Dev.releaseStatus_ok_iff v).mpr h), fun h => if_neg fun hok => h ((Dev.releaseStatus_ok_iff v).mp hok)⟩
    · intro n hn e
      show (d.written org Obj.FM_ACK old (.num n)).fm.queue = _
      rw [Dev.written_ack, Int.toNat_natCast, Dev.queue_devAck hn.ne]

end Sys2Proof.Machine

/-! What the writes of strands, the loop engine and its supervision do (R66, R73, R89, R101, R131, R145, R161, R167, R188). -/

namespace Sys2Proof.Machine

open Sys2Proof

namespace Dev

variable {d : Dev} {org : Origin} {k : Nat} {old : Val} {x : Int} {b : List Byte}

/-! Enumeration starts (R89). -/

/-- What a loop over the first numbers keeps, step by step. -/
theorem upTo_induction {α : Type} {P : Nat → α → Prop} {n : Nat} {f : Nat → α → α} {x : α} (h0 : P 0 x)
    (hs : ∀ i y, i < n → P i y → P (i + 1) (f i y)) : P n (upTo n f x) := by
  unfold upTo
  induction n with
  | zero => exact h0
  | succ n ih =>
    rw [List.range_succ, List.foldl_append]
    exact hs n _ n.lt_succ_self (ih fun i y hi => hs i y (hi.trans n.lt_succ_self))

/-- The first `i` strands have begun their enumeration, those with positions alone; the configuration is that of `d`. -/
def EnumStarted (d : Dev) (i : Nat) (e : Dev) : Prop :=
  e.cyc.enumOk = false ∧ (∀ k, k < 0x220002 ∨ (k < 0x280000 ∧ k % 256 ≠ 2) → e.getN k = d.getN k)
    ∧ ∀ s, s < i → (e.strand s).txn = none
        ∧ (e.strand s).enum = if s < d.strandCount ∧ 0 < d.positions s then .assign 0 else .idle

theorem EnumStarted.set {i : Nat} {e : Dev} (h : EnumStarted d i e) (hk : 0x220002 ≤ k) (hk' : 0x280000 ≤ k ∨ k % 256 = 2) :
    EnumStarted d i (e.set k 0) := by
  obtain ⟨hok, hget, hstrand⟩ := h
  exact ⟨hok, fun j hj => (getN_set_ne 0 (by omega)).trans (hget j hj), hstrand⟩

theorem EnumStarted.setStrand {i : Nat} {e : Dev} (h : EnumStarted d i e) {st : StrandSt} (htxn : st.txn = none)
    (henum : st.enum = if i < d.strandCount ∧ 0 < d.positions i then .assign 0 else .idle) :
    EnumStarted d (i + 1) (e.setStrand i st) := by
  obtain ⟨hok, hget, hstrand⟩ := h
  refine ⟨hok, hget, fun s hs => ?_⟩
  by_cases hsi : s = i
  · subst hsi
    rw [strand_setStrand_same]
    exact ⟨htxn, henum⟩
  · rw [strand_setStrand_ne st hsi]
    exact hstrand s (by omega)

theorem EnumStarted.foldl_refusal {i : Nat} (cs : List Nat) {e : Dev} (h : EnumStarted d i e) :
    EnumStarted d i (cs.foldl (fun d n => d.set (Obj.CELL_REFUSAL n) 0) e) := by
  induction cs generalizing e with
  | nil => exact h
  | cons c cs ih => exact ih (h.set (by unfold Obj.CELL_REFUSAL; omega) (by unfold Obj.CELL_REFUSAL; omega))

theorem startEnum_started (d : Dev) : ∃ e, EnumStarted d 32 e ∧ d.startEnum = e.setN Obj.STR_ENUM_STATE 1 := by
  refine ⟨_, ?_, rfl⟩
  refine upTo_induction ⟨rfl, fun _ _ => rfl, fun s hs => absurd hs s.not_lt_zero⟩ fun i e hi h => ?_
  have hcount : e.strandCount = d.strandCount := by
    unfold strandCount topology
    rw [h.2.1 _ (.inl (by decide))]
  have hpos : e.positions i = d.positions i := h.2.1 _ (by unfold Obj.STR_POSITIONS; omega)
  extract_lets st go e1
  have hgo : go = true ↔ i < d.strandCount ∧ 0 < d.positions i := by
    simp only [go, hcount, hpos, Bool.and_eq_true, decide_eq_true_eq, bne_iff_ne, Nat.pos_iff_ne_zero]
  have h1 : EnumStarted d (i + 1) e1 := h.setStrand rfl (by simp only [hgo])
  split
  · exact (h1.set (by unfold Obj.STR_FOUND; omega) (by unfold Obj.STR_FOUND; omega)).foldl_refusal _
  · exact h1

/-! What each written object does. -/

theorem written_enumCmd : d.written org Obj.STR_ENUM_CMD old (.num x) = d.startEnum := by
  rw [written_strandObject (by decide) (by decide), hookStrand, if_pos (by decide), if_pos (by decide)]

theorem written_mbxReq (s : Fin 32) : d.written org (Obj.STR_MBX_REQ s) old (.bytes b) = d.softRequest s b := by
  have hix : Obj.STR_MBX_REQ s / 256 = 0x2200 + s := by unfold Obj.STR_MBX_REQ; omega
  have hsub : Obj.STR_MBX_REQ s % 256 = 0x0A := by unfold Obj.STR_MBX_REQ; omega
  rw [written_strandBytes (by omega) (by omega), hix, hsub, hookStrand, if_neg (by omega), if_neg (by omega),
    if_pos (by omega), if_neg (by decide), if_pos rfl, Nat.add_sub_cancel_left]

theorem written_cellJoin (n : Fin 2048) : d.written org (Obj.CELL_JOIN n) old (.num x) = d.permitJoin n := by
  have hix : Obj.CELL_JOIN n / 256 = 0x2800 + n := by unfold Obj.CELL_JOIN; omega
  have hsub : Obj.CELL_JOIN n % 256 = 0x13 := by unfold Obj.CELL_JOIN; omega
  rw [written_strandObject (by omega) (by omega), hix, hsub, hookStrand, if_neg (by omega), if_neg (by omega),
    if_neg (by omega), if_pos (by omega), if_neg (by simp), if_pos rfl, Nat.add_sub_cancel_left]

theorem written_armEnable (a : Fin 2) :
    d.written org (Obj.MOD_ARM_ENABLE a) old (.num x) = (d.setModEng a { d.modEng a with written := true }).armRefresh a := by
  have hix : Obj.MOD_ARM_ENABLE a / 256 = 0x3010 + a := by unfold Obj.MOD_ARM_ENABLE; omega
  have hsub : Obj.MOD_ARM_ENABLE a % 256 = 1 := by unfold Obj.MOD_ARM_ENABLE; omega
  rw [written_loop (by omega) (by omega), hix, hsub, hookLoop, if_pos (by omega)]
  dsimp only
  rw [Nat.add_sub_cancel_left]

theorem written_leValidate : d.written org Obj.LE_VALIDATE old (.num x) = d.devLeValidate := by
  rw [written_loop (by decide) (by decide), hookLoop, if_neg (by decide), if_pos (by decide)]

theorem written_leReset (i : Fin 512) : d.written org (Obj.LE_RESET i) old (.num x) = d.devLeReset i := by
  have hix : Obj.LE_RESET i / 256 = 0x3A00 + i := by unfold Obj.LE_RESET; omega
  have hsub : Obj.LE_RESET i % 256 = 0x21 := by unfold Obj.LE_RESET; omega
  rw [written_loop (by omega) (by omega), hix, hsub, hookLoop, if_neg (by omega), if_neg (by unfold Obj.LE_VALIDATE; omega),
    if_pos (by omega)]
  dsimp only
  rw [if_pos rfl, Nat.add_sub_cancel_left]

theorem written_repClear (c : Fin 16) : d.written org (Obj.REP_CLEAR c) old (.num x) = d.repZero c := by
  have hix : Obj.REP_CLEAR c / 256 = 0x4100 + c := by unfold Obj.REP_CLEAR; omega
  have hsub : Obj.REP_CLEAR c % 256 = 5 := by unfold Obj.REP_CLEAR; omega
  rw [written_loop (by omega) (by omega), hix, hsub, hookLoop, if_neg (by omega), if_neg (by unfold Obj.LE_VALIDATE; omega),
    if_neg (by omega), if_neg (by unfold Obj.SUP_PEAK_CLEAR; omega), if_pos (by omega), if_pos rfl, Nat.add_sub_cancel_left]

theorem written_peakClear : d.written org Obj.SUP_PEAK_CLEAR old (.num x) = d.devPeakClear := by
  rw [written_loop (by decide) (by decide), hookLoop, if_neg (by decide), if_neg (by decide), if_neg (by decide),
    if_pos (by decide)]

theorem written_diagRun : d.written org Obj.DIAG_RUN old (.num x) = d.diagRunWritten := by
  rw [written_meas (by decide) (by decide), hookMeas, if_neg (by decide), if_neg (by decide), if_neg (by decide),
    if_pos (by decide)]

/-! The validation of the program publishes its result (R131, R161). -/

/-- The placement of the instances lies beyond the objects of the program. -/
theorem getN_foldl_placed (sch : List Placed) (hk : k < 0x3A0000) (d : Dev) :
    (sch.foldl (fun d x => (d.setN (Obj.LE_START x.1) x.2.2.1).setN (Obj.LE_PIPE x.1) x.2.1) d).getN k = d.getN k := by
  induction sch generalizing d with
  | nil => rfl
  | cons y sch ih =>
    rw [List.foldl_cons, ih, getN_setN_ne _ (by unfold Obj.LE_PIPE; omega), getN_setN_ne _ (by unfold Obj.LE_START; omega)]

theorem devLeValidate_published (d : Dev) :
    d.devLeValidate.getN Obj.LE_PROG_STATE = (if d.leInsts = [] then 0 else if d.leCheck.1 = 0 then 1 else 2)
      ∧ d.devLeValidate.getN Obj.LE_PROG_ERR = d.leCheck.1 ∧ d.devLeValidate.getN Obj.LE_PROG_ERR_INST = d.leCheck.2
      ∧ d.devLeValidate.getN Obj.LE_L_SCHED = lSched d.leSchedule := by
  unfold devLeValidate
  dsimp only
  refine ⟨?_, ?_, ?_, ?_⟩
  · rw [getN_foldl_placed _ (by decide), getN_setN_ne _ (by decide), getN_setN_ne _ (by decide), getN_setN_ne _ (by decide),
      getN_setN_ne _ (by decide), getN_setN_ne _ (by decide), getN_setN_same]
    simp only [List.isEmpty_iff]
  · rw [getN_foldl_placed _ (by decide), getN_setN_ne _ (by decide), getN_setN_ne _ (by decide), getN_setN_ne _ (by decide),
      getN_setN_ne _ (by decide), getN_setN_same]
  · rw [getN_foldl_placed _ (by decide), getN_setN_ne _ (by decide), getN_setN_ne _ (by decide), getN_setN_ne _ (by decide),
      getN_setN_same]
  · rw [getN_foldl_placed _ (by decide), getN_setN_ne _ (by decide), getN_setN_ne _ (by decide), getN_setN_same]

/-! A reset leaves the type of what it resets (R145). -/

theorem getN_signalAt_ne {a e src : Nat} (ha : k ≠ a) (hcount : k ≠ Obj.EVT_COUNT e) (hlast : k ≠ Obj.EVT_LAST e)
    (hsrc : k ≠ Obj.EVT_LAST_SRC e) (d : Dev) : (d.signalAt a e src).getN k = d.getN k := by
  rw [signalAt, signal_getN src _ hcount hlast hsrc, getN_setN_ne _ ha]

theorem getN_logPush (hk : 0x300000 ≤ k) (r : LogRec) (d : Dev) : (d.logPush r).getN k = d.getN k := by
  unfold logPush
  extract_lets n host1 d1 d2 host3
  have h2 : d2.getN k = d.getN k := getN_setN_ne (d := d1) _ (by unfold Obj.LOG_PENDING; omega)
  split
  · split
    · rw [getN_signalAt_ne (by unfold Obj.HOST_EVENT_SRC; omega) (by unfold Obj.EVT_COUNT; omega)
        (by unfold Obj.EVT_LAST; omega) (by unfold Obj.EVT_LAST_SRC; omega)]
      exact h2
    · exact h2
  · rw [getN_inc_ne (by unfold Obj.LOG_LOST; omega)]
    rfl

theorem getN_applyHeld (hk : 0x300000 ≤ k) (ks : List Nat) (hks : k ∉ ks) (d : Dev) : (d.applyHeld ks).getN k = d.getN k := by
  induction ks generalizing d with
  | nil => rfl
  | cons j ks ih =>
    obtain ⟨hj, hks⟩ := List.ne_and_not_mem_of_not_mem_cons hks
    unfold applyHeld
    split
    · exact ih hks d
    · rw [ih hks, logWrite, getN_logPush hk]
      unfold putVal
      split
      · exact getN_set_ne _ hj
      · rfl

theorem leType_initInst (i : Nat) (d : Dev) : (d.initInst i).leType i = d.leType i := by
  have hinit : Obj.LE_TYPE i ∉ initKeys i := by
    simp only [initKeys, List.mem_map, List.mem_range, not_exists, not_and]
    unfold Obj.LE_TYPE Obj.LE_INIT
    omega
  have hstate : ∀ (js : List Nat) (e : Dev), (∀ j ∈ js, j < 4) →
      (js.foldl (fun d j => d.set (Obj.LE_STATE i j) (d.get (Obj.LE_INIT i j))) e).getN (Obj.LE_TYPE i)
        = e.getN (Obj.LE_TYPE i) := by
    intro js
    induction js with
    | nil => exact fun _ _ => rfl
    | cons j js ih =>
      intro e hjs
      have hj := hjs j List.mem_cons_self
      rw [List.foldl_cons, ih _ fun j hj => hjs j (List.mem_cons_of_mem _ hj),
        getN_set_ne _ (by unfold Obj.LE_TYPE Obj.LE_STATE; omega)]
  unfold initInst leType
  dsimp only
  rw [setBit, getN_setN_ne _ (by unfold Obj.LE_TYPE Obj.LE_FLAGS; omega)]
  show Dev.getN (List.foldl _ _ _) _ = _
  rw [hstate _ _ fun j hj => List.mem_range.mp hj, getN_applyHeld (by unfold Obj.LE_TYPE; omega) _ hinit]

theorem devLeReset_of_other {i : Nat} (h : d.leType i ≠ 0x1E) :
    d.devLeReset i = { d.initInst i with loop := { (d.initInst i).loop with resets := (d.initInst i).loop.resets ++ [i] } } := by
  unfold devLeReset
  dsimp only
  rw [if_neg (by rw [leType_initInst]; exact h)]

end Dev

/-- Settles O28: the rule of each written object; `startEnum_started` is the one loop. -/
theorem strandAndLoopWrites : Obligations.StrandAndLoopWrites := by
  intro d org old
  refine ⟨?_, ?_, ?_, ?_, ?_, ?_, ?_, Dev.written_peakClear, fun v => Dev.written_diagRun⟩
  · rw [Dev.written_enumCmd]
    obtain ⟨e, ⟨hok, -, hstrand⟩, he⟩ := Dev.startEnum_started d
    rw [he]
    exact ⟨Dev.getN_setN_same _, hok, fun s => hstrand s s.isLt⟩
  · exact fun s b _ => Dev.written_mbxReq s
  · exact fun n hturn => (Dev.written_cellJoin n).trans (if_pos hturn)
  · exact fun a v => Dev.written_armEnable a
  · rw [Dev.written_leValidate]
    exact ⟨rfl, Dev.devLeValidate_published d⟩
  · intro i htype
    rw [Dev.written_leReset, Dev.devLeReset_of_other htype]
    exact ⟨rfl, rfl⟩
  · exact fun c => Dev.written_repClear c

end Sys2Proof.Machine

/-! What the writes of Tidepool, the travelling waves, the tasks and the sequencer do (R221, R224, R229, R233, R263, R294,
R295). -/

namespace Sys2Proof.Machine

open Sys2Proof

namespace Dev

variable {d : Dev} {org : Origin} {k : Nat} {old : Val} {x : Int} {b : List Byte}

/-! Tidepool and the travelling waves. -/

theorem written_tpCmd (p : Fin 4) : d.written org (Obj.TP_CMD p) old (.num x)
    = if x.toNat = 1 then d.devTpArm p else if x.toNat = 2 then d.devTpStop p else d.devTpForce p := by
  have hix : Obj.TP_CMD p / 256 = 0x4C10 + p := by unfold Obj.TP_CMD; omega
  have hsub : Obj.TP_CMD p % 256 = 0x0A := by unfold Obj.TP_CMD; omega
  rw [written_tide (by omega) (by omega), hix, hsub, hookTide, if_neg (by omega), if_pos (by omega)]
  dsimp only
  rw [if_neg (by decide), if_pos rfl, Nat.add_sub_cancel_left]

theorem written_tpRelease (p : Fin 4) :
    d.written org (Obj.TP_RELEASE p) old (.num x) = d.devTpRelease p x.toNat := by
  have hix : Obj.TP_RELEASE p / 256 = 0x4C44 + p := by unfold Obj.TP_RELEASE; omega
  rw [written_tide (by omega) (by omega), hix, hookTide, if_neg (by omega), if_neg (by omega), if_neg (by omega),
    if_pos (by omega), Nat.add_sub_cancel_left]

theorem written_twRemoteIn (l : Fin 4) :
    d.written org (Obj.TW_REMOTE_IN l) old (.bytes b) = d.devTwRemoteIn l b := by
  have hix : Obj.TW_REMOTE_IN l / 256 = 0x4E00 + l := by unfold Obj.TW_REMOTE_IN; omega
  have hsub : Obj.TW_REMOTE_IN l % 256 = 0x0E := by unfold Obj.TW_REMOTE_IN; omega
  rw [written_tideBytes (by omega) (by omega), hix, hsub, hookTide, if_neg (by omega), if_neg (by omega), if_neg (by omega),
    if_neg (by omega), if_neg (by omega), if_pos (by omega), Nat.add_sub_cancel_left]

theorem devTpArm_of_free {p s : Nat} (hok : d.tpArmStatus p = 0) (hfree : d.tpFreeSlot p = some s) :
    d.devTpArm p = (d.setPool p { d.pool p with post := d.getN (Obj.TP_POST p), force := false, recent := [] }).tpTake p s := by
  rw [devTpArm, if_pos hok, hfree]

/-- The state of a pool is not its record slots. -/
theorem getN_tpState_setPool (p q : Nat) (y : TpPool) (d : Dev) :
    (d.setPool q y).getN (Obj.TP_STATE p) = d.getN (Obj.TP_STATE p) := by
  unfold setPool
  extract_lets tide e
  exact (getN_setN_ne (d := e) _ (by unfold Obj.TP_STATE Obj.TP_SLOT_FULL; omega)).trans rfl

theorem devTpRelease_of_unlocked {p s : Nat} (hrec : (d.pool p).recs.any (·.1 = s) = true) (hlock : d.tpLocked p s = false)
    (hfull : d.getN (Obj.TP_STATE p) ≠ TpState.full) :
    d.devTpRelease p s = d.setPool p { d.pool p with recs := SMap.del (d.pool p).recs s } := by
  unfold devTpRelease
  extract_lets y e
  rw [if_pos ⟨hrec, hlock⟩, if_neg]
  rintro ⟨h, -⟩
  exact hfull ((getN_tpState_setPool p p _ d).symm.trans h)

/-! The tasks. -/

theorem written_taskEnable (t : Fin 960) : d.written org (Obj.TASK_ENABLE t) old (.num x) = d.taskEnabled t := by
  have hix : Obj.TASK_ENABLE t / 256 = 0x5400 + t := by unfold Obj.TASK_ENABLE; omega
  have hsub : Obj.TASK_ENABLE t % 256 = 1 := by unfold Obj.TASK_ENABLE; omega
  rw [written_tasks (by omega) (by omega), hix, hsub, hookTasks, if_pos (by omega), if_pos rfl, Nat.add_sub_cancel_left]

section TaskEnabled

variable {t : Nat} (hon : d.on (Obj.TASK_ENABLE t) = true)

include hon in
theorem taskEnabled_of_disabled (h : d.taskState t = TaskState.disabled) : d.taskEnabled t
    = ((d.setN (Obj.TASK_STATE t) TaskState.waiting).setN (Obj.TASK_DEP t) (d.getN (Obj.TASK_DEP_INIT t))).armEnabled t := by
  rw [taskEnabled, if_pos hon, if_pos h]

include hon in
theorem taskEnabled_of_ending (h : d.taskState t ≠ TaskState.disabled) (hoff : (d.task t).off = true) : d.taskEnabled t
    = ((d.setTask t { d.task t with off := false }).setN (Obj.TASK_DEP t) (d.getN (Obj.TASK_DEP_INIT t))).armEnabled t := by
  rw [taskEnabled, if_pos hon, if_neg h]
  exact if_pos hoff

variable (hoff : d.on (Obj.TASK_ENABLE t) = false)
include hoff

theorem taskEnabled_off_of_running (h : d.taskState t = TaskState.running) :
    d.taskEnabled t = d.setTask t { d.task t with off := true, pend := none } := by
  rw [taskEnabled, if_neg (Bool.eq_false_iff.mp hoff), if_neg (by rw [h]; decide), if_pos h]

theorem taskEnabled_off_of_idle (h : d.taskState t ≠ TaskState.disabled) (hrun : d.taskState t ≠ TaskState.running) :
    d.taskEnabled t
      = ((d.unqueue t).setTask t { d.task t with pend := none }).setN (Obj.TASK_STATE t) TaskState.disabled := by
  rw [taskEnabled, if_neg (Bool.eq_false_iff.mp hoff), if_neg h, if_neg hrun]

end TaskEnabled

/-! What the scan's task leaves of the sequencer. -/

/-- The sequencer's own state and every object of subindex 1, its state and the enables of the tasks among them. -/
def SameSeq (d e : Dev) : Prop := e.seq = d.seq ∧ ∀ k, k % 256 = 1 → e.getN k = d.getN k

namespace SameSeq

variable {e : Dev}

theorem refl (d : Dev) : SameSeq d d := ⟨rfl, fun _ _ => rfl⟩

theorem setN (h : SameSeq d e) {n : Nat} (hk : k % 256 ≠ 1) : SameSeq d (e.setN k n) :=
  ⟨h.1, fun j hj => (getN_setN_ne n (by rintro rfl; exact hk hj)).trans (h.2 j hj)⟩

theorem setTask (h : SameSeq d e) {t : Nat} {y : TaskSt} : SameSeq d (e.setTask t y) := h

theorem setFifo (h : SameSeq d e) {st : Nat} {l : List Nat} : SameSeq d (e.setFifo st l) := by
  unfold Dev.setFifo
  exact setN h (by unfold Obj.STALL_READY; omega)

theorem foldl {α : Type} {g : Dev → α → Dev} (hg : ∀ e y, SameSeq d e → SameSeq d (g e y)) (l : List α) (h : SameSeq d e) :
    SameSeq d (l.foldl g e) := by
  induction l generalizing e with
  | nil => exact h
  | cons y l ih => exact ih (hg e y h)

theorem unqueue (h : SameSeq d e) {t : Nat} : SameSeq d (e.unqueue t) := by
  unfold Dev.unqueue
  refine foldl (fun e c h => ?_) _ h.setFifo
  split
  · exact h
  · exact h

theorem armEnabled (h : SameSeq d e) {t : Nat} : SameSeq d (e.armEnabled t) := h.setTask

theorem taskEnabled (h : SameSeq d e) {t : Nat} : SameSeq d (e.taskEnabled t) := by
  have hstate : Obj.TASK_STATE t % 256 ≠ 1 := by unfold Obj.TASK_STATE; omega
  have hdep : Obj.TASK_DEP t % 256 ≠ 1 := by unfold Obj.TASK_DEP; omega
  unfold Dev.taskEnabled
  extract_lets st y
  split
  · split
    · exact ((h.setN hstate).setN hdep).armEnabled
    · split
      · exact (h.setTask.setN hdep).armEnabled
      · exact h
  · split
    · exact h
    · split
      · exact h.setTask
      · exact h.unqueue.setTask.setN hstate

end SameSeq

theorem seq_setN (k n : Nat) (d : Dev) : (d.setN k n).seq = d.seq := rfl

theorem seq_seqInstall (p : SeqProg) (d : Dev) : (d.seqInstall p).seq = d.seq := by
  unfold seqInstall
  extract_lets c e1
  unfold seqTask
  extract_lets e2 e3
  rw [seq_setN, seq_setN, seq_setN]
  show ((e2.setN _ _).setN _ _).seq = _
  rw [seq_setN, seq_setN]
  show ((e1.setN _ _).setN _ _).seq = _
  rw [seq_setN, seq_setN]
  show ((d.setN _ _).setN _ _).seq = _
  rw [seq_setN, seq_setN]

theorem getN_seqState_seqInstall (p : SeqProg) (d : Dev) : (d.seqInstall p).getN Obj.SEQ_STATE = d.getN Obj.SEQ_STATE := by
  unfold seqInstall
  extract_lets c e1
  unfold seqTask
  extract_lets e2 e3
  have h1 : e1.getN Obj.SEQ_STATE = d.getN Obj.SEQ_STATE :=
    (getN_setN_ne c (by decide)).trans (getN_setN_ne p.version (by decide))
  have h2 : e2.getN Obj.SEQ_STATE = e1.getN Obj.SEQ_STATE :=
    (getN_setN_ne _ (by decide)).trans (getN_setN_ne c (by decide))
  have h3 : e3.getN Obj.SEQ_STATE = e2.getN Obj.SEQ_STATE :=
    (getN_setN_ne _ (by decide)).trans (getN_setN_ne _ (by decide))
  rw [getN_setN_ne _ (by decide), getN_setN_ne _ (by decide), getN_setN_ne _ (by decide), h3, h2, h1]

/-! The commands of the sequencer. -/

theorem written_seqCmd : d.written org Obj.SEQ_CMD old (.num x)
    = if x.toNat = 1 then d.devSeqValidate else if x.toNat = 2 then d.devSeqStart
      else if x.toNat = 3 then d.devSeqStop else d.devSeqExchange := by
  rw [written_tasks (by decide) (by decide), hookTasks, if_neg (by decide), if_neg (by decide), if_neg (by decide),
    if_pos (by decide)]

theorem devSeqValidate_of_failed (h : (d.validateImage d.seq.staged).1 ≠ 0) : d.devSeqValidate
    = ((d.setN Obj.SEQ_IMG_ERR (d.validateImage d.seq.staged).1).setN Obj.SEQ_IMG_ERR_INST
        (d.validateImage d.seq.staged).2).setSeq { d.seq with valid := none } := by
  unfold devSeqValidate
  exact if_neg h

theorem getN_seqState_results (e i : Nat) (d : Dev) :
    ((d.setN Obj.SEQ_IMG_ERR e).setN Obj.SEQ_IMG_ERR_INST i).getN Obj.SEQ_STATE = d.getN Obj.SEQ_STATE := by
  rw [getN_setN_ne _ (by decide), getN_setN_ne _ (by decide)]

theorem getN_setSeq (y : SeqSt) (k : Nat) (d : Dev) : (d.setSeq y).getN k = d.getN k := rfl

theorem devSeqValidate_of_passed (h : (d.validateImage d.seq.staged).1 = 0) : d.devSeqValidate
    = if d.getN Obj.SEQ_STATE = 0 then
        (((d.setN Obj.SEQ_IMG_ERR (d.validateImage d.seq.staged).1).setN Obj.SEQ_IMG_ERR_INST
          (d.validateImage d.seq.staged).2).setSeq { d.seq with valid := some (parseProg d.seq.staged) }).setN Obj.SEQ_STATE 1
      else ((d.setN Obj.SEQ_IMG_ERR (d.validateImage d.seq.staged).1).setN Obj.SEQ_IMG_ERR_INST
          (d.validateImage d.seq.staged).2).setSeq { d.seq with valid := some (parseProg d.seq.staged) } := by
  unfold devSeqValidate
  refine (if_pos h).trans ?_
  dsimp only
  rw [getN_setSeq, getN_seqState_results]
  rfl

theorem devSeqStart_installs {p : SeqProg} (h : d.seq.valid = some p) :
    d.devSeqStart.seq.prog = p ∧ d.devSeqStart.seq.data = (p.insts.map fun i => (i.id, seqFresh i 0))
      ∧ d.devSeqStart.seq.tx = [] ∧ d.devSeqStart.getN Obj.SEQ_STATE = 2 := by
  unfold devSeqStart
  rw [h]
  dsimp -zeta only
  extract_lets e1 e2 seq0 e3 e4
  obtain ⟨hseq, hget⟩ := (SameSeq.refl (e4.seqInstall p)).taskEnabled (t := 960)
  have hseq : ((e4.seqInstall p).taskEnabled 960).seq = e3.seq := hseq.trans (seq_seqInstall p e4)
  refine ⟨?_, ?_, ?_, ?_⟩
  · rw [hseq]; rfl
  · rw [hseq]; rfl
  · rw [hseq]; rfl
  · rw [hget _ (by decide), getN_seqState_seqInstall, getN_setN_same]

theorem devSeqStop_ends (d : Dev) : d.devSeqStop.seq.tx = [] ∧ d.devSeqStop.getN Obj.SEQ_STATE = 1
    ∧ d.devSeqStop.getN (Obj.TASK_ENABLE 960) = 0 := by
  unfold devSeqStop
  extract_lets e1 e2 seq0 e3
  obtain ⟨hseq, hget⟩ := (SameSeq.refl (e3.setN (Obj.TASK_ENABLE 960) 0)).taskEnabled (t := 960)
  refine ⟨?_, ?_, ?_⟩
  · rw [hseq]; rfl
  · rw [hget _ (by decide), getN_setN_ne _ (by decide), getN_setN_same]
  · rw [hget _ (by decide), getN_setN_same]

theorem devSeqExchange_installs {p : SeqProg} (h : d.seq.valid = some p) :
    d.devSeqExchange.seq.prog = p ∧ d.devSeqExchange.seq.swapped = true
      ∧ d.devSeqExchange.seq.data.map (·.1) = p.insts.map (·.id) := by
  unfold devSeqExchange
  rw [h]
  refine ⟨rfl, rfl, ?_⟩
  refine (List.map_map).trans (List.map_congr_left fun i _ => ?_)
  dsimp only [Function.comp_apply]
  split <;> rfl

end Dev

/-- Settles O29: the rule of each written object, and what the scan's task leaves of the sequencer (`SameSeq`). -/
theorem tideTaskAndSequencerWrites : Obligations.TideTaskAndSequencerWrites := by
  intro d org old
  refine ⟨?_, ?_, ?_, ?_, ?_, ?_, ?_⟩
  · intro p y st
    refine ⟨fun s hok hfree => (Dev.written_tpCmd p).trans (Dev.devTpArm_of_free hok hfree),
      fun hidle hdone => (Dev.written_tpCmd p).trans (if_neg (not_or.mpr ⟨hidle, hdone⟩)),
      fun hst => (Dev.written_tpCmd p).trans (if_pos hst), fun s hrec hlock hfull => ?_⟩
    rw [Dev.written_tpRelease, Int.toNat_natCast]
    exact Dev.devTpRelease_of_unlocked hrec hlock hfull
  · intro l b hon hlen hbad
    rw [Dev.written_twRemoteIn, Dev.devTwRemoteIn, if_neg (by rw [hon, hlen]; decide), if_pos hbad]
  · intro t st y
    simp only [Dev.written_taskEnable]
    exact ⟨Dev.taskEnabled_of_disabled, Dev.taskEnabled_of_ending, Dev.taskEnabled_off_of_running,
      Dev.taskEnabled_off_of_idle⟩
  · intro v e y
    have he : e = d.devSeqValidate := Dev.written_seqCmd
    rw [he]
    exact ⟨Dev.devSeqValidate_of_failed, fun h hst => (Dev.devSeqValidate_of_passed h).trans (if_neg hst),
      fun h hst => (Dev.devSeqValidate_of_passed h).trans (if_pos hst)⟩
  · intro p hp e
    have he : e = d.devSeqStart := Dev.written_seqCmd
    rw [he]
    exact Dev.devSeqStart_installs hp
  · intro e
    have he : e = d.devSeqStop := Dev.written_seqCmd
    rw [he]
    exact Dev.devSeqStop_ends d
  · intro p hp e
    have he : e = d.devSeqExchange := Dev.written_seqCmd
    rw [he]
    exact Dev.devSeqExchange_installs hp

end Sys2Proof.Machine

/-! What the writes of time, host access and Breakwater do (R196, R202, R213, R309, R311, R313, R367, R373, R374). -/

namespace Sys2Proof.Machine

open Sys2Proof

namespace Dev

variable {d : Dev} {org : Origin} {k : Nat} {old : Val} {x : Int}

/-! Time. -/

theorem written_addendSet : d.written org Obj.TB_ADDEND_SET old (.num x) = d.devAddendSet x := by
  rw [written_time (by decide) (by decide), hookTime, if_pos (by decide)]

theorem written_tbStep : d.written org Obj.TB_STEP old (.num x) = afterStep d (d.devPhaseStep x false) := by
  rw [written_time (by decide) (by decide), hookTime, if_neg (by decide), if_pos (by decide)]

theorem written_rtcSet : d.written org Obj.RTC_SET old (.num x) = afterStep d (d.devRtcSet x) := by
  rw [written_time (by decide) (by decide), hookTime, if_neg (by decide), if_neg (by decide), if_pos (by decide)]

/-- R196: a software step that is made leaves one fewer that waits, and an INVALID time base in FREERUN. -/
theorem devPhaseStep_software (hm : d.mode ≠ Mode.run) (v : Int) : d.devPhaseStep v false
    = (if (d.makeStep v 0xFFFF).getN Obj.TB_STATE = 0 then
        ((d.makeStep v 0xFFFF).setPtp { (d.makeStep v 0xFFFF).ptp with
          softDue := (d.makeStep v 0xFFFF).ptp.softDue - 1 }).setTbState TbState.freerun
      else (d.makeStep v 0xFFFF).setPtp { (d.makeStep v 0xFFFF).ptp with
        softDue := (d.makeStep v 0xFFFF).ptp.softDue - 1 }).stepPending := by
  have htb : ∀ (y : PtpSt) (e : Dev), (e.setPtp y).tbState = e.getN Obj.TB_STATE := fun _ _ => rfl
  unfold devPhaseStep
  rw [if_neg hm]
  dsimp only
  rw [if_neg Bool.false_ne_true, if_neg Bool.false_ne_true, htb]
  simp only [true_and]

/-! Host access. -/

theorem written_rawTxTail (n : Nat) : d.written org Obj.HOST_RAW_TX_TAIL old (.num n)
    = { d with host := { d.host with txTail := some n } } := by
  rw [written_host (by decide), hookHost, if_neg (by decide), if_pos (by decide), Int.toNat_natCast]

theorem written_fwActivate : d.written org Obj.FW_ACTIVATE old (.num x) = { d with host := { d.host with fwDue := true } } := by
  rw [written_host (by decide), hookHost, if_neg (by decide), if_neg (by decide), if_neg (by decide), if_neg (by decide),
    if_neg (by decide), if_pos (by decide)]

theorem written_debugUnlock : d.written org Obj.SEC_DEBUG_UNLOCK old (.num x) = d.debugUnlock org := by
  rw [written_host (by decide), hookHost, if_neg (by decide), if_neg (by decide), if_neg (by decide), if_pos (by decide)]

/-! Breakwater. -/

theorem written_lor : d.written org Obj.BW_LOR old (.num x) = d.devLor x := by
  rw [written_safety (by decide) (by decide), hookSafety, if_pos rfl]

theorem written_bwTest : d.written org Obj.BW_TEST old (.num x) = d.devBwTest x.toNat := by
  rw [written_safety (by decide) (by decide), hookSafety, if_neg (by decide), if_pos rfl]

theorem written_setActivate : d.written org Obj.BW_SET_ACTIVATE old (.num x) = d.devSetActivate := by
  rw [written_safety (by decide) (by decide), hookSafety, if_neg (by decide), if_neg (by decide), if_pos rfl]

theorem lorStatus_ok_iff (v : Int) : d.lorStatus true v = Status.ok ↔
    v = d.get Obj.BW_LOR_SEQ ∧ d.getN Obj.BW_CAUSES = 0 ∧ d.on Obj.BW_STATE = true
      ∧ (d.on Obj.BW_LOR_STRAP = true → d.on Obj.BW_LOR_ARMED = true) := by
  unfold lorStatus
  by_cases hv : v = d.get Obj.BW_LOR_SEQ <;> by_cases hc : d.getN Obj.BW_CAUSES = 0 <;> cases d.on Obj.BW_STATE <;>
    cases d.on Obj.BW_LOR_STRAP <;> cases d.on Obj.BW_LOR_ARMED <;> simp [hv, hc]

/-- The pins and the health that follow the latch are not the mode. -/
theorem mode_bwOutputs (d : Dev) : d.bwOutputs.mode = d.mode := by
  unfold bwOutputs
  extract_lets inj e1 pins e2
  have h1 : e1.mode = d.mode := by
    show Dev.mode (if _ then _ else _) = _
    split
    · rfl
    · exact getN_set_ne (d := d) _ (by decide)
  have h2 : e2.mode = e1.mode := by
    show Dev.mode (if _ then _ else _) = _
    split
    · rfl
    · exact getN_setN_ne (d := e1) _ (by decide)
  unfold healthRefresh
  extract_lets h
  split
  · exact h2.trans h1
  · exact (getN_setN_ne (d := e2) (j := Obj.SYS_MODE) _ (by decide)).trans (h2.trans h1)

theorem mode_lorDone (d : Dev) : d.lorDone.mode = d.mode := by
  unfold lorDone
  extract_lets e1 e2
  have h1 : e1.mode = d.mode := by
    show (Dev.bwClear _).mode = _
    unfold bwClear
    extract_lets e3 bw0
    have h3 : e3.getN Obj.SYS_MODE = d.getN Obj.SYS_MODE := by
      rw [show e3 = ((d.set Obj.BW_LOR_ARMED 0).set Obj.BW_STATE 0).set Obj.BW_LATCHED 0 from rfl,
        getN_set_ne _ (by decide), getN_set_ne _ (by decide), getN_set_ne _ (by decide)]
    rw [mode_bwOutputs]
    exact h3
  exact (getN_signalAt_ne (by decide) (by decide) (by decide) (by decide) e1).trans h1

theorem devLor_refused {v : Int} (h : d.lorStatus true v ≠ Status.ok) : d.devLor v = d.lorRefused := if_pos h

theorem devLor_done {v : Int} (h : d.lorStatus true v = Status.ok) (hm : d.mode ≠ Mode.lockout) : d.devLor v = d.lorDone := by
  unfold devLor
  refine (if_neg (not_not_intro h)).trans (if_neg ?_)
  rw [mode_lorDone]
  exact fun hl => hm hl.1

/-- The cause a number of `BW_TEST` names: a channel, or the trip input of pin A or pin B. -/
theorem bwForce_eq {v i : Nat} (hi : i = if v < 8 then v else 8 + (v - 8) % 4) (e : Dev) : e.bwForce v
    = if v < 8 then e.bwLatch (2 ^ v)
      else ((e.setN (Obj.TRIPIN_STATE ((v - 8) % 4)) (e.getN (Obj.TRIPIN_STATE ((v - 8) % 4)) ||| (if v < 12 then 1 else 2))).bwLatch
        (2 ^ i)).setN (Obj.TRIPIN_STATE ((v - 8) % 4)) (e.getN (Obj.TRIPIN_STATE ((v - 8) % 4))) := by
  unfold bwForce
  split
  · rfl
  · next hv => rw [hi, if_neg hv]

end Dev

/-- Settles O30: the rule of each written object, and the conditions of a release that stand at the boundary. -/
theorem timeHostAndSafetyWrites : Obligations.TimeHostAndSafetyWrites := by
  intro d org old
  refine ⟨fun v => Dev.written_addendSet, ?_, Dev.written_rawTxTail, Dev.written_fwActivate, Dev.written_debugUnlock, ?_,
    Dev.written_setActivate, ?_⟩
  · intro hm stepped v
    refine ⟨Dev.written_tbStep.trans (congrArg _ (Dev.devPhaseStep_software hm v)), ?_⟩
    rw [Dev.written_rtcSet, Dev.devRtcSet]
    rw [Dev.devPhaseStep_software hm]
  · intro v met
    rw [Dev.written_lor]
    exact ⟨fun h => Dev.devLor_refused fun hok => h ((Dev.lorStatus_ok_iff v).mp hok),
      fun h hm => Dev.devLor_done ((Dev.lorStatus_ok_iff v).mpr h) hm⟩
  · intro v i forced
    rw [Dev.written_bwTest, Int.toNat_natCast]
    have hforced : ∀ e, forced e = e.bwForce v := fun e => (Dev.bwForce_eq rfl e).symm
    rw [hforced, hforced, Dev.devBwTest]
    refine ⟨fun hon hst => ?_, fun hon hst => ?_, fun hoff => if_pos hoff⟩
    · exact (if_neg (by rw [hon]; decide)).trans (if_pos hst)
    · exact (if_neg (by rw [hon]; decide)).trans (if_neg (by rw [hst]; decide))

end Sys2Proof.Machine

/-! What the writes of field I/O, PWM and CAN do (R385, R386, R388–R390, R397–R400, R412, R415). -/

namespace Sys2Proof.Machine

open Sys2Proof

namespace Dev

variable {d : Dev} {org : Origin} {k : Nat} {old : Val} {x : Int} {b : List Byte}

/-! One bit of a number. -/

/-- A bit taken out leaves the bits above it and below it. -/
theorem sub_bit_eq (y b : Nat) :
    y - (if y.testBit b then 2 ^ b else 0) = 2 ^ b * (2 * (y / 2 ^ b / 2)) + y % 2 ^ b := by
  have hy := Nat.div_add_mod y (2 ^ b)
  have hq := Nat.div_add_mod (y / 2 ^ b) 2
  rw [Nat.testBit_eq_decide_div_mod_eq]
  rcases Nat.mod_two_eq_zero_or_one (y / 2 ^ b) with h | h
  · rw [h] at hq
    rw [h, if_neg (by decide), Nat.sub_zero, show 2 * (y / 2 ^ b / 2) = y / 2 ^ b by omega, hy]
  · rw [h] at hq
    rw [h, if_pos (by decide)]
    have hmul : 2 ^ b * (y / 2 ^ b) = 2 ^ b * (2 * (y / 2 ^ b / 2)) + 2 ^ b := by
      rw [← Nat.mul_succ, show (2 * (y / 2 ^ b / 2)).succ = y / 2 ^ b by omega]
    omega

theorem bit_setBit (k b t : Nat) (v : Bool) (d : Dev) :
    (d.setBit k b v).bit k t = if t = b then v else d.bit k t := by
  have hsplit : ∀ v : Bool, (if v then d.getN k - (if (d.getN k).testBit b then 2 ^ b else 0) + 2 ^ b
      else d.getN k - (if (d.getN k).testBit b then 2 ^ b else 0))
        = 2 ^ b * (2 * (d.getN k / 2 ^ b / 2) + v.toNat) + d.getN k % 2 ^ b := by
    intro v
    rw [sub_bit_eq]
    cases v
    · rfl
    · rw [if_pos rfl, Bool.toNat_true, Nat.mul_succ]
      omega
  have hlt : d.getN k % 2 ^ b < 2 ^ b := Nat.mod_lt _ (Nat.two_pow_pos b)
  have hd : d.bit k t = if t < b then (d.getN k % 2 ^ b).testBit t else (d.getN k / 2 ^ b).testBit (t - b) := by
    rw [← Nat.testBit_two_pow_mul_add _ hlt, Nat.div_add_mod]
    rfl
  unfold setBit
  extract_lets y cleared
  rw [bit, getN_setN_same]
  show Nat.testBit (if v = true then cleared + 2 ^ b else cleared) t = _
  rw [hsplit v, Nat.testBit_two_pow_mul_add _ hlt, hd]
  by_cases hlow : t < b
  · rw [if_pos hlow, if_pos hlow, if_neg hlow.ne]
  · rw [if_neg hlow, if_neg hlow]
    rcases Nat.eq_or_lt_of_not_lt hlow with rfl | hhigh
    · rw [if_pos rfl, Nat.sub_self]
      cases v <;> simp
    · obtain ⟨m, rfl⟩ := Nat.exists_eq_add_of_lt hhigh
      rw [if_neg (by omega), show b + m + 1 - b = m + 1 by omega, Nat.testBit_succ, Nat.testBit_succ]
      congr 1
      cases v <;> simp only [Bool.toNat_false, Bool.toNat_true] <;> omega

/-! Field channels. -/

theorem written_fioOut : d.written org Obj.FIO_OUT old (.num x) = d.fioDrive := by
  rw [written_field (by decide) (by decide), hookField, if_pos (by decide)]

theorem written_fioOutEnable : d.written org Obj.FIO_OUT_ENABLE old (.num x) = d.fioEnabled := by
  rw [written_field (by decide) (by decide), hookField, if_neg (by decide), if_pos (by decide)]

theorem written_appKick : d.written org Obj.FIO_APP_KICK old (.num x) = d.devAppKick := by
  rw [written_field (by decide) (by decide), hookField, if_neg (by decide), if_neg (by decide), if_pos (by decide)]

theorem written_survey : d.written org Obj.FIO_SURVEY old (.num x) = d.devSurveyStart := by
  rw [written_field (by decide) (by decide), hookField, if_neg (by decide), if_neg (by decide), if_neg (by decide),
    if_pos (by decide)]

theorem tm_setN (k n : Nat) (d : Dev) : (d.setN k n).tm = d.tm := rfl

theorem tm_setBit (k b : Nat) (v : Bool) (d : Dev) : (d.setBit k b v).tm = d.tm := rfl

theorem tm_foldl_loadClass (cs : List Nat) (d : Dev) :
    (cs.foldl (fun d c => d.setN (Obj.FIO_LOAD_CLASS c) 0) d).tm = d.tm := by
  induction cs generalizing d with
  | nil => rfl
  | cons c cs ih => exact ih _

theorem devSurveyStart_of_next {e : Dev} {c : Nat}
    (he : (((List.range 16).foldl (fun d c => d.setN (Obj.FIO_LOAD_CLASS c) 0) d).setBit Obj.FIO_STATUS FioBit.survey true).setN
      Obj.FIO_SURVEY_STATE 1 = e) (hc : e.surveyNext 0 = some c) :
    d.devSurveyStart = e.setFio { e.fio with survey := some c, surveyAt := d.tm.mono } := by
  have htm : e.tm = d.tm := by
    rw [← he, tm_setN, tm_setBit, tm_foldl_loadClass]
  unfold devSurveyStart
  dsimp only
  rw [he, hc, htm]

/-! PWM. -/

theorem written_pwmEnable : d.written org Obj.PWM_ENABLE old (.num x) = d.pwmEnabled := by
  rw [written_field (by decide) (by decide), hookField, if_neg (by decide), if_neg (by decide), if_neg (by decide),
    if_neg (by decide), if_pos (by decide)]

theorem written_tripClear : d.written org Obj.PWM_TRIP_CLEAR old (.num x) = d.devPwmTripClear x.toNat := by
  rw [written_field (by decide) (by decide), hookField, if_neg (by decide), if_neg (by decide), if_neg (by decide),
    if_neg (by decide), if_neg (by decide), if_pos (by decide)]

theorem written_pwmSplit : d.written org Obj.PWM_SPLIT old (.num x) = d.pwmSplitCleared (oldNat old) x.toNat := by
  rw [written_field (by decide) (by decide), hookField, if_neg (by decide), if_neg (by decide), if_neg (by decide),
    if_neg (by decide), if_neg (by decide), if_neg (by decide), if_pos (by decide)]

/-- The objects of the masks and the timers lie beyond the single objects of the field channels and the PWM. -/
theorem hookField_of_indexed {ix sub o v : Nat} (hix : 0x6908 ≤ ix) (hsub : sub < 256) : d.hookField ix sub o v
    = if 0x6908 ≤ ix ∧ ix < 0x690C then
        if sub = 1 then d.pwmPins
        else if v = 1 then d.devPwmMaskApply (ix - 0x6908) else d.devPwmMaskRelease (ix - 0x6908)
      else if 0x6910 ≤ ix ∧ ix < 0x691A then
        if sub ≤ 3 then d.pwmShadow (ix - 0x6910) sub
        else if sub = 5 then d.devPwmCommit (ix - 0x6910)
        else if sub = 9 ∨ sub = 0x0A then d.pwmPins
        else d
      else d := by
  have hkey : ∀ j, j < 0x690800 → ix * 256 + sub ≠ j := by omega
  unfold hookField
  dsimp only
  rw [if_neg (not_or.mpr ⟨hkey _ (by decide), hkey _ (by decide)⟩), if_neg (hkey _ (by decide)), if_neg (hkey _ (by decide)),
    if_neg (hkey _ (by decide)), if_neg (hkey _ (by decide)), if_neg (hkey _ (by decide)), if_neg (hkey _ (by decide))]

theorem written_maskCtrl (m : Fin 4) : d.written org (Obj.PWM_MASK_CTRL m) old (.num x)
    = if x.toNat = 1 then d.devPwmMaskApply m else d.devPwmMaskRelease m := by
  have hix : Obj.PWM_MASK_CTRL m / 256 = 0x6908 + m := by unfold Obj.PWM_MASK_CTRL; omega
  have hsub : Obj.PWM_MASK_CTRL m % 256 = 2 := by unfold Obj.PWM_MASK_CTRL; omega
  rw [written_field (by omega) (by omega), hix, hsub, hookField_of_indexed (by omega) (by decide), if_pos (by omega),
    if_neg (by decide), Nat.add_sub_cancel_left]

theorem written_pwmCommit (t : Fin 10) : d.written org (Obj.PWM_COMMIT t) old (.num x) = d.devPwmCommit t := by
  have hix : Obj.PWM_COMMIT t / 256 = 0x6910 + t := by unfold Obj.PWM_COMMIT; omega
  have hsub : Obj.PWM_COMMIT t % 256 = 5 := by unfold Obj.PWM_COMMIT; omega
  rw [written_field (by omega) (by omega), hix, hsub, hookField_of_indexed (by omega) (by decide), if_neg (by omega),
    if_pos (by omega), if_neg (by decide), if_pos rfl, Nat.add_sub_cancel_left]

/-- What a loop over the first numbers keeps, step by step. -/
theorem foldl_range_induction {α : Type} {P : Nat → α → Prop} {n : Nat} {f : α → Nat → α} {y : α} (h0 : P 0 y)
    (hs : ∀ i z, i < n → P i z → P (i + 1) (f z i)) : P n ((List.range n).foldl f y) :=
  upTo_induction (f := fun i z => f z i) h0 hs

/-- The trips of the first `i` timers among those of `v` are cleared: a running timer of them restarts. -/
def TripsCleared (d : Dev) (v i : Nat) (e : Dev) : Prop :=
  (∀ t, e.bit Obj.PWM_TRIP_FLAG t = (d.bit Obj.PWM_TRIP_FLAG t && !(decide (t < i) && v.testBit t)))
    ∧ (∀ t, i ≤ t → e.timer t = d.timer t)
    ∧ ∀ t, t < i → d.bit Obj.PWM_TRIP_FLAG t = true → v.testBit t = true → (d.timer t).run = true → (e.timer t).restart = true

theorem timer_setTimer_same (t : Nat) (y : PwmTimer) (d : Dev) : (d.setTimer t y).timer t = y := SMap.get_set_same

theorem timer_setTimer_ne {t u : Nat} (h : u ≠ t) (y : PwmTimer) (d : Dev) : (d.setTimer t y).timer u = d.timer u :=
  SMap.get_set_ne h

theorem timer_setBit (k b : Nat) (v : Bool) (d : Dev) (t : Nat) : (d.setBit k b v).timer t = d.timer t := rfl

theorem bit_setTimer (t : Nat) (y : PwmTimer) (d : Dev) (k b : Nat) : (d.setTimer t y).bit k b = d.bit k b := rfl

/-- One more timer's trip is cleared. -/
theorem TripsCleared.clear {v i : Nat} {e : Dev} (h : TripsCleared d v i e) (hv : v.testBit i = true) {y : PwmTimer}
    (hy : (e.timer i).run = true → y.restart = true) :
    TripsCleared d v (i + 1) ((e.setBit Obj.PWM_TRIP_FLAG i false).setTimer i y) := by
  obtain ⟨hbit, htimer, hrestart⟩ := h
  refine ⟨fun t => ?_, fun t ht => ?_, fun t ht hflag htest hrun => ?_⟩
  · rw [bit_setTimer, bit_setBit, hbit]
    by_cases hti : t = i
    · subst hti
      simp [hv]
    · rw [if_neg hti, show decide (t < i + 1) = decide (t < i) from decide_eq_decide.mpr (by omega)]
  · rw [timer_setTimer_ne (by omega), timer_setBit]
    exact htimer t (by omega)
  · by_cases hti : t = i
    · subst hti
      rw [timer_setTimer_same]
      exact hy (by rw [htimer t le_rfl]; exact hrun)
    · rw [timer_setTimer_ne hti, timer_setBit]
      exact hrestart t (by omega) hflag htest hrun

/-- A timer that is not tripped, or not named, stays. -/
theorem TripsCleared.keep {v i : Nat} {e : Dev} (h : TripsCleared d v i e)
    (hv : ¬ (v.testBit i = true ∧ e.bit Obj.PWM_TRIP_FLAG i = true)) : TripsCleared d v (i + 1) e := by
  obtain ⟨hbit, htimer, hrestart⟩ := h
  have hi := hbit i
  rw [decide_eq_false (Nat.lt_irrefl i), Bool.false_and, Bool.not_false, Bool.and_true] at hi
  refine ⟨fun t => ?_, fun t ht => htimer t (by omega), fun t ht hflag htest hrun => ?_⟩
  · by_cases hti : t = i
    · subst hti
      rw [hi, decide_eq_true (Nat.lt_succ_self t), Bool.true_and]
      rw [hi] at hv
      revert hv
      cases v.testBit t <;> cases d.bit Obj.PWM_TRIP_FLAG t <;> simp
    · rw [hbit, show decide (t < i + 1) = decide (t < i) from decide_eq_decide.mpr (by omega)]
  · by_cases hti : t = i
    · subst hti
      exact absurd ⟨htest, hi.trans hflag⟩ hv
    · exact hrestart t (by omega) hflag htest hrun

theorem devPwmTripClear_cleared (v : Nat) (d : Dev) : ∃ e, TripsCleared d v 10 e ∧ d.devPwmTripClear v = e.pwmPins := by
  refine ⟨_, ?_, rfl⟩
  refine foldl_range_induction ⟨fun t => ?_, fun _ _ => rfl, fun t ht => absurd ht t.not_lt_zero⟩ fun i e _ h => ?_
  · rw [decide_eq_false t.not_lt_zero, Bool.false_and, Bool.not_false, Bool.and_true]
  · split
    · next hv =>
      extract_lets y f
      split
      · exact h.clear hv.1 fun _ => rfl
      · next hrun => exact h.clear hv.1 fun hr => absurd hr hrun
    · next hv => exact h.keep hv

/-- The pins of the PWM may be driven anew, and no more. -/
theorem pwmPins_cases (d : Dev) :
    d.pwmPins = d ∨ ∃ l, d.pwmPins = ({ d with pwm := { d.pwm with levels := l } } : Dev).send (.pins 3 l) := by
  rw [show d.pwmPins = if d.pwmLevels = d.pwm.levels then d
    else ({ d with pwm := { d.pwm with levels := d.pwmLevels } } : Dev).send (.pins 3 d.pwmLevels) from rfl]
  split
  · exact .inl rfl
  · exact .inr ⟨_, rfl⟩

theorem bit_pwmPins (k b : Nat) (d : Dev) : d.pwmPins.bit k b = d.bit k b := by
  rcases pwmPins_cases d with h | ⟨l, h⟩
  · rw [h]
  · rw [h]; rfl

theorem timer_pwmPins (t : Nat) (d : Dev) : d.pwmPins.timer t = d.timer t := by
  rcases pwmPins_cases d with h | ⟨l, h⟩
  · rw [h]
  · rw [h]; rfl

/-! CAN. -/

section Can

variable (c : Fin 2)

theorem written_canTx : d.written org (Obj.CAN_TX c) old (.bytes b) = d.devCanTx c b := by
  have hix : Obj.CAN_TX c / 256 = 0x6C20 + c := by unfold Obj.CAN_TX; omega
  have hsub : Obj.CAN_TX c % 256 = 6 := by unfold Obj.CAN_TX; omega
  rw [written_canBytes (by omega) (by omega), hix, hsub, hookCan, if_neg (by omega), if_pos (by omega)]
  dsimp only
  rw [if_neg (by decide), if_pos rfl, Nat.add_sub_cancel_left]

theorem written_canTxAbort : d.written org (Obj.CAN_TX_ABORT c) old (.num x) = d.devCanTxAbort c x.toNat := by
  have hix : Obj.CAN_TX_ABORT c / 256 = 0x6C20 + c := by unfold Obj.CAN_TX_ABORT; omega
  have hsub : Obj.CAN_TX_ABORT c % 256 = 7 := by unfold Obj.CAN_TX_ABORT; omega
  rw [written_can (by omega) (by omega), hix, hsub, hookCan, if_neg (by omega), if_pos (by omega)]
  dsimp only
  rw [if_neg (by decide), if_neg (by decide), if_pos rfl, Nat.add_sub_cancel_left]

theorem written_canRecover : d.written org (Obj.CAN_RECOVER c) old (.num x) = d.devCanRecover c := by
  have hix : Obj.CAN_RECOVER c / 256 = 0x6C20 + c := by unfold Obj.CAN_RECOVER; omega
  have hsub : Obj.CAN_RECOVER c % 256 = 4 := by unfold Obj.CAN_RECOVER; omega
  rw [written_can (by omega) (by omega), hix, hsub, hookCan, if_neg (by omega), if_pos (by omega)]
  dsimp only
  rw [if_pos rfl, Nat.add_sub_cancel_left]

end Can

end Dev

/-- Settles O31: the rule of each written object; `devPwmTripClear_cleared` is the loop over the timers. -/
theorem fieldPwmAndCanWrites : Obligations.FieldPwmAndCanWrites := by
  intro d org old
  refine ⟨fun v => Dev.written_fioOut, fun v => ⟨fun h => ?_, fun h => ?_⟩, fun v => Dev.written_appKick, ?_, ?_, ?_, ?_, ?_,
    fun v => Dev.written_pwmEnable, fun o v => ?_, fun c => ⟨fun b => Dev.written_canTx c, fun v => ?_, fun h => ?_⟩⟩
  · exact Dev.written_fioOutEnable.trans (if_pos h)
  · exact Dev.written_fioOutEnable.trans (if_neg (Bool.eq_false_iff.mp h))
  · intro e c hc
    exact Dev.written_survey.trans (Dev.devSurveyStart_of_next rfl hc)
  · intro v t e
    obtain ⟨f, ⟨hbit, -, hrestart⟩, hf⟩ := Dev.devPwmTripClear_cleared v d
    have he : e = f.pwmPins := Dev.written_tripClear.trans hf
    rw [he, Dev.bit_pwmPins, Dev.timer_pwmPins, hbit, decide_eq_true t.isLt, Bool.true_and]
    exact ⟨rfl, fun hflag htest hrun => hrestart t t.isLt hflag htest hrun⟩
  · exact fun m h => (Dev.written_maskCtrl m).trans ((if_pos rfl).trans (if_neg (Bool.eq_false_iff.mp h)))
  · exact fun m _ => (Dev.written_maskCtrl m).trans (if_neg (by decide))
  · exact fun t h => (Dev.written_pwmCommit t).trans (if_pos h)
  · exact Dev.written_pwmSplit
  · exact Dev.written_canTxAbort c
  · exact (Dev.written_canRecover c).trans (if_pos h)

end Sys2Proof.Machine

/-! The local windows of the task cores (R146, R355, R356): their groups, their stores and their loads. -/

namespace Sys2Proof.Machine

open Sys2Proof

namespace Dev

variable {d : Dev} {c : Fin 8} {es : List Entry} {rt : Rights}

/-! Groups of a core. -/

theorem localGroup_open (c : Fin 8) (d : Dev) :
    d.localGroup c (groupEntry 1) = d.setWin c { d.win c with group := some [] } := rfl

theorem localGroup_discard (c : Fin 8) (d : Dev) :
    d.localGroup c (groupEntry 3) = d.setWin c { d.win c with group := none } := rfl

theorem localGroup_submit_of_none (h : (d.win c).group = none) : d.localGroup c (groupEntry 2) = d := by
  unfold localGroup
  extract_lets y ok
  rw [if_neg (by decide +kernel), if_neg (by decide +kernel), if_pos (by decide +kernel), show y.group = none from h]

theorem localGroup_submit_of_some (h : (d.win c).group = some es) : d.localGroup c (groupEntry 2)
    = if es.isEmpty then d.setWin c { d.win c with group := none }
      else (d.setWin c { d.win c with group := none }).coreSubmit c true es := by
  unfold localGroup
  extract_lets y ok
  rw [if_neg (by decide +kernel), if_neg (by decide +kernel), if_pos (by decide +kernel), show y.group = some es from h]

/-- A write of `LE_LOCAL_GROUP` that is none of its three commands ends an open group and is checked as any other. -/
theorem localGroup_of_other {e : Entry} (h : ∀ n : Int, 1 ≤ n → n ≤ 3 → e.type = OType.u8.code → e.val ≠ .num n) :
    d.localGroup c e
      = (d.setWin c { d.win c with group := none }).coreSubmit c (d.win c).group.isSome [e] := by
  have hno : ∀ n : Int, 1 ≤ n → n ≤ 3 → ¬ ((e.type == OType.u8.code) = true ∧ e.val = .num n) :=
    fun n h1 h3 hx => h n h1 h3 (beq_iff_eq.mp hx.1) hx.2
  unfold localGroup
  exact (if_neg (hno 1 (by decide) (by decide))).trans ((if_neg (hno 3 (by decide) (by decide))).trans
    (if_neg (hno 2 (by decide) (by decide))))

/-- The submission of a collected group, accepted or refused (R146). -/
theorem coreSubmit_collected (hrt : d.rights (.core c) = some rt) : d.coreSubmit c true es
    = if (d.checkGroup (.core c) rt es).1.status = Status.ok then
        (d.checkGroup (.core c) rt es).2.acceptGroup (.core c) rt 0 none es
      else (d.checkGroup (.core c) rt es).2.coreResult c (collectedVerdict (d.checkGroup (.core c) rt es).1) es := by
  unfold coreSubmit
  rw [hrt]
  rfl

section Results

variable {v : Verdict}

theorem coreResult_of_entry {i st : Nat} (h : v.entry = some (i, st)) (c : Fin 8) (es : List Entry) (d : Dev) :
    d.coreResult c (collectedVerdict v) es
      = d.setWin c { d.win c with
          status := Status.groupFail, seconds := entryKey (es.getD i { index := 0, sub := 0, type := 0, val := .num 0 }),
          cycle := 0xFFFFFFFF } := by
  unfold collectedVerdict
  rw [h]
  rfl

theorem coreResult_of_budget {i : Nat} (h : v.entry = none) (hb : v.budgetAt = some i) (c : Fin 8) (es : List Entry) (d : Dev) :
    d.coreResult c (collectedVerdict v) es
      = d.setWin c { d.win c with
          status := Status.groupFail, seconds := entryKey (es.getD i { index := 0, sub := 0, type := 0, val := .num 0 }),
          cycle := 0xFFFFFFFF } := by
  unfold collectedVerdict
  rw [h, hb]
  rfl

theorem coreResult_of_whole (h : v.entry = none) (hb : v.budgetAt = none) (c : Fin 8) (es : List Entry) (d : Dev) :
    d.coreResult c (collectedVerdict v) es
      = d.setWin c { d.win c with status := v.status, seconds := 0, cycle := 0xFFFFFFFF } := by
  unfold collectedVerdict
  rw [h, hb]
  unfold coreResult
  dsimp only
  rw [h]
  dsimp only
  rw [ite_self]

end Results

/-! Stores and loads. -/

section Memory

variable {m : List Host.Cell} {a size v : Nat} (hslot : slotOf a = none)
include hslot

theorem devWindowStore_memory (hsize : size = 1 ∨ size = 2 ∨ size = 4 ∨ size = 8) (hspan : spanInMap a size = true) :
    d.devWindowStore m c a size v = ([(coreAddr c a, bytesLE size v)], d) := by
  rw [devWindowStore, hslot]
  exact if_pos ⟨by simpa using hsize, hspan⟩

theorem devWindowStore_outside (hspan : spanInMap a size = false) :
    d.devWindowStore m c a size v = ([], d.send (.coreFault c a)) := by
  rw [devWindowStore, hslot]
  exact if_neg fun h => Bool.false_ne_true (hspan.symm.trans h.2)

theorem devDescriptorLoad_memory (hspan : spanInMap a 8 = true) :
    d.devDescriptorLoad m c a = ([], d.send (.core c (natLE (readBytes m (coreAddr c a) 8)))) := by
  rw [devDescriptorLoad, hslot]
  exact if_pos hspan

end Memory

section Slots

variable {m : List Host.Cell} {a ix sub off v : Nat} (hslot : slotOf a = some (ix, sub, off))

theorem slotOf_eq (hix : ix < 65536) (hsub : sub < 256) (hoff : off < 8) :
    slotOf (0x80000000 + ix * 2048 + sub * 8 + off) = some (ix, sub, off) := by
  unfold slotOf
  rw [if_pos (by omega)]
  simp only [Option.some.injEq, Prod.mk.injEq]
  omega

include hslot

theorem devWindowStore_slot {ty : OType} (hoff : off = 0) (hty : d.slotType ix sub = some ty) (hnum : isDescribed ty = false) :
    d.devWindowStore m c a 8 v
      = ([], d.coreWrite c { index := ix, sub := sub, type := ty.code, val := .num (numOfSlot ty v) }) := by
  rw [devWindowStore, hslot]
  dsimp only
  rw [windowStore, if_neg (by omega), hty]
  dsimp only
  rw [if_neg (Bool.eq_false_iff.mp hnum)]
  rfl

theorem devWindowStore_noSlot (h : off ≠ 0 ∨ d.slotType ix sub = none) :
    d.devWindowStore m c a 8 v = ([], d.send (.coreFault c a)) := by
  rw [devWindowStore, hslot]
  dsimp only
  unfold windowStore
  by_cases hoff : off = 0
  · rw [if_neg (by omega), h.resolve_left (not_not_intro hoff)]
    rfl
  · rw [if_pos (.inl hoff)]
    rfl

theorem devDescriptorLoad_noSlot (h : off ≠ 0 ∨ d.slotType ix sub = none) :
    d.devDescriptorLoad m c a = ([], d.send (.coreFault c a)) := by
  rw [devDescriptorLoad, hslot]
  exact if_pos (h.imp_right Option.isNone_iff_eq_none.mpr)

omit hslot in
/-- A load of a described object that is there copies it into the core's snapshot buffer. -/
theorem windowLoad_described {ty : OType} {b : List Byte} {d' : Dev} (hoff : off = 0) (hslot : d.slotType ix sub ≠ none)
    (hdesc : isDescribed ty = true)
    (hread : d.readObj m URole.engineer (some c.val) ix sub = ((Status.ok, ty, .bytes b), d')) (hlen : b.length ≤ 512) :
    d.windowLoad m c a ix sub off = ([(snapshot c, b)], d'.send (.core c (snapshot c + b.length * 4294967296))) := by
  unfold windowLoad
  rw [if_neg (not_or.mpr ⟨not_not_intro hoff, fun h => hslot (Option.isNone_iff_eq_none.mp h)⟩), hread]
  dsimp only
  rw [if_neg (not_not_intro rfl), if_pos hdesc, loadDescribed]
  exact if_pos hlen

theorem devDescriptorLoad_described {ty : OType} {b : List Byte} (hoff : off = 0) (hthere : d.slotType ix sub ≠ none)
    (hdesc : isDescribed ty = true)
    (hread : d.readObj m URole.engineer (some c.val) ix sub = ((Status.ok, ty, .bytes b), d)) (hlen : b.length ≤ 512) :
    d.devDescriptorLoad m c a = ([(snapshot c, b)], d.send (.core c (snapshot c + b.length * 4294967296))) := by
  rw [devDescriptorLoad, hslot]
  exact windowLoad_described hoff hthere hdesc hread hlen

end Slots

/-! The status of the last write. -/

/-- The row of `LE_LOCAL_STATUS` (Table 05-8). -/
theorem objRow_localStatus : ∃ r, objRow? 0x3801 2 = some r ∧ r.acc = .ro ∧ r.type = .domain := by
  refine ⟨(objRow? 0x3801 2).get (by decide +kernel), (Option.some_get _).symm, by decide +kernel, by decide +kernel⟩

theorem objAt_localStatus {r : ObjRow} (hr : objRow? 0x3801 2 = some r) (role : Nat) : d.objAt role 0x3801 2 = .ok r := by
  rw [objAt, if_neg (by decide), if_neg (by omega), hr]
  exact if_neg (by decide)

/-- The bytes of `LE_LOCAL_STATUS`: status, seconds and cycle of the last write. -/
def statusBytes (w : WinSt) : List Byte := [BitVec.ofNat 8 w.status, 0#8, 0#8, 0#8] ++ bytesLE 4 w.seconds ++ bytesLE 4 w.cycle

theorem readObj_localStatus (m : List Host.Cell) (c : Nat) :
    d.readObj m URole.engineer (some c) 0x3801 2 = ((Status.ok, .domain, .bytes (statusBytes (d.win c))), d) := by
  obtain ⟨r, hr, hacc, -⟩ := objRow_localStatus
  have hempty : d.emptyRecord 0x3801 2 = false := by
    rw [emptyRecord, decide_eq_false (by decide), Bool.false_and]
  rw [readObj, objAt_localStatus hr]
  dsimp only
  rw [if_neg (by rw [hacc]; decide), hempty, if_neg Bool.false_ne_true, if_neg (by decide), if_neg (by decide),
    if_neg (by decide), if_neg (by decide), if_neg (by decide), if_pos (by decide)]
  rfl

theorem slotType_localStatus : d.slotType 0x3801 2 ≠ none := by
  obtain ⟨r, hr, -, -⟩ := objRow_localStatus
  rw [slotType, objAt_localStatus hr]
  exact Option.some_ne_none _

end Dev
/-- Settles O32: the group commands of a core, and its stores and loads by the address they fall on. -/
theorem localWindows : Obligations.LocalWindows := by
  refine ⟨?_, ?_, ?_⟩
  · intro c s y ended
    refine ⟨yields_of_run rfl (Dev.localGroup_open c _), yields_of_run rfl (Dev.localGroup_discard c _),
      fun h => yields_of_run rfl (Dev.localGroup_submit_of_none h),
      fun h => yields_of_run rfl ((Dev.localGroup_submit_of_some h).trans (if_pos rfl)), ?_⟩
    intro es rt hes hne hrt v
    have hsubmit : s.dev.localGroup c (Dev.groupEntry 2) = ended.coreSubmit c true es :=
      (Dev.localGroup_submit_of_some hes).trans (if_neg (by simpa using hne))
    rw [Dev.coreSubmit_collected hrt] at hsubmit
    refine ⟨fun hok => yields_of_run rfl (hsubmit.trans (if_pos hok)), ?_⟩
    intro hbad said key
    have hresult := hsubmit.trans (if_neg hbad)
    exact ⟨fun i st h => yields_of_run rfl (hresult.trans (Dev.coreResult_of_entry h c es _)),
      fun i h hb => yields_of_run rfl (hresult.trans (Dev.coreResult_of_budget h hb c es _)),
      fun h hb => yields_of_run rfl (hresult.trans (Dev.coreResult_of_whole h hb c es _))⟩
  · intro c e s hkey hother
    refine yields_of_run (f := Dev.submit (.core c) e) rfl ?_
    exact (if_pos hkey).trans (Dev.localGroup_of_other hother)
  · intro c s
    refine ⟨?_, ?_, ?_, ?_⟩
    · intro a size v hslot
      exact ⟨fun hsize hspan => stores_of_runMem rfl (Dev.devWindowStore_memory hslot hsize hspan),
        fun hspan => yields_of_runMem rfl (Dev.devWindowStore_outside hslot hspan)⟩
    · intro ix sub off v hix hsub hoff a
      have hslot := Dev.slotOf_eq hix hsub hoff
      exact ⟨fun ty h0 hty hnum => yields_of_runMem rfl (Dev.devWindowStore_slot hslot h0 hty hnum),
        fun h => ⟨yields_of_runMem rfl (Dev.devWindowStore_noSlot hslot h),
          yields_of_runMem rfl (Dev.devDescriptorLoad_noSlot hslot h)⟩,
        fun ty b h0 hthere hdesc hread hlen =>
          stores_of_runMem rfl (Dev.devDescriptorLoad_described hslot h0 hthere hdesc hread hlen)⟩
    · exact fun a hslot hspan => yields_of_runMem rfl (Dev.devDescriptorLoad_memory hslot hspan)
    · exact stores_of_runMem rfl (Dev.windowLoad_described rfl Dev.slotType_localStatus rfl (Dev.readObj_localStatus s.mem c)
        (by decide : 12 ≤ 512))

end Sys2Proof.Machine

/-! Supervision entries and repetitive channels (R160, R164), and the measurement inputs (R175, R181, R182, R187, R188). -/

namespace Sys2Proof.Machine

open Sys2Proof

namespace Dev

variable {d : Dev}

/-! Supervision. -/

theorem svTrip_of_holding {e cause : Nat} (h : d.getN (Obj.SV_STATE e) = 1) : d.svTrip e cause
    = let a := ((d.clearCause 41 e).setN (Obj.SV_STATE e) 2).setN (Obj.SV_CAUSE e) cause
      ((a.setSv e { a.sv e with tripDue := false, subst := false }).supEvent 43 e).raiseFault 43 4 0 e 0 false := by
  unfold svTrip
  rw [if_pos h]

theorem svNormal_of_holding {e : Nat} (h : d.getN (Obj.SV_STATE e) = 1) : d.svNormal e
    = let a := ((d.clearCause 41 e).setN (Obj.SV_STATE e) 0).setN (Obj.SV_HOLD_CYCLES e) 0
      a.setSv e { a.sv e with window := [], saved := none, agree := 0, subst := false, tripDue := false, causes := 0 } := by
  unfold svNormal
  rw [if_pos h]

theorem devSvHoldMaxReached_of_due {e : Nat} (h : d.getN (Obj.SV_STATE e) = 1)
    (hmax : d.getN (Obj.SV_HOLD_MAX e) ≤ d.getN (Obj.SV_HOLD_CYCLES e)) :
    d.devSvHoldMaxReached e = d.svTrip e (d.getN (Obj.SV_CAUSE e)) := if_pos ⟨h, hmax⟩

theorem devSvHoldMaxReached_of_not_due {e : Nat}
    (h : d.getN (Obj.SV_STATE e) ≠ 1 ∨ d.getN (Obj.SV_HOLD_CYCLES e) < d.getN (Obj.SV_HOLD_MAX e)) :
    d.devSvHoldMaxReached e = d :=
  if_neg fun hx => h.elim (fun h => h hx.1) fun h => absurd hx.2 (Nat.not_le.mpr h)

theorem devSvRecover_of_due {e : Nat} (h : d.getN (Obj.SV_STATE e) = 1) (hon : d.on (Obj.SV_RECOVER e) = true)
    (hagree : d.getN (Obj.SV_RECOVER e) ≤ (d.sv e).agree) :
    d.devSvRecover e = ((d.svNormal e).setN (Obj.SV_CAUSE e) 0).supEvent 42 e := if_pos ⟨h, hon, hagree⟩

theorem devSvRecover_of_not_due {e : Nat}
    (h : d.getN (Obj.SV_STATE e) ≠ 1 ∨ d.on (Obj.SV_RECOVER e) = false ∨ (d.sv e).agree < d.getN (Obj.SV_RECOVER e)) :
    d.devSvRecover e = d := by
  refine if_neg ?_
  rintro ⟨hst, hon, hagree⟩
  rcases h with h | h | h
  · exact h hst
  · exact Bool.false_ne_true (h.symm.trans hon)
  · exact absurd hagree (Nat.not_le.mpr h)

theorem devRepRelease_of_frozen {c : Nat} (hcause : (d.rep c).cause = false) (hleft : (d.rep c).left = 0)
    (hfrozen : d.bit (Obj.REP_STATUS c) 0 = true) :
    d.devRepRelease c = (d.setBit (Obj.REP_STATUS c) 0 false).supEvent 47 c := by
  rw [devRepRelease, if_neg (by rw [hcause, hleft]; decide)]
  exact if_neg (by rw [hfrozen]; decide)

/-! The measurement inputs. -/

/-- A filter that runs, past its start and its clock there, forms what its bits give. -/
theorem devFilterOutput_of_running {c m a : Nat} {fine : Bool} {bits : List Bool} (ha : d.measAnchor c = some a)
    (hrun : d.measRuns c = true) (hclk : d.bit (Obj.MEAS_STATUS c) MeasBit.clkLoss = false)
    (hstart : (d.measCh c).start ≤ a + m * d.tOut c fine) :
    d.devFilterOutput c fine m bits
      = match (if fine then fineCode (d.getN (Obj.MEAS_FINE_ORDER c)) (d.getN (Obj.MEAS_FINE_OSR c))
            (d.getN (Obj.MEAS_FIR_DEC c)) (d.getN (Obj.MEAS_NOTCH_M c)) (firCoefs 32 (d.blob (Obj.MEAS_FIR_COEF c)))
            (d.on (Obj.MEAS_INVERT c)) bits
          else fastCode (d.getN (Obj.MEAS_FAST_ORDER c)) (d.getN (Obj.MEAS_FAST_OSR c)) (d.on (Obj.MEAS_INVERT c)) bits) with
        | none => d
        | some v => (if fine then d.takeFine c (a + m * d.tOut c fine) v else d.set (Obj.MEAS_FAST_CODE c) v).formSample c fine m
            (a + m * d.tOut c fine) v := by
  unfold devFilterOutput
  rw [ha]
  dsimp only
  rw [if_neg (by rw [hrun, hclk]; simpa using hstart)] <;> rfl

theorem devClkLossAssert_of_running {k : Nat} (hsrc : k < 8 ∨ d.getN (Obj.MEAS_GRP_CLK_SRC (k - 8)) ≠ 1)
    (hcs : (clockChannels k).filter (fun c => d.measRuns c && !d.bit (Obj.MEAS_STATUS c) MeasBit.clkLoss) ≠ []) :
    d.devClkLossAssert k
      = (((clockChannels k).filter fun c => d.measRuns c && !d.bit (Obj.MEAS_STATUS c) MeasBit.clkLoss).foldl
          (fun d c => d.setLoss c MeasBit.clkLoss true) d).measEvent (if k < 8 then 64 else 65 + (k - 8))
          (if k < 8 then k else k - 8) := by
  unfold devClkLossAssert
  rw [if_neg fun h => hsrc.elim (fun hk => absurd h.1 (Nat.not_le.mpr hk)) fun hne => hne h.2]
  exact if_neg fun h => hcs (List.isEmpty_iff.mp h)

theorem devDataLossAssert_of_running {c : Nat} (hrun : d.measRuns c = true)
    (hdata : d.bit (Obj.MEAS_STATUS c) MeasBit.dataLoss = false) :
    d.devDataLossAssert c = (d.setLoss c MeasBit.dataLoss true).measEvent 69 c :=
  if_neg (by rw [hrun, hdata]; decide)

theorem devPathSettled_of_passed {c : Nat} (hset : d.bit (Obj.MEAS_STATUS c) MeasBit.settling = true)
    (hloss : d.measLoss c = false) (hpast : d.waited (d.measCh c).settleAt (d.tSettle c true * nsUnit) = true) :
    d.devPathSettled c = (d.setBit (Obj.MEAS_STATUS c) MeasBit.settling false).measEvent 78 c :=
  if_neg (by rw [hset, hloss, hpast]; decide)

section Diagnostics

variable {u e : Nat} (hpos : (d.diag u).pos = some e)
include hpos

theorem devDiagDelayExpiry_of_passed (hready : (d.diag u).ready = false)
    (hpast : d.waited (d.diag u).since (d.getN (Obj.DIAG_DELAY e) * 1000 * nsUnit) = true) :
    d.devDiagDelayExpiry u = d.setDiag u { d.diag u with ready := true, results := [] } := by
  rw [devDiagDelayExpiry, hpos]
  exact if_neg (by rw [hready, hpast]; decide)

theorem devDiagDelayExpiry_of_waiting (h : (d.diag u).ready = true
    ∨ d.waited (d.diag u).since (d.getN (Obj.DIAG_DELAY e) * 1000 * nsUnit) = false) : d.devDiagDelayExpiry u = d := by
  rw [devDiagDelayExpiry, hpos]
  exact if_pos h

theorem devDiagConversionEnd_eq (hready : (d.diag u).ready = true) (v : F32) : d.devDiagConversionEnd u v
    = if (v :: (d.diag u).results).length < d.getN (Obj.DIAG_REPEAT e) then
        d.setDiag u { d.diag u with results := v :: (d.diag u).results }
      else (d.diagResult e (v :: (d.diag u).results)).diagNext u e := by
  rw [devDiagConversionEnd, hpos]
  exact if_neg (by rw [hready]; decide)

end Diagnostics

end Dev

/-- Settles O33: each command with its condition met and not met. -/
theorem supervisionCommands : Obligations.SupervisionCommands := by
  intro e s st clear
  refine ⟨?_, ?_, ?_, ?_, ?_, ?_⟩
  · intro hst hmax a
    exact yields_of_run rfl ((Dev.devSvHoldMaxReached_of_due hst hmax).trans (Dev.svTrip_of_holding hst))
  · exact fun h => yields_of_run rfl (Dev.devSvHoldMaxReached_of_not_due h)
  · intro hst hon hagree a
    refine yields_of_run rfl ((Dev.devSvRecover_of_due hst hon hagree).trans ?_)
    rw [Dev.svNormal_of_holding hst]
  · exact fun h => yields_of_run rfl (Dev.devSvRecover_of_not_due h)
  · exact fun hcause hleft hfrozen => yields_of_run rfl (Dev.devRepRelease_of_frozen hcause hleft hfrozen)
  · exact fun h => yields_of_run rfl (if_pos h)

/-- Settles O34: each command of the measurement inputs in the case its words name. -/
theorem measurementCommands : Obligations.MeasurementCommands := by
  intro c s d settling
  refine ⟨?_, ?_, ?_, ?_, ?_, ?_⟩
  · intro fine m a bits ha hrun hclk hstart fast slow r
    have hout := Dev.devFilterOutput_of_running (bits := bits) ha hrun hclk hstart
    refine ⟨?_, ?_, fun hnone => yields_of_run rfl ?_⟩
    · rintro v rfl hv
      refine yields_of_run rfl (hout.trans ?_)
      rw [if_neg Bool.false_ne_true, show fastCode _ _ _ _ = some v from hv]
      rfl
    · rintro v rfl hv
      refine yields_of_run rfl (hout.trans ?_)
      rw [if_pos rfl, show fineCode _ _ _ _ _ _ _ = some v from hv]
      rfl
    · rw [hout, show (if fine then _ else _ : Option Int) = none from hnone]
  · intro k named cs
    exact ⟨fun hsrc hcs => yields_of_run rfl (Dev.devClkLossAssert_of_running hsrc hcs), yields_of_run rfl rfl⟩
  · exact fun hrun hdata => yields_of_run rfl (Dev.devDataLossAssert_of_running hrun hdata)
  · exact fun h => yields_of_run rfl (if_pos h)
  · exact fun hset hloss => ⟨fun hpast => yields_of_run rfl (Dev.devPathSettled_of_passed hset hloss hpast),
      fun hwait => yields_of_run rfl (if_pos (.inr (.inr hwait)))⟩
  · intro u e hpos past
    exact ⟨fun hready hpast => yields_of_run rfl (Dev.devDiagDelayExpiry_of_passed hpos hready hpast),
      fun h => yields_of_run rfl (Dev.devDiagDelayExpiry_of_waiting hpos h),
      fun v hready => ⟨fun hlt => yields_of_run rfl ((Dev.devDiagConversionEnd_eq hpos hready v).trans (if_pos hlt)),
        fun hle => yields_of_run rfl ((Dev.devDiagConversionEnd_eq hpos hready v).trans (if_neg (Nat.not_lt.mpr hle)))⟩⟩

end Sys2Proof.Machine

/-! Sync messages and phase steps (R196, R199, R202, R203). -/

namespace Sys2Proof.Machine

open Sys2Proof

section Timed

variable {c : Instr} {s : State} {f : Dev → Dev} {d : Dev}

/-- A command of the time subsystem does, with TIMECLK running, what its function does. -/
theorem yields_of_timed (ht : s.dev.tm.timeclk = true) (h : exec c s = s.run (Dev.timed f)) (hd : f s.dev = d) :
    Yields c s d :=
  yields_of_run h ((if_pos ht).trans hd)

/-- One that may step the time base reaches the pools and timers too. -/
theorem yields_of_stepped (ht : s.dev.tm.timeclk = true) (h : exec c s = s.run (Dev.timed (Dev.stepped f)))
    (hd : f s.dev = d) : Yields c s (Dev.afterStep s.dev d) :=
  yields_of_timed ht h (by rw [Dev.stepped, hd])

theorem Dev.afterStep_self (d : Dev) : Dev.afterStep d d = d := if_pos rfl

theorem yields_of_not_stepped (ht : s.dev.tm.timeclk = true) (h : exec c s = s.run (Dev.timed (Dev.stepped f)))
    (hd : f s.dev = s.dev) : Yields c s s.dev := by
  have hy := yields_of_stepped ht h hd
  rwa [Dev.afterStep_self] at hy

end Timed

namespace Dev

variable {d e : Dev}

/-! An event leaves every number but its own three. -/

theorem get_signal_ne {k n : Nat} (src : Nat) (d : Dev) (hcount : k ≠ Obj.EVT_COUNT n) (hlast : k ≠ Obj.EVT_LAST n)
    (hsrc : k ≠ Obj.EVT_LAST_SRC n) : (d.signal n src).get k = d.get k := by
  obtain ⟨w, x, -, h⟩ := signal_eq n src d
  rw [h]
  show (((d.inc (Obj.EVT_COUNT n)).set (Obj.EVT_LAST n) d.now96).setN (Obj.EVT_LAST_SRC n) src).get k = _
  rw [get_setN_ne _ hsrc, get_set_ne _ hlast, get_inc_ne hcount]

theorem get_signalAt_ne {k a n src : Nat} (ha : k ≠ a) (hcount : k ≠ Obj.EVT_COUNT n) (hlast : k ≠ Obj.EVT_LAST n)
    (hsrc : k ≠ Obj.EVT_LAST_SRC n) (d : Dev) : (d.signalAt a n src).get k = d.get k := by
  rw [signalAt, get_signal_ne src _ hcount hlast hsrc, get_setN_ne _ ha]

/-! What goes with a phase step leaves the time and the count of steps (R196). -/

/-- The same time, the same count of steps and the same last step. -/
def SameSteps (d e : Dev) : Prop :=
  e.tm = d.tm ∧ ∀ k, k = Obj.TB_STEP_COUNT ∨ k = Obj.TB_LAST_STEP → e.get k = d.get k

namespace SameSteps

theorem refl (d : Dev) : SameSteps d d := ⟨rfl, fun _ _ => rfl⟩

section
variable (h : SameSteps d e)
include h

theorem set {k : Nat} {v : Int} (hk : k ≠ Obj.TB_STEP_COUNT) (hk' : k ≠ Obj.TB_LAST_STEP) : SameSteps d (e.set k v) := by
  refine ⟨h.1, fun j hj => (get_set_ne v ?_).trans (h.2 j hj)⟩
  rcases hj with rfl | rfl
  · exact hk.symm
  · exact hk'.symm

theorem event {a n src : Nat} (ha : a ≠ Obj.TB_STEP_COUNT) (ha' : a ≠ Obj.TB_LAST_STEP) :
    SameSteps d (e.signalAt a n src) := by
  have htm : (e.signalAt a n src).tm = e.tm := by
    obtain ⟨w, x, -, hs⟩ := signal_eq n src (e.setN a src)
    rw [signalAt, hs]
    rfl
  refine ⟨htm.trans h.1, fun j hj => ?_⟩
  have hsub : j % 256 = 8 ∨ j % 256 = 9 := hj.imp (fun h => by rw [h]; rfl) fun h => by rw [h]; rfl
  have hj' : j ≠ a := by
    rintro rfl
    exact hj.elim ha ha'
  rw [get_signalAt_ne hj' (by unfold Obj.EVT_COUNT; omega) (by unfold Obj.EVT_LAST; omega) (by unfold Obj.EVT_LAST_SRC; omega)]
  exact h.2 j hj

theorem ite {c : Prop} [Decidable c] {f : Dev} (h' : SameSteps d f) : SameSteps d (if c then e else f) := by
  split
  · exact h
  · exact h'

theorem foldl {α : Type} {g : Dev → α → Dev} (hg : ∀ e y, SameSteps d e → SameSteps d (g e y)) (l : List α) :
    SameSteps d (l.foldl g e) := by
  induction l generalizing e with
  | nil => exact h
  | cons y l ih => exact ih (hg e y h)

theorem setMeasCh {c : Nat} {x : MeasCh} : SameSteps d (e.setMeasCh c x) := h

theorem withMeas {x : MeasSt} : SameSteps d { e with meas := x } := h

theorem setPulse {u : Nat} {x : PulseSt} : SameSteps d (e.setPulse u x) := h

theorem setPtp {x : PtpSt} : SameSteps d (e.setPtp x) := h

theorem beginSettling {c : Nat} : SameSteps d (e.beginSettling c) := by
  unfold Dev.beginSettling setBit
  extract_lets x y cleared
  exact set (setMeasCh h) (by unfold Obj.MEAS_STATUS Obj.TB_STEP_COUNT; omega) (by unfold Obj.MEAS_STATUS Obj.TB_LAST_STEP; omega)

theorem measReanchor : SameSteps d e.measReanchor := by
  unfold Dev.measReanchor
  extract_lets s src e1 e2
  have h2 : SameSteps d e2 := foldl (e := e1) h (fun e c h => by
    dsimp only
    split
    · exact h.setMeasCh.beginSettling
    · exact h) _
  exact h2.event (by decide) (by decide)

theorem latePulse {u t : Nat} : SameSteps d (e.latePulse u t) := by
  unfold Dev.latePulse
  refine event (set (setPulse h) ?_ ?_) (by decide) (by decide)
  · unfold Obj.PG_LATE Obj.TB_STEP_COUNT; omega
  · unfold Obj.PG_LATE Obj.TB_LAST_STEP; omega

theorem pulseStep {u : Nat} : SameSteps d (e.pulseStep u) := by
  unfold Dev.pulseStep
  extract_lets now
  split
  · split
    · exact ite h.latePulse h
    · exact h
  · exact ite h.setPulse h

end

end SameSteps

/-- What a step does to the time base: its time, and the two objects that report it. -/
theorem makeStep_eq (off : Int) (src : Nat) (d : Dev) : ∃ e,
    SameSteps { d with tm := { d.tm with
      now := shiftTime d.tm.now off, lastT := shiftTime d.tm.lastT off,
      steps := d.tm.steps + ((shiftTime d.tm.now off : Int) - d.tm.now) } } e
    ∧ d.makeStep off src = ((e.inc Obj.TB_STEP_COUNT).set Obj.TB_LAST_STEP off).tbEvent 91 src :=
  ⟨_, SameSteps.foldl (SameSteps.refl _).setPtp.measReanchor (fun _ _ h => h.pulseStep) _, rfl⟩

/-- R196: the time moves by the offset, the step is counted and reported. -/
theorem makeStep_reports (off : Int) (src : Nat) (d : Dev) :
    (d.makeStep off src).tm.now = shiftTime d.tm.now off
      ∧ (d.makeStep off src).get Obj.TB_STEP_COUNT = (d.get Obj.TB_STEP_COUNT + 1) % 4294967296
      ∧ (d.makeStep off src).get Obj.TB_LAST_STEP = off := by
  obtain ⟨e, ⟨htm, hget⟩, h⟩ := makeStep_eq off src d
  obtain ⟨htm', hget'⟩ := (SameSteps.refl ((e.inc Obj.TB_STEP_COUNT).set Obj.TB_LAST_STEP off)).event
    (a := Obj.TB_EVENT_SRC) (n := 91) (src := src) (by decide) (by decide)
  rw [h]
  refine ⟨?_, ?_, ?_⟩
  · rw [tbEvent, htm']
    show e.tm.now = _
    rw [htm]
  · rw [tbEvent, hget' _ (.inl rfl), get_set_ne _ (by decide), inc, get_set_same, hget _ (.inl rfl)]
    rfl
  · rw [tbEvent, hget' _ (.inr rfl), get_set_same]

theorem shiftTime_of_nonneg {t : Nat} {off : Int} (h : 0 ≤ off) : shiftTime t off = t + off.toNat * 65536 := by
  unfold shiftTime
  omega

theorem devPhaseStep_servo (hm : d.mode ≠ Mode.run) (off : Int) : d.devPhaseStep off true
    = ((d.makeStep off d.slaveSrc).setPtp { (d.makeStep off d.slaveSrc).ptp with servoDue := false, after := 2 }).stepPending := by
  unfold devPhaseStep
  rw [if_neg hm]
  dsimp only
  rw [if_pos rfl, if_pos rfl, if_neg fun h => Bool.noConfusion h.1]

/-! Which messages a port takes (R199). -/

theorem ptpTakes_iff {h : PtpHdr} :
    d.ptpTakes h = true ↔ h = { domain := d.getN Obj.PTP_DOMAIN, vlan := d.getN Obj.PTP_VLAN } := beq_iff_eq

theorem ptpTakes_eq_false_iff {h : PtpHdr} :
    d.ptpTakes h = false ↔ h ≠ { domain := d.getN Obj.PTP_DOMAIN, vlan := d.getN Obj.PTP_VLAN } := beq_eq_false_iff_ne

/-- What makes a port's Sync one of the present slave. -/
def Usable (d : Dev) (q : Nat) (h : PtpHdr) : Prop :=
  d.on Obj.PTP_ENABLE = true ∧ d.getN Obj.PTP_SLAVE_PORT = q ∧ d.on (Obj.PTP_PORT_AS_CAPABLE q) = true
    ∧ h = { domain := d.getN Obj.PTP_DOMAIN, vlan := d.getN Obj.PTP_VLAN }

theorem sync_usable_iff {q gm : Nat} {h : PtpHdr} :
    ¬ (d.ptpOn = false ∨ d.ptpTakes h = false ∨ d.getN Obj.PTP_SLAVE_PORT ≠ q ∨ d.getN Obj.PTP_GM_ID ≠ gm
        ∨ d.on (Obj.PTP_PORT_AS_CAPABLE q) = false) ↔ d.Usable q h ∧ d.getN Obj.PTP_GM_ID = gm := by
  unfold Usable ptpOn
  rw [← ptpTakes_iff]
  simp only [not_or, Bool.not_eq_false, ne_eq, not_not]
  tauto

theorem devSync_of_usable {q gm n ms : Nat} {h : PtpHdr} (hu : d.Usable q h) (hg : d.getN Obj.PTP_GM_ID = gm) (two : Bool)
    (cap origin corr : Int) : d.devSync q h gm two n cap origin corr ms
      = if two then d.setPort q { d.port q with
          wait := some { gm := gm, seqId := n, t2 := d.tRx q cap, corr := corr, interval := ms } }
        else d.servoSync (d.tRx q cap - origin - corr - (d.port q).link) ms :=
  if_neg (sync_usable_iff.mpr ⟨hu, hg⟩)

theorem devSync_of_other {q gm n ms : Nat} {h : PtpHdr} (hu : ¬ d.Usable q h ∨ d.getN Obj.PTP_GM_ID ≠ gm) (two : Bool)
    (cap origin corr : Int) : d.devSync q h gm two n cap origin corr ms = d := by
  refine if_pos (by_contra fun hno => ?_)
  obtain ⟨hus, hg⟩ := sync_usable_iff.mp hno
  exact hu.elim (fun h => h hus) fun h => h hg

theorem devFollowUp_of_waiting {q : Nat} {w : SyncWait} (hw : (d.port q).wait = some w) (h : PtpHdr) (gm n : Nat)
    (origin corr : Int) : d.devFollowUp q h gm n origin corr
      = if w.gm = gm ∧ w.seqId = n ∧ d.ptpOn ∧ d.ptpTakes h ∧ d.getN Obj.PTP_SLAVE_PORT = q ∧ d.on (Obj.PTP_PORT_AS_CAPABLE q) then
          (d.setPort q { d.port q with wait := none }).servoSync (w.t2 - origin - (w.corr + corr) - (d.port q).link) w.interval
        else d := by
  unfold devFollowUp
  dsimp only
  rw [hw]

/-- R202: a Follow_Up is taken by the Sync that waits for it. -/
theorem followUp_usable_iff {q gm n : Nat} {h : PtpHdr} {w : SyncWait} :
    (w.gm = gm ∧ w.seqId = n ∧ d.ptpOn ∧ d.ptpTakes h ∧ d.getN Obj.PTP_SLAVE_PORT = q ∧ d.on (Obj.PTP_PORT_AS_CAPABLE q))
      ↔ d.Usable q h ∧ w.gm = gm ∧ w.seqId = n := by
  unfold Usable ptpOn
  rw [← ptpTakes_iff]
  tauto

end Dev

/-- Settles O35: whether a message is usable decides what it does; `makeStep_reports` gives what a step does to the time. -/
theorem syncAndPhaseSteps : Obligations.SyncAndPhaseSteps := by
  intro q h gm n ms cap origin corr s ht d x t2 usable
  refine ⟨?_, ?_, ?_, ?_, ?_, ?_⟩
  · intro hu hg
    exact ⟨yields_of_stepped ht rfl (Dev.devSync_of_usable hu hg false cap origin corr),
      yields_of_stepped ht rfl (Dev.devSync_of_usable hu hg true cap origin corr)⟩
  · exact fun hno two => yields_of_not_stepped ht rfl (Dev.devSync_of_other hno two cap origin corr)
  · intro w hw
    have hf := Dev.devFollowUp_of_waiting hw h gm n origin corr
    refine ⟨fun hu hg hn => yields_of_stepped ht rfl (hf.trans (if_pos (Dev.followUp_usable_iff.mpr ⟨hu, hg, hn⟩))),
      fun hno => yields_of_not_stepped ht rfl (hf.trans (if_neg fun htake => ?_))⟩
    obtain ⟨hu, hg, hn⟩ := Dev.followUp_usable_iff.mp htake
    rcases hno with h | h | h
    · exact h hu
    · exact h hg
    · exact h hn
  · intro hw
    refine yields_of_not_stepped ht rfl ?_
    show d.devFollowUp q h gm n origin corr = d
    unfold Dev.devFollowUp
    dsimp only
    rw [show (d.port q).wait = none from hw]
  · exact fun hm off servo => yields_of_not_stepped ht rfl (if_pos hm)
  · intro hm off m w e
    obtain ⟨hnow, hcount, hlast⟩ := Dev.makeStep_reports off d.slaveSrc d
    refine ⟨yields_of_stepped ht rfl ?_, yields_of_stepped ht rfl (Dev.devPhaseStep_software hm off),
      fun hoff => hnow.trans (Dev.shiftTime_of_nonneg hoff), hcount, hlast⟩
    exact Dev.devPhaseStep_servo hm off

end Sys2Proof.Machine

/-! PTP ports: peer delay, masters and the transparent clock (R199–R201, R207). -/

namespace Sys2Proof.Machine

open Sys2Proof

/-- A PTP message on the wire: destination, tag, Ethertype, type and domain, then what is shown of the rest. -/
abbrev ptpFrame (out : Nat) (dest : List Byte) (g : PtpHdr) (type : Byte) (body : List Byte) : Output :=
  .ether out .ptp (dest ++ (if g.vlan = 0 then [] else bytesBE 2 0x8100 ++ bytesBE 2 g.vlan) ++ bytesBE 2 0x88F7
    ++ [type, BitVec.ofNat 8 g.domain] ++ body)

namespace Dev

variable {d : Dev} {q : Nat} {h : PtpHdr}

/-- The address of peer delay messages. -/
abbrev ptpPeers : List Byte := [0x01#8, 0x80#8, 0xC2#8, 0#8, 0#8, 0x0E#8]

/-- The address of all other messages. -/
abbrev ptpAll : List Byte := [0x01#8, 0x1B#8, 0x19#8, 0#8, 0#8, 0#8]

theorem ptpSend_peer (q : Nat) (h : PtpHdr) (type : Byte) (body : List Byte) (d : Dev) :
    d.ptpSend q true h type body = d.send (ptpFrame q ptpPeers h type body) := rfl

theorem ptpSend_all (q : Nat) (h : PtpHdr) (type : Byte) (body : List Byte) (d : Dev) :
    d.ptpSend q false h type body = d.send (ptpFrame q ptpAll h type body) := rfl

theorem ptpHdr_setPort (q : Nat) (x : PtpPort) (d : Dev) : (d.setPort q x).ptpHdr = d.ptpHdr := rfl

/-! Peer delay (R200). -/

/-- A request is due where none has gone, or the last a second ago. -/
def reqDue (d : Dev) (q : Nat) : Bool := (d.port q).reqAt.all fun t => d.waited t secUnit

theorem reqAt_any_eq (q : Nat) (d : Dev) : (d.port q).reqAt.any (fun t => !d.waited t secUnit) = !d.reqDue q := by
  unfold reqDue
  cases (d.port q).reqAt <;> rfl

theorem devPdelayReqSend_of_due (hdue : d.reqDue q = true) : d.devPdelayReqSend q
    = (d.setPort q { d.port q with reqSeq := ((d.port q).reqSeq + 1) % 65536, reqAt := some d.tm.mono }).send
        (ptpFrame q ptpPeers d.ptpHdr 2#8 (bytesBE 2 (d.port q).reqSeq)) := by
  unfold devPdelayReqSend
  dsimp only
  rw [reqAt_any_eq, hdue, if_neg (by decide), ptpHdr_setPort, ptpSend_peer]

theorem devPdelayReqSend_of_early (hdue : d.reqDue q = false) : d.devPdelayReqSend q = d := by
  unfold devPdelayReqSend
  dsimp only
  rw [reqAt_any_eq, hdue, if_pos (by decide)]

theorem devPdelayReqReceived_own (n : Nat) (t2 t3 : Int) : d.devPdelayReqReceived q d.ptpHdr n t2 t3
    = d.send (ptpFrame q ptpPeers d.ptpHdr 3#8
        (bytesBE 2 n ++ bytesBE 8 ((d.tTx q t3 - d.tRx q t2) % 18446744073709551616).toNat)) := by
  rw [devPdelayReqReceived, if_neg (by rw [ptpTakes_eq_false_iff]; exact not_not_intro rfl), ptpSend_peer]

theorem getN_setF_ne {j k : Nat} (v : F32) (hk : j ≠ k) (d : Dev) : (d.setF k v).getN j = d.getN j := getN_set_ne _ hk

theorem getN_setD_ne {j k : Nat} (v : F64) (hk : j ≠ k) (d : Dev) : (d.setD k v).getN j = d.getN j := getN_set_ne _ hk

theorem getN_setPort (q k : Nat) (x : PtpPort) (d : Dev) : (d.setPort q x).getN k = d.getN k := rfl

theorem devPdelayRespReceived_own (two : Bool) (t1 t2 t3 t4 corr : Int) (d : Dev) :
    let x := d.port q
    let link := Int.fdiv (d.tRx q t4 - d.tTx q t1 - (if two then t3 - t2 + corr else corr)) 2
    let v := F32.ofRatio link 65536
    let ratio := if two then ((t3, d.tRx q t4) :: x.ratio).take 9 else x.ratio
    let e := (d.setPort q { x with link := link, seen := true, ratio := ratio, respAt := d.tm.mono }).setF
      (Obj.PTP_PORT_LINK_DELAY q) v
    let lo := e.setF (Obj.PTP_PORT_LINK_MIN q) (if x.seen then F32.min (e.getF (Obj.PTP_PORT_LINK_MIN q)) v else v)
    let hi := lo.setF (Obj.PTP_PORT_LINK_MAX q) (if x.seen then F32.max (lo.getF (Obj.PTP_PORT_LINK_MAX q)) v else v)
    d.devPdelayRespReceived q d.ptpHdr two t1 t2 t3 t4 corr
      = (hi.setD (Obj.PTP_PORT_RATE_RATIO q) (rateRatio ratio)).setAsCapable q
          (decide (link ≤ (d.getN Obj.PTP_PDELAY_TH : Int) * 65536)) := by
  intro x link v ratio e lo hi
  have hth : (hi.setD (Obj.PTP_PORT_RATE_RATIO q) (rateRatio ratio)).getN Obj.PTP_PDELAY_TH = d.getN Obj.PTP_PDELAY_TH := by
    rw [getN_setD_ne _ (by unfold Obj.PTP_PORT_RATE_RATIO Obj.PTP_PDELAY_TH; omega)]
    show (lo.setF _ _).getN _ = _
    rw [getN_setF_ne _ (by unfold Obj.PTP_PORT_LINK_MAX Obj.PTP_PDELAY_TH; omega)]
    show (e.setF _ _).getN _ = _
    rw [getN_setF_ne _ (by unfold Obj.PTP_PORT_LINK_MIN Obj.PTP_PDELAY_TH; omega)]
    show ((d.setPort _ _).setF _ _).getN _ = _
    rw [getN_setF_ne _ (by unfold Obj.PTP_PORT_LINK_DELAY Obj.PTP_PDELAY_TH; omega), getN_setPort]
  unfold devPdelayRespReceived
  rw [if_neg (by rw [ptpTakes_eq_false_iff]; exact not_not_intro rfl)]
  show (hi.setD _ _).setAsCapable q (decide (link ≤ ((hi.setD (Obj.PTP_PORT_RATE_RATIO q) (rateRatio ratio)).getN
    Obj.PTP_PDELAY_TH : Int) * 65536)) = _
  rw [hth]

theorem devPdelayRespReceived_other (hh : h ≠ d.ptpHdr) (two : Bool) (t1 t2 t3 t4 corr : Int) :
    d.devPdelayRespReceived q h two t1 t2 t3 t4 corr = d := if_pos (ptpTakes_eq_false_iff.mpr hh)

/-! Announce (R201, R214). -/

theorem devAnnounce_of_taken (hon : d.on Obj.PTP_ENABLE = true) (m : Master) (uo : Int) (uv : Bool) (lp : Nat) (tr : Bool)
    (ina : Nat) :
    let c := (d.setPort q { d.port q with master := some m }).selectMaster
    let i := if c.getN Obj.PTP_PROFILE = 1 then c.setN Obj.PTP_GM_INACCURACY ina else c
    let k := (i.setBit Obj.TB_QUALITY 1 uv).setBit Obj.TB_QUALITY 2 tr
    d.devAnnounce q d.ptpHdr m uo uv lp tr ina
      = if c.getN Obj.PTP_SLAVE_PORT ≠ q then c
        else if k.getN Obj.UTC_SOURCE = 0 then (k.set Obj.UTC_OFFSET uo).setN Obj.UTC_LEAP lp else k := by
  intro c i k
  refine if_neg (not_or.mpr ⟨?_, fun hx => ptpTakes_eq_false_iff.mp hx rfl⟩)
  rw [show d.ptpOn = true from hon]
  decide

/-! The transparent clock (R207). -/

section Forward

variable {out n : Nat} {tr tt corr : Int}

/-- The residence time of a message in the switch. -/
abbrev residence (d : Dev) (q out : Nat) (tr tt : Int) : Int := d.tTx out tt - d.tRx q tr

/-- A forwarded message as it leaves. -/
abbrev forwarded (out n : Nat) (h : PtpHdr) (type : Byte) (c : Int) : Output :=
  ptpFrame out ptpAll h type (bytesBE 2 n ++ bytesBE 8 (c % 18446744073709551616).toNat)

/-- A Sync that crosses the switch is counted, its residence among the longest. -/
abbrev countSync (d : Dev) (out : Nat) (res : Int) : Dev :=
  (d.inc (Obj.PTP_TC_FRAMES out)).setF (Obj.PTP_TC_RES_MAX out)
    (F32.max ((d.inc (Obj.PTP_TC_FRAMES out)).getF (Obj.PTP_TC_RES_MAX out)) (F32.ofRatio res 65536))

theorem devForward_of_other (hout : out ≠ switchPort q) (kind : Nat) : d.devForward q out h kind n tr tt corr = d := if_pos hout

variable (hout : out = switchPort q)
include hout

theorem devForward_message : d.devForward q out h 3 n tr tt corr = d.send (forwarded out n h 0x0B#8 corr) := by
  exact if_neg (not_not_intro hout)

/-- The Sync messages that are counted: with the link delay known, or counted as without it. -/
theorem devForward_oneStep : d.devForward q out h 0 n tr tt corr
    = if d.on (Obj.PTP_PORT_AS_CAPABLE q) then
        (d.countSync out (d.residence q out tr tt)).send
          (forwarded out n h 0#8 (corr + (d.residence q out tr tt + (d.port q).link)))
      else ((d.countSync out (d.residence q out tr tt)).inc (Obj.PTP_TC_NO_LINK q)).send
        (forwarded out n h 0#8 (corr + (d.residence q out tr tt + 0))) := by
  unfold devForward
  rw [if_neg (not_not_intro hout)]
  dsimp only
  cases d.on (Obj.PTP_PORT_AS_CAPABLE q) <;> rfl

theorem devForward_twoStep : d.devForward q out h 1 n tr tt corr
    = let keep := fun (e : Dev) (add : Int) =>
        e.setPort q { d.port q with fwd := ((d.port q).fwd ++ [(out, n, add)]).drop ((d.port q).fwd.length + 1 - 4) }
      if d.on (Obj.PTP_PORT_AS_CAPABLE q) then
        (keep (d.countSync out (d.residence q out tr tt)) (d.residence q out tr tt + (d.port q).link)).send
          (forwarded out n h 0#8 corr)
      else (keep ((d.countSync out (d.residence q out tr tt)).inc (Obj.PTP_TC_NO_LINK q)) (d.residence q out tr tt + 0)).send
        (forwarded out n h 0#8 corr) := by
  unfold devForward
  rw [if_neg (not_not_intro hout)]
  dsimp only
  cases d.on (Obj.PTP_PORT_AS_CAPABLE q) <;> rfl

theorem devForward_followUp : d.devForward q out h 2 n tr tt corr
    = match (d.port q).fwd.find? fun f => f.1 == out && f.2.1 == n with
      | some f => (d.setPort q { d.port q with fwd := (d.port q).fwd.filter fun g => !(g.1 == out && g.2.1 == n) }).send
          (forwarded out n h 8#8 (corr + f.2.2))
      | none => d.send (forwarded out n h 8#8 corr) := by
  unfold devForward
  rw [if_neg (not_not_intro hout)]
  rfl

end Forward

end Dev

/-- Settles O36: each message in the case that decides it. -/
theorem portsAndTransparentClock : Obligations.PortsAndTransparentClock := by
  intro q h s ht d x own rx tx frame peers all due
  refine ⟨?_, ?_, ?_, ?_, ?_, ?_, ?_, ?_⟩
  · exact fun hdue => yields_of_timed ht rfl (Dev.devPdelayReqSend_of_due hdue)
  · exact fun hdue => yields_of_timed ht rfl (Dev.devPdelayReqSend_of_early hdue)
  · intro n t2 t3
    refine ⟨?_, fun hh => yields_of_timed ht rfl (if_pos (Dev.ptpTakes_eq_false_iff.mpr hh))⟩
    rintro rfl
    exact yields_of_timed ht rfl (Dev.devPdelayReqReceived_own n t2 t3)
  · intro two t1 t2 t3 t4 corr link v ratio e lo hi
    refine ⟨?_, fun hh => yields_of_timed ht rfl (Dev.devPdelayRespReceived_other hh two t1 t2 t3 t4 corr)⟩
    rintro rfl
    exact yields_of_timed ht rfl (Dev.devPdelayRespReceived_own two t1 t2 t3 t4 corr d)
  · exact fun hw => yields_of_timed ht rfl (if_pos hw)
  · exact fun hw => yields_of_timed ht rfl (if_neg (Bool.eq_false_iff.mp hw))
  · intro gm p1 cc ac va p2 st uo uv lp tr ina m c i k
    refine ⟨fun hno => yields_of_timed ht rfl (if_pos (hno.imp_right Dev.ptpTakes_eq_false_iff.mpr)), ?_, ?_⟩
    · rintro hon rfl hslave
      exact yields_of_timed ht rfl ((Dev.devAnnounce_of_taken hon m uo uv lp tr ina).trans (if_pos hslave))
    · rintro hon rfl hslave
      exact yields_of_timed ht rfl
        ((Dev.devAnnounce_of_taken hon m uo uv lp tr ina).trans (if_neg (not_not_intro hslave)))
  · intro out n tr tt corr
    refine ⟨fun hout kind => yields_of_timed ht rfl (Dev.devForward_of_other hout kind), ?_⟩
    intro hout res f g made keep
    refine ⟨yields_of_timed ht rfl (Dev.devForward_message hout), fun hcap => ⟨?_, ?_⟩, ?_, fun f hf => ?_, fun hf => ?_⟩
    · exact yields_of_timed ht rfl ((Dev.devForward_oneStep hout).trans (if_pos hcap))
    · exact yields_of_timed ht rfl ((Dev.devForward_twoStep hout).trans (if_pos hcap))
    · intro hcap k
      exact ⟨yields_of_timed ht rfl ((Dev.devForward_oneStep hout).trans (if_neg (Bool.eq_false_iff.mp hcap))),
        yields_of_timed ht rfl ((Dev.devForward_twoStep hout).trans (if_neg (Bool.eq_false_iff.mp hcap)))⟩
    · refine yields_of_timed ht rfl ((Dev.devForward_followUp hout).trans ?_)
      rw [show (d.port q).fwd.find? _ = some f from hf]
    · refine yields_of_timed ht rfl ((Dev.devForward_followUp hout).trans ?_)
      rw [show (d.port q).fwd.find? _ = none from hf]

end Sys2Proof.Machine

/-! Clocks, pulses and time stamps (R197, R208, R210–R212, R214). -/

namespace Sys2Proof.Machine

open Sys2Proof

namespace Dev

variable {d : Dev} {u : Nat}

/-! The loss of Sync (R197, R201). -/

/-- The slave port forgets its master, where there is a slave port. -/
def masterLost (d : Dev) : Dev :=
  if d.getN Obj.PTP_SLAVE_PORT < 4 then
    d.setPort (d.getN Obj.PTP_SLAVE_PORT) { d.port (d.getN Obj.PTP_SLAVE_PORT) with master := none, wait := none }
  else d

theorem getN_masterLost (k : Nat) (d : Dev) : d.masterLost.getN k = d.getN k := by
  unfold masterLost
  split <;> rfl

theorem devSyncTimeout_of_other {r : Nat} (h : d.masterLost.slaveFor (d.getN Obj.PTP_GM_ID) = some r) : d.devSyncTimeout
    = (((d.masterLost.setN Obj.PTP_SLAVE_PORT r).setN Obj.PTP_STEPS_REMOVED (d.masterLost.portSteps r)).setPtp
        { d.masterLost.ptp with moved := true }).portStates := by
  unfold devSyncTimeout
  extract_lets q gm p e
  rw [show e.slaveFor gm = some r from h]
  rfl

theorem devSyncTimeout_of_none (h : d.masterLost.slaveFor (d.getN Obj.PTP_GM_ID) = none) : d.devSyncTimeout
    = (if d.getN Obj.TB_STATE = 3 then d.masterLost.setTbState TbState.holdover
      else if d.getN Obj.TB_STATE = 2 then d.masterLost.setTbState TbState.freerun
      else d.masterLost).selectMaster := by
  have hst : d.masterLost.tbState = d.getN Obj.TB_STATE := getN_masterLost _ d
  unfold devSyncTimeout
  extract_lets q gm p e
  rw [show e.slaveFor gm = none from h]
  show (if d.masterLost.tbState = _ then _ else if d.masterLost.tbState = _ then _ else _ : Dev).selectMaster = _
  rw [hst]
  rfl

/-- HOLDOVER ends in FREERUN with event 99 alone. -/
theorem setTbState_freerun_of_holdover (h : d.getN Obj.TB_STATE = 4) : d.setTbState TbState.freerun
    = ((d.bringDrift.setPtp { d.bringDrift.ptp with
          errIn := d.bringDrift.errEst, driftIn := d.bringDrift.ptp.drift, lockRun := 0, unlockRun := 0 }).setN Obj.TB_STATE
        TbState.freerun).tbEvent 99 0xFFFF := by
  have hst : d.tbState = TbState.holdover := h
  unfold setTbState
  rw [hst]
  rfl

/-! Leap seconds (R214). -/

theorem leapDue_iff (d : Dev) : d.leapDue = true ↔
    (d.getN Obj.UTC_LEAP = 1 ∧ Int.fmod ((d.leapSecond : Int) - d.get Obj.UTC_OFFSET) 86400 = 0)
      ∨ (d.getN Obj.UTC_LEAP = 2 ∧ Int.fmod ((d.leapSecond : Int) - d.get Obj.UTC_OFFSET) 86400 = 86399) := by
  unfold leapDue
  simp only [Bool.or_eq_true, Bool.and_eq_true, beq_iff_eq]

theorem devLeapApply_of_due (h : d.leapDue = true) {plus : Bool} (hp : (d.getN Obj.UTC_LEAP == 1) = plus) : d.devLeapApply
    = (((d.set Obj.UTC_OFFSET (d.get Obj.UTC_OFFSET + if plus then 1 else -1)).setN Obj.UTC_LEAP 0).setPtp
        { d.ptp with leapAt := some d.tm.mono, leapSec := some (d.leapSecond, d.get Obj.UTC_OFFSET, plus) }).tbEvent 93 0xFFFF := by
  subst hp
  exact if_neg (by rw [h]; decide)

/-! Pulse generators (R208). -/

theorem devPgPulse_of_due {t : Nat} (h : (d.pulse u).due = some t) : d.devPgPulse u
    = ((d.send (.pulse u t (d.getN (Obj.PG_WIDTH u)) (!d.on (Obj.PG_POLARITY u)))).inc (Obj.PG_FIRED u)).setPulse u
        { due := if d.getN (Obj.PG_MODE u) = 2 then some (t + d.getN (Obj.PG_PERIOD u)) else none } := by
  have hget : ∀ (o : Output) (k : Nat), k ≠ Obj.PG_FIRED u → ((d.send o).inc (Obj.PG_FIRED u)).getN k = d.getN k :=
    fun _ _ hk => getN_inc_ne hk
  unfold devPgPulse
  rw [h]
  dsimp only
  rw [hget _ _ (by unfold Obj.PG_MODE Obj.PG_FIRED; omega), hget _ _ (by unfold Obj.PG_PERIOD Obj.PG_FIRED; omega)]

theorem devPgPulse_of_none (h : (d.pulse u).due = none) : d.devPgPulse u = d := by
  unfold devPgPulse
  rw [h]

/-! Time stamp units (R210). -/

section Edge

variable {rising : Bool} {width t : Nat}

/-- Whether a unit takes an edge. -/
def EdgeWanted (d : Dev) (u : Nat) (rising : Bool) : Prop :=
  d.getN (Obj.TSU_EDGE u) = 3 ∨ (d.getN (Obj.TSU_EDGE u) = 1 ∧ rising = true) ∨ (d.getN (Obj.TSU_EDGE u) = 2 ∧ rising = false)

theorem edge_not_taken_iff : ((d.getN (Obj.TSU_EDGE u) == 3 || (d.getN (Obj.TSU_EDGE u) == 1 && rising)
    || (d.getN (Obj.TSU_EDGE u) == 2 && !rising)) = false) ↔ ¬ d.EdgeWanted u rising := by
  unfold EdgeWanted
  rw [← Bool.not_eq_true]
  simp only [Bool.or_eq_true, Bool.and_eq_true, beq_iff_eq, Bool.not_eq_true', or_assoc]

theorem devTsuEdge_of_other (h : ¬ d.EdgeWanted u rising ∨ width < d.getN (Obj.TSU_MIN_WIDTH u)) :
    d.devTsuEdge u rising width t = d := if_pos (h.imp_left edge_not_taken_iff.mpr)

variable (hw : d.EdgeWanted u rising) (hlen : d.getN (Obj.TSU_MIN_WIDTH u) ≤ width)
include hw hlen

theorem edge_taken : ¬ (((d.getN (Obj.TSU_EDGE u) == 3 || (d.getN (Obj.TSU_EDGE u) == 1 && rising)
    || (d.getN (Obj.TSU_EDGE u) == 2 && !rising)) = false) ∨ width < d.getN (Obj.TSU_MIN_WIDTH u)) :=
  not_or.mpr ⟨fun h => edge_not_taken_iff.mp h hw, Nat.not_lt.mpr hlen⟩

theorem devTsuEdge_of_full (hfull : 32 ≤ (d.tsu u).fifo.length) : d.devTsuEdge u rising width t
    = (((d.setTsu u { d.tsu u with lost := true }).inc (Obj.TSU_OVERFLOW u)).broken 6).tbEvent 95 u :=
  (if_neg (edge_taken hw hlen)).trans (if_pos hfull)

theorem devTsuEdge_of_free (hfree : (d.tsu u).fifo.length < 32) : ∃ e : TsuEntry, e.seq = (d.tsu u).seq
    ∧ e.edge = (if rising then 1 else 0)
    ∧ e.time = time96 ((((t / 8192 : Nat) : Int) - d.get (Obj.TSU_SKEW u)).toNat * 8192 * 65536)
    ∧ d.devTsuEdge u rising width t
      = if (d.tsu u).fifo.isEmpty then
          (d.setTsu u { fifo := (d.tsu u).fifo ++ [e], lost := false, seq := ((d.tsu u).seq + 1) % 65536 }).tbEvent 94 u
        else d.setTsu u { fifo := (d.tsu u).fifo ++ [e], lost := false, seq := ((d.tsu u).seq + 1) % 65536 } :=
  ⟨_, rfl, rfl, rfl, (if_neg (edge_taken hw hlen)).trans (if_neg (Nat.not_le.mpr hfree))⟩

end Edge

end Dev

/-- Settles O37: each command of the time subsystem in the cases of its function. -/
theorem clocksPulsesAndStamps : Obligations.ClocksPulsesAndStamps := by
  intro u s ht d q lost
  refine ⟨fun r h => ?_, fun h => ?_, ?_, ?_, fun drift => ?_, ?_, ?_, ?_, ?_, ?_, fun rising width t => ?_⟩
  · exact yields_of_timed ht rfl (Dev.devSyncTimeout_of_other h)
  · have hy : Yields .ptpSyncTimeout s (if d.getN Obj.TB_STATE = 3 then lost.setTbState TbState.holdover
        else if d.getN Obj.TB_STATE = 2 then lost.setTbState TbState.freerun else lost).selectMaster :=
      yields_of_timed ht rfl (Dev.devSyncTimeout_of_none h)
    refine ⟨fun h3 => ?_, fun h2 => ?_, fun h2 h3 => ?_⟩
    · rwa [if_pos h3] at hy
    · rwa [if_neg (by omega), if_pos h2] at hy
    · rwa [if_neg h3, if_neg h2] at hy
  · intro h4 hlim b e
    exact yields_of_timed ht rfl ((if_pos ⟨h4, hlim⟩).trans (Dev.setTbState_freerun_of_holdover h4))
  · intro h
    exact yields_of_timed ht rfl (if_neg fun ⟨h4, hlim⟩ => h.elim (fun h => h h4) (Nat.not_le.mpr hlim))
  · exact ⟨fun h3 => yields_of_timed ht rfl (if_neg fun h => h h3), fun h3 => yields_of_timed ht rfl (if_pos h3)⟩
  · exact yields_of_run rfl rfl
  · exact yields_of_run rfl rfl
  · intro sec off u due
    refine ⟨fun plus h => ?_, fun h => ?_⟩
    · have hp : (d.getN Obj.UTC_LEAP == 1) = plus := by
        rcases h with ⟨rfl, h, -⟩ | ⟨rfl, h, -⟩ <;> rw [h] <;> rfl
      exact yields_of_timed ht rfl (Dev.devLeapApply_of_due
        ((Dev.leapDue_iff d).mpr (h.imp And.right And.right)) hp)
    · have hdue : d.leapDue = false := Bool.eq_false_iff.mpr fun hd =>
        ((Dev.leapDue_iff d).mp hd).elim (fun hd => h true (.inl ⟨rfl, hd⟩)) fun hd => h false (.inr ⟨rfl, hd⟩)
      exact yields_of_timed ht rfl (if_pos hdue)
  · intro t hdue e
    have hy : Yields (.pgPulse u) s
        (e.setPulse u { due := if d.getN (Obj.PG_MODE u) = 2 then some (t + d.getN (Obj.PG_PERIOD u)) else none }) :=
      yields_of_timed ht rfl (Dev.devPgPulse_of_due hdue)
    exact ⟨fun h => by rwa [if_pos h] at hy, fun h => by rwa [if_neg h] at hy⟩
  · exact fun hdue => yields_of_timed ht rfl (Dev.devPgPulse_of_none hdue)
  · intro x wanted
    refine ⟨fun hw hlen hfull => ?_, fun hw hlen hnil => ?_, fun hw hlen hne hfree => ?_, fun h => ?_⟩
    · exact yields_of_timed ht rfl (Dev.devTsuEdge_of_full hw hlen hfull)
    · obtain ⟨e, hseq, hedge, htime, he⟩ := Dev.devTsuEdge_of_free (t := t) hw hlen
        (show x.fifo.length < 32 by rw [hnil]; decide)
      rw [show (d.tsu u).fifo = [] from hnil] at he
      exact ⟨e, hseq, hedge, htime, yields_of_timed ht rfl he⟩
    · obtain ⟨e, hseq, hedge, -, he⟩ := Dev.devTsuEdge_of_free (t := t) hw hlen hfree
      rw [if_neg (by rw [List.isEmpty_iff]; exact hne)] at he
      exact ⟨e, hseq, hedge, yields_of_timed ht rfl he⟩
    · exact yields_of_timed ht rfl (Dev.devTsuEdge_of_other h)

end Sys2Proof.Machine

/-! Tidepool: samples, triggers and records (R221–R226, R230). -/

namespace Sys2Proof.Machine

open Sys2Proof

namespace Dev

variable {d : Dev} {p m : Nat}

/-! A sample written into the pool's buffer. -/

/-- What a sample that is kept leaves of the pool before it joins the record: the gap's excursion over, the sample recent. -/
def tpSampleKept (d : Dev) (p : Nat) : TpPool :=
  { d.pool p with full := false, recent := (d.poolSample p :: (d.pool p).recent).take 18 }

/-- The conditions met at the sample, and the module once they are judged. -/
def tpJudged (d : Dev) (p : Nat) : List (Nat × TpCross) × Dev := (d.setPool p (d.tpSampleKept p)).poolConds p

/-- The sample has joined the record, which keeps as many as the slots hold. -/
def tpSampleJoined (d : Dev) (p : Nat) : Dev :=
  (d.tpJudged p).2.setPool p { d.tpSampleKept p with
    samples := (d.poolSample p :: (d.pool p).samples).take (max 1 ((d.tpJudged p).2.tpCapacity p)),
    written := (d.pool p).written + 1 }

/-- The causes of a trigger that are no condition of a channel: an event, the automatic time, FORCE. -/
def tpOtherCauses (d : Dev) (p : Nat) : List Nat :=
  (if (d.pool p).event then [13] else []) ++ (if (d.pool p).auto then [14] else [])
    ++ (if (d.pool p).force then [15] else [])

theorem devTpSample_of_not_taking (full : Bool) (ha : d.getN (Obj.TP_STATE p) ≠ TpState.armed)
    (hr : d.getN (Obj.TP_STATE p) ≠ TpState.ready) (hp : d.getN (Obj.TP_STATE p) ≠ TpState.post) :
    d.devTpSample p m full = d := if_pos ⟨ha, hr, hp⟩

theorem devTpSample_full (h : ¬ (d.getN (Obj.TP_STATE p) ≠ TpState.armed ∧ d.getN (Obj.TP_STATE p) ≠ TpState.ready
    ∧ d.getN (Obj.TP_STATE p) ≠ TpState.post)) : d.devTpSample p m true
      = if (d.pool p).full then d.setPool p { d.pool p with gap := true, full := true }
        else ((d.setPool p { d.pool p with gap := true, full := true }).inc (Obj.TP_GAPS p)).broken 6 :=
  (if_neg h).trans (if_pos rfl)

theorem devTpSample_of_post (h : d.getN (Obj.TP_STATE p) = TpState.post) : d.devTpSample p m false
    = (if (d.pool p).after < (d.pool p).post then
        (d.tpJudged p).2.setPool p { d.tpSampleKept p with
          samples := d.poolSample p :: (d.pool p).samples, after := (d.pool p).after + 1, written := (d.pool p).written + 1 }
      else (d.tpJudged p).2).add (Obj.TP_TRIG_IGNORED p) (d.tpJudged p).1.length := by
  have hroom : (d.getN (Obj.TP_STATE p) = TpState.post ∧ (d.pool p).after < (d.pool p).post)
      = ((d.pool p).after < (d.pool p).post) := by rw [h]; simp only [true_and]
  unfold devTpSample tpJudged tpSampleKept
  dsimp only
  rw [if_neg (fun hn => hn.2.2 h), if_neg Bool.false_ne_true]
  generalize poolConds p _ = r
  rw [if_pos h]
  simp only [hroom]

theorem devTpSample_of_pre (hp : d.getN (Obj.TP_STATE p) ≠ TpState.post)
    (h : d.getN (Obj.TP_STATE p) = TpState.armed ∨ d.getN (Obj.TP_STATE p) = TpState.ready) : d.devTpSample p m false
    = if d.getN (Obj.TP_STATE p) = TpState.armed then
        if (d.pool p).written < 64 then (d.tpSampleJoined p).add (Obj.TP_TRIG_IGNORED p) (d.tpJudged p).1.length
        else d.tpSampleJoined p
      else if (d.tpJudged p).1 = [] ∧ d.tpOtherCauses p = [] then d.tpSampleJoined p
      else (d.tpSampleJoined p).tpTrigger p m (d.tpJudged p).1 (d.tpOtherCauses p) := by
  unfold devTpSample tpSampleJoined tpJudged tpSampleKept tpOtherCauses
  dsimp only
  rw [if_neg (fun hn => h.elim hn.1 hn.2.1), if_neg Bool.false_ne_true]
  generalize poolConds p _ = r
  rw [if_neg hp]
  simp only [decide_eq_true_eq, List.isEmpty_iff]

/-! A record that is complete. -/

/-- The record is kept in its slot, and the pool has none in progress. -/
def tpRecordKept (d : Dev) (p : Nat) (r : TpRec) : Dev :=
  ((d.inc (Obj.TP_RECORDS p)).setPool p { d.pool p with
      slot := none, samples := [], trig := none, after := 0,
      recs := SMap.ins (d.pool p).recs r.slot { r with seq := (d.inc (Obj.TP_RECORDS p)).getN (Obj.TP_RECORDS p) } }).setN
    (Obj.TP_LAST_SLOT p) r.slot

/-- The slot the next record of a pool in mode REPEAT takes. -/
def tpNextSlot (d : Dev) (p : Nat) : Option Nat :=
  match d.tpFreeSlot p with
  | some n => some n
  | none => if d.on (Obj.TP_OVERWRITE p) then d.tpOldest p else none

theorem getN_setPool_ne {k : Nat} {x : TpPool} (h : k ≠ Obj.TP_SLOT_FULL p) : (d.setPool p x).getN k = d.getN k :=
  getN_setN_ne (k := Obj.TP_SLOT_FULL p) _ h

theorem mode_tpRecordKept (r : TpRec) : (d.tpRecordKept p r).getN (Obj.TP_MODE p) = d.getN (Obj.TP_MODE p) := by
  unfold tpRecordKept
  rw [getN_setN_ne _ (by unfold Obj.TP_MODE Obj.TP_LAST_SLOT; omega),
    getN_setPool_ne (by unfold Obj.TP_MODE Obj.TP_SLOT_FULL; omega),
    getN_inc_ne (by unfold Obj.TP_MODE Obj.TP_RECORDS; omega)]

theorem tpComplete_of_open {r : TpRec} {stepped : Bool} (h : d.tpOpen p stepped = some r) : d.tpComplete p stepped
    = (if d.getN (Obj.TP_MODE p) ≠ 2 then (d.tpRecordKept p r).setN (Obj.TP_STATE p) TpState.done
      else match (d.tpRecordKept p r).tpNextSlot p with
        | some n => (d.tpRecordKept p r).tpTake p n
        | none => (d.tpRecordKept p r).setN (Obj.TP_STATE p) TpState.full).tpEvent (100 + p) p := by
  unfold tpComplete
  rw [h, ← mode_tpRecordKept r]
  rfl

end Dev

/-- Settles O38: a sample, the 64th sample, the automatic time and the end of a record, by the pool's state. -/
theorem tidepoolRecords : Obligations.TidepoolRecords := by
  intro p m s d x st y r
  refine ⟨fun h full => ?_, ?_, ?_, fun h => ?_, fun h hw => ?_, fun h => ?_, ?_, fun h hfull rec0 ho => ?_,
    fun h => ?_⟩
  · refine yields_of_run rfl (Dev.devTpSample_of_not_taking full ?_ ?_ ?_) <;> intro hst <;>
      rcases h with h | h | h <;> exact absurd (h.symm.trans hst) (by decide)
  · intro h g
    have hy : Yields (.tpSampleWritten p m true) s (if x.full then g else (g.inc (Obj.TP_GAPS p)).broken 6) :=
      yields_of_run rfl (Dev.devTpSample_full fun ⟨ha, hr, hp⟩ => h.elim ha fun h => h.elim hr hp)
    exact ⟨fun hf => by rwa [hf, if_neg Bool.false_ne_true] at hy, fun hf => by rwa [hf, if_pos rfl] at hy⟩
  · intro e others
    have hy (h : st = TpState.armed ∨ st = TpState.ready) : Yields (.tpSampleWritten p m false) s
        (if st = TpState.armed then if x.written < 64 then e.add (Obj.TP_TRIG_IGNORED p) r.1.length else e
        else if r.1 = [] ∧ others = [] then e else e.tpTrigger p m r.1 others) :=
      yields_of_run rfl (Dev.devTpSample_of_pre
        (fun hp => h.elim (fun h => absurd (h.symm.trans hp) (by decide)) fun h => absurd (h.symm.trans hp) (by decide)) h)
    have hready (h : st = TpState.ready) : st ≠ TpState.armed := fun ha => absurd (h.symm.trans ha) (by decide)
    refine ⟨fun h hw => ?_, fun h hw => ?_, fun h hm ho => ?_, fun h hmo => ?_⟩
    · simpa only [if_pos h, if_pos hw] using hy (.inl h)
    · simpa only [if_pos h, if_neg (Nat.not_lt.mpr hw)] using hy (.inl h)
    · simpa only [if_neg (hready h), if_pos (And.intro hm ho)] using hy (.inr h)
    · simpa only [if_neg (hready h), if_neg fun hn : r.1 = [] ∧ others = [] => hmo.elim (· hn.1) (· hn.2)] using hy (.inr h)
  · have hy : Yields (.tpSampleWritten p m false) s _ := yields_of_run rfl (Dev.devTpSample_of_post h)
    exact ⟨fun hr => by rwa [if_pos hr] at hy, fun hr => by rwa [if_neg (Nat.not_lt.mpr hr)] at hy⟩
  · exact yields_of_run rfl (if_pos ⟨h, hw⟩)
  · exact yields_of_run rfl (if_neg fun ⟨ha, hw⟩ => h.elim (· ha) (Nat.not_lt.mpr hw))
  · intro past
    refine ⟨fun hr hm ht => yields_of_run rfl (if_pos ⟨hr, hm, ht⟩), fun h => yields_of_run rfl (if_neg fun ⟨hr, hm, ht⟩ => ?_)⟩
    exact h.elim (· hr) fun h => h.elim (· hm) fun h => absurd (h.symm.trans ht) Bool.false_ne_true
  · intro e k y slot
    have hy : Yields (.tpRecordComplete p) s _ :=
      yields_of_run rfl ((if_pos ⟨h, hfull⟩).trans (Dev.tpComplete_of_open ho))
    refine ⟨fun hm => ?_, fun n hm hn => ?_, fun hm hn => ?_⟩
    · rwa [if_pos hm] at hy
    · rwa [if_neg (not_not.mpr hm), show (d.tpRecordKept p rec0).tpNextSlot p = some n from hn] at hy
    · rwa [if_neg (not_not.mpr hm), show (d.tpRecordKept p rec0).tpNextSlot p = none from hn] at hy
  · exact yields_of_run rfl (if_neg fun ⟨hp, hf⟩ => h.elim (· hp) (Nat.not_lt.mpr hf))

end Sys2Proof.Machine

/-! Travelling waves: arrivals, single-ended results, time-outs (R232, R233, R235, R236). -/

namespace Sys2Proof.Machine

open Sys2Proof

/-! Lengths of little-endian fields. -/

theorem length_bytesLE (k v : Nat) : (bytesLE k v).length = k := by
  induction k generalizing v with
  | zero => rfl
  | succ k ih => rw [bytesLE, List.length_cons, ih]

theorem length_fracTime (t : Nat) : (fracTime t).length = 12 := by
  unfold fracTime time96LE
  simp only [List.length_append, length_bytesLE]

namespace Dev

variable {d : Dev} {l n : Nat}

/-! What the line's tasks count for a run (assumption log 86). -/

/-- The run of the `k`-th task of a line counted, with its response time; a miss where it reaches the task's deadline. -/
def twCounted (d : Dev) (l k due : Nat) : Dev :=
  let resp := d.nsSince due
  let f := (d.inc (Obj.TASK_RUNS (twTask l k))).setN (Obj.TASK_RESP_LAST (twTask l k)) resp
  let g := f.setN (Obj.TASK_RESP_MAX (twTask l k)) (max resp (f.getN (Obj.TASK_RESP_MAX (twTask l k))))
  if twDeadline k ≤ resp then g.countMiss (twTask l k) resp else g

theorem twRan_some (k due : Nat) (e : Dev) : d.twRan l k (some (due, e)) = e.twCounted l k due := rfl

/-! The arrival of a line's wave at this end. -/

theorem devTwLocalArrival_of_off (h : d.twOn l = false) : d.devTwLocalArrival l n = none := if_pos h

theorem devTwLocalArrival_of_no_record (h : d.tpView (d.getN (Obj.TW_POOL l)) n = none) :
    d.devTwLocalArrival l n = none := by
  unfold devTwLocalArrival
  dsimp only
  rw [h]
  exact ite_self _

theorem devTwLocalArrival_of_unfit {r : TpRec} (hr : d.tpView (d.getN (Obj.TW_POOL l)) n = some r)
    (h : r.trig.lines.contains l = true ∨ r.flags / 4 ≠ 0 ∨ d.lineArrival l r = none) : d.devTwLocalArrival l n = none := by
  unfold devTwLocalArrival
  dsimp only
  rw [hr]
  dsimp only
  rcases h with h | h | h
  · rw [if_pos (Or.inl h), ite_self]
  · rw [if_pos (Or.inr h), ite_self]
  · rw [h]
    dsimp only
    rw [ite_self, ite_self]

/-- The 32 bytes an arrival publishes. -/
def twArrivalBytes (d : Dev) (l : Nat) (r : TpRec) (j : Nat) (k : TpCross) (t : Nat) : List Byte :=
  bytesLE 4 (d.getN (Obj.TW_LINE_ID l))
    ++ [BitVec.ofNat 8 (d.getN (Obj.TW_END l)),
        BitVec.ofNat 8 ((if decide (r.trig.state = TbState.locked) then 1 else 0) + (if k.neg then 2 else 0)
          + (if r.stepped then 4 else 0))]
    ++ bytesLE 2 (d.getN (Obj.TW_ARRIVALS l) % 65536) ++ fracTime t ++ bytesLE 4 (min (r.trig.err + 10) 0xFFFFFFFF)
    ++ bytesLE 4 (d.twAmplitude l r j t).toNat ++ [BitVec.ofNat 8 (d.getN Obj.HOST_NODE_ID), 0#8, 0#8, 0#8]

section Bytes

variable (r : TpRec) (j : Nat) (k : TpCross) (t : Nat)

theorem length_twArrivalBytes : (d.twArrivalBytes l r j k t).length = 32 := by
  unfold twArrivalBytes
  simp only [List.length_append, List.length_cons, List.length_nil, length_bytesLE, length_fracTime]

theorem take_twArrivalBytes : (d.twArrivalBytes l r j k t).take 4 = bytesLE 4 (d.getN (Obj.TW_LINE_ID l)) := by
  unfold twArrivalBytes
  simp only [List.append_assoc]
  exact List.take_left' (length_bytesLE 4 _)

theorem take_drop_twArrivalBytes : ((d.twArrivalBytes l r j k t).drop 8).take 12 = fracTime t := by
  unfold twArrivalBytes
  rw [List.append_assoc, List.append_assoc, List.append_assoc, List.drop_left' (by
    simp only [List.length_append, List.length_cons, List.length_nil, length_bytesLE])]
  exact List.take_left' (length_fracTime t)

end Bytes

theorem line_twTaken (p : Nat) : ((d.twTaken l p n).inc (Obj.TW_ARRIVALS l)).getN (Obj.TW_LINE_ID l)
    = d.getN (Obj.TW_LINE_ID l) := by
  rw [getN_inc_ne (by unfold Obj.TW_LINE_ID Obj.TW_ARRIVALS; omega)]
  exact getN_setPool_ne (by unfold Obj.TW_LINE_ID Obj.TP_SLOT_FULL; omega)

theorem tm_tpEvent (e src : Nat) (d : Dev) : (d.tpEvent e src).tm = d.tm := by
  obtain ⟨w, x, -, h⟩ := signal_eq e src (d.setN Obj.TP_EVENT_SRC src)
  rw [tpEvent, signalAt, h]
  rfl

theorem tm_twPublished (p : Nat) (b : List Byte) :
    ((((d.twTaken l p n).inc (Obj.TW_ARRIVALS l)).setBlob (Obj.TW_LOCAL_OUT l) b).tpEvent 108 l).tm = d.tm :=
  tm_tpEvent _ _ _

/-- The arrival that waits for its partner: 10 ns on the record's error. -/
def twArrivalOf (d : Dev) (r : TpRec) (t : Nat) : TwArrival :=
  { time := t, err := min (r.trig.err + 10) 0xFFFFFFFF, locked := decide (r.trig.state = TbState.locked), since := d.tm.mono }

theorem devTwLocalArrival_of_fit {r : TpRec} {j t : Nat} {k : TpCross} (hon : d.twOn l = true)
    (hr : d.tpView (d.getN (Obj.TW_POOL l)) n = some r) (hl : r.trig.lines.contains l = false) (hf : r.flags / 4 = 0)
    (ha : d.lineArrival l r = some (j, k, t)) : ∃ b : List Byte, b.length = 32
      ∧ b.take 4 = bytesLE 4 (d.getN (Obj.TW_LINE_ID l)) ∧ (b.drop 8).take 12 = fracTime t
      ∧ d.devTwLocalArrival l n
        = some (((r.trig.at0 : Int) + ((t : Int) - r.trig.time) * 65536).toNat + d.getN (Obj.TW_BLANK l) * 1000 * nsUnit,
          ((((d.twTaken l (d.getN (Obj.TW_POOL l)) n).inc (Obj.TW_ARRIVALS l)).setBlob (Obj.TW_LOCAL_OUT l) b).tpEvent 108
            l).twLocal l (d.twArrivalOf r t)) := by
  refine ⟨((d.twTaken l (d.getN (Obj.TW_POOL l)) n).inc (Obj.TW_ARRIVALS l)).twArrivalBytes l r j k t,
    length_twArrivalBytes r j k t, ?_, take_drop_twArrivalBytes r j k t, ?_⟩
  · rw [take_twArrivalBytes, line_twTaken]
  · unfold devTwLocalArrival
    dsimp only
    rw [hr, if_neg (by rw [hon]; decide)]
    dsimp only
    rw [if_neg (by rw [hl, hf]; decide), ha]
    dsimp only
    rw [tm_twPublished, twArrivalOf, twArrivalBytes]

theorem twPublish_of_none {m : List Host.Cell} (h : d.devTwLocalArrival l n = none) : d.twPublish m l n = d := by
  unfold twPublish
  rw [h]
  rfl

theorem twPublish_of_some {m : List Host.Cell} {due : Nat} {e : Dev} (h : d.devTwLocalArrival l n = some (due, e)) :
    d.twPublish m l n = (e.pushObject m (Obj.TW_LOCAL_OUT l)).twCounted l 0 due := by
  unfold twPublish
  rw [h]
  rfl

/-! The single-ended result. -/

/-- A result of a line reported with its status. -/
def twReported (d : Dev) (l st : Nat) : Dev := (d.setN (Obj.TW_SE_STATUS l) st).tpEvent 109 l

/-- The record ends before the reflection of the line's far end can come. -/
def TwShort (d : Dev) (l : Nat) (r : TpRec) : Prop :=
  F64.lt (secondsOf ((r.nPost * r.trig.step : Nat) : Int))
    (F64.div (F64.mul (F64.ofInt 2) (d.getD (Obj.TW_LENGTH l))) (d.getD (Obj.TW_VELOCITY l))) = true

/-- The first crossing that is a reflection of the one before it. -/
def twEcho (d : Dev) (l : Nat) (r : TpRec) (k : TpCross) (t : Nat) : Option (Nat × TpCross) :=
  (d.lineCrossings l r
      ((t + d.getN (Obj.TW_BLANK l) * 1000 * nsFrac - r.trig.first + r.trig.step - 1) / r.trig.step)).find? fun y =>
    d.getN (Obj.TW_SE_POLARITY l) == 2 || (d.getN (Obj.TW_SE_POLARITY l) == 0 && y.2.neg == k.neg)
      || (d.getN (Obj.TW_SE_POLARITY l) == 1 && y.2.neg != k.neg)

/-- The way the wave ran between the arrival and its reflection. -/
def twWay (d : Dev) (l : Nat) (r : TpRec) (t : Nat) (x : Nat × TpCross) : F64 :=
  F64.div (F64.mul (d.getD (Obj.TW_VELOCITY l))
    (secondsOf ((d.crossTime (d.getN (Obj.TW_POOL l)) (d.getN (Obj.TW_COND l)) r x.1 x.2 : Int) - t))) (F64.ofInt 2)

theorem devTwSingleEnded_of_off (h : d.twOn l = false) : d.devTwSingleEnded l n = none := if_pos h

theorem devTwSingleEnded_of_no_record (h : d.tpRecord (d.getN (Obj.TW_POOL l)) n = none) :
    d.devTwSingleEnded l n = none := by
  unfold devTwSingleEnded
  rw [h]
  exact ite_self _

section Single

variable {r : TpRec} (hon : d.twOn l = true) (hr : d.tpRecord (d.getN (Obj.TW_POOL l)) n = some r)
include hon hr

theorem devTwSingleEnded_of_flagged (hf : r.flags / 2 ≠ 0) :
    d.devTwSingleEnded l n = some (r.ended, d.twReported l 4) := by
  unfold devTwSingleEnded
  rw [hr, if_neg (by rw [hon]; decide)]
  exact if_pos hf

theorem devTwSingleEnded_of_no_arrival (hf : r.flags / 2 = 0) (ha : d.lineArrival l r = none) :
    d.devTwSingleEnded l n = none := by
  unfold devTwSingleEnded
  rw [hr, if_neg (by rw [hon]; decide)]
  dsimp only
  rw [if_neg (not_not.mpr hf), ha]

variable {j t : Nat} {k : TpCross} (hf : r.flags / 2 = 0) (ha : d.lineArrival l r = some (j, k, t))
include hf ha

theorem devTwSingleEnded_of_short (hs : d.TwShort l r) :
    d.devTwSingleEnded l n = some (r.ended, d.twReported l 3) := by
  unfold devTwSingleEnded
  rw [hr, if_neg (by rw [hon]; decide)]
  dsimp only
  rw [if_neg (not_not.mpr hf), ha]
  exact if_pos hs

theorem devTwSingleEnded_of_long (hs : ¬ d.TwShort l r) : d.devTwSingleEnded l n
    = match d.twEcho l r k t with
      | none => some (r.ended, d.twReported l 2)
      | some x => some (r.ended, ((d.setD (Obj.TW_SE_X l) (d.twWay l r t x)).setD (Obj.TW_SE_ALT l)
          (F64.sub (d.getD (Obj.TW_LENGTH l)) (d.twWay l r t x))).twReported l 1) := by
  unfold devTwSingleEnded
  rw [hr, if_neg (by rw [hon]; decide)]
  dsimp only
  rw [if_neg (not_not.mpr hf), ha]
  refine (if_neg hs).trans ?_
  unfold twEcho
  generalize List.find? _ _ = x
  cases x <;> rfl

end Single

theorem twSingle_of_none (h : d.devTwSingleEnded l n = none) : d.twSingle l n = d := by
  unfold twSingle
  rw [h]
  rfl

theorem twSingle_of_some {due : Nat} {e : Dev} (h : d.devTwSingleEnded l n = some (due, e)) :
    d.twSingle l n = e.twCounted l 1 due := by
  unfold twSingle
  rw [h]
  rfl

/-! Arrivals that stay without a partner. -/

theorem devTwMatchTimeout_local_nil (h : (d.twLine l).locals = []) : d.devTwMatchTimeout l true = d := by
  unfold devTwMatchTimeout
  dsimp only
  rw [if_pos rfl, h]

theorem devTwMatchTimeout_remote_nil (h : (d.twLine l).remotes = []) : d.devTwMatchTimeout l false = d := by
  unfold devTwMatchTimeout
  dsimp only
  rw [if_neg Bool.false_ne_true, h]

variable {a : TwArrival} {t : List TwArrival}

theorem devTwMatchTimeout_local_cons (h : (d.twLine l).locals = a :: t) : d.devTwMatchTimeout l true
    = if d.waited a.since (d.getN (Obj.TW_MATCH_TIMEOUT l) * 1000000 * nsUnit) = false then d
      else ((d.setTwLine l { d.twLine l with locals := t }).setN (Obj.TW_DE_STATUS l) (if t = [] then 3 else 1)).tpEvent 111 l := by
  unfold devTwMatchTimeout
  dsimp only
  rw [if_pos rfl, h]
  dsimp only
  simp only [if_true, List.isEmpty_iff]

theorem devTwMatchTimeout_remote_cons (h : (d.twLine l).remotes = a :: t) : d.devTwMatchTimeout l false
    = if d.waited a.since (d.getN (Obj.TW_MATCH_TIMEOUT l) * 1000000 * nsUnit) = false then d
      else d.setTwLine l { d.twLine l with remotes := t } := by
  unfold devTwMatchTimeout
  dsimp only
  rw [if_neg Bool.false_ne_true, h]
  dsimp only
  rw [if_neg Bool.false_ne_true]

end Dev

/-- Settles O39: the arrival, the single-ended result and the time-out of a line, by what its record and its lists hold. -/
theorem travellingWaves : Obligations.TravellingWaves := by
  intro l n s d x p ran
  refine ⟨fun h => ⟨?_, ?_⟩, fun h => ?_, fun r hr h => ?_, ?_, fun h => ?_, ?_, ?_⟩
  · exact yields_of_run rfl (Dev.twPublish_of_none (Dev.devTwLocalArrival_of_off h))
  · exact yields_of_run rfl (Dev.twSingle_of_none (Dev.devTwSingleEnded_of_off h))
  · exact yields_of_run rfl (Dev.twPublish_of_none (Dev.devTwLocalArrival_of_no_record h))
  · exact yields_of_run rfl (Dev.twPublish_of_none (Dev.devTwLocalArrival_of_unfit hr h))
  · intro hon r hr hl hf j k t ha due
    obtain ⟨b, hlen, hid, htime, h⟩ := Dev.devTwLocalArrival_of_fit hon hr hl hf ha
    exact ⟨b, hlen, hid, htime, yields_of_run rfl (Dev.twPublish_of_some h)⟩
  · exact yields_of_run rfl (Dev.twSingle_of_none (Dev.devTwSingleEnded_of_no_record h))
  · intro hon r hr said
    refine ⟨fun hf => ?_, fun hf ha => ?_, fun hf j k t ha => ?_⟩
    · exact yields_of_run rfl (Dev.twSingle_of_some (Dev.devTwSingleEnded_of_flagged hon hr hf))
    · exact yields_of_run rfl (Dev.twSingle_of_none (Dev.devTwSingleEnded_of_no_arrival hon hr hf ha))
    · intro len v short start pol echo
      have hlong (hs : short = false) : ¬ d.TwShort l r := Bool.eq_false_iff.mp hs
      refine ⟨fun hs => ?_, fun hs he => ?_, ?_⟩
      · exact yields_of_run rfl (Dev.twSingle_of_some (Dev.devTwSingleEnded_of_short hon hr hf ha hs))
      · have h := Dev.devTwSingleEnded_of_long hon hr hf ha (hlong hs)
        rw [show d.twEcho l r k t = none from he] at h
        exact yields_of_run rfl (Dev.twSingle_of_some h)
      · intro hs j2 k2 he t2 u
        have h := Dev.devTwSingleEnded_of_long hon hr hf ha (hlong hs)
        rw [show d.twEcho l r k t = some (j2, k2) from he] at h
        exact yields_of_run rfl (Dev.twSingle_of_some h)
  · intro past
    refine ⟨fun h => ?_, fun h => ?_, fun a t h => ⟨fun hp => ?_, fun hp => ?_⟩, fun a t h => ⟨fun hp => ?_, fun hp => ?_⟩⟩
    · exact yields_of_run rfl (Dev.devTwMatchTimeout_local_nil h)
    · exact yields_of_run rfl (Dev.devTwMatchTimeout_remote_nil h)
    · exact yields_of_run rfl ((Dev.devTwMatchTimeout_local_cons h).trans (if_neg (ne_of_eq_of_ne hp Bool.noConfusion)))
    · exact yields_of_run rfl ((Dev.devTwMatchTimeout_local_cons h).trans (if_pos hp))
    · exact yields_of_run rfl ((Dev.devTwMatchTimeout_remote_cons h).trans (if_neg (ne_of_eq_of_ne hp Bool.noConfusion)))
    · exact yields_of_run rfl ((Dev.devTwMatchTimeout_remote_cons h).trans (if_pos hp))

end Sys2Proof.Machine

/-! The phasor engine: frames and a client's commands (R245, R250, R252, R253, R255). -/

namespace Sys2Proof.Machine

open Sys2Proof

namespace Dev

variable {d : Dev} {q udp idcode : Nat} {addr : List Byte}

/-! A client's command. -/

/-- The engine takes the datagrams of a UDP port. -/
def PhHears (d : Dev) (udp : Nat) : Prop := d.phOn = true ∧ d.getN Obj.PH_UDP_PORT = udp

theorem phHears_iff : d.phHears udp = true ↔ d.PhHears udp := by
  unfold phHears PhHears
  rw [Bool.and_eq_true, beq_iff_eq]

/-- A command counted as rejected at a stream. -/
def phRejected (d : Dev) (k : Nat) : Dev := (d.inc (Obj.PHS_CMD_REJECT k)).phEvent 114 k

section Command

variable {act : Nat → Dev → Dev}

theorem phCommand_of_unheard (h : ¬ d.PhHears udp) : d.phCommand udp idcode addr act = d :=
  if_pos (Bool.eq_false_iff.mpr fun hh => h (phHears_iff.mp hh))

section
variable (h : d.PhHears udp)
include h

theorem phCommand_of_allowed (hq : d.phByIdcode idcode = some q) (ha : d.phAllows q addr = true) :
    d.phCommand udp idcode addr act = act q d := by
  unfold phCommand
  rw [if_neg (by rw [phHears_iff.mpr h]; decide), hq]
  exact if_pos ha

theorem phCommand_of_other_address (hq : d.phByIdcode idcode = some q) (ha : d.phAllows q addr = false) :
    d.phCommand udp idcode addr act = d.phRejected q := by
  unfold phCommand
  rw [if_neg (by rw [phHears_iff.mpr h]; decide), hq]
  exact if_neg (by rw [ha]; decide)

theorem phCommand_of_unknown (hq : d.phByIdcode idcode = none) :
    d.phCommand udp idcode addr act = d.phRejected d.phFirst := by
  unfold phCommand
  rw [if_neg (by rw [phHears_iff.mpr h]; decide), hq]
  rfl

theorem devPhIgnored_of_bad_chk :
    d.devPhIgnored udp idcode addr false = d.phRejected ((d.phByIdcode idcode).getD d.phFirst) :=
  (if_neg Bool.false_ne_true).trans (if_neg (by rw [phHears_iff.mpr h]; decide))

end

theorem devPhIgnored_of_unheard (h : ¬ d.PhHears udp) : d.devPhIgnored udp idcode addr false = d :=
  (if_neg Bool.false_ne_true).trans (if_pos (Bool.eq_false_iff.mpr fun hh => h (phHears_iff.mp hh)))

end Command

/-! A stream's frame. -/

/-- The report is later than the stream's last. -/
def phLater (x : Dev) (q sec n : Nat) : Bool :=
  match (x.phStream q).last with
  | some (s0, n0) => decide (s0 < sec ∨ (s0 = sec ∧ n0 < n))
  | none => true

theorem phLater_iff (x : Dev) (q sec n : Nat) : x.phLater q sec n = true ↔
    ∀ y, (x.phStream q).last = some y → y.1 < sec ∨ (y.1 = sec ∧ y.2 < n) := by
  unfold phLater
  cases (x.phStream q).last with
  | none => exact ⟨fun _ _ h => absurd h.symm (Option.some_ne_none _), fun _ => rfl⟩
  | some y =>
    refine decide_eq_true_iff.trans ⟨fun h z hz => ?_, fun h => h y rfl⟩
    obtain rfl := Option.some.inj hz
    exact h

theorem phSends_iff (x : Dev) (q sec n : Nat) : x.phSends q sec n = true ↔
    x.on (Obj.PHS_STATE q) = true ∧ x.getN Obj.TB_STATE ≠ 0 ∧ (x.ph.stopped = true → x.getN Obj.PH_UNLOCK_ACTION ≠ 1)
      ∧ (∀ y, (x.phStream q).last = some y → y.1 < sec ∨ (y.1 = sec ∧ y.2 < n))
      ∧ (x.phStream q).since ≤ (x.phInstant q sec n : Int) - x.tm.steps ∧ x.standby = false := by
  have hparts : x.phSends q sec n = true ↔ x.on (Obj.PHS_STATE q) = true ∧ (x.tbState != TbState.invalid) = true
      ∧ (!(x.ph.stopped && x.getN Obj.PH_UNLOCK_ACTION == 1)) = true ∧ x.phLater q sec n = true
      ∧ decide ((x.phStream q).since ≤ (x.phInstant q sec n : Int) - x.tm.steps) = true ∧ (!x.standby) = true := by
    unfold phSends
    simp only [Bool.and_eq_true, and_assoc]
    exact Iff.rfl
  rw [hparts, bne_iff_ne, Bool.not_eq_true', Bool.and_eq_false_imp, beq_eq_false_iff_ne, phLater_iff, decide_eq_true_iff,
    Bool.not_eq_true']
  exact Iff.rfl

section Frame

variable {sec n : Nat}

/-- The stream is in service and has a report of that number. -/
def PhRuns (d : Dev) (q n : Nat) : Prop :=
  d.phRuns = true ∧ d.on (Obj.PHS_ENABLE q) = true ∧ n < d.getN (Obj.PHS_RATE q)

/-- The reports of the stream's sets at an instant. -/
def phReports (d : Dev) (q sec n : Nat) : List (Nat × Option PhEstimate × Bool) :=
  (d.phSetsOf q).map fun x => (x, d.phReport x sec n (d.getN (Obj.PHS_RATE q)))

/-- The sets have taken their reports, and a stop may be over. -/
def phReported (d : Dev) (q sec n : Nat) : Dev :=
  ((d.phReports q sec n).foldl (fun e x => e.phTake x.1 sec n (d.getN (Obj.PHS_RATE q)) x.2) d).phResume q sec n


/-- The report is over: none of it or before it is sent again. -/
def phPast (x : Dev) (q sec n : Nat) : Dev := x.setPhStream q { x.phStream q with last := some (sec, n) }

/-- The frame of a report (Table 10-7). -/
def phReportFrame (d : Dev) (q sec n : Nat) : List Byte :=
  phFrame 0xAA01 (d.getN (Obj.PHS_IDCODE q)) (d.phSoc sec)
    (d.phQuality * 16777216 + n * 12000000 / d.getN (Obj.PHS_RATE q))
    ((d.phReports q sec n).flatMap fun x => d.phBlock (d.on (Obj.PHS_POLAR q)) x.2)

/-- The report has left in a frame to the stream's destination. -/
def phSent (d : Dev) (q sec n : Nat) : Dev :=
  let x := (d.phReported q sec n).phPast q sec n
  (x.inc (Obj.PHS_FRAMES q)).phSend (x.phStream q).dest (d.phReportFrame q sec n)

theorem devPhFrameReady_of_idle (h : ¬ d.PhRuns q n ∨ ¬ d.phInstant q sec n + d.phSpan q ≤ d.tm.now + d.tc * nsUnit) :
    d.devPhFrameReady q sec n = d := by
  refine if_pos ?_
  by_contra hn
  obtain ⟨hruns, hen, hlt, hdue⟩ : ¬ d.phRuns = false ∧ ¬ d.on (Obj.PHS_ENABLE q) = false ∧ ¬ d.getN (Obj.PHS_RATE q) ≤ n
      ∧ ¬ d.tm.now + d.tc * nsUnit < d.phInstant q sec n + d.phSpan q := by
    simpa only [not_or] using hn
  exact h.elim (· ⟨Bool.eq_true_of_not_eq_false hruns, Bool.eq_true_of_not_eq_false hen, Nat.not_le.mp hlt⟩)
    (· (Nat.not_lt.mp hdue))

section Due
variable (h : d.PhRuns q n) (hdue : d.phInstant q sec n + d.phSpan q ≤ d.tm.now + d.tc * nsUnit)
include h hdue

theorem devPhFrameReady_of_due : d.devPhFrameReady q sec n
    = if (d.phReported q sec n).phSends q sec n = false then d.phReported q sec n
      else if d.phLimit q sec n < d.tm.now then (d.phReported q sec n).phDrop q sec n
      else d.phSent q sec n := by
  obtain ⟨hruns, hen, hlt⟩ := h
  refine if_neg ?_
  rintro (hn | hn | hn | hn)
  · exact Bool.eq_false_iff.mp hn hruns
  · exact Bool.eq_false_iff.mp hn hen
  · exact Nat.not_lt.mpr hn hlt
  · exact Nat.not_lt.mpr hdue hn

end Due

/-- A frame past its limit is due to be dropped. -/
def PhTooLate (d : Dev) (q sec n : Nat) : Prop :=
  d.PhRuns q n ∧ d.phSends q sec n = true ∧ d.phLimit q sec n ≤ d.tm.now + d.tc * nsUnit

theorem devPhFrameDropped_of_late (h : d.PhTooLate q sec n) : d.devPhFrameDropped q sec n = d.phDrop q sec n := by
  obtain ⟨⟨hruns, hen, hlt⟩, hs, hl⟩ := h
  refine if_neg ?_
  rintro (hn | hn | hn | hn | hn)
  · exact Bool.eq_false_iff.mp hn hruns
  · exact Bool.eq_false_iff.mp hn hen
  · exact Nat.not_lt.mpr hn hlt
  · exact Bool.eq_false_iff.mp hn hs
  · exact Nat.not_lt.mpr hl hn

theorem devPhFrameDropped_of_not_late (h : ¬ d.PhTooLate q sec n) : d.devPhFrameDropped q sec n = d := by
  refine if_pos ?_
  by_contra hn
  obtain ⟨hruns, hen, hlt, hs, hl⟩ : ¬ d.phRuns = false ∧ ¬ d.on (Obj.PHS_ENABLE q) = false ∧ ¬ d.getN (Obj.PHS_RATE q) ≤ n
      ∧ ¬ d.phSends q sec n = false ∧ ¬ d.tm.now + d.tc * nsUnit < d.phLimit q sec n := by
    simpa only [not_or] using hn
  exact h ⟨⟨Bool.eq_true_of_not_eq_false hruns, Bool.eq_true_of_not_eq_false hen, Nat.not_le.mp hlt⟩,
    Bool.eq_true_of_not_eq_false hs, Nat.not_lt.mp hl⟩

end Frame

end Dev

section Every

variable {udp idcode port : Nat} {addr : List Byte} {s : State} {e : Dev}

/-- A datagram's fate that does not depend on the command holds of each of the six. -/
theorem yields_of_every_command (ht : s.dev.tm.timeclk = true)
    (h : ∀ act, s.dev.phCommand udp idcode addr act = e) :
    Yields (.phCmdDataOff ⟨udp, idcode⟩ addr) s e ∧ Yields (.phCmdDataOn ⟨udp, idcode⟩ addr port) s e
      ∧ Yields (.phCmdHeader ⟨udp, idcode⟩ addr port) s e ∧ Yields (.phCmdCfg2 ⟨udp, idcode⟩ addr port) s e
      ∧ Yields (.phCmdCfg3 ⟨udp, idcode⟩ addr port) s e ∧ Yields (.phCmdIgnored ⟨udp, idcode⟩ addr true) s e :=
  ⟨yields_of_timed ht rfl (h _), yields_of_timed ht rfl (h _), yields_of_timed ht rfl (h _), yields_of_timed ht rfl (h _),
    yields_of_timed ht rfl (h _), yields_of_timed ht rfl ((if_pos rfl).trans (h _))⟩

end Every

/-- Settles O40: a command by the port and the address it came from, a frame by its instant and its limit. -/
theorem phasorCommands : Obligations.PhasorCommands := by
  intro q udp idcode port addr s ht d switched dest sent every rejected hears
  refine ⟨fun h => ⟨?_, ?_⟩, fun h => ⟨fun hq ha => ?_, fun hq ha => ?_, fun hq => ?_, ?_⟩, ?_⟩
  · exact yields_of_every_command ht fun _ => Dev.phCommand_of_unheard h
  · exact yields_of_timed ht rfl (Dev.devPhIgnored_of_unheard h)
  · have hact (act : Nat → Dev → Dev) : d.phCommand udp idcode addr act = act q d := Dev.phCommand_of_allowed h hq ha
    exact ⟨yields_of_timed ht rfl (hact _), yields_of_timed ht rfl (hact _), yields_of_timed ht rfl (hact _),
      yields_of_timed ht rfl (hact _), yields_of_timed ht rfl (hact _), yields_of_timed ht rfl ((if_pos rfl).trans (hact _))⟩
  · exact yields_of_every_command ht fun _ => Dev.phCommand_of_other_address h hq ha
  · exact yields_of_every_command ht fun _ => Dev.phCommand_of_unknown h hq
  · exact yields_of_timed ht rfl (Dev.devPhIgnored_of_bad_chk h)
  · intro sec n fs runs due reps e past dropped
    refine ⟨fun x => Dev.phSends_iff x q sec n, fun h => ?_, fun h hdue => ?_, ?_, ?_⟩
    · exact yields_of_timed ht rfl (Dev.devPhFrameReady_of_idle h)
    · have hy : Yields (.phFrameReady q sec n) s _ := yields_of_timed ht rfl (Dev.devPhFrameReady_of_due h hdue)
      refine ⟨fun hs => ?_, fun hs hl => ?_, ?_⟩
      · rwa [if_pos (show (d.phReported q sec n).phSends q sec n = false from hs)] at hy
      · rwa [if_neg (ne_of_eq_of_ne (show (d.phReported q sec n).phSends q sec n = true from hs) Bool.noConfusion),
          if_pos hl] at hy
      · intro hs hl f
        rwa [if_neg (ne_of_eq_of_ne (show (d.phReported q sec n).phSends q sec n = true from hs) Bool.noConfusion),
          if_neg (Nat.not_lt.mpr hl)] at hy
    · intro act
      exact ⟨fun h => yields_of_run rfl (Dev.devPhFrameDropped_of_late h),
        fun h => yields_of_run rfl (Dev.devPhFrameDropped_of_not_late h)⟩
    · intro act
      exact ⟨fun h => yields_of_run rfl (if_pos h), fun h => yields_of_run rfl (if_neg h)⟩

end Sys2Proof.Machine

/-! The release and the granting of tasks (R264–R269, R281, Table 11-2). -/

namespace Sys2Proof.Machine

open Sys2Proof

namespace Dev

variable {d : Dev} {c t : Nat}

/-! A release instant that comes (R264–R266). -/

/-- A release may count for the task: enabled, and the module in a mode of its mask; at a STANDBY only the vendor stalls. -/
def TaskCan (d : Dev) (t : Nat) : Prop :=
  d.on (Obj.TASK_ENABLE t) = true ∧ d.taskState t ≠ TaskState.disabled ∧ (d.task t).off = false ∧ d.mode ≠ 0
    ∧ d.bit (Obj.TASK_MODES t) (d.mode - 1) = true ∧ (d.standby = false ∨ 14 ≤ d.taskStall t)

theorem taskDecrement_of_can {src : Nat} (h : d.TaskCan t) : d.taskDecrement t src
    = if d.getN (Obj.TASK_DEP t) ≤ 1 then (d.setN (Obj.TASK_DEP t) (d.getN (Obj.TASK_DEP_INIT t))).taskRelease t src
      else d.setN (Obj.TASK_DEP t) (d.getN (Obj.TASK_DEP t) - 1) := by
  obtain ⟨hen, hst, hoff, hm, hbit, hsb⟩ := h
  refine if_neg ?_
  rintro (h | h | h | h | h | ⟨h, hlt⟩)
  · exact Bool.eq_false_iff.mp h hen
  · exact hst h
  · exact Bool.eq_false_iff.mp hoff h
  · exact hm h
  · exact Bool.eq_false_iff.mp h hbit
  · exact hsb.elim (fun hf => Bool.eq_false_iff.mp hf h) (Nat.not_le.mpr hlt)

theorem taskDecrement_of_cannot {src : Nat} (h : ¬ d.TaskCan t) : d.taskDecrement t src = d := by
  refine if_pos ?_
  by_contra hn
  obtain ⟨hen, hst, hoff, hm, hbit, hsb⟩ : ¬ d.on (Obj.TASK_ENABLE t) = false ∧ ¬ d.taskState t = TaskState.disabled
      ∧ ¬ (d.task t).off = true ∧ ¬ d.mode = 0 ∧ ¬ d.bit (Obj.TASK_MODES t) (d.mode - 1) = false
      ∧ ¬ (d.standby = true ∧ d.taskStall t < 14) := by
    simpa only [not_or] using hn
  refine h ⟨Bool.eq_true_of_not_eq_false hen, hst, Bool.eq_false_of_not_eq_true hoff, hm,
    Bool.eq_true_of_not_eq_false hbit, ?_⟩
  by_contra hc
  exact hsb ⟨Bool.eq_true_of_not_eq_false fun hf => hc (.inl hf), Nat.not_le.mp fun hle => hc (.inr hle)⟩

/-- The task's next release instant moved on. -/
def taskNext (d : Dev) (t next : Nat) : Dev := d.setTask t { d.task t with next := next }

theorem task_setTask (t : Nat) (x : TaskSt) (d : Dev) : (d.setTask t x).task t = x := SMap.get_set_same

theorem getN_taskNext (k next : Nat) : (d.taskNext t next).getN k = d.getN k := rfl

theorem taskCan_taskNext (next : Nat) : (d.taskNext t next).TaskCan t ↔ d.TaskCan t := by
  unfold TaskCan taskNext
  rw [task_setTask]
  exact Iff.rfl

/-! A task that is released (R264, R267). -/

/-- A release that is not kept as one of its own, counted with event 118. -/
def taskMerged (d : Dev) (t kind : Nat) : Dev :=
  ((d.inc (Obj.TASK_OVERLAPS t)).stbEvent 118 t).tlTask TlKind.overlap 0xFF t kind

theorem taskRelease_of_waiting {src : Nat} (h : d.taskState t = TaskState.waiting) : d.taskRelease t src
    = ((d.setTask t { d.task t with relAt := d.tm.mono, missed := false, overB := false }).enqueue t false).tlTask
        TlKind.release 0xFF t src := if_pos h

theorem taskRelease_of_taken {src kind : Nat} (h : d.taskState t ≠ TaskState.waiting)
    (hk : (if d.taskState t = TaskState.ready ∨ d.taskState t = TaskState.slotted then 0
      else if (d.task t).pend.isNone then 1 else 2) = kind) : d.taskRelease t src
    = (if t = 960 then (if kind = 1 then d.setTask t { d.task t with pend := some d.tm.mono } else d).scanOverlap kind
        else if kind = 1 then d.setTask t { d.task t with pend := some d.tm.mono } else d).taskMerged t kind := by
  subst hk
  exact if_neg h

theorem scanOverlap_zero : d.scanOverlap 0 = d := rfl

theorem taskRelease_of_queued {src : Nat} (h : d.taskState t = TaskState.ready ∨ d.taskState t = TaskState.slotted) :
    d.taskRelease t src = d.taskMerged t 0 := by
  have hw : d.taskState t ≠ TaskState.waiting := fun hw =>
    h.elim (fun h => absurd (h.symm.trans hw) (by decide)) fun h => absurd (h.symm.trans hw) (by decide)
  rw [taskRelease_of_taken hw (if_pos h), if_neg Nat.zero_ne_one, scanOverlap_zero, ite_self]

section Running

variable {src : Nat} (h : d.taskState t = TaskState.running)
include h

theorem state_of_running {st : Nat} (hst : TaskState.running ≠ st) : d.taskState t ≠ st := fun hs => hst (h.symm.trans hs)

/-- One running is held. -/
theorem taskRelease_of_running_free (hp : (d.task t).pend = none) : d.taskRelease t src
    = (if t = 960 then (d.setTask t { d.task t with pend := some d.tm.mono }).scanOverlap 1
        else d.setTask t { d.task t with pend := some d.tm.mono }).taskMerged t 1 := by
  have hk : ¬ (d.taskState t = TaskState.ready ∨ d.taskState t = TaskState.slotted) :=
    not_or.mpr ⟨state_of_running h (by decide), state_of_running h (by decide)⟩
  rw [taskRelease_of_taken (kind := 1) (state_of_running h (by decide)) ((if_neg hk).trans (if_pos (by rw [hp]; rfl))),
    if_pos rfl]

/-- With one held already, another is dropped. -/
theorem taskRelease_of_running_held (hp : (d.task t).pend ≠ none) : d.taskRelease t src
    = (if t = 960 then d.scanOverlap 2 else d).taskMerged t 2 := by
  have hk : ¬ (d.taskState t = TaskState.ready ∨ d.taskState t = TaskState.slotted) :=
    not_or.mpr ⟨state_of_running h (by decide), state_of_running h (by decide)⟩
  rw [taskRelease_of_taken (kind := 2) (state_of_running h (by decide)) ((if_neg hk).trans (if_neg (by
    rw [Option.isNone_iff_eq_none]; exact hp))), if_neg (show ¬ 2 = 1 by decide)]

end Running

/-! The core that is served next (R268). -/

/-- Of two cores that asked, the one of the earlier clock; at the same clock the one of the lower number. -/
def earlierAsk (b y : Nat × Nat) : Nat × Nat := if y.2 < b.2 ∨ (y.2 = b.2 ∧ y.1 < b.1) then y else b

/-- The order in which the cores that ask are served. -/
def AskLe (b y : Nat × Nat) : Prop := b.2 < y.2 ∨ (b.2 = y.2 ∧ b.1 ≤ y.1)

theorem AskLe.refl (b : Nat × Nat) : AskLe b b := .inr ⟨rfl, Nat.le_refl _⟩

theorem AskLe.trans {a b y : Nat × Nat} (h : AskLe a b) (h' : AskLe b y) : AskLe a y := by
  unfold AskLe at *
  omega

theorem earlierAsk_le (b y : Nat × Nat) : AskLe (earlierAsk b y) b ∧ AskLe (earlierAsk b y) y := by
  unfold earlierAsk AskLe
  split <;> omega

theorem earlierAsk_mem (b y : Nat × Nat) : earlierAsk b y = b ∨ earlierAsk b y = y := by
  unfold earlierAsk
  split
  · exact .inr rfl
  · exact .inl rfl

theorem foldl_earlierAsk (l : List (Nat × Nat)) (b : Nat × Nat) :
    l.foldl earlierAsk b ∈ b :: l ∧ ∀ y ∈ b :: l, AskLe (l.foldl earlierAsk b) y := by
  induction l generalizing b with
  | nil => exact ⟨List.mem_cons_self, fun y hy => List.mem_singleton.mp hy ▸ AskLe.refl b⟩
  | cons x l ih =>
    obtain ⟨hmem, hle⟩ := ih (earlierAsk b x)
    obtain ⟨hb, hx⟩ := earlierAsk_le b x
    have hfirst := hle _ List.mem_cons_self
    refine ⟨?_, fun y hy => ?_⟩
    · rcases List.mem_cons.mp hmem with h | h
      · rw [List.foldl_cons, h]
        rcases earlierAsk_mem b x with h | h
        · rw [h]; exact List.mem_cons_self
        · rw [h]; exact List.mem_cons_of_mem _ List.mem_cons_self
      · exact List.mem_cons_of_mem _ (List.mem_cons_of_mem _ h)
    · rcases List.mem_cons.mp hy with rfl | hy
      · exact hfirst.trans hb
      · rcases List.mem_cons.mp hy with rfl | hy
        · exact hfirst.trans hx
        · exact hle y (List.mem_cons_of_mem _ hy)

/-- A stall has a ready task for the core. -/
def HasReady (d : Dev) (q : Nat) : Prop := ∃ st, st < 16 ∧ d.readyFor st q ≠ none

theorem hasReady_iff (q : Nat) : ((List.range 16).any fun st => (d.readyFor st q).isSome) = true ↔ d.HasReady q := by
  unfold HasReady
  simp only [List.any_eq_true, List.mem_range, Option.isSome_iff_ne_none]

theorem nextAsking_earliest {q : Nat} (h : d.nextAsking = some q) : ∃ n, (q, n) ∈ d.stb.asking ∧ d.HasReady q
    ∧ ∀ y m, (y, m) ∈ d.stb.asking → d.HasReady y → n < m ∨ (n = m ∧ q ≤ y) := by
  have hmem (x : Nat × Nat) : x ∈ (d.stb.asking.filter fun x => (List.range 16).any fun st => (d.readyFor st x.1).isSome)
      ↔ x ∈ d.stb.asking ∧ d.HasReady x.1 := by
    rw [List.mem_filter, hasReady_iff]
  unfold nextAsking at h
  dsimp only at h
  generalize hl : (d.stb.asking.filter fun x => (List.range 16).any fun st => (d.readyFor st x.1).isSome) = l at h hmem
  cases l with
  | nil => exact absurd h.symm (Option.some_ne_none q)
  | cons b l =>
    obtain ⟨hin, hle⟩ := foldl_earlierAsk l b
    obtain ⟨hask, hr⟩ := (hmem _).mp hin
    obtain rfl : (l.foldl earlierAsk b).1 = q := Option.some.inj h
    exact ⟨(l.foldl earlierAsk b).2, hask, hr, fun y m hy hry => hle _ ((hmem (y, m)).mpr ⟨hy, hry⟩)⟩

/-! What a core reads (Table 11-2). -/

section Core

variable {k : Nat}

theorem devZtask_of_held {ended same : Bool} (h : (d.core c).held ≠ none) :
    d.devZtask c ended same = d.send (.coreTrap c 0x7C0) := if_pos (Option.isSome_iff_ne_none.mpr h)

section Free
variable (h : (d.core c).held = none)
include h

theorem devZtask_of_slot {ended same : Bool} (hk : (d.core c).slot = some k) : d.devZtask c ended same = d.takePrefetch c k := by
  unfold devZtask
  dsimp only
  rw [h, hk]
  rfl

theorem devZtask_of_empty {ended same : Bool} (hk : (d.core c).slot = none) : d.devZtask c ended same
    = if ended = true ∨ d.irqPending c = true then d.endAsk c
      else if d.stb.asking.any (·.1 = c) then d else d.nowAsking c same := by
  unfold devZtask
  dsimp only
  rw [h, hk]
  rfl

theorem ztpoll_of_slot (hk : (d.core c).slot = some k) : d.devZtpoll c .ztpoll = d.takePrefetch c k := by
  unfold devZtpoll
  dsimp only
  rw [h, hk]

end Free

theorem ztpoll_of_empty (hk : (d.core c).slot = none) : d.devZtpoll c .ztpoll = d.send (.core c 0) := by
  unfold devZtpoll
  dsimp only
  rw [hk]

theorem ztpoll_of_held (h : (d.core c).held ≠ none) : d.devZtpoll c .ztpoll = d.send (.core c 0) := by
  obtain ⟨x, hx⟩ := Option.ne_none_iff_exists'.mp h
  unfold devZtpoll
  dsimp only
  rw [hx]
  cases (d.core c).slot <;> rfl

theorem heldWord_of_held (f : Nat → Nat) (h : (d.core c).held = some k) : d.heldWord c f = d.send (.core c (d.getN (f k))) := by
  unfold heldWord
  rw [h]

theorem ztpoll_zpref : d.devZtpoll c .zpref
    = d.send (.core c ((if (d.core c).pref = true then 1 else 0) + (if (d.core c).slot ≠ none then 0x80000000 else 0))) := by
  unfold devZtpoll
  simp only [Option.isSome_iff_ne_none]

theorem asking_any_iff : d.stb.asking.any (·.1 = c) = true ↔ ∃ n, (c, n) ∈ d.stb.asking := by
  simp only [List.any_eq_true, decide_eq_true_eq]
  constructor
  · rintro ⟨⟨_, n⟩, h, rfl⟩
    exact ⟨n, h⟩
  · rintro ⟨n, h⟩
    exact ⟨(c, n), h, rfl⟩

end Core

/-! Grants and the prefetch slot (R268, R269). -/

section Grant

variable {q k : Nat} {e : Dev} {latency : Nat}

theorem devTaskGrant_of_selected (h : d.nextAsking = some q) (hs : d.selectTask q = (some k, e)) : d.devTaskGrant latency
    = ((e.notAsking q).beginTask q k false).tlTask TlKind.grant 0xFF k latency := by
  unfold devTaskGrant
  rw [h]
  dsimp only
  rw [hs]

theorem devTaskGrant_of_unselected (h : d.nextAsking = some q) (hs : d.selectTask q = (none, e)) : d.devTaskGrant latency = d := by
  unfold devTaskGrant
  rw [h]
  dsimp only
  rw [hs]

theorem devTaskGrant_of_none (h : d.nextAsking = none) : d.devTaskGrant latency = d := by
  unfold devTaskGrant
  rw [h]

/-- The slot of a core is to be filled. -/
def PrefetchFills (d : Dev) (c : Nat) : Prop := (d.core c).pref = true ∧ (d.core c).slot = none ∧ d.nextAsking = none

theorem devPrefetchFill_of_fills (h : d.PrefetchFills c) (hs : d.selectTask c = (some k, e)) : d.devPrefetchFill c
    = (((e.setCore c { e.core c with slot := some k, slotAt := e.tm.mono }).setN (Obj.TASK_STATE k)
        TaskState.slotted).setPrefetchLine c true).tlTask TlKind.slot 0xFF k 0 := by
  obtain ⟨hpref, hslot, hnext⟩ := h
  unfold devPrefetchFill
  dsimp only
  rw [hpref, hslot, hnext, if_neg (by decide), hs]

theorem devPrefetchFill_of_not (h : ¬ d.PrefetchFills c ∨ (d.selectTask c).1 = none) : d.devPrefetchFill c = d := by
  unfold devPrefetchFill
  dsimp only
  rcases h with h | h
  · refine if_pos ?_
    by_contra hn
    obtain ⟨hpref, hslot, hnext⟩ : ¬ (d.core c).pref = false ∧ ¬ (d.core c).slot.isSome = true ∧ ¬ d.nextAsking.isSome = true := by
      simpa only [not_or] using hn
    exact h ⟨Bool.eq_true_of_not_eq_false hpref, Option.not_isSome_iff_eq_none.mp hslot, Option.not_isSome_iff_eq_none.mp hnext⟩
  · generalize d.selectTask c = r at h
    obtain ⟨k, e⟩ := r
    obtain rfl : k = none := h
    exact ite_self _

theorem devPrefetchReclaim_of_empty (h : (d.core c).slot = none) : d.devPrefetchReclaim c = d := by
  unfold devPrefetchReclaim
  rw [h]

theorem devPrefetchReclaim_of_slot (h : (d.core c).slot = some k) : d.devPrefetchReclaim c
    = if d.waited (d.core c).slotAt (d.getN Obj.STB_PREFETCH_RECLAIM * nsUnit) = false then d
      else ((((d.setCore c { d.core c with slot := none }).setPrefetchLine c false).enqueue k true).tlTask TlKind.slot 0xFF k
        2).stbEvent 119 k := by
  unfold devPrefetchReclaim
  rw [h]

end Grant

end Dev

section Comes

/-- A command of the time base that leaves the module as it is with TIMECLK leaves it so without. -/
theorem yields_of_timed_unless {c : Instr} {s : State} {f : Dev → Dev} (h : exec c s = s.run (Dev.timed f))
    (hd : s.dev.tm.timeclk = true → f s.dev = s.dev) : Yields c s s.dev := by
  by_cases ht : s.dev.tm.timeclk = true
  · exact yields_of_timed ht h (hd ht)
  · exact yields_of_run h (if_neg ht)

variable {i : Instr} {s : State} {act : Prop} {t next src : Nat}

/-- A release instant that can have come moves the task's next one on and counts for the task where it may. -/
theorem yields_of_instant (hact : act → Yields i s ((s.dev.taskNext t next).taskDecrement t src))
    (hnot : ¬ act → Yields i s s.dev) :
    (act → ¬ s.dev.TaskCan t → Yields i s (s.dev.taskNext t next))
      ∧ (act → s.dev.TaskCan t → 1 < s.dev.getN (Obj.TASK_DEP t) →
          Yields i s ((s.dev.taskNext t next).setN (Obj.TASK_DEP t) (s.dev.getN (Obj.TASK_DEP t) - 1)))
      ∧ (act → s.dev.TaskCan t → s.dev.getN (Obj.TASK_DEP t) ≤ 1 →
          Yields i s (((s.dev.taskNext t next).setN (Obj.TASK_DEP t) (s.dev.getN (Obj.TASK_DEP_INIT t))).taskRelease t src))
      ∧ (¬ act → Yields i s s.dev) := by
  have hcan := Dev.taskCan_taskNext (d := s.dev) (t := t) next
  refine ⟨fun ha hc => ?_, fun ha hc hn => ?_, fun ha hc hn => ?_, hnot⟩
  · rw [← Dev.taskDecrement_of_cannot (src := src) (fun h => hc (hcan.mp h))]
    exact hact ha
  · have hy := hact ha
    rwa [Dev.taskDecrement_of_can (hcan.mpr hc), Dev.getN_taskNext, if_neg (Nat.not_le.mpr hn)] at hy
  · have hy := hact ha
    rwa [Dev.taskDecrement_of_can (hcan.mpr hc), Dev.getN_taskNext, Dev.getN_taskNext, if_pos hn] at hy

end Comes

/-- Settles O41: a release by its instant and the task's state, a read by what the core holds, a grant by the selection. -/
theorem releasesAndGrants : Obligations.ReleasesAndGrants := by
  intro c t s d x can dep cycles inst comes merged held
  refine ⟨?_, ?_, fun src h => Dev.taskRelease_of_waiting h, fun src h => Dev.taskRelease_of_queued h, fun src h => ?_,
    fun ended same h => yields_of_run rfl (Dev.devZtask_of_held h), fun hheld => ⟨fun ended same k hk => ?_, fun hk => ?_⟩,
    fun h => yields_of_run rfl (Dev.ztpoll_of_held h), ?_, fun k hk => ?_, fun q h => Dev.nextAsking_earliest h,
    fun latency q e hq => ?_, fun latency h => ?_, ?_, fun v => yields_of_run rfl rfl, fun h => ?_, fun k hk => ?_⟩
  · refine yields_of_instant (fun h => ?_) fun h => ?_
    · obtain ⟨ht, hrel, hst, hdue⟩ := h
      exact yields_of_timed ht rfl (if_pos ⟨hrel, hst, decide_eq_true hdue⟩)
    · exact yields_of_timed_unless rfl fun ht => if_neg fun ⟨hrel, hst, hdue⟩ => h ⟨ht, hrel, hst, of_decide_eq_true hdue⟩
  · refine yields_of_instant (fun h => ?_) fun h => ?_
    · obtain ⟨ht, hrel, hcyc, hdue⟩ := h
      exact yields_of_timed ht rfl (if_pos ⟨hrel, hcyc, hdue⟩)
    · exact yields_of_timed_unless rfl fun ht => if_neg fun ⟨hrel, hcyc, hdue⟩ => h ⟨ht, hrel, hcyc, hdue⟩
  · refine ⟨fun hp ht => ?_, fun hp ht => ?_, fun hp ht => ?_, fun hp ht => ?_⟩
    · exact (Dev.taskRelease_of_running_free h hp).trans (by rw [if_neg ht]; rfl)
    · exact (Dev.taskRelease_of_running_free h hp).trans (by rw [if_pos ht]; rfl)
    · exact (Dev.taskRelease_of_running_held h hp).trans (by rw [if_neg ht]; rfl)
    · exact (Dev.taskRelease_of_running_held h hp).trans (by rw [if_pos ht]; rfl)
  · exact ⟨yields_of_run rfl (Dev.devZtask_of_slot hheld hk), yields_of_run rfl (Dev.ztpoll_of_slot hheld hk)⟩
  · refine ⟨fun ended same h => ?_, yields_of_run rfl (Dev.ztpoll_of_empty hk), fun hirq => ?_⟩
    · exact yields_of_run rfl ((Dev.devZtask_of_empty hheld hk).trans (if_pos h))
    · have hasks (same : Bool) : d.devZtask c false same = if d.stb.asking.any (·.1 = c.val) then d else d.nowAsking c same :=
        (Dev.devZtask_of_empty hheld hk).trans (if_neg fun h => h.elim Bool.false_ne_true (Bool.eq_false_iff.mp hirq))
      refine fun same => ⟨fun hn => ?_, ?_⟩
      · exact yields_of_run rfl ((hasks same).trans (if_pos (Dev.asking_any_iff.mpr hn)))
      · intro hn n
        exact yields_of_run rfl ((hasks same).trans (if_neg fun h => (Dev.asking_any_iff.mp h).elim hn))
  · exact yields_of_run rfl Dev.ztpoll_zpref
  · exact ⟨yields_of_run rfl (Dev.heldWord_of_held _ hk), yields_of_run rfl (Dev.heldWord_of_held _ hk)⟩
  · exact ⟨fun k hs => yields_of_run rfl (Dev.devTaskGrant_of_selected hq hs),
      fun hs => yields_of_run rfl (Dev.devTaskGrant_of_unselected hq hs)⟩
  · exact yields_of_run rfl (Dev.devTaskGrant_of_none h)
  · intro fills
    exact ⟨fun k e hf hs => yields_of_run rfl (Dev.devPrefetchFill_of_fills hf hs),
      fun h => yields_of_run rfl (Dev.devPrefetchFill_of_not h)⟩
  · exact yields_of_run rfl (Dev.devPrefetchReclaim_of_empty h)
  · intro past
    have hy : Yields (.prefetchReclaim c) s _ := yields_of_run rfl (Dev.devPrefetchReclaim_of_slot hk)
    exact ⟨fun hp => by rwa [if_neg (ne_of_eq_of_ne hp Bool.noConfusion)] at hy, fun hp => by rwa [if_pos hp] at hy⟩

end Sys2Proof.Machine

/-! Completions, deadlines and the cores' other registers (R268, R270–R272, R423). -/

namespace Sys2Proof.Machine

open Sys2Proof

namespace Dev

variable {d : Dev} {c t k : Nat}

/-! Completions (R270). -/

theorem devZdone_of_free {v : Nat} (h : (d.core c).held = none) :
    d.devZdone c v = (d.inc Obj.STB_BAD_DONE).stbEvent 121 c := by
  unfold devZdone
  rw [h]

theorem devZdone_of_stalled {v : Nat} (h : (d.core c).held = some k) (hs : d.doneStalled c = true) : d.devZdone c v = d := by
  unfold devZdone
  rw [h]
  exact if_pos hs

theorem devZdone_of_held {v : Word} (h : (d.core c).held = some k) (hs : d.doneStalled c = false) : d.devZdone c v.toNat
    = (if v = 0#32 then d.setN (Obj.TASK_STATUS_LAST k) v.toNat
        else (d.setN (Obj.TASK_STATUS_LAST k) v.toNat).stbEvent 124 k).post { prod := c, task := some k, status := v.toNat } := by
  have hmod : v.toNat % 4294967296 = v.toNat := Nat.mod_eq_of_lt v.isLt
  have hzero : v.toNat = 0 ↔ v = 0#32 := ⟨fun h => BitVec.eq_of_toNat_eq h, fun h => congrArg BitVec.toNat h⟩
  unfold devZdone
  rw [h]
  dsimp only
  rw [if_neg (ne_of_eq_of_ne hs Bool.noConfusion), hmod]
  simp only [hzero]

/-- The run of a completed task, or its producer, is over; every successor has one dependence less. -/
theorem devCompletionAccepted_of_nil (h : d.collect.stb.queue = []) : d.devCompletionAccepted = d.collect := by
  unfold devCompletionAccepted
  dsimp only
  rw [h]

section Oldest

variable {x : Compl} {q : List Compl} (h : d.collect.stb.queue = x :: q)
include h

/-- The completions that wait behind the oldest. -/
def queueLeft (d : Dev) (q : List Compl) : Dev := { d.collect with stb := { d.collect.stb with queue := q } }

theorem devCompletionAccepted_of_task (hx : x.task = some t) : d.devCompletionAccepted
    = ((((d.queueLeft q).endRun t x.status x.prod).decrementAll
        (((d.queueLeft q).endRun t x.status x.prod).succsOf x))).collect := by
  unfold devCompletionAccepted
  dsimp only
  rw [h]
  dsimp only
  rw [hx]
  rfl

/-- A producer that is no task, counted. -/
def producerCounted (d : Dev) (p : Nat) : Dev :=
  let n := d.inc (Obj.STB_PROD_COUNT (p - 8))
  n.tideline TlKind.engine p 0xFFFF 0xFF 0 (n.getN (Obj.STB_PROD_COUNT (p - 8)))

theorem devCompletionAccepted_of_producer (hx : x.task = none) : d.devCompletionAccepted
    = ((((d.queueLeft q).producerCounted x.prod).decrementAll
        (((d.queueLeft q).producerCounted x.prod).succsOf x))).collect := by
  unfold devCompletionAccepted
  dsimp only
  rw [h]
  dsimp only
  rw [hx]
  rfl

end Oldest

/-! Deadlines, budgets and the core's watchdog (R271, R272). -/

/-- The response of a task has reached its deadline, not counted before. -/
def TaskMissed (d : Dev) (t : Nat) : Prop :=
  d.getN (Obj.TASK_DEADLINE t) ≠ 0 ∧ d.taskState t ≠ TaskState.disabled ∧ d.taskState t ≠ TaskState.waiting
    ∧ (d.task t).missed = false ∧ d.waited (d.task t).relAt (d.getN (Obj.TASK_DEADLINE t) * nsUnit) = true

theorem devTaskMiss_of_missed (h : d.TaskMissed t) : d.devTaskMiss t
    = (d.setTask t { d.task t with missed := true }).countMiss t (d.nsSince (d.task t).relAt) := by
  obtain ⟨hdl, hdis, hwait, hm, hpast⟩ := h
  refine if_neg ?_
  rintro (h | h | h | h | h)
  · exact hdl h
  · exact hdis h
  · exact hwait h
  · exact Bool.eq_false_iff.mp hm h
  · exact Bool.eq_false_iff.mp h hpast

theorem devTaskMiss_of_not (h : ¬ d.TaskMissed t) : d.devTaskMiss t = d := by
  refine if_pos ?_
  by_contra hn
  simp only [not_or] at hn
  obtain ⟨hdl, hdis, hwait, hm, hpast⟩ := hn
  exact h ⟨hdl, hdis, hwait, Bool.eq_false_of_not_eq_true hm, Bool.eq_true_of_not_eq_false hpast⟩

/-- The running time of a task has reached its budget, not counted before. -/
def TaskSpent (d : Dev) (t : Nat) : Prop :=
  d.getN (Obj.TASK_BUDGET t) ≠ 0 ∧ (∃ k : Fin 8, (d.core k).held = some t) ∧ (d.task t).overB = false
    ∧ d.waited (d.task t).grantAt (d.getN (Obj.TASK_BUDGET t) * nsUnit) = true

theorem runs_iff : ((List.range 8).any fun c => (d.core c).held == some t) = true ↔ ∃ k : Fin 8, (d.core k).held = some t := by
  simp only [List.any_eq_true, List.mem_range, beq_iff_eq]
  exact ⟨fun ⟨k, hk, h⟩ => ⟨⟨k, hk⟩, h⟩, fun ⟨k, h⟩ => ⟨k, k.isLt, h⟩⟩

theorem devTaskOverBudget_of_spent (h : d.TaskSpent t) : d.devTaskOverBudget t
    = (((d.setTask t { d.task t with overB := true }).inc (Obj.TASK_OVER_BUDGET t)).stbEvent 117 t).tlTask TlKind.overBudget 0xFF
        t (((d.setTask t { d.task t with overB := true }).inc (Obj.TASK_OVER_BUDGET t)).nsSince (d.task t).grantAt) := by
  obtain ⟨hb, hruns, ho, hpast⟩ := h
  refine if_neg ?_
  rintro (h | h | h | h)
  · exact hb h
  · exact Bool.eq_false_iff.mp h (runs_iff.mpr hruns)
  · exact Bool.eq_false_iff.mp ho h
  · exact Bool.eq_false_iff.mp h hpast

theorem devTaskOverBudget_of_not (h : ¬ d.TaskSpent t) : d.devTaskOverBudget t = d := by
  refine if_pos ?_
  by_contra hn
  simp only [not_or] at hn
  obtain ⟨hb, hruns, ho, hpast⟩ := hn
  exact h ⟨hb, runs_iff.mp (Bool.eq_true_of_not_eq_false hruns), Bool.eq_false_of_not_eq_true ho,
    Bool.eq_true_of_not_eq_false hpast⟩

/-- A core has held its task for the watchdog's time, not reported before. -/
def CoreHung (d : Dev) (c : Nat) : Prop :=
  d.getN Obj.STB_CORE_WDT ≠ 0 ∧ (d.core c).held ≠ none ∧ (d.core c).wdt = false
    ∧ d.waited (d.core c).heldAt (d.getN Obj.STB_CORE_WDT * 1000 * nsUnit) = true

theorem devCoreWatchdog_of_hung (hk : (d.core c).held = some k) (h : d.CoreHung c) : d.devCoreWatchdog c
    = ((d.setCore c { d.core c with wdt := true }).stbEvent 120 c).raiseFault 120 2 0 c k true := by
  obtain ⟨hw, -, hwdt, hpast⟩ := h
  have hact : d.devCoreWatchdog c = ((d.setCore c { d.core c with wdt := true }).stbEvent 120 c).raiseFault 120 2 0 c
      ((d.core c).held.getD 0xFFFF) true := by
    refine if_neg ?_
    rintro (h | h | h | h)
    · exact hw h
    · rw [hk] at h
      exact Bool.false_ne_true h
    · exact Bool.eq_false_iff.mp hwdt h
    · exact Bool.eq_false_iff.mp h hpast
  rw [hact, hk]
  rfl

theorem devCoreWatchdog_of_not (h : ¬ d.CoreHung c) : d.devCoreWatchdog c = d := by
  refine if_pos ?_
  by_contra hn
  simp only [not_or, Option.isNone_iff_eq_none] at hn
  obtain ⟨hw, hheld, hwdt, hpast⟩ := hn
  exact h ⟨hw, hheld, Bool.eq_false_of_not_eq_true hwdt, Bool.eq_true_of_not_eq_false hpast⟩

theorem devZtrace_of_free {v : Word} (h : (d.core c).held = none) :
    d.devZtrace c v.toNat = d.tideline TlKind.user c 0xFFFF 0xFF 0 v.toNat := by
  unfold devZtrace
  rw [h, show v.toNat % 4294967296 = v.toNat from Nat.mod_eq_of_lt v.isLt]

theorem devZtrace_of_held {v : Word} (h : (d.core c).held = some k) :
    d.devZtrace c v.toNat = d.tlTask TlKind.user c k v.toNat := by
  unfold devZtrace
  rw [h, show v.toNat % 4294967296 = v.toNat from Nat.mod_eq_of_lt v.isLt]

end Dev

/-! Clearing the core's pending lines (R423, Table 11-2). -/

/-- The lines a core's write to `zipend` or `zipendh` clears; line 63 is none of them. -/
def zipendLines (high : Bool) (v : Word) : BitVec 64 :=
  BitVec.ofNat 64 (if high then v.toNat % 2147483648 * 4294967296 else v.toNat)

theorem getLsbD_zipendLines_low (v : Word) {i : Nat} (hi : i < 32) :
    (zipendLines false v).getLsbD i = v.getLsbD i ∧ (zipendLines false v).getLsbD (32 + i) = false := by
  unfold zipendLines
  rw [if_neg Bool.false_ne_true, BitVec.getLsbD_ofNat, BitVec.getLsbD_ofNat]
  refine ⟨by rw [decide_eq_true (by omega)]; rfl, ?_⟩
  rw [Nat.testBit_lt_two_pow (Nat.lt_of_lt_of_le v.isLt (Nat.pow_le_pow_right (by decide) (by omega))), Bool.and_false]

theorem getLsbD_zipendLines_high (v : Word) {i : Nat} (hi : i < 32) :
    (zipendLines true v).getLsbD i = false
      ∧ (zipendLines true v).getLsbD (32 + i) = (v.getLsbD i && decide (i < 31)) := by
  have hbit (j : Nat) : (v.toNat % 2147483648 * 4294967296).testBit j
      = (decide (32 ≤ j) && (v.toNat % 2147483648).testBit (j - 32)) :=
    (congrArg (fun n => (v.toNat % 2147483648 * n).testBit j) (by decide : 4294967296 = 2 ^ 32)).trans
      (Nat.testBit_mul_two_pow ..)
  have hmod : (v.toNat % 2147483648).testBit i = (decide (i < 31) && v.toNat.testBit i) := Nat.testBit_mod_two_pow v.toNat 31 i
  unfold zipendLines
  rw [if_pos rfl, BitVec.getLsbD_ofNat, BitVec.getLsbD_ofNat, hbit, hbit, decide_eq_false (Nat.not_le.mpr hi), Nat.add_sub_cancel_left,
    hmod, decide_eq_true (show 32 + i < 64 by omega), decide_eq_true (show 32 ≤ 32 + i by omega)]
  refine ⟨?_, ?_⟩
  · rw [Bool.false_and]
    exact Bool.and_false _
  · rw [Bool.true_and, Bool.true_and, Bool.and_comm]
    rfl

theorem Dev.devZipendClear_eq (c : Nat) (high : Bool) (v : Word) (d : Dev) : d.devZipendClear c high v
    = d.setWin c { d.win c with pend := (d.win c).pend &&& ~~~(zipendLines high v) } := rfl

theorem getLsbD_cleared (p l : BitVec 64) {i : Nat} (hi : i < 64) :
    (p &&& ~~~l).getLsbD i = (p.getLsbD i && !l.getLsbD i) := by
  rw [BitVec.getLsbD_and, BitVec.getLsbD_not, decide_eq_true hi, Bool.true_and]

/-- Settles O42: a completion by what the core holds and what waits, a time by its limit, a register by its bits. -/
theorem completionsAndCores : Obligations.CompletionsAndCores := by
  intro c t v s d x core
  refine ⟨fun h => yields_of_run rfl (Dev.devZdone_of_free h), ?_,
    fun k hk hs => yields_of_run rfl (Dev.devZdone_of_stalled hk hs), fun ch => yields_of_run rfl rfl, ?_, ?_, ?_, ?_,
    fun h => yields_of_run rfl (Dev.devZtrace_of_free h), fun k hk => yields_of_run rfl (Dev.devZtrace_of_held hk), ?_, ?_⟩
  · intro k hk hs e
    exact yields_of_run rfl (Dev.devZdone_of_held hk hs)
  · dsimp only
    exact ⟨fun h => yields_of_run rfl (Dev.devCompletionAccepted_of_nil (d := d) h),
      fun k q h => ⟨fun u hu => yields_of_run rfl (Dev.devCompletionAccepted_of_task (d := d) h hu),
        fun hu => yields_of_run rfl (Dev.devCompletionAccepted_of_producer (d := d) h hu)⟩⟩
  · intro missed
    exact ⟨fun h => yields_of_run rfl (Dev.devTaskMiss_of_missed h), fun h => yields_of_run rfl (Dev.devTaskMiss_of_not h)⟩
  · intro spent
    exact ⟨fun h => yields_of_run rfl (Dev.devTaskOverBudget_of_spent h),
      fun h => yields_of_run rfl (Dev.devTaskOverBudget_of_not h)⟩
  · intro hung
    exact ⟨fun k hk h => yields_of_run rfl (Dev.devCoreWatchdog_of_hung hk h),
      fun h => yields_of_run rfl (Dev.devCoreWatchdog_of_not h)⟩
  · intro a
    exact yields_of_run rfl rfl
  · refine ⟨_, _, yields_of_run rfl (Dev.devZipendClear_eq c false v d), yields_of_run rfl (Dev.devZipendClear_eq c true v d),
      fun i hi => ?_, fun i hi => ?_⟩
    · obtain ⟨hlow, hhigh⟩ := getLsbD_zipendLines_low v hi
      rw [getLsbD_cleared _ _ (by omega), getLsbD_cleared _ _ (by omega), hlow, hhigh]
      exact ⟨rfl, Bool.and_true _⟩
    · obtain ⟨hlow, hhigh⟩ := getLsbD_zipendLines_high v hi
      have hlast : (!(v.getLsbD i && decide (i < 31))) = (!v.getLsbD i || i == 31) := by
        rw [Bool.not_and, Bool.eq_iff_iff.mpr (show (!decide (i < 31)) = true ↔ (i == 31) = true by simp; omega)]
      rw [getLsbD_cleared _ _ (by omega), getLsbD_cleared _ _ (by omega), hlow, hhigh, hlast]
      exact ⟨Bool.and_true _, rfl⟩

end Sys2Proof.Machine

/-! The sequencer's scan and the stations' time-outs (R280, R286, R292, R294, R295). -/

namespace Sys2Proof.Machine

open Sys2Proof

namespace Dev

variable {d : Dev}

/-- The sequencer scans: RUNNING, not in BOOT, not at a STANDBY. -/
def SeqScans (d : Dev) : Prop := d.getN Obj.SEQ_STATE = 2 ∧ d.mode ≠ Mode.boot ∧ d.standby = false

/-- The scan counted, the images latched, the first one of an exchanged program reported. -/
def scanLatched (d : Dev) : Dev :=
  let a := (d.inc Obj.SEQ_SCAN_COUNT).seqLatch
  if a.seq.swapped then (a.setN Obj.SEQ_EXCH_SCAN (a.getN Obj.SEQ_SCAN_COUNT)).seqEvent 133 (noSource 133) else a

/-- The scan's time kept, an exchange over. -/
def scanAt (x : Dev) (ts : Nat) : Dev := x.setSeq { x.seq with prev := some ts, swapped := false }

/-- A scan has begun. -/
def scanBegun (d : Dev) : Dev := d.scanLatched.scanAt d.scanClock

/-- The program's instances evaluated in their order, on what was latched, and the outputs they leave. -/
def scanOutput (d : Dev) (read : Dev → Nat → Int) : SeqOutputs × Dev :=
  (d.scanBegun.seq.prog.insts.foldl (fun e i =>
    Dev.seqEval d.scanBegun (read d.scanBegun) d.scanClock (d.scanClock - d.seq.prev.getD d.scanClock) i e)
      d.scanBegun).seqOutput

/-- The scan has ended: its duration reported and completion 12 posted. -/
def scanEnded (d : Dev) (durNs : Nat) (read : Dev → Nat → Int) : Dev :=
  ((d.scanOutput read).2.setN Obj.SEQ_SCAN_LAST (min 0xFFFFFFFF durNs)).postEngine 12

theorem devSeqScan_of_scans {n : Nat} {read : Dev → Nat → Int} (h : d.SeqScans) :
    d.devSeqScan n read = ((d.scanOutput read).1, d.scanEnded n read) := by
  obtain ⟨hst, hm, hsb⟩ := h
  unfold devSeqScan
  rw [if_neg (by rw [hsb]; exact fun hn => hn.elim (· hst) fun hn => hn.elim hm Bool.false_ne_true)]
  extract_lets ts dt a x b d0 e f
  have hdt : dt = d.scanClock - d.seq.prev.getD d.scanClock := by
    show (match d.seq.prev with
      | some p => ts - p
      | none => 0) = _
    cases d.seq.prev with
    | none => exact (Nat.sub_self ts).symm
    | some p => rfl
  generalize hr : f.seqOutput = r
  have hout : d.scanOutput read = r := by
    have hx : d.scanLatched = x := by
      unfold scanLatched
      dsimp only
    have hd0 : d.scanBegun = d0 := by
      unfold scanBegun
      rw [hx]
      clear_value x
      rfl
    unfold scanOutput
    rw [hd0, ← hdt, ← hr]
  unfold scanEnded
  rw [hout]

theorem devSeqScan_of_idle {n : Nat} {read : Dev → Nat → Int} (h : ¬ d.SeqScans) :
    d.devSeqScan n read = ({ objs := [], frames := [] }, d) := by
  refine if_pos ?_
  by_contra hn
  simp only [not_or, not_not] at hn
  obtain ⟨hst, hm, hsb⟩ := hn
  exact h ⟨hst, hm, Bool.eq_false_of_not_eq_true hsb⟩

/-- The object writes of the scan submitted as one group, and the stations' frames sent. -/
def scanSent (e : Dev) (out : SeqOutputs) : Dev :=
  out.frames.foldl (fun d x => d.stationSend x.1 x.2)
    (e.seqSubmit (out.objs.map fun x => (x.1, e.storeEntry x.2.1 x.2.2)))

theorem sendInstances_eq (g : Dev) : g.sendInstances
    = if g.getN Obj.PR_ROLE = 1 ∧ g.on Obj.PR_LINK_STATE = true then g.send (.instances g.seq.data) else g := by
  by_cases h : g.getN Obj.PR_ROLE = 1 ∧ g.on Obj.PR_LINK_STATE = true
  · rw [if_pos h]
    exact if_neg fun hn => hn.elim (· h.1) (Bool.eq_false_iff.mp · h.2)
  · rw [if_neg h]
    refine if_pos ?_
    by_contra hn
    rw [not_or, not_not] at hn
    exact h ⟨hn.1, Bool.eq_true_of_not_eq_false hn.2⟩

theorem devScan_of_scans {m : List Host.Cell} {n : Nat} (h : d.SeqScans) : d.devScan m n
    = ((d.scanEnded n (seqRead m)).scanSent (d.scanOutput (seqRead m)).1).sendInstances := by
  obtain ⟨hst, hm, -⟩ := id h
  unfold devScan
  rw [devSeqScan_of_scans h, hst, show (d.mode != Mode.boot) = true from bne_iff_ne.mpr hm]
  exact if_pos rfl

/-- At a STANDBY no data of program blocks leave either. -/
theorem devScan_of_idle {m : List Host.Cell} {n : Nat} (h : ¬ d.SeqScans) : d.devScan m n = d := by
  unfold devScan
  rw [devSeqScan_of_idle h]
  dsimp only [List.map_nil, List.foldl_nil]
  by_cases hruns : (d.getN Obj.SEQ_STATE == 2 && d.mode != Mode.boot) = true
  · obtain ⟨hst, hm⟩ := (Bool.and_eq_true _ _).mp hruns
    have hsb : d.standby = true := Bool.eq_true_of_not_eq_false fun hsb => h ⟨beq_iff_eq.mp hst, bne_iff_ne.mp hm, hsb⟩
    have hrole : d.getN Obj.PR_ROLE = 2 := beq_iff_eq.mp hsb
    rw [if_pos hruns]
    show d.sendInstances = d
    rw [sendInstances_eq, if_neg (by rw [hrole]; exact fun hn => absurd hn.1 (by decide))]
  · exact if_neg hruns

end Dev

/-- Settles O43: a scan where the sequencer scans and where it does not, a station by its time-out. -/
theorem sequencerScans : Obligations.SequencerScans := by
  intro n dur s d
  refine ⟨fun h => ?_, fun hst hm hsb => ?_, ?_⟩
  · refine yields_of_run rfl (Dev.devScan_of_idle fun ⟨hst, hm, hsb⟩ => ?_)
    exact h.elim (· hst) fun h => h.elim hm (Bool.eq_false_iff.mp hsb)
  · intro ts a x b r e f g
    have hscan := Dev.devScan_of_scans (m := s.mem) (n := dur) ⟨hst, hm, hsb⟩
    have hx : d.scanLatched = x := by
      unfold Dev.scanLatched
      dsimp only
    have hb : d.scanBegun = b := by
      unfold Dev.scanBegun
      rw [hx]
      clear_value x
      rfl
    have hr : d.scanOutput (Dev.seqRead s.mem) = r := by
      unfold Dev.scanOutput
      rw [hb]
    unfold Dev.scanEnded at hscan
    rw [hr, Dev.sendInstances_eq] at hscan
    clear_value r
    exact yields_of_run rfl hscan
  · intro late
    exact ⟨fun h => yields_of_run rfl (if_pos h), fun h => yields_of_run rfl (if_neg h)⟩

end Sys2Proof.Machine

/-! Breakwater and the guard cores (R301–R305, R307, R309, R310, R312, R314). -/

namespace Sys2Proof.Machine

open Sys2Proof

namespace Dev

variable {d : Dev}

/-! Causes and glitches (R301–R303). -/

/-- The cause is raw. -/
def bwRaised (x : BwSt) (c : Nat) : BwSt := { x with raw := if x.raw.testBit c then x.raw else x.raw + 2 ^ c }

/-- The cause is raw no longer; SELF with the heartbeat running. -/
def bwFallen (x : BwSt) (c : Nat) : BwSt :=
  { x with raw := if x.raw.testBit c then x.raw - 2 ^ c else x.raw, hbLost := if c = 15 then false else x.hbLost }

/-- The pins of a trip input reported, the cause raw, and the causes formed anew. -/
def bwCauseRaised (d : Dev) (c pins : Nat) : Dev :=
  ((if 8 ≤ c ∧ c < 12 then d.setN (Obj.TRIPIN_STATE (c - 8)) pins else d).setBw (bwRaised d.bw c)).bwRefresh

theorem bw_ite {c : Prop} [Decidable c] {e : Dev} (h : e.bw = d.bw) : (if c then e else d).bw = d.bw := by
  split
  · exact h
  · rfl

theorem devBwCause_eq (c pins : Nat) (d : Dev) : d.devBwCause c pins
    = if (d.bwCauseRaised c pins).bit Obj.BW_LATCHED c = true ∧ (d.bwCauseRaised c pins).bwEnabled c = true
          ∧ (d.bwCauseRaised c pins).bw.rcDead = false then (d.bwCauseRaised c pins).bwHalves (2 ^ c)
      else d.bwCauseRaised c pins := by
  unfold devBwCause
  extract_lets e x f
  have hbw : e.bw = d.bw := bw_ite rfl
  have hf : f = d.bwCauseRaised c pins := by
    unfold bwCauseRaised
    rw [← hbw]
    rfl
  rw [hf]

theorem devBwCauseGone_eq (c : Nat) (d : Dev) : d.devBwCauseGone c
    = ((if 8 ≤ c ∧ c < 12 then d.set (Obj.TRIPIN_STATE (c - 8)) 0 else d).setBw (bwFallen d.bw c)).bwRefresh := by
  unfold devBwCauseGone
  extract_lets e x
  have hbw : e.bw = d.bw := bw_ite rfl
  rw [← hbw]
  rfl

section Glitch

variable {i w : Nat} (h : 11 ≤ w)
include h

theorem devGlitch_of_below (hw : 100 * w < 105 * d.bwFilter i + 1100) :
    d.devGlitch i w = d.inc (if i < 8 then Obj.BWC_GLITCHES i else Obj.TRIPIN_GLITCHES (i - 8)) :=
  (if_neg (Nat.not_lt.mpr h)).trans (if_neg (Nat.not_le.mpr hw))

theorem devGlitch_of_beyond (hw : 105 * d.bwFilter i + 1100 ≤ 100 * w) :
    d.devGlitch i w = d.bwLatch (if d.bwEnabled i then 2 ^ i else 0) :=
  (if_neg (Nat.not_lt.mpr h)).trans (if_pos hw)

end Glitch

theorem bwLatch_zero (d : Dev) : d.bwLatch 0 = d := if_pos (.inl rfl)

/-! Pins and guard functions (R305, R307). -/

theorem devPinMismatch_eq (levels : Nat) (d : Dev) : d.devPinMismatch levels
    = if levels = (if d.on Obj.BW_STATE = true ∨ d.bw.force = true then 0 else 3) then d.setN Obj.BW_PIN_READBACK levels
      else ((((d.bwEvent 142 (if levels % 2 = (if d.on Obj.BW_STATE = true ∨ d.bw.force = true then 0 else 3) % 2 then 1
          else 0)).setBw { (d.bwEvent 142 (if levels % 2 = (if d.on Obj.BW_STATE = true ∨ d.bw.force = true then 0 else 3) % 2
            then 1 else 0)).bw with force := true }).bwOutputs).setN Obj.BW_PIN_READBACK levels) := rfl

theorem devGuardCrossCheck_of_failed {lane pin : Bool} (h : d.on Obj.BW_STATE = true) (hf : (lane || pin) = true) :
    d.devGuardCrossCheck lane pin = ((((d.broken 1).inc Obj.GD_XCHECK_FAIL).bwEvent 141 5).guardSet 5 true).guardApply :=
  (if_neg (ne_of_eq_of_ne h Bool.noConfusion)).trans (if_pos ((Bool.or_eq_true _ _).mp hf))

theorem devGuardCrossCheck_of_passed (h : d.on Obj.BW_STATE = true) :
    d.devGuardCrossCheck false false = (d.guardSet 5 false).guardApply :=
  (if_neg (ne_of_eq_of_ne h Bool.noConfusion)).trans (if_neg fun hn => hn.elim Bool.false_ne_true Bool.false_ne_true)

theorem devGuardRcCheck_stopped (d : Dev) :
    d.devGuardRcCheck 0 = ((d.setBw { d.bw with rcDead := true }).guardSet 7 true).guardApply := by
  unfold devGuardRcCheck
  dsimp only
  exact if_pos rfl

section Running

variable {khz : Nat} (h : khz ≠ 0)
include h

theorem devGuardRcCheck_of_alive (hd : d.bw.rcDead = false) : d.devGuardRcCheck khz
    = ((d.setBw { d.bw with rcDead := false }).guardSet 7 (decide (khz < 95000 ∨ 105000 < khz))).guardApply := by
  unfold devGuardRcCheck
  dsimp only
  rw [if_neg h, if_neg (ne_of_eq_of_ne hd Bool.noConfusion)]

theorem devGuardRcCheck_of_dead (hd : d.bw.rcDead = true) : d.devGuardRcCheck khz
    = (((d.setBw { d.bw with rcDead := false }).bwLatch ((d.setBw { d.bw with rcDead := false }).bwCauses
        ||| (2 ^ 15 + 2 ^ 12))).guardSet 7 (decide (khz < 95000 ∨ 105000 < khz))).guardApply := by
  unfold devGuardRcCheck
  dsimp only
  rw [if_neg h, if_pos hd]

end Running

/-! The lock-out reset and the end of SELF (R310, R312). -/

section Strap

variable {low high : Nat}

theorem devLorPulse_of_no_strap (h : d.on Obj.BW_LOR_STRAP ≠ true) : d.devLorPulse low high = d :=
  if_pos (Bool.eq_false_of_not_eq_true h)

theorem devLorPulse_of_strap (h : d.on Obj.BW_LOR_STRAP = true) (hs : d.bw.lorStuck = false ∨ 1000 ≤ high) :
    d.devLorPulse low high
      = if 100 ≤ low ∧ low ≤ 10000 then
          (d.setBw { d.bw with lorStuck := false, armedAt := d.tm.mono }).set Obj.BW_LOR_ARMED 1
        else d.setBw { d.bw with lorStuck := false } :=
  (if_neg (ne_of_eq_of_ne h Bool.noConfusion)).trans (if_neg fun hn =>
    hs.elim (Bool.eq_false_iff.mp · hn.1) (Nat.not_le.mpr hn.2))

theorem devLorPulse_of_stuck (h : d.on Obj.BW_LOR_STRAP = true) (hs : d.bw.lorStuck = true) (hh : high < 1000) :
    d.devLorPulse low high = d :=
  (if_neg (ne_of_eq_of_ne h Bool.noConfusion)).trans (if_pos ⟨hs, hh⟩)

end Strap

/-- SELF is over: the causes then present, judged anew. -/
def selfOver (d : Dev) : Dev := d.setBw { d.bw with powerUp := false }

theorem devPowerUpRelease_of_kept (h : d.bw.powerUp = false ∨ d.bw.hbLost = true) : d.devPowerUpRelease true = d :=
  if_pos (h.imp_right .inr)

theorem devPowerUpRelease_of_self (hp : d.bw.powerUp = true) (hb : d.bw.hbLost = false) : d.devPowerUpRelease true
    = if d.selfOver.bwCauses = 0 then ((d.selfOver.setN Obj.BW_CAUSES d.selfOver.bwCauses).bwClear).bwEvent 138 0
      else ((d.selfOver.setN Obj.BW_CAUSES d.selfOver.bwCauses).bwHalves d.selfOver.bwCauses).bwEntry d.selfOver.bwCauses := by
  refine if_neg ?_
  rintro (h | h | h)
  · exact Bool.eq_false_iff.mp h hp
  · exact Bool.noConfusion h
  · exact Bool.eq_false_iff.mp hb h

end Dev

/-- Settles O45: each command of Breakwater and the guard cores in the cases of its function. -/
theorem breakwaterCommands : Obligations.BreakwaterCommands := by
  intro s d strap
  refine ⟨?_, fun i w => ⟨fun hw => ?_, fun h hw => ?_, fun h hw he => ?_, fun h hw he => ?_⟩, fun n pins => ?_, ?_, fun ht => ?_,
    fun ht lane pin same khz => ?_, ?_, fun h low high hs => ⟨fun hl hh => ?_, fun hl => ?_⟩, fun h hs low high hh => ?_,
    fun h low high => ⟨?_, ?_⟩, fun h => ?_, ?_, ?_, ?_, fun h => ?_, ?_⟩
  · intro c pins a b has r again
    have hcause := Dev.devBwCause_eq c pins d
    exact ⟨fun h => yields_of_run rfl (hcause.trans (if_pos h)), fun h => yields_of_run rfl (hcause.trans (if_neg h)), yields_of_run rfl (Dev.devBwCauseGone_eq c d)⟩
  · exact yields_of_run rfl (if_pos hw)
  · exact yields_of_run rfl (Dev.devGlitch_of_below h hw)
  · exact yields_of_run rfl ((Dev.devGlitch_of_beyond h hw).trans (by rw [if_pos he]))
  · exact yields_of_run rfl ((Dev.devGlitch_of_beyond h hw).trans (by rw [he, if_neg Bool.false_ne_true, Dev.bwLatch_zero]))
  · exact yields_of_run rfl rfl
  · intro levels drive
    have hy : Yields (.blockPinReadbackMismatch levels) s _ := yields_of_run rfl (Dev.devPinMismatch_eq levels d)
    refine ⟨fun h => by rwa [if_pos h] at hy, ?_⟩
    intro h e
    rwa [if_neg h] at hy
  · refine ⟨fun lane pin h hf => yields_of_timed ht rfl (Dev.devGuardCrossCheck_of_failed h hf),
      fun h => yields_of_timed ht rfl (Dev.devGuardCrossCheck_of_passed h), fun h lane pin => yields_of_timed ht rfl (if_pos h),
      fun same => yields_of_timed ht rfl rfl, fun khz h hd => yields_of_timed ht rfl (Dev.devGuardRcCheck_of_alive h hd), ?_,
      yields_of_timed ht rfl (Dev.devGuardRcCheck_stopped d)⟩
    intro khz h hd e
    exact yields_of_timed ht rfl (Dev.devGuardRcCheck_of_dead h hd)
  · have hoff : ¬ d.tm.timeclk = true := Bool.eq_false_iff.mp ht
    exact ⟨yields_of_run rfl (if_neg hoff), yields_of_run rfl (if_neg hoff), yields_of_run rfl (if_neg hoff)⟩
  · exact yields_of_run rfl rfl
  · exact yields_of_run rfl ((Dev.devLorPulse_of_strap h hs).trans (if_pos ⟨hl, hh⟩))
  · exact yields_of_run rfl ((Dev.devLorPulse_of_strap h hs).trans (if_neg (by omega)))
  · exact yields_of_run rfl (Dev.devLorPulse_of_stuck h hs hh)
  · exact yields_of_run rfl (Dev.devLorPulse_of_no_strap h)
  · exact yields_of_run rfl (if_pos (Bool.eq_false_of_not_eq_true h))
  · exact yields_of_run rfl (if_neg (ne_of_eq_of_ne h Bool.noConfusion))
  · intro past
    exact ⟨fun h => yields_of_run rfl (if_pos h), fun h => yields_of_run rfl (if_neg (Bool.eq_false_iff.mp h))⟩
  · intro ends
    exact ⟨fun h => yields_of_run rfl (if_pos h), fun h => yields_of_run rfl (if_neg h)⟩
  · intro hp hb e
    have hy : Yields (.powerUpRelease true) s _ := yields_of_run rfl (Dev.devPowerUpRelease_of_self hp hb)
    refine ⟨fun h => ?_, fun h => ?_⟩
    · rwa [if_pos (show d.selfOver.bwCauses = 0 from h), show d.selfOver.bwCauses = 0 from h] at hy
    · rwa [if_neg (show d.selfOver.bwCauses ≠ 0 from h)] at hy
  · exact yields_of_run rfl (Dev.devPowerUpRelease_of_kept h)
  · exact yields_of_run rfl (if_pos (.inr (.inl rfl)))

end Sys2Proof.Machine

/-! Safety frames (R315–R319). -/

namespace Sys2Proof.Machine

open Sys2Proof

namespace Dev

variable {d : Dev} {m : Nat} {b : List Byte}

theorem pduSub_send (o : Output) (b : List Byte) (d : Dev) : (d.send o).pduSub b = d.pduSub b := rfl

theorem copyOk_send (o : Output) (m lan rx : Nat) (b : List Byte) (d : Dev) :
    (d.send o).copyOk m lan rx b = d.copyOk m lan rx b := rfl

/-! Heartbeats (R315). -/

theorem devSafetyHeartbeat_of_due {late : Nat} (hon : d.on Obj.SL_ENABLE = true) (hdue : d.heartbeatDue late = true) :
    d.devSafetyHeartbeat late = if 1000 < late then ((d.sendSafety 1).inc Obj.SL_TX_LATE).broken 4 else d.sendSafety 1 :=
  if_neg fun h => h.elim (Bool.eq_false_iff.mp · hon) (Bool.eq_false_iff.mp · hdue)

theorem devSafetyHeartbeat_of_not {late : Nat} (h : ¬ (d.on Obj.SL_ENABLE = true ∧ d.heartbeatDue late = true)) :
    d.devSafetyHeartbeat late = d := by
  refine if_pos ?_
  by_contra hn
  rw [not_or] at hn
  exact h ⟨Bool.eq_true_of_not_eq_false hn.1, Bool.eq_true_of_not_eq_false hn.2⟩

/-! A copy received (R317, R318). -/

/-- The form of a safety frame (Table 13-9). -/
def PduFormOk (b : List Byte) : Prop :=
  b.length = 36 ∧ slCrc (b.take 32) = pduField b 0x20 4 ∧ pduField b 0 1 = 1 ∧ (pduField b 1 1 = 1 ∨ pduField b 1 1 = 2)

section Copy

variable {lan rx : Nat}

theorem safetyCopy_of_unknown (h : d.pduSub b = none) : d.safetyCopy lan rx b = d.bwEvent 143 (noSource 143) := by
  unfold safetyCopy
  dsimp only
  rw [h]
  rfl

theorem safetyCopy_of_bad (h : d.pduSub b = some m) (hbad : ¬ PduFormOk b ∨ d.copyOk m lan rx b = false) :
    d.safetyCopy lan rx b = (d.inc (Obj.SLS_REJECTS m)).bwEvent 143 m := by
  unfold safetyCopy
  dsimp only
  rw [h]
  exact if_pos hbad

/-- What a good copy's TRIP flag does at once. -/
def copyTripped (d : Dev) (m : Nat) (b : List Byte) : Dev :=
  if (pduField b 0x18 1).testBit 0 then d.actTrip m true else d

section Good

variable (h : d.pduSub b = some m) (hform : PduFormOk b) (hok : d.copyOk m lan rx b = true)
include h hform hok

theorem safetyCopy_of_first (hw : (((d.copyTripped m b).safeSub m).wins.find? fun w => w.seq == pduField b 2 2) = none) :
    d.safetyCopy lan rx b
      = (d.copyTripped m b).setSafeSub m { (d.copyTripped m b).safeSub m with
          wins := ((d.copyTripped m b).safeSub m).wins
            ++ [{ seq := pduField b 2 2, lan := lan, pdu := b, at_ := (d.copyTripped m b).tm.mono }] } := by
  unfold safetyCopy
  dsimp only
  rw [h]
  refine (if_neg fun hn => hn.elim (· hform) (Bool.eq_false_iff.mp · hok)).trans ?_
  unfold copyTripped at *
  rw [hw]

theorem safetyCopy_of_second {w : SafeWin}
    (hw : (((d.copyTripped m b).safeSub m).wins.find? fun w => w.seq == pduField b 2 2) = some w) : d.safetyCopy lan rx b
      = if w.pdu = b then
          ((d.copyTripped m b).setSafeSub m { (d.copyTripped m b).safeSub m with
            wins := ((d.copyTripped m b).safeSub m).wins.filter (·.seq != pduField b 2 2) }).acceptFrame m rx b
        else (((d.copyTripped m b).setSafeSub m { (d.copyTripped m b).safeSub m with
            wins := ((d.copyTripped m b).safeSub m).wins.filter (·.seq != pduField b 2 2) }).inc (Obj.SLS_MISMATCH m)).bwEvent
          143 m := by
  unfold safetyCopy
  dsimp only
  rw [h]
  refine (if_neg fun hn => hn.elim (· hform) (Bool.eq_false_iff.mp · hok)).trans ?_
  unfold copyTripped at *
  rw [hw]

end Good

end Copy

/-! Windows and subscriptions that time out (R318, R319). -/

theorem devSafetyWindowExpiry_of_none (h : (d.safeSub m).wins = []) : d.devSafetyWindowExpiry m = d := by
  unfold devSafetyWindowExpiry
  dsimp only
  rw [h]

theorem devSafetyWindowExpiry_of_cons {w : SafeWin} {ws : List SafeWin} (h : (d.safeSub m).wins = w :: ws) :
    d.devSafetyWindowExpiry m = if d.waited w.at_ (200000 * nsUnit) = true then
      (d.setSafeSub m { d.safeSub m with wins := ws }).inc (Obj.SLS_SINGLE m) else d := by
  unfold devSafetyWindowExpiry
  dsimp only
  rw [h]

/-- A GOOD subscription has had no frame for its time-out. -/
def SubSilent (d : Dev) (m : Nat) : Prop :=
  d.getN (Obj.SLS_STATE m) = 1 ∧ d.waited (d.safeSub m).heard (d.actN (Obj.SLS_TIMEOUT m) * 1000 * nsUnit) = true

theorem bw_bwEvent (e src : Nat) (d : Dev) : (d.bwEvent e src).bw = d.bw := by
  obtain ⟨w, x, -, h⟩ := signal_eq e src (d.setN Obj.BW_EVENT_SRC src)
  rw [bwEvent, signalAt, h]
  rfl

theorem devSubscriptionLost_of_silent (h : d.SubSilent m) : d.devSubscriptionLost m
    = if d.actN (Obj.SLS_LOSS_REACTION m) = 5 then ((d.setN (Obj.SLS_STATE m) 2).bwEvent 144 m).bwRefresh
      else ((d.setN (Obj.SLS_STATE m) 2).bwEvent 144 m).raiseFault 144 (d.actN (Obj.SLS_LOSS_REACTION m)) 0 m 0 true := by
  have hact : ((d.setN (Obj.SLS_STATE m) 2).bwEvent 144 m).actN (Obj.SLS_LOSS_REACTION m)
      = d.actN (Obj.SLS_LOSS_REACTION m) := by
    unfold actN act
    rw [bw_bwEvent]
    rfl
  unfold devSubscriptionLost
  rw [if_neg fun hn => hn.elim (· h.1) (Bool.eq_false_iff.mp · h.2)]
  dsimp only
  rw [hact]

theorem devSubscriptionLost_of_not (h : ¬ d.SubSilent m) : d.devSubscriptionLost m = d := by
  refine if_pos ?_
  by_contra hn
  rw [not_or, not_not] at hn
  exact h ⟨hn.1, Bool.eq_true_of_not_eq_false hn.2⟩

end Dev

/-- Settles O46: a heartbeat at its instant, a copy by its subscription, its checks and its window, a time-out by its time. -/
theorem safetyFrames : Obligations.SafetyFrames := by
  intro m port t head b s ht d f seq trip formOk got
  have hrecv {e : Dev} (h : f.safetyCopy (port / 2) (t * 65536) b = e) : got e := yields_of_timed ht rfl h
  refine ⟨?_, fun h => ?_, fun h hbad => ?_, fun h hform hok => ?_, ?_, ?_⟩
  · intro late acts
    refine ⟨fun h hl => ?_, fun h hl => ?_, fun h => yields_of_timed ht rfl (Dev.devSafetyHeartbeat_of_not h)⟩
    · exact yields_of_timed ht rfl ((Dev.devSafetyHeartbeat_of_due h.1 h.2).trans (if_neg (Nat.not_lt.mpr hl)))
    · exact yields_of_timed ht rfl ((Dev.devSafetyHeartbeat_of_due h.1 h.2).trans (if_pos hl))
  · exact hrecv (Dev.safetyCopy_of_unknown h)
  · exact hrecv (Dev.safetyCopy_of_bad h hbad)
  · intro y x
    refine ⟨fun hw => hrecv (Dev.safetyCopy_of_first h hform hok hw), ?_⟩
    intro w hw e
    have hcopy := Dev.safetyCopy_of_second (d := f) h hform hok hw
    refine ⟨?_, fun hne => hrecv (hcopy.trans (if_neg hne))⟩
    intro heq g h
    exact hrecv (hcopy.trans (if_pos heq))
  · intro x
    refine ⟨fun h => yields_of_timed ht rfl (Dev.devSafetyWindowExpiry_of_none h), fun w ws h => ?_⟩
    have hexp := Dev.devSafetyWindowExpiry_of_cons h
    exact ⟨fun hp => yields_of_timed ht rfl (hexp.trans (if_pos hp)),
      fun hp => yields_of_timed ht rfl (hexp.trans (if_neg (Bool.eq_false_iff.mp hp)))⟩
  · intro lost e r
    refine ⟨fun h hr => ?_, fun h hr => ?_, fun h => yields_of_run rfl (Dev.devSubscriptionLost_of_not h)⟩
    · exact yields_of_run rfl ((Dev.devSubscriptionLost_of_silent h).trans (if_pos hr))
    · exact yields_of_run rfl ((Dev.devSubscriptionLost_of_silent h).trans (if_neg hr))

end Sys2Proof.Machine

/-! The roles of a pair (R327–R330, R334, R337, R339, R340). -/

namespace Sys2Proof.Machine

open Sys2Proof

namespace Dev

variable {d : Dev} {k l : Nat} {p : PartnerId} {up : Bool}

/-! What the pair's events and the judgement of its readiness leave. -/

theorem get_pairEvent_ne {e src : Nat} (ha : k ≠ Obj.PR_EVENT_SRC) (hcount : k ≠ Obj.EVT_COUNT e) (hlast : k ≠ Obj.EVT_LAST e)
    (hsrc : k ≠ Obj.EVT_LAST_SRC e) (d : Dev) : (d.pairEvent e src).get k = d.get k :=
  get_signalAt_ne ha hcount hlast hsrc d

theorem get_healthRefresh_ne (h : k ≠ Obj.PR_HEALTH) (d : Dev) : d.healthRefresh.get k = d.get k := by
  unfold healthRefresh
  dsimp only
  split
  · rfl
  · exact get_setN_ne (d := d) _ h

theorem get_pairRefresh_ne (hr : k ≠ Obj.PR_READY) (hh : k ≠ Obj.PR_HEALTH) (d : Dev) : d.pairRefresh.get k = d.get k := by
  unfold pairRefresh
  extract_lets ready x e
  have he : e.get k = d.get k := by
    show (if _ then _ else _ : Dev).get k = _
    split <;> rfl
  rw [get_healthRefresh_ne hh]
  exact (get_set_ne (d := e) _ hr).trans he

/-! Two modules meet (R327). -/

/-- Both modules are in CONFIG and PAIR topology, with a link up. -/
def CoupleMeets (d : Dev) (p : PartnerId) : Prop :=
  d.mode = Mode.config ∧ p.config = true ∧ d.topology = 2 ∧ p.pair = true ∧ d.on Obj.PR_LINK_STATE = true

theorem coupleMeets_iff : d.coupleMeets p = true ↔ d.CoupleMeets p := by
  unfold coupleMeets CoupleMeets
  simp only [Bool.and_eq_true, beq_iff_eq, and_assoc]

/-- What two modules that meet learn of each other. -/
def coupleSeen (d : Dev) (p : PartnerId) : Dev :=
  ((d.setN Obj.PR_MISMATCH (d.coupleCheck p)).setN Obj.PR_PARTNER_NODE p.node).setF Obj.PR_LINK_DELAY p.delay

/-- They have formed the couple. -/
def coupleFormed (d : Dev) (p : PartnerId) : Dev :=
  ((d.coupleSeen p).setN Obj.PR_COUPLE Couple.formed).pairEvent 153 (noSource 153)

theorem pref_coupleFormed : (d.coupleFormed p).on Obj.PR_PREF = d.on Obj.PR_PREF := by
  unfold on coupleFormed coupleSeen setF
  rw [get_pairEvent_ne (by decide) (by decide) (by decide) (by decide), get_setN_ne _ (by decide), get_set_ne _ (by decide),
    get_setN_ne _ (by decide), get_setN_ne _ (by decide)]

theorem devCoupleFormation_of_apart (h : ¬ d.CoupleMeets p) : d.devCoupleFormation p = d := by
  have hm : d.coupleMeets p = false := Bool.eq_false_iff.mpr fun hm => h (coupleMeets_iff.mp hm)
  have hroles : d.coupleRoles p = d := if_pos hm
  unfold devCoupleFormation
  dsimp only
  rw [hroles, hm]
  rfl

section Meets

variable (h : d.CoupleMeets p)
include h

theorem coupleRoles_of_meets : d.coupleRoles p
    = if d.coupleCheck p = 0 then
        if d.on Obj.PR_PREF = true then (d.coupleFormed p).enterActive else (d.coupleFormed p).enterStandby
      else ((((d.coupleSeen p).setN Obj.PR_COUPLE Couple.mismatch).pairEvent 159 (noSource 159)).setRole Role.solo).pairRefresh := by
  rw [← pref_coupleFormed (p := p)]
  exact if_neg (Bool.eq_false_iff.not.mpr (not_not.mpr (coupleMeets_iff.mpr h)))

theorem devCoupleFormation_of_meets : d.devCoupleFormation p
    = if d.coupleCheck p = 0 ∧ d.on Obj.PR_PREF = true then (d.coupleRoles p).mirrorAll else d.coupleRoles p := by
  unfold devCoupleFormation
  dsimp only
  rw [coupleMeets_iff.mpr h, Bool.true_and]
  simp only [Bool.and_eq_true, beq_iff_eq]

end Meets

/-! The arbiter's line (R328, R337, R339). -/

/-- The level of ARB_ACT taken. -/
def arbUp (d : Dev) : Dev := d.set Obj.PR_ARB_STATE 1

/-- A takeover detected at `t` has begun: what it starts from, and its time. -/
def takeBegun (e : Dev) (t : Nat) : Dev :=
  (e.setPair { e.pair with
    take := some { at_ := e.tm.mono + (t - e.tm.now), warm := e.on Obj.PR_READY, loaded := false,
                   frame := e.pair.heard } }).set Obj.PR_LAST_TAKEOVER (time96 t)

theorem takeover_eq (e : Dev) (t : Nat) : e.takeover t
    = if e.on Obj.PR_READY = true then ((e.takeBegun t).inc Obj.PR_TAKEOVERS).enterActive
      else ((e.takeBegun t).inc Obj.PR_COLD_TAKEOVERS).enterActive.raiseFault 0x0104 3 0 (noSource 0x0104) 0 false := by
  unfold takeover takeBegun
  by_cases h : e.on Obj.PR_READY = true
  · simp only [if_pos h]
  · simp only [if_neg h]

/-- A level of ARB_ACT leaves every other number. -/
theorem getN_arb {v : Int} (h : k ≠ Obj.PR_ARB_STATE) : (d.set Obj.PR_ARB_STATE v).getN k = d.getN k := getN_set_ne v h

/-- The module as it stands at the takeover, its free value drawn. -/
def arbDrawn (d : Dev) : Dev := { d.arbUp with free := d.free + 1 }

theorem ready_arbDrawn : d.arbDrawn.on Obj.PR_READY = d.on Obj.PR_READY := by
  unfold on
  rw [show d.arbDrawn.get Obj.PR_READY = d.arbUp.get Obj.PR_READY from rfl, arbUp, get_set_ne _ (by decide)]

theorem tc_arbDrawn : d.arbDrawn.tc = d.tc := congrArg tcNs (getN_arb (d := d) (k := Obj.CYC_TC) (v := 1) (by decide))

/-- ARB_ACT decides: outside BOOT and CONFIG, in the role that it changes. -/
def ArbDecides (d : Dev) (r : Nat) : Prop := d.getN Obj.PR_ROLE = r ∧ d.mode ≠ Mode.boot ∧ d.mode ≠ Mode.config

theorem arb_stays_iff {v : Int} {r : Nat} : ((d.set Obj.PR_ARB_STATE v).mode = Mode.boot
    ∨ (d.set Obj.PR_ARB_STATE v).mode = Mode.config ∨ (d.set Obj.PR_ARB_STATE v).role ≠ r) ↔ ¬ d.ArbDecides r := by
  unfold mode role ArbDecides
  rw [getN_arb (by decide), getN_arb (by decide)]
  tauto

theorem devArbRise_of_stays (h : ¬ d.ArbDecides Role.stand) : d.devArbRise = d.arbUp := if_pos (arb_stays_iff.mpr h)

theorem devArbRise_of_takes (h : d.ArbDecides Role.stand) :
    d.devArbRise = d.arbDrawn.takeover (d.tm.now + Config.freeValue d.free % (d.tc * nsUnit)) := by
  rw [← tc_arbDrawn]
  exact if_neg fun hs => arb_stays_iff.mp hs h

theorem takeBegun_arbDrawn (t : Nat) : d.arbDrawn.takeBegun t
    = (d.arbDrawn.setPair { d.pair with
        take := some { at_ := d.tm.mono + (t - d.tm.now), warm := d.on Obj.PR_READY, loaded := false,
                       frame := d.pair.heard } }).set Obj.PR_LAST_TAKEOVER (time96 t) := by
  rw [← ready_arbDrawn]
  rfl

theorem devArbFall_of_stays (h : ¬ d.ArbDecides Role.active) : d.devArbFall = d.set Obj.PR_ARB_STATE 0 :=
  if_pos (arb_stays_iff.mpr h)

theorem devArbFall_of_leaves (h : d.ArbDecides Role.active) : d.devArbFall = (d.set Obj.PR_ARB_STATE 0).leaveActive :=
  if_neg fun hs => arb_stays_iff.mp hs h

/-! A lane of the pair link (R330). -/

/-- The lane's change reported. -/
def linkChanged (d : Dev) (l : Nat) (up : Bool) : Dev := (d.setBit Obj.PR_LINK_STATE l up).pairEvent 153 l

theorem getN_linkChanged (hs : k ≠ Obj.PR_LINK_STATE) (ha : k ≠ Obj.PR_EVENT_SRC) (hcount : k ≠ Obj.EVT_COUNT 153)
    (hlast : k ≠ Obj.EVT_LAST 153) (hsrc : k ≠ Obj.EVT_LAST_SRC 153) : (d.linkChanged l up).getN k = d.getN k := by
  refine congrArg Int.toNat ?_
  rw [linkChanged, get_pairEvent_ne ha hcount hlast hsrc]
  exact get_setN_ne (d := d) _ hs

theorem couple_linkChanged : (d.linkChanged l up).getN Obj.PR_COUPLE = d.getN Obj.PR_COUPLE :=
  getN_linkChanged (by decide) (by decide) (by decide) (by decide) (by decide)

theorem role_linkChanged : (d.linkChanged l up).getN Obj.PR_ROLE = d.getN Obj.PR_ROLE :=
  getN_linkChanged (by decide) (by decide) (by decide) (by decide) (by decide)

theorem getN_pairRefresh_ne (hr : k ≠ Obj.PR_READY) (hh : k ≠ Obj.PR_HEALTH) (d : Dev) : d.pairRefresh.getN k = d.getN k :=
  congrArg Int.toNat (get_pairRefresh_ne hr hh d)

/-- What the link, as it now stands, does to the couple. -/
def linkJudged (e : Dev) : Dev :=
  if e.on Obj.PR_LINK_STATE = false ∧ e.getN Obj.PR_COUPLE = Couple.formed then
    (e.setN Obj.PR_COUPLE Couple.linkDown).setPair { e.pair with resync := true }
  else if e.on Obj.PR_LINK_STATE = true ∧ e.getN Obj.PR_COUPLE = Couple.linkDown then e.setN Obj.PR_COUPLE Couple.formed
  else e

theorem role_linkJudged (e : Dev) : e.linkJudged.getN Obj.PR_ROLE = e.getN Obj.PR_ROLE := by
  have hset (n : Nat) : (e.setN Obj.PR_COUPLE n).getN Obj.PR_ROLE = e.getN Obj.PR_ROLE := getN_setN_ne _ (by decide)
  unfold linkJudged
  split
  · exact hset Couple.linkDown
  · split
    · exact hset Couple.formed
    · rfl

theorem devPairLinkLane_of_same (h : d.bit Obj.PR_LINK_STATE l = up) : d.devPairLinkLane l up = d := by
  have hlane : d.devLinkLane l up = d := if_pos h
  unfold devPairLinkLane
  dsimp only
  rw [hlane, if_neg]
  rintro ⟨-, hdown, hformed⟩
  exact absurd (hdown.symm.trans hformed) (by decide)

section Changed

variable (h : d.bit Obj.PR_LINK_STATE l ≠ up)
include h

theorem devLinkLane_of_changed : d.devLinkLane l up = (d.linkChanged l up).linkJudged.pairRefresh := if_neg h

theorem devPairLinkLane_of_changed : d.devPairLinkLane l up
    = if d.getN Obj.PR_ROLE = 1 ∧ d.getN Obj.PR_COUPLE = Couple.linkDown
          ∧ (d.linkChanged l up).linkJudged.getN Obj.PR_COUPLE = Couple.formed
      then (d.linkChanged l up).linkJudged.pairRefresh.mirrorAll else (d.linkChanged l up).linkJudged.pairRefresh := by
  have hrole : (d.linkChanged l up).linkJudged.pairRefresh.role = d.getN Obj.PR_ROLE := by
    unfold role
    rw [getN_pairRefresh_ne (by decide) (by decide), role_linkJudged, role_linkChanged]
  unfold devPairLinkLane
  dsimp only
  rw [devLinkLane_of_changed h, hrole, getN_pairRefresh_ne (by decide) (by decide)]

end Changed

end Dev

/-- Settles O47: the couple by the check, the arbiter's line by the role and the mode, a lane by what it leaves of the link. -/
theorem pairRoles : Obligations.PairRoles := by
  intro s d meets
  refine ⟨?_, fun p h => yields_of_run rfl (Dev.devCoupleFormation_of_apart h), ?_, ?_, ?_, ?_⟩
  · intro p h c e f
    have hform := Dev.devCoupleFormation_of_meets (d := d) h
    have hroles := Dev.coupleRoles_of_meets (d := d) h
    refine ⟨fun hc hp => ?_, fun hc hp => ?_, fun hc => ?_⟩
    · exact yields_of_run rfl (hform.trans (by rw [if_pos ⟨hc, hp⟩, hroles, if_pos hc, if_pos hp]; rfl))
    · exact yields_of_run rfl (hform.trans (by
        rw [if_neg fun hn => Bool.eq_false_iff.mp hp hn.2, hroles, if_pos hc, if_neg (Bool.eq_false_iff.mp hp)]; rfl))
    · exact yields_of_run rfl (hform.trans (by rw [if_neg fun hn => hc hn.1, hroles, if_neg hc]; rfl))
  · intro up at_ takes
    refine ⟨?_, fun h => yields_of_run rfl (Dev.devArbRise_of_stays h)⟩
    intro h x b
    have hrise := Dev.devArbRise_of_takes (d := d) h
    rw [Dev.takeover_eq, Dev.takeBegun_arbDrawn, Dev.ready_arbDrawn] at hrise
    exact ⟨fun hr => yields_of_run rfl (hrise.trans (if_pos hr)),
      fun hr => yields_of_run rfl (hrise.trans (if_neg (Bool.eq_false_iff.mp hr)))⟩
  · intro down leaves dwell
    exact ⟨fun h => yields_of_run rfl (Dev.devArbFall_of_leaves h), fun h => yields_of_run rfl (Dev.devArbFall_of_stays h)⟩
  · intro own seen newest base
    rfl
  · intro l up
    refine ⟨fun h => yields_of_run rfl (Dev.devPairLinkLane_of_same h), ?_⟩
    intro h e c ends back f
    have hlane := Dev.devPairLinkLane_of_changed (d := d) h
    have hcouple : e.getN Obj.PR_COUPLE = c := Dev.couple_linkChanged
    have hne : Couple.linkDown ≠ Couple.formed := by decide
    have hback (hb : back) : e.linkJudged = e.setN Obj.PR_COUPLE Couple.formed :=
      (if_neg fun hn => Bool.eq_false_iff.mp hn.1 hb.2).trans (if_pos ⟨hb.2, hcouple.trans hb.1⟩)
    refine ⟨fun hends hnback => ?_, fun hends => ?_, fun hb hrole => ?_, fun hb hrole => ?_⟩
    · have hj : e.linkJudged = e :=
        (if_neg fun hn => hends ⟨hcouple.symm.trans hn.2, hn.1⟩).trans
          (if_neg fun hn => hnback ⟨hcouple.symm.trans hn.2, hn.1⟩)
      refine yields_of_run rfl (hlane.trans ?_)
      rw [if_neg fun hn => hne (hn.2.1.symm.trans (hcouple.symm.trans (hj ▸ hn.2.2)))]
      exact congrArg Dev.pairRefresh hj
    · have hj : e.linkJudged = (e.setN Obj.PR_COUPLE Couple.linkDown).setPair { e.pair with resync := true } :=
        if_pos ⟨hends.2, hcouple.trans hends.1⟩
      refine yields_of_run rfl (hlane.trans ?_)
      rw [if_neg fun hn => hne (hn.2.1.symm.trans hends.1)]
      exact congrArg Dev.pairRefresh hj
    · have hformed : e.linkJudged.getN Obj.PR_COUPLE = Couple.formed := by
        rw [hback hb]
        exact Dev.getN_setN_same _
      refine yields_of_run rfl (hlane.trans ?_)
      rw [if_pos ⟨hrole, hb.1, hformed⟩]
      exact congrArg (fun x => x.pairRefresh.mirrorAll) (hback hb)
    · refine yields_of_run rfl (hlane.trans ?_)
      rw [if_neg fun hn => hrole hn.1]
      exact congrArg Dev.pairRefresh (hback hb)

end Sys2Proof.Machine

/-! What passes between the modules of a pair (R332, R334, R337, R339, R343, R345, R346). -/

namespace Sys2Proof.Machine

open Sys2Proof

namespace Dev

variable {d : Dev}

/-! Checkpoints and mirrored writes (R332, R334, R337). -/

theorem devCheckpointLoaded_of_warm {t : TakeSt} {cp : Checkpoint} (h : d.pair.take = some t) (hw : t.warm = true)
    (hcp : d.pair.cp = some cp) : d.devCheckpointLoaded
      = ((d.loadCheckpoint cp).set Obj.PR_CP_AGE 0).setPair
          { (d.loadCheckpoint cp).pair with take := some { t with loaded := true } } := by
  unfold devCheckpointLoaded
  rw [h]
  dsimp only
  rw [hw, hcp]

theorem devCheckpointLoaded_of_cold {t : TakeSt} (h : d.pair.take = some t) (hc : t.warm = false ∨ d.pair.cp = none) :
    d.devCheckpointLoaded
      = (d.startLoop.set Obj.PR_CP_AGE 0).setPair { d.startLoop.pair with take := some { t with loaded := true } } := by
  unfold devCheckpointLoaded
  rw [h]
  dsimp only
  rcases hc with hc | hc
  · rw [hc]
  · rw [hc]
    cases t.warm <;> dsimp only

theorem devCheckpointLoaded_of_none (h : d.pair.take = none) : d.devCheckpointLoaded = d := by
  unfold devCheckpointLoaded
  rw [h]

theorem mirrorSubmit_of_rights {r : Fin 5} {es : List Entry} {sec cycle : Nat} {rt : Rights}
    (h : d.rights (.mirror r) = some rt) : d.mirrorSubmit r es sec cycle
      = if (d.checkGroup (.mirror r) rt es).1.status = Status.ok then
          (d.checkGroup (.mirror r) rt es).2.acceptGroup (.mirror r) rt 0 (some (sec, cycle)) es
        else (d.checkGroup (.mirror r) rt es).2 := by
  unfold mirrorSubmit
  rw [h]

/-! Split service (R343). -/

section Split

variable {n : Nat}

/-- A strand may enter split service: at a STANDBY, at an ACTIVE module where it is broken. -/
def SplitMay (d : Dev) (n : Nat) : Prop :=
  d.bit Obj.PR_SPLIT_STRANDS n = false ∧ d.getN Obj.PR_COUPLE = Couple.formed
    ∧ (d.getN Obj.PR_ROLE = 2 ∨ (d.getN Obj.PR_ROLE ≠ 0 ∧ d.strandBroken n = true))

theorem devSplit_of_may (h : d.SplitMay n) : d.devSplit n true
    = ((d.setBit Obj.PR_SPLIT_STRANDS n true).pairEvent 156 n).pairRefresh := by
  obtain ⟨hbit, hcouple, hrole⟩ := h
  refine if_neg ?_
  rintro (hb | ⟨-, hc | hs | ⟨ha, hb⟩⟩)
  · exact Bool.false_ne_true (hbit.symm.trans hb)
  · exact hc hcouple
  · exact hrole.elim (fun h2 => absurd (hs.symm.trans h2) (by decide)) fun h0 => h0.1 hs
  · exact hrole.elim (fun h2 => absurd (ha.symm.trans h2) (by decide)) fun hbr => Bool.eq_false_iff.mp hb hbr.2

theorem devSplit_of_may_not (h : ¬ d.SplitMay n) (hr : d.getN Obj.PR_ROLE ≤ 2) : d.devSplit n true = d := by
  refine if_pos ?_
  by_contra hn
  simp only [not_or, not_and, true_implies, not_not, Bool.not_eq_false, Bool.not_eq_true] at hn
  obtain ⟨hbit, hcouple, hsolo, hbroken⟩ := hn
  refine h ⟨hbit, hcouple, ?_⟩
  by_cases h2 : d.getN Obj.PR_ROLE = 2
  · exact .inl h2
  · have h0 : d.getN Obj.PR_ROLE ≠ 0 := hsolo
    exact .inr ⟨h0, hbroken (show d.getN Obj.PR_ROLE = 1 by omega)⟩

theorem devSplit_end (h : d.bit Obj.PR_SPLIT_STRANDS n = true) : d.devSplit n false
    = ((d.setBit Obj.PR_SPLIT_STRANDS n false).pairEvent 156 n).pairRefresh :=
  if_neg fun hn => hn.elim (fun hb => Bool.false_ne_true (hb.symm.trans h)) fun hb => Bool.false_ne_true hb.1

end Split

/-! Exercises (R346). -/

/-- The instant of an exercise can have come. -/
def ExerciseDue (d : Dev) : Prop :=
  d.on Obj.PR_EXERCISE_PERIOD = true ∧ time96Units (d.get Obj.PR_EXERCISE_NEXT) ≤ d.tm.now + d.tc * nsUnit

theorem exerciseDue_iff : d.exerciseDue = true ↔ d.ExerciseDue := by
  unfold exerciseDue ExerciseDue
  rw [Bool.and_eq_true, decide_eq_true_iff]

theorem pair_set (k : Nat) (v : Int) (d : Dev) : (d.set k v).pair = d.pair := rfl

/-- The next instant noted. -/
def exerciseNoted (d : Dev) : Dev :=
  d.set Obj.PR_EXERCISE_NEXT (d.exerciseAfter (max d.tm.now (time96Units (d.get Obj.PR_EXERCISE_NEXT))))

theorem get_exerciseNoted {k : Nat} (h : k ≠ Obj.PR_EXERCISE_NEXT) : d.exerciseNoted.get k = d.get k := get_set_ne _ h

/-- Mode and partner allow an exercise. -/
def ExerciseMay (d : Dev) : Prop :=
  (∃ st, d.pair.status = some st ∧ st.ready = true) ∧ d.getN Obj.PR_COUPLE = Couple.formed ∧ d.getN Obj.PR_ROLE = 1
    ∧ d.on Obj.PR_PREF = true ∧ 0 < d.mode ∧ d.bit Obj.PR_EXERCISE_MODES (d.mode - 1) = true
    ∧ d.exerciseNoted.healthCode = 1

/-- The partner is ready and the couple formed. -/
def partnerReady (e : Dev) : Bool :=
  match e.pair.status with
  | some st => st.ready && e.getN Obj.PR_COUPLE == Couple.formed
  | none => false

theorem partnerReady_iff (e : Dev) : e.partnerReady = true
    ↔ (∃ st, e.pair.status = some st ∧ st.ready = true) ∧ e.getN Obj.PR_COUPLE = Couple.formed := by
  unfold partnerReady
  cases h : e.pair.status with
  | none => simp
  | some st => simp

/-- An exercise asked for. -/
def exerciseYielded (e : Dev) : Dev := (e.setPair { e.pair with yielding := true, yieldAt := e.tm.mono }).askHealth 3

theorem tm_set (k : Nat) (v : Int) (d : Dev) : (d.set k v).tm = d.tm := rfl

theorem exerciseYielded_noted : d.exerciseNoted.exerciseYielded
    = (d.exerciseNoted.setPair { d.pair with yielding := true, yieldAt := d.tm.mono }).askHealth 3 := by
  unfold exerciseYielded exerciseNoted
  rw [pair_set, tm_set]

/-- What the model asks of mode and partner before an exercise. -/
def ExerciseAllowed (e : Dev) : Prop :=
  e.role = Role.active ∧ e.on Obj.PR_PREF = true ∧ 0 < e.mode ∧ e.bit Obj.PR_EXERCISE_MODES (e.mode - 1) = true
    ∧ e.partnerReady = true ∧ e.healthCode = 1

theorem exerciseAllowed_iff : d.exerciseNoted.ExerciseAllowed ↔ d.ExerciseMay := by
  have hpair : d.exerciseNoted.pair = d.pair := pair_set ..
  unfold ExerciseAllowed ExerciseMay
  rw [partnerReady_iff, hpair]
  unfold role mode on bit getN
  rw [get_exerciseNoted (by decide), get_exerciseNoted (by decide), get_exerciseNoted (by decide),
    get_exerciseNoted (by decide), get_exerciseNoted (by decide)]
  constructor
  · rintro ⟨hr, hp, hm, hb, ⟨hst, hc⟩, hh⟩
    exact ⟨hst, hc, hr, hp, hm, hb, hh⟩
  · rintro ⟨hst, hc, hr, hp, hm, hb, hh⟩
    exact ⟨hr, hp, hm, hb, ⟨hst, hc⟩, hh⟩

section Exercise

theorem devExerciseStart_of_idle (h : ¬ d.ExerciseDue) : d.devExerciseStart = d :=
  if_pos (Bool.eq_false_iff.mpr fun hd => h (exerciseDue_iff.mp hd))

variable (h : d.ExerciseDue)
include h

theorem devExerciseStart_of_may (hm : d.ExerciseMay) : d.devExerciseStart = d.exerciseNoted.exerciseYielded := by
  unfold devExerciseStart
  rw [if_neg (Bool.eq_false_iff.not.mpr (not_not.mpr (exerciseDue_iff.mpr h)))]
  exact if_pos (exerciseAllowed_iff.mpr hm)

theorem devExerciseStart_of_may_not (hm : ¬ d.ExerciseMay) : d.devExerciseStart = d.exerciseNoted := by
  unfold devExerciseStart
  rw [if_neg (Bool.eq_false_iff.not.mpr (not_not.mpr (exerciseDue_iff.mpr h)))]
  exact if_neg fun ha => hm (exerciseAllowed_iff.mp ha)

end Exercise

/-! The end of a dwell (R346). -/

section Dwell

variable {w : DwellSt} {gap : Nat}

/-- The exercise went well: the gap within its bound, a frame seen on every strand that has cells. -/
def DwellGood (d : Dev) (w : DwellSt) (gap : Nat) : Prop :=
  gap ≤ d.gapBound ∧ ∀ n, n < 32 → 0 < d.positions n → w.seen.testBit n = true

theorem dwellGood_iff : (decide (gap ≤ d.gapBound) && (List.range 32).all fun s => d.positions s == 0 || w.seen.testBit s) = true
    ↔ d.DwellGood w gap := by
  unfold DwellGood
  rw [Bool.and_eq_true, decide_eq_true_iff, List.all_eq_true]
  simp only [List.mem_range, Bool.or_eq_true, beq_iff_eq, Nat.pos_iff_ne_zero, or_iff_not_imp_left]

/-- The outcome reported. -/
def dwellReported (d : Dev) (r : Nat) : Dev :=
  ((d.setPair { d.pair with dwell := none }).setN Obj.PR_EXERCISE_RESULT r).pairEvent 158 (noSource 158)

/-- A ready standby asks for the return. -/
def asksReturn (x : Dev) : Dev :=
  if x.getN Obj.PR_ROLE = 2 ∧ x.on Obj.PR_READY = true ∧ x.healthCode = 1 then
    ((x.setN Obj.PR_HEALTH 2).send (.pins 1 2)).pairEvent 157 (noSource 157)
  else x

theorem exerciseOutcome_of_good (h : d.DwellGood w gap) : d.exerciseOutcome w gap = (d.dwellReported 1).asksReturn := by
  unfold exerciseOutcome
  rw [dwellGood_iff.mpr h]
  rfl

theorem exerciseOutcome_of_bad (h : ¬ d.DwellGood w gap) : d.exerciseOutcome w gap
    = ((d.dwellReported 3).raiseFault 0x0105 2 0 (noSource 0x0105) 0 false).asksReturn := by
  unfold exerciseOutcome
  rw [Bool.eq_false_of_not_eq_true fun hg => h (dwellGood_iff.mp hg)]
  rfl

theorem devExerciseDwellEnd_of_none (h : d.pair.dwell = none) : d.devExerciseDwellEnd gap = d := by
  unfold devExerciseDwellEnd
  rw [h]

theorem devExerciseDwellEnd_of_some (h : d.pair.dwell = some w) : d.devExerciseDwellEnd gap
    = if d.waited w.at_ (d.getN Obj.PR_EXERCISE_DWELL * secUnit) = true then d.exerciseOutcome w gap else d := by
  unfold devExerciseDwellEnd
  rw [h]

end Dwell

end Dev

/-- Settles O48: each command between the modules by the role, the couple and what the module waits for. -/
theorem pairExchange : Obligations.PairExchange := by
  intro s d hears
  refine ⟨?_, fun cp h => ?_, ?_, fun h => yields_of_run rfl (Dev.devCheckpointLoaded_of_none h), ?_, ?_, ?_, ?_, ?_,
    fun h gap => yields_of_run rfl (Dev.devExerciseDwellEnd_of_none h), ?_⟩
  · intro cp h e
    exact yields_of_run rfl (if_neg fun hn => hn.elim (· h.1) (· h.2))
  · refine yields_of_run rfl (if_pos ?_)
    by_contra hn
    rw [not_or, not_not, not_not] at hn
    exact h hn
  · intro t h done
    exact ⟨fun cp hw hcp => yields_of_run rfl (Dev.devCheckpointLoaded_of_warm h hw hcp),
      fun hc => yields_of_run rfl (Dev.devCheckpointLoaded_of_cold (d := d) h hc)⟩
  · intro r es sec cycle rt h v
    have hsub := Dev.mirrorSubmit_of_rights (es := es) (sec := sec) (cycle := cycle) h
    exact ⟨fun hok => yields_of_run rfl (hsub.trans (if_pos hok)), fun hno => yields_of_run rfl (hsub.trans (if_neg hno))⟩
  · intro n may
    refine ⟨fun h => yields_of_run rfl (Dev.devSplit_of_may h), fun h hr => yields_of_run rfl (Dev.devSplit_of_may_not h hr),
      fun h => yields_of_run rfl (Dev.devSplit_end h), fun h => yields_of_run rfl (if_pos (.inl h))⟩
  · intro asks
    exact ⟨fun h => yields_of_run rfl (if_pos h), fun h => yields_of_run rfl (if_neg h)⟩
  · intro next due e may
    exact ⟨fun h hm => yields_of_run rfl ((Dev.devExerciseStart_of_may h hm).trans Dev.exerciseYielded_noted),
      fun h hm => yields_of_run rfl (Dev.devExerciseStart_of_may_not h hm),
      fun h => yields_of_run rfl (Dev.devExerciseStart_of_idle h)⟩
  · intro ends e f
    exact ⟨fun h => yields_of_run rfl (if_pos h), fun h => yields_of_run rfl (if_neg h)⟩
  · intro w gap h past good e asks
    have hend := Dev.devExerciseDwellEnd_of_some (gap := gap) h
    refine ⟨fun hp hg => ?_, fun hp hg => ?_, fun hp => yields_of_run rfl (hend.trans (if_neg (Bool.eq_false_iff.mp hp)))⟩
    · exact yields_of_run rfl ((hend.trans (if_pos hp)).trans (Dev.exerciseOutcome_of_good hg))
    · exact yields_of_run rfl ((hend.trans (if_pos hp)).trans (Dev.exerciseOutcome_of_bad hg))

end Sys2Proof.Machine

/-! Discovery: HELLO, peers, node conflicts and PRP supervision (R357, R363, R364). -/

namespace Sys2Proof.Machine

open Sys2Proof

namespace Dev

variable {d : Dev}

/-! The table of peers (R363). -/

section Peers

variable {node role order : Nat} {a : List Byte} {p : Peer}

theorem notePeer_of_same (h : d.host.peers.find? (·.addr = a) = some p) (hn : p.node = node) (hr : p.role = role)
    (ho : p.order = order) : d.notePeer node role order a
      = { d with host := { d.host with
          peers := d.host.peers.map fun x => if x.addr = a then { p with tLast := d.tm.mono } else x } } := by
  subst hn hr ho
  unfold notePeer
  rw [h]
  exact if_pos ⟨rfl, rfl, rfl⟩

theorem notePeer_of_changed (h : d.host.peers.find? (·.addr = a) = some p)
    (hc : ¬ (p.node = node ∧ p.role = role ∧ p.order = order)) : d.notePeer node role order a
      = d.setPeers (d.host.peers.map fun x =>
          if x.addr = a then { p with node := node, role := role, order := order, tLast := d.tm.mono } else x) := by
  unfold notePeer
  rw [h]
  exact if_neg hc

theorem notePeer_of_full (h : d.host.peers.find? (·.addr = a) = none) (hf : 64 ≤ d.host.peers.length) :
    d.notePeer node role order a = d := by
  unfold notePeer
  rw [h]
  exact if_pos hf

theorem notePeer_of_new (h : d.host.peers.find? (·.addr = a) = none) (hf : d.host.peers.length < 64) :
    ∃ flags, d.notePeer node role order a
      = d.takeFree.2.setPeers (d.host.peers ++ [{ node := node, role := role, order := order, flags := flags, addr := a,
                                                  tLast := d.tm.mono }]) := by
  refine ⟨d.takeFree.1 % 256, ?_⟩
  unfold notePeer
  rw [h]
  exact if_neg (Nat.not_le.mpr hf)

theorem id_setPeers (ps : List Peer) (d : Dev) : (d.setPeers ps).getN Obj.HOST_NODE_ID = d.getN Obj.HOST_NODE_ID := by
  unfold setPeers hostEvent
  dsimp only
  rw [getN_signalAt_ne (by decide) (by decide) (by decide) (by decide), getN_setN_ne _ (by decide)]
  rfl

theorem id_notePeer : (d.notePeer node role order a).getN Obj.HOST_NODE_ID = d.getN Obj.HOST_NODE_ID := by
  unfold notePeer
  split
  · dsimp only
    split
    · rfl
    · exact id_setPeers _ d
  · split
    · rfl
    · exact id_setPeers _ d.takeFree.2

end Peers

section Hello

variable {block addr : List Byte}

theorem devPeerHello_of_ignored (h : block.length ≠ 48 ∨ (block.drop 36).take 6 = d.mac) : d.devPeerHello block addr = d :=
  if_pos (.inr h)

/-- A byte of a HELLO. -/
def helloAt (block : List Byte) (i : Nat) : Nat := (block.getD i 0#8).toNat

/-- The sender of a HELLO in the table of peers. -/
def helloNoted (d : Dev) (block addr : List Byte) : Dev :=
  d.notePeer (helloAt block 9) (helloAt block 10) (helloAt block 8) (padTo 16 0#8 addr)

theorem devPeerHello_of_other (ht : d.tm.timeclk = true) (hlen : block.length = 48) (hmac : (block.drop 36).take 6 ≠ d.mac) :
    d.devPeerHello block addr
      = if helloAt block 9 = d.getN Obj.HOST_NODE_ID ∧ helloAt block 9 ≠ 0 then (d.helloNoted block addr).nodeConflict
        else d.helloNoted block addr := by
  unfold devPeerHello
  rw [if_neg]
  · rw [← id_notePeer (d := d) (node := helloAt block 9) (role := helloAt block 10) (order := helloAt block 8)
      (a := padTo 16 0#8 addr)]
    rfl
  · rintro (h | h | h)
    · exact Bool.eq_false_iff.mp h ht
    · exact h hlen
    · exact hmac h

end Hello

theorem nodeConflict_of_known (h : d.on Obj.HOST_NODE_CONFLICT = true) :
    d.nodeConflict = { d with host := { d.host with tConflict := d.tm.mono } } := if_pos h

theorem nodeConflict_of_new (h : d.on Obj.HOST_NODE_CONFLICT = false) : d.nodeConflict
    = (((({ d with host := { d.host with tConflict := d.tm.mono } } : Dev).setN Obj.HOST_NODE_CONFLICT 1).hostEvent 164
        (noSource 164)).raiseFault 164 1 0 (noSource 164) (d.getN Obj.HOST_NODE_ID) true) :=
  if_neg (Bool.eq_false_iff.mp h)

/-! Entries that age out (R363). -/

section Old

variable {n : Nat}

/-- An entry of a node has had no HELLO for three periods. -/
def PeerOld (d : Dev) (n : Nat) (p : Peer) : Prop :=
  p.node = n ∧ d.waited p.tLast (3 * d.getN Obj.HOST_DISC_PERIOD * 1000000 * nsUnit) = true

/-- The model's test of it. -/
def peerOld (d : Dev) (n : Nat) (p : Peer) : Bool :=
  p.node == n && d.waited p.tLast (3 * d.getN Obj.HOST_DISC_PERIOD * 1000000 * nsUnit)

theorem peerOld_iff (p : Peer) : d.peerOld n p = true ↔ d.PeerOld n p := by
  unfold peerOld PeerOld
  rw [Bool.and_eq_true, beq_iff_eq]

theorem devPeerAgeOut_of_none (h : ∀ p ∈ d.host.peers, ¬ d.PeerOld n p) : d.devPeerAgeOut n = d := by
  refine if_neg fun hany => ?_
  obtain ⟨p, hp, hold⟩ := List.any_eq_true.mp hany
  exact h p hp ((peerOld_iff p).mp hold)

theorem devPeerAgeOut_of_some (h : ∃ p ∈ d.host.peers, d.PeerOld n p) :
    d.devPeerAgeOut n = d.setPeers (d.host.peers.filter fun p => !d.peerOld n p) := by
  obtain ⟨p, hp, hold⟩ := h
  exact if_pos (List.any_eq_true.mpr ⟨p, hp, (peerOld_iff p).mpr hold⟩)

theorem mem_peers_left (p : Peer) : p ∈ (d.host.peers.filter fun p => !d.peerOld n p) ↔ p ∈ d.host.peers ∧ ¬ d.PeerOld n p := by
  rw [List.mem_filter, ← peerOld_iff, Bool.not_eq_true', Bool.not_eq_true]

end Old

/-! What is sent on its own: HELLO and PRP supervision (R357, R363). -/

/-- The periodic HELLO's instant kept. -/
def helloBegun (d : Dev) : Dev := { d with host := { d.host with helloAt := d.tm.mono } }

theorem devHelloPeriodic_of_due (ht : d.tm.timeclk = true)
    (h : d.waited d.host.helloAt (d.getN Obj.HOST_DISC_PERIOD * 1000000 * nsUnit) = true) : d.devHelloPeriodic
      = if (((if d.helloBegun.on Obj.HOST_IPV4 then d.helloBegun.helloTo helloGroup4 else d.helloBegun).blob
            Obj.HOST_IPV6).take 16).any (· != 0#8) then
          (if d.helloBegun.on Obj.HOST_IPV4 then d.helloBegun.helloTo helloGroup4 else d.helloBegun).helloTo helloGroup6
        else if d.helloBegun.on Obj.HOST_IPV4 then d.helloBegun.helloTo helloGroup4 else d.helloBegun :=
  if_neg fun hn => hn.elim (Bool.eq_false_iff.mp · ht) (Bool.eq_false_iff.mp · h)

theorem devPrpSupervision_of_due (ht : d.tm.timeclk = true) (hon : d.on Obj.HOST_PRP = true)
    (h : d.waited d.host.prpAt (2 * secUnit) = true) : d.devPrpSupervision
      = ((({ d with host := { d.host with prpSup := (d.host.prpSup + 1) % 65536, prpAt := d.tm.mono } } : Dev).send
          (.ether 0 .prp ([0x00#8, 0x01#8] ++ bytesBE 2 d.host.prpSup ++ [20#8, 6#8] ++ d.mac ++ [0#8, 0#8]))).send
          (.ether 2 .prp ([0x00#8, 0x01#8] ++ bytesBE 2 d.host.prpSup ++ [20#8, 6#8] ++ d.mac ++ [0#8, 0#8]))) := by
  refine if_neg ?_
  rintro (hn | hn | hn)
  · exact Bool.eq_false_iff.mp hn hon
  · exact Bool.eq_false_iff.mp hn ht
  · exact Bool.eq_false_iff.mp hn h

end Dev

/-- Settles O49: a HELLO by its sender and the table, a period or an age by the time that has passed. -/
theorem discovery : Obligations.Discovery := by
  intro addr n s ht d
  have hclk : ¬ d.tm.timeclk = false := Bool.eq_false_iff.not.mpr (not_not.mpr ht)
  refine ⟨yields_of_run rfl (if_neg hclk), ?_, ?_, ?_, ?_, ?_, ?_, ?_⟩
  · intro due e sent a
    exact ⟨fun h => yields_of_run rfl (Dev.devHelloPeriodic_of_due ht h), fun h => yields_of_run rfl (if_pos (.inr h))⟩
  · intro block at_ a
    refine ⟨fun h => yields_of_run rfl (Dev.devPeerHello_of_ignored h), ?_, fun p h hn hr ho => Dev.notePeer_of_same h hn hr ho,
      fun p h hc => Dev.notePeer_of_changed h hc, fun h hf => Dev.notePeer_of_full h hf, fun h hf => Dev.notePeer_of_new h hf⟩
    intro hlen hmac e
    have hello := Dev.devPeerHello_of_other (addr := addr) ht hlen hmac
    refine ⟨fun h => yields_of_run rfl (hello.trans (if_neg fun hn => h.elim (· hn.1) hn.2)),
      fun hid h0 => yields_of_run rfl (hello.trans (if_pos ⟨hid, h0⟩))⟩
  · exact ⟨fun h => Dev.nodeConflict_of_known h, fun h => Dev.nodeConflict_of_new h⟩
  · intro old
    exact ⟨fun h => yields_of_run rfl (Dev.devPeerAgeOut_of_none h),
      fun h => ⟨_, fun p => Dev.mem_peers_left p, yields_of_run rfl (Dev.devPeerAgeOut_of_some h)⟩⟩
  · intro due
    exact ⟨fun h => yields_of_run rfl (if_pos h), fun h => yields_of_run rfl (if_neg h)⟩
  · intro hon h body
    exact yields_of_run rfl (Dev.devPrpSupervision_of_due ht hon h)
  · intro h
    exact yields_of_run rfl (if_pos (h.imp_right .inr))

end Sys2Proof.Machine

/-! The requests of sessions, logins and the ends of sessions (R358, R359, R362, R365–R367). -/

namespace Sys2Proof.Machine

open Sys2Proof

section Request

variable {s : State} {n seq : Nat} (f : Dev → Dev)

/-- A request of a session that is not open, or without TIMECLK, changes nothing. -/
theorem Dev.request_of_deaf (h : s.dev.sesOpen n = false ∨ s.dev.tm.timeclk = false) : s.dev.request n seq f = s.dev :=
  if_pos h

theorem Dev.not_deaf {d : Dev} (hs : d.sesOpen n = true) (ht : d.tm.timeclk = true) :
    ¬ (d.sesOpen n = false ∨ d.tm.timeclk = false) :=
  fun h => h.elim (Bool.eq_false_iff.mp · hs) (Bool.eq_false_iff.mp · ht)

/-- How far a number lies ahead of the highest taken. -/
def seqAhead (s : State) (n seq : Nat) : Nat := (seq + 4294967296 - (s.dev.ses n).seqHigh % 4294967296) % 4294967296

section Heard

variable (hs : s.dev.sesOpen n = true) (ht : s.dev.tm.timeclk = true)
include hs ht

theorem Dev.request_of_kept {k : Kept} (hk : (s.dev.ses n).kept.find? (·.seq = seq) = some k) : s.dev.request n seq f
    = (s.dev.setSes n { s.dev.ses n with tLast := s.dev.tm.mono }).answer n seq k.opcode k.status k.payload := by
  unfold Dev.request
  rw [if_neg (Dev.not_deaf hs ht)]
  dsimp only
  rw [hk]

theorem Dev.request_of_old (hk : (s.dev.ses n).kept.find? (·.seq = seq) = none)
    (ha : seqAhead s n seq = 0 ∨ 2147483648 < seqAhead s n seq) :
    s.dev.request n seq f = s.dev.inc (Obj.SES_SEQ_DROPS n) := by
  unfold Dev.request
  rw [if_neg (Dev.not_deaf hs ht)]
  dsimp only
  rw [hk]
  refine if_neg fun hn => ?_
  have hn' : 1 ≤ seqAhead s n seq ∧ seqAhead s n seq ≤ 2147483648 := hn
  omega

end Heard

end Request

/-- What a fresh request does is what its function does to the module as it finds it. -/
theorem yields_of_fresh {c : Instr} {s : State} {n seq : Nat} {f : Dev → Dev} {e : Dev} (h : s.fresh n seq = true)
    (hc : exec c s = s.run fun d => d.request n seq f) (he : f (s.at n seq) = e) : Yields c s e :=
  yields_of_run hc ((Dev.request_of_fresh h f).trans he)

theorem length_bytesBE (k v : Nat) : (bytesBE k v).length = k := by
  rw [bytesBE, List.length_reverse, length_bytesLE]

namespace Dev

variable {d : Dev} {n seq : Nat}

theorem sizeStatus_of_short {k want : Nat} (h : k < want) : sizeStatus k want = Status.type := if_pos h

theorem sizeStatus_of_long {k want : Nat} (h : want < k) : sizeStatus k want = Status.tooLong :=
  (if_neg (Nat.not_lt.mpr (Nat.le_of_lt h))).trans (if_pos h)

theorem sizeStatus_self (k : Nat) : sizeStatus k k = Status.ok :=
  (if_neg (Nat.lt_irrefl k)).trans (if_neg (Nat.lt_irrefl k))

/-! The challenge (R365, R366). -/

section Challenge

variable {pl addr : List Byte} {port : Nat} (ht : d.tm.timeclk = true)

/-- The user a challenge names. -/
def challengeUser (d : Dev) (pl : List Byte) : Option Nat := d.userNamed (trimZeros (pl.take 16))

/-- What the checks of a challenge say. -/
def challengeSays (d : Dev) (pl : List Byte) : Nat :=
  d.challengeStatus (d.challengeUser pl) (pl.getD 16 0#8).toNat ((pl.getD 17 0#8).toNat % 2 == 1)

theorem challenge_sized (hlen : pl.length = 36) : ¬ sizeStatus pl.length 36 ≠ Status.ok := by
  rw [hlen, sizeStatus_self]
  exact not_not.mpr rfl

include ht

theorem clock_runs : ¬ d.tm.timeclk = false := fun h => Bool.eq_false_iff.mp h ht

theorem devLoginChallenge_of_size (h : sizeStatus pl.length 36 ≠ Status.ok) : d.devLoginChallenge pl port addr seq
    = d.plainAnswer port addr 0 seq 0x02 (sizeStatus pl.length 36) [] :=
  (if_neg (clock_runs ht)).trans (if_pos h)

variable (hlen : pl.length = 36)
include hlen

theorem devLoginChallenge_of_locked (h : d.challengeSays pl = Status.locked) : d.devLoginChallenge pl port addr seq
    = (d.hostEvent 163 ((d.challengeUser pl).getD 0xFFFF)).plainAnswer port addr 0 seq 0x02 Status.locked [] := by
  unfold devLoginChallenge
  rw [if_neg (clock_runs ht), if_neg (challenge_sized hlen)]
  extract_lets user role flags st e
  have hst : st = Status.locked := h
  have he : e = d.hostEvent 163 (user.getD 0xFFFF) := if_pos hst
  rw [if_pos (ne_of_eq_of_ne hst (by decide)), he, hst]
  rfl

theorem devLoginChallenge_of_refused (h : d.challengeSays pl ≠ Status.ok) (hl : d.challengeSays pl ≠ Status.locked) :
    d.devLoginChallenge pl port addr seq = d.plainAnswer port addr 0 seq 0x02 (d.challengeSays pl) [] := by
  unfold devLoginChallenge
  rw [if_neg (clock_runs ht), if_neg (challenge_sized hlen)]
  extract_lets user role flags st e
  have he : e = d := if_neg hl
  rw [he]
  exact if_pos h

section Passed

variable (h : d.challengeSays pl = Status.ok)
include h

theorem devLoginChallenge_of_busy (hf : d.freeSessions = []) :
    d.devLoginChallenge pl port addr seq = d.plainAnswer port addr 0 seq 0x02 Status.busy [] := by
  unfold devLoginChallenge
  rw [if_neg (clock_runs ht), if_neg (challenge_sized hlen)]
  extract_lets user role flags st e
  have hst : st = Status.ok := h
  have he : e = d := if_neg (ne_of_eq_of_ne hst (by decide))
  rw [if_neg (not_not.mpr hst), he, hf]

/-- The slot of a challenge that passed: PENDING, with the next session number and a nonce. -/
def slotReserved (d : Dev) (pl addr : List Byte) (port k : Nat) (nM : List Byte) : Dev :=
  (((d.takeFree.2.setSes k { SesSt.init with
      gen := nextGen (d.ses k).gen, user := d.challengeUser pl, roleReq := (pl.getD 16 0#8).toNat,
      flags := (pl.getD 17 0#8).toNat, nC := (pl.drop 20).take 16, nM := nM, port := port, addr := padTo 18 0#8 addr,
      tChal := d.tm.mono }).setN (Obj.SES_STATE k) 1).setN (Obj.SES_ID k) (nextGen (d.ses k).gen * 16 + k)).setBlob
    (Obj.SES_ADDR k) (zoaDomain 0x1100 5 (padTo 18 0#8 addr))

theorem devLoginChallenge_of_slot {k : Nat} {rest : List Nat} (hf : d.freeSessions = k :: rest) :
    d.devLoginChallenge pl port addr seq
      = (d.slotReserved pl addr port k (bytesBE 16 d.takeFree.1)).plainAnswer port addr 0 seq 0x02 Status.ok
          (bytesBE 4 (nextGen (d.ses k).gen * 16 + k) ++ bytesBE 16 d.takeFree.1) := by
  unfold devLoginChallenge
  rw [if_neg (clock_runs ht), if_neg (challenge_sized hlen)]
  extract_lets user role flags st e
  have hst : st = Status.ok := h
  have he : e = d := if_neg (ne_of_eq_of_ne hst (by decide))
  rw [if_neg (not_not.mpr hst), he, hf]
  rfl

end Passed

end Challenge

/-! The proof (R365, R366). -/

section Proof

variable {proof : List Byte}

theorem devLoginProof_of_not_pending (h : d.getN (Obj.SES_STATE n) ≠ 1) : d.devLoginProof n seq proof = d := if_pos (.inr h)

section Pending

variable (ht : d.tm.timeclk = true) (h : d.getN (Obj.SES_STATE n) = 1)
include ht h

theorem pending_heard : ¬ (d.tm.timeclk = false ∨ d.getN (Obj.SES_STATE n) ≠ 1) :=
  fun hn => hn.elim (clock_runs ht) (· h)

theorem devLoginProof_of_wrong (hp : d.provenUser n proof = none) : d.devLoginProof n seq proof
    = (d.loginFailed n).plainAnswer (d.ses n).port (d.ses n).addr (d.getN (Obj.SES_ID n)) seq 0x03 Status.auth [] := by
  unfold devLoginProof
  rw [if_neg (pending_heard ht h), hp]

theorem devLoginProof_of_above {u : Nat} (hp : d.provenUser n proof = some u)
    (hr : d.getN (Obj.USR_ROLE u) < (d.ses n).roleReq) : d.devLoginProof n seq proof
      = (d.freeSlot n).plainAnswer (d.ses n).port (d.ses n).addr (d.getN (Obj.SES_ID n)) seq 0x03 Status.role [] := by
  unfold devLoginProof
  rw [if_neg (pending_heard ht h), hp]
  exact if_pos hr

theorem devLoginProof_of_right {u : Nat} (hp : d.provenUser n proof = some u)
    (hr : (d.ses n).roleReq ≤ d.getN (Obj.USR_ROLE u)) : d.devLoginProof n seq proof
      = (d.openSession n u).proofAnswer n seq ((d.loginMac n (d.blob (Obj.USR_KEY u)) "ZOA1-S" true []).take 16
          ++ [BitVec.ofNat 8 (d.ses n).roleReq, BitVec.ofNat 8 ((d.ses n).flags % 2)]
          ++ bytesBE 2 ((d.openSession n u).getN Obj.HOST_SES_TIMEOUT)) := by
  unfold devLoginProof
  rw [if_neg (pending_heard ht h), hp]
  exact if_neg (Nat.not_lt.mpr hr)

end Pending

end Proof

/-! Failed logins (R366). -/

section Failed

variable {u : Nat}

/-- The failures of the last 60 s, with this one. -/
def recentFails (d : Dev) (u : Nat) : List (Nat × Nat) :=
  (u, d.tm.mono) :: d.host.fails.filter fun y => decide (d.tm.mono < y.2 + 60 * secUnit)

theorem userFailed_eq (u : Nat) (d : Dev) : d.userFailed u
    = let e := d.inc (Obj.USR_FAILS u)
      let f : Dev := { e with host := { e.host with fails := (d.recentFails u).filter (·.1 != u) } }
      if e.getN Obj.SEC_LOCK_FAILS ≤ ((d.recentFails u).filter (·.1 = u)).length then
        f.set (Obj.USR_LOCKED_UNTIL u) (time96 (f.tm.now + f.getN Obj.SEC_LOCK_TIME * secUnit))
      else { e with host := { e.host with fails := d.recentFails u } } := by
  unfold userFailed recentFails
  rfl

end Failed

end Dev

/-- Settles O50: a challenge and a proof by their checks, an end of a session by its cause. -/
theorem logins : Obligations.Logins := by
  intro n seq s ht d x
  refine ⟨?_, ?_, ?_, ?_, fun h => yields_of_fresh h rfl rfl, ?_, fun h => ?_, fun h => ⟨if_pos h, ?_⟩, ?_⟩
  · intro pl port addr c user role flags st
    refine ⟨fun h => ?_, fun h => ?_, fun hlen h hl => ?_, fun hlen h => ?_, fun hlen h hf => ?_, ?_⟩
    · have hsize := Dev.sizeStatus_of_short h
      have hy : Yields c s _ :=
        yields_of_run rfl (Dev.devLoginChallenge_of_size ht (ne_of_eq_of_ne hsize (by decide)))
      rwa [hsize] at hy
    · have hsize := Dev.sizeStatus_of_long h
      have hy : Yields c s _ :=
        yields_of_run rfl (Dev.devLoginChallenge_of_size ht (ne_of_eq_of_ne hsize (by decide)))
      rwa [hsize] at hy
    · exact yields_of_run rfl (Dev.devLoginChallenge_of_refused ht hlen h hl)
    · exact yields_of_run rfl (Dev.devLoginChallenge_of_locked ht hlen h)
    · exact yields_of_run rfl (Dev.devLoginChallenge_of_busy ht hlen h hf)
    · intro k rest hlen h hf id
      exact ⟨_, length_bytesBE 16 d.takeFree.1, yields_of_run rfl (Dev.devLoginChallenge_of_slot ht hlen h hf)⟩
  · intro proof id
    refine ⟨fun h => yields_of_run rfl (Dev.devLoginProof_of_not_pending h),
      fun h hp => yields_of_run rfl (Dev.devLoginProof_of_wrong ht h hp),
      fun u h hp hr => yields_of_run rfl (Dev.devLoginProof_of_above ht h hp hr), ?_⟩
    intro u h hp hr sig e
    exact yields_of_run rfl (Dev.devLoginProof_of_right ht h hp hr)
  · intro due
    exact ⟨fun h => yields_of_run rfl (if_pos h), fun h => yields_of_run rfl (if_neg h)⟩
  · intro u e recent f
    exact ⟨fun h => (Dev.userFailed_eq u d).trans (if_neg (Nat.not_le.mpr h)),
      fun h => (Dev.userFailed_eq u d).trans (if_pos h)⟩
  · intro idle
    exact ⟨fun h => yields_of_run rfl (if_pos h), fun h => yields_of_run rfl (if_neg h)⟩
  · exact if_neg (Bool.eq_false_iff.not.mpr (not_not.mpr h))
  · exact yields_of_run rfl (if_pos (.inl h))
  · intro h e
    have htag : Dev.devTagFailure n d = if e.host.tagSec = some e.second then e
        else ({ e with host := { e.host with tagSec := some e.second } } : Dev).hostEvent 162 n :=
      if_neg (Dev.not_deaf h ht)
    exact ⟨fun hs => yields_of_run rfl (htag.trans (if_pos hs)), fun hs => yields_of_run rfl (htag.trans (if_neg hs))⟩

end Sys2Proof.Machine

/-! Sequence numbers of requests, and the writes of sessions (R351, R358, R362, R368, R369). -/

namespace Sys2Proof.Machine

open Sys2Proof

/-- The requests of a session with one sequence number. -/
def sessionRequests (n : Fin 16) (seq : Nat) (pl : List Byte) (ctl : Fin 2) (unit : Fin 4) : List Instr :=
  [.read n seq pl, .write n seq pl, .readList n seq pl, .writeGroup n seq pl, .subscribe n seq pl, .domainOpen n seq pl,
    .domainBlock n seq pl, .domainEnd n seq pl, .domainAbort n seq pl, .close n seq, .tsuFifoOut n seq unit, .tlData n seq,
    .canTxDone n seq ctl, .canRxData n seq ctl]

/-- Each of them is a request of its session. -/
theorem exec_sessionRequest {n : Fin 16} {seq : Nat} {pl : List Byte} {ctl : Fin 2} {unit : Fin 4} {c : Instr} (s : State)
    (hc : c ∈ sessionRequests n seq pl ctl unit) : ∃ f, exec c s = s.run fun d => d.request n seq f := by
  unfold sessionRequests at hc
  simp only [List.mem_cons, List.not_mem_nil, or_false] at hc
  rcases hc with rfl | rfl | rfl | rfl | rfl | rfl | rfl | rfl | rfl | rfl | rfl | rfl | rfl | rfl <;> exact ⟨_, rfl⟩

namespace Dev

variable {d : Dev} {n : Fin 16} {seq op : Nat} {es : List Entry} {rt : Rights}

theorem sessionWrite_of_ok (hrt : d.rights (.session n seq) = some rt)
    (h : (d.checkGroup (.session n seq) rt es).1.status = Status.ok) : d.sessionWrite n seq op es
      = (d.checkGroup (.session n seq) rt es).2.acceptGroup (.session n seq) rt op none es := by
  unfold sessionWrite
  rw [hrt]
  exact if_pos h

section Refused

variable (hrt : d.rights (.session n seq) = some rt) (h : (d.checkGroup (.session n seq) rt es).1.status ≠ Status.ok)
include hrt h

theorem sessionWrite_of_refused (hop : op ≠ 0x13) : d.sessionWrite n seq op es
    = (d.checkGroup (.session n seq) rt es).2.respond n seq op (d.checkGroup (.session n seq) rt es).1.status [] := by
  unfold sessionWrite
  rw [hrt]
  exact (if_neg h).trans (if_neg hop)

theorem sessionWrite_of_entry {i st : Nat} (he : (d.checkGroup (.session n seq) rt es).1.entry = some (i, st)) :
    d.sessionWrite n seq 0x13 es
      = (d.checkGroup (.session n seq) rt es).2.respond n seq 0x13 Status.groupFail (failBytes es i st) := by
  unfold sessionWrite
  rw [hrt]
  dsimp only
  generalize d.checkGroup (.session n seq) rt es = v at h he ⊢
  rw [if_neg h, if_pos rfl, he]

theorem sessionWrite_of_no_entry (he : (d.checkGroup (.session n seq) rt es).1.entry = none) : d.sessionWrite n seq 0x13 es
    = (d.checkGroup (.session n seq) rt es).2.respond n seq 0x13 (d.checkGroup (.session n seq) rt es).1.status [] := by
  unfold sessionWrite
  rw [hrt]
  dsimp only
  generalize d.checkGroup (.session n seq) rt es = v at h he ⊢
  rw [if_neg h, if_pos rfl, he]

end Refused

end Dev

/-- What the payload of a WRITE asks for. -/
def writeAsked (n : Fin 16) (seq : Nat) (pl : List Byte) (d : Dev) : Dev :=
  match parseEntries 1 pl with
  | .error st => d.respond n seq 0x11 st []
  | .ok es => d.sessionWrite n seq 0x11 es

/-- What the payload of a WRITE_GROUP asks for. -/
def writeGroupAsked (n : Fin 16) (seq : Nat) (pl : List Byte) (d : Dev) : Dev :=
  if pl.length < 4 then d.respond n seq 0x13 Status.type []
  else match parseEntries (fieldBE pl 0 2) (pl.drop 4) with
    | .error st => d.respond n seq 0x13 st []
    | .ok es => d.sessionWrite n seq 0x13 es

section Asked

variable {n : Fin 16} {seq : Nat} {pl : List Byte} {d : Dev} {es : List Entry} {st : Nat}

theorem writeAsked_of_error (h : parseEntries 1 pl = .error st) : writeAsked n seq pl d = d.respond n seq 0x11 st [] := by
  unfold writeAsked
  rw [h]

theorem writeAsked_of_ok (h : parseEntries 1 pl = .ok es) : writeAsked n seq pl d = d.sessionWrite n seq 0x11 es := by
  unfold writeAsked
  rw [h]

theorem writeGroupAsked_of_error (hl : 4 ≤ pl.length) (h : parseEntries (fieldBE pl 0 2) (pl.drop 4) = .error st) :
    writeGroupAsked n seq pl d = d.respond n seq 0x13 st [] := by
  unfold writeGroupAsked
  rw [if_neg (Nat.not_lt.mpr hl), h]

theorem writeGroupAsked_of_ok (hl : 4 ≤ pl.length) (h : parseEntries (fieldBE pl 0 2) (pl.drop 4) = .ok es) :
    writeGroupAsked n seq pl d = d.sessionWrite n seq 0x13 es := by
  unfold writeGroupAsked
  rw [if_neg (Nat.not_lt.mpr hl), h]

end Asked

/-- Settles O52: a request by its sequence number, a write by its payload and the checks. -/
theorem writeRequests : Obligations.WriteRequests := by
  refine ⟨?_, ?_⟩
  · intro n seq pl ctl unit s c hc d x ahead
    obtain ⟨f, hf⟩ := exec_sessionRequest s hc
    exact ⟨fun h => yields_of_run hf (Dev.request_of_deaf f h),
      fun hs ht => ⟨fun k hk => yields_of_run hf (Dev.request_of_kept f hs ht hk),
        fun hk ha => yields_of_run hf (Dev.request_of_old f hs ht hk ha)⟩⟩
  · intro n seq pl s h e w g
    have hw {r : Dev} (hr : writeAsked n seq pl e = r) : Yields w s r := yields_of_fresh h rfl hr
    have hg {r : Dev} (hr : writeGroupAsked n seq pl e = r) : Yields g s r := yields_of_fresh h rfl hr
    refine ⟨fun st hp => hw (writeAsked_of_error hp), ?_, fun hl => hg (if_pos hl),
      fun st hl hp => hg (writeGroupAsked_of_error hl hp), ?_⟩
    · intro es rt hp hrt v
      exact ⟨fun hok => hw ((writeAsked_of_ok hp).trans (Dev.sessionWrite_of_ok hrt hok)),
        fun hno => hw ((writeAsked_of_ok hp).trans (Dev.sessionWrite_of_refused hrt hno (by decide)))⟩
    · intro es rt hl hp hrt v
      have hask := writeGroupAsked_of_ok (n := n) (seq := seq) (d := e) hl hp
      exact ⟨fun hok => hg (hask.trans (Dev.sessionWrite_of_ok hrt hok)),
        fun i st hno he => hg (hask.trans (Dev.sessionWrite_of_entry hrt hno he)),
        fun hno he => hg (hask.trans (Dev.sessionWrite_of_no_entry hrt hno he))⟩

end Sys2Proof.Machine

/-! Subscriptions and what they send (R372). -/

namespace Sys2Proof.Machine

open Sys2Proof

namespace Dev

variable {n seq id : Nat} {pl : List Byte} {m : List Host.Cell}

/-! A subscription asked for. -/

section Subscribe

variable {s : State} (h : s.fresh n seq = true)
include h

theorem devSubscribe_of_refused (hst : (s.at n seq).subscribeStatus n pl ≠ Status.ok) : s.dev.devSubscribe m n seq pl
    = (s.at n seq).respond n seq 0x20 ((s.at n seq).subscribeStatus n pl) [] := by
  unfold devSubscribe
  rw [request_of_fresh h]
  exact if_pos hst

/-- The module as a new subscription leaves it, with the answer. -/
def subscribed (e : Dev) (n seq id : Nat) (x : Subscr) : Dev :=
  ({ e with host := { e.host with subs := e.host.subs ++ [x] } } : Dev).respond n seq 0x20 Status.ok
    [BitVec.ofNat 8 id, 0#8, 0#8, 0#8]

/-- The objects a subscription names. -/
def subKeys (pl : List Byte) : List Nat := (objectList (fieldBE pl 8 2) (pl.drop 12)).map fun y => y.1 * 256 + y.2

variable (hst : (s.at n seq).subscribeStatus n pl = Status.ok)
include hst

theorem devSubscribe_of_event (hm : fieldBE pl 0 1 = 2) : s.dev.devSubscribe m n seq pl
    = (s.at n seq).subscribed n seq ((s.at n seq).freeSubId n)
        { slot := n, id := (s.at n seq).freeSubId n, mode := 2, period := fieldBE pl 4 4, keys := [],
          events := natLE ((pl.drop 12).take 24), last := [], recs := [], overflow := false, at_ := (s.at n seq).tm.mono } := by
  unfold devSubscribe
  rw [request_of_fresh h]
  dsimp only
  rw [if_neg (not_not.mpr hst), hm]
  rfl

theorem devSubscribe_of_periodic (hm : fieldBE pl 0 1 = 0) : s.dev.devSubscribe m n seq pl
    = (s.at n seq).subscribed n seq ((s.at n seq).freeSubId n)
        { slot := n, id := (s.at n seq).freeSubId n, mode := 0, period := fieldBE pl 4 4, keys := subKeys pl,
          events := 0, last := [], recs := [], overflow := false, at_ := (s.at n seq).tm.lastT } := by
  unfold devSubscribe
  rw [request_of_fresh h]
  dsimp only
  rw [if_neg (not_not.mpr hst), hm]
  rfl

theorem devSubscribe_of_change (hm : fieldBE pl 0 1 = 1) : s.dev.devSubscribe m n seq pl
    = ((s.at n seq).subValues m ((s.at n seq).sesRole n) (subKeys pl)).2.subscribed n seq ((s.at n seq).freeSubId n)
        { slot := n, id := (s.at n seq).freeSubId n, mode := 1, period := fieldBE pl 4 4, keys := subKeys pl, events := 0,
          last := ((s.at n seq).subValues m ((s.at n seq).sesRole n) (subKeys pl)).1, recs := [], overflow := false,
          at_ := ((s.at n seq).subValues m ((s.at n seq).sesRole n) (subKeys pl)).2.tm.mono } := by
  unfold devSubscribe
  rw [request_of_fresh h]
  dsimp only
  rw [if_neg (not_not.mpr hst), hm, if_pos rfl, if_neg (show ¬ 1 = 2 by decide)]
  rfl

end Subscribe

/-! A subscription that sends. -/

section Push

variable {d : Dev} {x : Subscr}

/-- The last boundary is the first at or after an instant of a PERIODIC subscription's grid, and not yet sent for. -/
def OnGrid (d : Dev) (x : Subscr) : Prop :=
  let p := x.period * 1000000 * nsUnit
  let t := if p < secUnit then d.tm.lastT % secUnit else d.tm.lastT
  d.tm.started = true ∧ d.tm.lastT ≠ x.at_ ∧ t % p < d.tc * nsUnit

theorem pushDue_periodic (hm : x.mode = 0) : d.pushDue x = true ↔ d.OnGrid x := by
  unfold pushDue OnGrid
  dsimp only
  rw [if_pos hm]
  simp only [Bool.and_eq_true, bne_iff_ne, decide_eq_true_eq, and_assoc]

theorem pushDue_change (hm : x.mode = 1) : d.pushDue x = d.waited x.at_ (1000000 * nsUnit) :=
  if_neg (ne_of_eq_of_ne hm (by decide))

theorem devPush_of_closed (h : d.sesOpen n = false ∨ d.subOf n id = none) : d.devPush m n id = d := by
  unfold devPush
  rcases h with h | h
  · exact if_pos (.inl h)
  · rw [h]
    exact ite_self _

theorem devEvent_of_closed (h : d.sesOpen n = false ∨ d.subOf n id = none) : d.devEvent n id = d := by
  unfold devEvent
  rcases h with h | h
  · exact if_pos (.inl h)
  · rw [h]
    exact ite_self _

variable (hx : d.subOf n id = some x)
include hx

theorem devPush_of_idle (h : x.mode = 2 ∨ d.pushDue x = false) : d.devPush m n id = d := by
  unfold devPush
  rw [hx]
  dsimp only
  rw [if_pos h, ite_self]

section Open

variable (hs : d.sesOpen n = true) (ht : d.tm.timeclk = true)
include hs ht

theorem devPush_of_periodic (hm : x.mode = 0) (hdue : d.pushDue x = true) : d.devPush m n id
    = ((d.subValues m (d.sesRole n) x.keys).2.setSub
        { x with at_ := (d.subValues m (d.sesRole n) x.keys).2.tm.lastT }).pushValues n id
          (d.subValues m (d.sesRole n) x.keys).1 := by
  unfold devPush
  rw [if_neg (not_deaf hs ht), hx]
  dsimp only
  rw [if_neg fun hn => hn.elim (fun h2 => absurd (hm.symm.trans h2) (by decide)) (Bool.eq_false_iff.mp · hdue)]
  generalize d.subValues m (d.sesRole n) x.keys = v
  exact if_pos hm

theorem devPush_of_change (hm : x.mode = 1) (hdue : d.pushDue x = true) : d.devPush m n id
    = ((d.subValues m (d.sesRole n) x.keys).2.setSub
        { x with last := (d.subValues m (d.sesRole n) x.keys).1,
                 at_ := (d.subValues m (d.sesRole n) x.keys).2.tm.mono }).pushValues n id
          (((d.subValues m (d.sesRole n) x.keys).1.zip x.last).filterMap fun (a, b) => if a = b then none else some a) := by
  unfold devPush
  rw [if_neg (not_deaf hs ht), hx]
  dsimp only
  rw [if_neg fun hn => hn.elim (fun h2 => absurd (hm.symm.trans h2) (by decide)) (Bool.eq_false_iff.mp · hdue)]
  generalize d.subValues m (d.sesRole n) x.keys = v
  exact if_neg (ne_of_eq_of_ne hm (by decide))

theorem devEvent_of_records (hr : x.recs ≠ []) : d.devEvent n id
    = (d.setSub { x with recs := [], overflow := false }).moduleMessage n 0x30 (if x.overflow then 4 else 0)
        (x.recs.flatMap fun (e, src, t) => [BitVec.ofNat 8 e, 0#8] ++ bytesBE 2 src ++ time96BE t) := by
  unfold devEvent
  rw [if_neg (not_deaf hs ht), hx]
  exact if_neg fun he => hr (List.isEmpty_iff.mp he)

end Open

theorem devEvent_of_no_records (hr : x.recs = []) : d.devEvent n id = d := by
  unfold devEvent
  rw [hx]
  dsimp only
  rw [hr]
  exact ite_self _

end Push

end Dev

/-- Settles O54: a subscription by its form, a PUSH and an EVENT by the session, the subscription and what is due. -/
theorem subscriptions : Obligations.Subscriptions := by
  intro n seq id s ht d
  refine ⟨?_, fun h => ⟨yields_of_run rfl (Dev.devPush_of_closed h), yields_of_run rfl (Dev.devEvent_of_closed h)⟩, ?_,
    fun op flags pl => rfl⟩
  · intro h e
    refine ⟨fun pl hst => yields_of_run rfl (Dev.devSubscribe_of_refused h hst), ?_, ?_, ?_⟩
    · intro pl hst hm x
      exact yields_of_run rfl (Dev.devSubscribe_of_event h hst hm)
    · intro pl hst hm x
      exact yields_of_run rfl (Dev.devSubscribe_of_periodic h hst hm)
    · intro pl hst hm keys v x
      exact yields_of_run rfl (Dev.devSubscribe_of_change h hst hm)
  · intro x hs hx v p t grid past
    refine ⟨fun hm hg => yields_of_run rfl (Dev.devPush_of_periodic hx hs ht hm ((Dev.pushDue_periodic hm).mpr hg)),
      fun hm hg => ?_, fun hm hp => ?_, fun hm hp => ?_, fun hm => yields_of_run rfl (Dev.devPush_of_idle hx (.inl hm)),
      fun hr => yields_of_run rfl (Dev.devEvent_of_no_records hx hr),
      fun hr => yields_of_run rfl (Dev.devEvent_of_records hx hs ht hr)⟩
    · exact yields_of_run rfl (Dev.devPush_of_idle hx (.inr (Bool.eq_false_iff.mpr fun hd => hg ((Dev.pushDue_periodic hm).mp hd))))
    · exact yields_of_run rfl (Dev.devPush_of_change hx hs ht hm ((Dev.pushDue_change hm).trans hp))
    · exact yields_of_run rfl (Dev.devPush_of_idle hx (.inr ((Dev.pushDue_change hm).trans hp)))

end Sys2Proof.Machine

/-! DOMAIN transfers (R371). -/

namespace Sys2Proof.Machine

open Sys2Proof

namespace Dev

variable {s : State} {n seq : Nat} {pl : List Byte} {m : List Host.Cell}

theorem transferForm_of_short (h : pl.length < 24) : transferForm pl 0 = Status.type := if_pos h

theorem transferForm_of_long (h : 24 < pl.length) : transferForm pl 0 = Status.tooLong :=
  (if_neg (by omega)).trans (sizeStatus_of_long h)

theorem transferForm_of_24 (h : pl.length = 24) : transferForm pl 0 = Status.ok :=
  (if_neg (by omega)).trans (by rw [h]; exact sizeStatus_self 24)

theorem transferForm_ne_ok (h : pl.length ≠ 24) : transferForm pl 0 ≠ Status.ok := by
  rcases Nat.lt_or_gt_of_ne h with h | h
  · rw [transferForm_of_short h]
    decide
  · rw [transferForm_of_long h]
    decide

/-! A transfer that opens. -/

/-- What the checks of an opening say. -/
def openSays (d : Dev) (n : Nat) (pl : List Byte) : Nat :=
  if transferForm pl 0 ≠ Status.ok then transferForm pl 0
  else if 1 < fieldBE pl 3 1 then Status.range
  else if d.openStatus n (fieldBE pl 0 2) (fieldBE pl 2 1) (fieldBE pl 3 1) (fieldBE pl 16 4) ≠ Status.ok then
    d.openStatus n (fieldBE pl 0 2) (fieldBE pl 2 1) (fieldBE pl 3 1) (fieldBE pl 16 4)
  else if 4 ≤ (d.host.transfers.filter (·.slot = n)).length ∨ 16 ≤ d.host.transfers.length then Status.busy
  else Status.ok

section Says

variable {d : Dev}

theorem openSays_of_form (h : pl.length ≠ 24) : d.openSays n pl = transferForm pl 0 := if_pos (transferForm_ne_ok h)

variable (hlen : pl.length = 24)
include hlen

theorem openSays_of_direction (h : 1 < fieldBE pl 3 1) : d.openSays n pl = Status.range :=
  (if_neg (not_not.mpr (transferForm_of_24 hlen))).trans (if_pos h)

variable (hdir : fieldBE pl 3 1 ≤ 1)
include hdir

theorem openSays_of_object
    (h : d.openStatus n (fieldBE pl 0 2) (fieldBE pl 2 1) (fieldBE pl 3 1) (fieldBE pl 16 4) ≠ Status.ok) :
    d.openSays n pl = d.openStatus n (fieldBE pl 0 2) (fieldBE pl 2 1) (fieldBE pl 3 1) (fieldBE pl 16 4) :=
  (if_neg (not_not.mpr (transferForm_of_24 hlen))).trans ((if_neg (Nat.not_lt.mpr hdir)).trans (if_pos h))

variable (hobj : d.openStatus n (fieldBE pl 0 2) (fieldBE pl 2 1) (fieldBE pl 3 1) (fieldBE pl 16 4) = Status.ok)
include hobj

theorem openSays_of_full (h : 4 ≤ (d.host.transfers.filter (·.slot = n)).length ∨ 16 ≤ d.host.transfers.length) :
    d.openSays n pl = Status.busy :=
  (if_neg (not_not.mpr (transferForm_of_24 hlen))).trans
    ((if_neg (Nat.not_lt.mpr hdir)).trans ((if_neg (not_not.mpr hobj)).trans (if_pos h)))

theorem openSays_of_room (h : (d.host.transfers.filter (·.slot = n)).length < 4) (hall : d.host.transfers.length < 16) :
    d.openSays n pl = Status.ok :=
  (if_neg (not_not.mpr (transferForm_of_24 hlen))).trans
    ((if_neg (Nat.not_lt.mpr hdir)).trans ((if_neg (not_not.mpr hobj)).trans (if_neg (by omega))))

end Says

section Open

variable (h : s.fresh n seq = true)
include h

theorem devDomainOpen_of_refused {st : Nat} (hst : (s.at n seq).openSays n pl = st) (hne : st ≠ Status.ok) :
    s.dev.devDomainOpen m n seq pl = (s.at n seq).respond n seq 0x40 st [] := by
  subst hst
  unfold devDomainOpen
  rw [request_of_fresh h]
  exact if_pos hne

/-- The module with a transfer more, and the next ID. -/
def transferOpened (e : Dev) (x : Transfer) : Dev :=
  { e with host := { e.host with transfers := e.host.transfers ++ [x],
                                 nextTransfer := if e.host.nextTransfer = 4294967295 then 1 else e.host.nextTransfer + 1 } }

/-- The bytes an opening reads, and the module that has read them. -/
def openBytes (e : Dev) (m : List Host.Cell) (n : Nat) (pl : List Byte) : List Byte × Dev :=
  if fieldBE pl 3 1 = 0 then e.transferBytes m (e.sesRole n) (fieldBE pl 0 2 * 256 + fieldBE pl 2 1) else ([], e)

/-- The length of the transfer: of the snapshot that is read, or as a write announces it. -/
def openTotal (pl b : List Byte) : Nat := if fieldBE pl 3 1 = 0 then b.length else fieldBE pl 16 4

/-- The transfer that opens. -/
def transferNew (n : Nat) (pl : List Byte) (r : List Byte × Dev) : Transfer :=
  { id := r.2.host.nextTransfer, slot := n, key := fieldBE pl 0 2 * 256 + fieldBE pl 2 1, isWrite := fieldBE pl 3 1 == 1,
    total := openTotal pl r.1, data := if inPlace (fieldBE pl 0 2 * 256 + fieldBE pl 2 1) then [] else r.1, lastOff := 0,
    lastLen := 0, tLast := r.2.tm.mono }

theorem devDomainOpen_of_ok (hst : (s.at n seq).openSays n pl = Status.ok) : s.dev.devDomainOpen m n seq pl
    = (((s.at n seq).openBytes m n pl).2.transferOpened (transferNew n pl ((s.at n seq).openBytes m n pl))).respond n seq 0x40
        Status.ok (transferHeader (fieldBE pl 0 2) (fieldBE pl 2 1) (fieldBE pl 3 1)
          ((s.at n seq).openBytes m n pl).2.host.nextTransfer 0 (openTotal pl ((s.at n seq).openBytes m n pl).1) 0) := by
  unfold devDomainOpen
  rw [request_of_fresh h]
  refine (if_neg (show ¬ (s.at n seq).openSays n pl ≠ Status.ok from not_not.mpr hst)).trans ?_
  extract_lets k
  rw [show (if fieldBE pl 3 1 = 0 then (s.at n seq).transferBytes m ((s.at n seq).sesRole n) k else ([], s.at n seq))
    = (s.at n seq).openBytes m n pl from rfl]
  generalize (s.at n seq).openBytes m n pl = r
  rfl

end Open

section Direction

variable {e : Dev}

theorem openBytes_write (hdir : fieldBE pl 3 1 = 1) : e.openBytes m n pl = ([], e) := if_neg (by rw [hdir]; decide)

theorem openBytes_read (hdir : fieldBE pl 3 1 = 0) : e.openBytes m n pl
    = e.transferBytes m (e.sesRole n) (fieldBE pl 0 2 * 256 + fieldBE pl 2 1) := if_pos hdir

theorem openTotal_write (hdir : fieldBE pl 3 1 = 1) (b : List Byte) : openTotal pl b = fieldBE pl 16 4 :=
  if_neg (by rw [hdir]; decide)

theorem openTotal_read (hdir : fieldBE pl 3 1 = 0) (b : List Byte) : openTotal pl b = b.length := if_pos hdir

theorem transferNew_write (hdir : fieldBE pl 3 1 = 1) : transferNew n pl ([], e)
    = { id := e.host.nextTransfer, slot := n, key := fieldBE pl 0 2 * 256 + fieldBE pl 2 1, isWrite := true,
        total := fieldBE pl 16 4, data := [], lastOff := 0, lastLen := 0, tLast := e.tm.mono } := by
  unfold transferNew
  rw [openTotal_write hdir, hdir, ite_self]
  rfl

theorem transferNew_read (hdir : fieldBE pl 3 1 = 0) (r : List Byte × Dev) : transferNew n pl r
    = { id := r.2.host.nextTransfer, slot := n, key := fieldBE pl 0 2 * 256 + fieldBE pl 2 1, isWrite := false,
        total := r.1.length, data := if inPlace (fieldBE pl 0 2 * 256 + fieldBE pl 2 1) = true then [] else r.1, lastOff := 0,
        lastLen := 0, tLast := r.2.tm.mono } := by
  unfold transferNew
  rw [openTotal_read hdir, hdir]
  rfl

end Direction

/-! A block, the end and the abort of a transfer. -/

section Block

variable (h : s.fresh n seq = true)
include h

theorem devDomainBlock_of_short (hl : pl.length < 24) :
    s.dev.devDomainBlock m n seq pl = (s.at n seq).respond n seq 0x41 Status.type [] := by
  unfold devDomainBlock
  rw [request_of_fresh h]
  exact if_pos hl

variable (hl : 24 ≤ pl.length)
include hl

theorem devDomainBlock_of_unknown (hf : (s.at n seq).transferOf n (fieldBE pl 4 4) = none) :
    s.dev.devDomainBlock m n seq pl = (s.at n seq).respond n seq 0x41 Status.state [] := by
  unfold devDomainBlock
  rw [request_of_fresh h]
  dsimp only
  rw [if_neg (Nat.not_lt.mpr hl), hf]

variable {x : Transfer} (hf : (s.at n seq).transferOf n (fieldBE pl 4 4) = some x)
include hf

theorem devDomainBlock_of_known : s.dev.devDomainBlock m n seq pl
    = if sizeStatus pl.length (24 + (if x.isWrite then fieldBE pl 16 4 else 0)) ≠ Status.ok then
        (s.at n seq).respond n seq 0x41 (sizeStatus pl.length (24 + (if x.isWrite then fieldBE pl 16 4 else 0))) []
      else if x.isWrite then (s.at n seq).writeBlock n seq (fieldBE pl 8 8) (pl.drop 24) x
      else (s.at n seq).readBlock m n seq (fieldBE pl 8 8) (fieldBE pl 16 4) x := by
  unfold devDomainBlock
  rw [request_of_fresh h]
  dsimp only
  rw [if_neg (Nat.not_lt.mpr hl), hf]

theorem devDomainBlock_of_size {st : Nat} (hst : sizeStatus pl.length (24 + (if x.isWrite then fieldBE pl 16 4 else 0)) = st)
    (hne : st ≠ Status.ok) : s.dev.devDomainBlock m n seq pl = (s.at n seq).respond n seq 0x41 st [] := by
  subst hst
  exact (devDomainBlock_of_known h hl hf).trans (if_pos hne)

theorem devDomainBlock_write (hw : x.isWrite = true) (hlen : pl.length = 24 + fieldBE pl 16 4) :
    s.dev.devDomainBlock m n seq pl = (s.at n seq).writeBlock n seq (fieldBE pl 8 8) (pl.drop 24) x := by
  rw [devDomainBlock_of_known h hl hf, hw, if_pos rfl, ← hlen, sizeStatus_self, if_neg (not_not.mpr rfl), if_pos rfl]

theorem devDomainBlock_read (hw : x.isWrite = false) (hlen : pl.length = 24) :
    s.dev.devDomainBlock m n seq pl
      = (s.at n seq).readBlock m n seq (fieldBE pl 8 8) (fieldBE pl 16 4) x := by
  rw [devDomainBlock_of_known h hl hf, hw, if_neg Bool.false_ne_true, hlen, sizeStatus_self, if_neg (not_not.mpr rfl),
    if_neg Bool.false_ne_true]

end Block

section WriteBlock

variable {e : Dev} {off : Nat} {b : List Byte} {x : Transfer}

theorem writeBlock_of_long (h : 1408 < b.length) : e.writeBlock n seq off b x = e.respond n seq 0x41 Status.tooLong [] := if_pos h

variable (h : b.length ≤ 1408)
include h

theorem writeBlock_of_misplaced (hoff : off ≠ x.data.length) (hlast : ¬ (off = x.lastOff ∧ b.length = x.lastLen)) :
    e.writeBlock n seq off b x = e.respond n seq 0x41 Status.seq [] :=
  (if_neg (Nat.not_lt.mpr h)).trans (if_pos ⟨hoff, hlast⟩)

variable (hp : off = x.data.length ∨ (off = x.lastOff ∧ b.length = x.lastLen))
include hp

theorem writeBlock_of_beyond (ht : x.total < off + b.length) :
    e.writeBlock n seq off b x = e.respond n seq 0x41 Status.tooLong [] :=
  (if_neg (Nat.not_lt.mpr h)).trans ((if_neg fun hn => hp.elim hn.1 hn.2).trans (if_pos ht))

theorem writeBlock_of_taken (ht : off + b.length ≤ x.total) : e.writeBlock n seq off b x
    = (e.setTransfer { x with data := x.data.take off ++ b, lastOff := off, lastLen := b.length, tLast := e.tm.mono }).respond
        n seq 0x41 Status.ok (transferHeader (x.key / 256) (x.key % 256) 1 x.id off b.length 0) :=
  (if_neg (Nat.not_lt.mpr h)).trans ((if_neg fun hn => hp.elim hn.1 hn.2).trans (if_neg (Nat.not_lt.mpr ht)))

end WriteBlock

section End

variable (h : s.fresh n seq = true)
include h

theorem devDomainAbort_of_form (hl : pl.length ≠ 24) :
    s.dev.devDomainAbort n seq pl = (s.at n seq).respond n seq 0x43 (transferForm pl 0) [] := by
  unfold devDomainAbort
  rw [request_of_fresh h]
  exact if_pos (transferForm_ne_ok hl)

variable (hl : pl.length = 24)
include hl

theorem devDomainAbort_of_unknown (hf : (s.at n seq).transferOf n (fieldBE pl 4 4) = none) :
    s.dev.devDomainAbort n seq pl = (s.at n seq).respond n seq 0x43 Status.state [] := by
  unfold devDomainAbort
  rw [request_of_fresh h]
  rw [if_neg (not_not.mpr (transferForm_of_24 hl)), hf]

theorem devDomainAbort_of_known {x : Transfer} (hf : (s.at n seq).transferOf n (fieldBE pl 4 4) = some x) :
    s.dev.devDomainAbort n seq pl = ((s.at n seq).dropTransfer x.id).respond n seq 0x43 Status.ok [] := by
  unfold devDomainAbort
  rw [request_of_fresh h]
  rw [if_neg (not_not.mpr (transferForm_of_24 hl)), hf]

end End

section EndOf

theorem devDomainEnd_of_form {n : Fin 16} (h : s.fresh n seq = true) (hl : pl.length ≠ 24) :
    s.dev.devDomainEnd n seq pl = (s.at n seq).respond n seq 0x42 (transferForm pl 0) [] := by
  unfold devDomainEnd
  rw [request_of_fresh h]
  exact if_pos (transferForm_ne_ok hl)

variable {n : Fin 16} (h : s.fresh n seq = true) (hl : pl.length = 24)
include h hl

theorem devDomainEnd_of_unknown (hf : (s.at n seq).transferOf n (fieldBE pl 4 4) = none) :
    s.dev.devDomainEnd n seq pl = (s.at n seq).respond n seq 0x42 Status.state [] := by
  unfold devDomainEnd
  rw [request_of_fresh h]
  dsimp only
  rw [if_neg (not_not.mpr (transferForm_of_24 hl)), hf]

theorem devDomainEnd_of_known {x : Transfer} (hf : (s.at n seq).transferOf n (fieldBE pl 4 4) = some x) :
    s.dev.devDomainEnd n seq pl
      = if x.isWrite = false then ((s.at n seq).dropTransfer x.id).respond n seq 0x42 Status.ok []
        else if x.data.length < x.total ∨ fieldBE pl 20 4 ≠ crc32 x.data then
          ((s.at n seq).dropTransfer x.id).respond n seq 0x42 Status.seq []
        else ((s.at n seq).dropTransfer x.id).sessionWrite n seq 0x42
          [entryOf (x.key / 256) (x.key % 256) (((s.at n seq).dropTransfer x.id).typeOf x.key).code x.data] := by
  unfold devDomainEnd
  rw [request_of_fresh h]
  dsimp only
  rw [if_neg (not_not.mpr (transferForm_of_24 hl)), hf]

end EndOf

theorem transferPast_iff {d : Dev} {id : Nat} :
    (d.host.transfers.any fun x => x.id = id ∧ d.waited x.tLast (10 * secUnit) = true) = true
      ↔ ∃ x ∈ d.host.transfers, x.id = id ∧ d.waited x.tLast (10 * secUnit) = true := by
  simp only [List.any_eq_true, decide_eq_true_eq]

end Dev

/-- Settles O55: an opening, a block, an end and an abort by their form, what they name and what the transfer holds. -/
theorem transfers : Obligations.Transfers := by
  intro n seq pl s
  refine ⟨?_, ?_⟩
  · intro h e ix sub dir off len found open_ block end_ abort
    refine ⟨fun hl => ?_, fun hl => ?_, ?_, fun hl hd => ?_, fun hl hf => ?_, fun hl hd hst => ?_, fun hl hd hst hfull => ?_,
      ?_, ?_, ?_, ?_, ?_⟩
    · have hform := Dev.transferForm_of_short hl
      have hne : pl.length ≠ 24 := by omega
      refine ⟨?_, yields_of_run rfl (Dev.devDomainBlock_of_short h hl), ?_, ?_⟩
      · exact yields_of_run rfl (Dev.devDomainOpen_of_refused h ((Dev.openSays_of_form hne).trans hform) (by decide))
      · exact yields_of_run rfl ((Dev.devDomainEnd_of_form h hne).trans (by rw [hform]))
      · exact yields_of_run rfl ((Dev.devDomainAbort_of_form h hne).trans (by rw [hform]))
    · have hform := Dev.transferForm_of_long hl
      have hne : pl.length ≠ 24 := by omega
      refine ⟨?_, ?_, ?_⟩
      · exact yields_of_run rfl (Dev.devDomainOpen_of_refused h ((Dev.openSays_of_form hne).trans hform) (by decide))
      · exact yields_of_run rfl ((Dev.devDomainEnd_of_form h hne).trans (by rw [hform]))
      · exact yields_of_run rfl ((Dev.devDomainAbort_of_form h hne).trans (by rw [hform]))
    · intro x hf hl want
      exact ⟨fun hw => yields_of_run rfl (Dev.devDomainBlock_of_size h hl hf (Dev.sizeStatus_of_short hw) (by decide)),
        fun hw => yields_of_run rfl (Dev.devDomainBlock_of_size h hl hf (Dev.sizeStatus_of_long hw) (by decide))⟩
    · exact yields_of_run rfl (Dev.devDomainOpen_of_refused h (Dev.openSays_of_direction hl hd) (by decide))
    · exact ⟨yields_of_run rfl (Dev.devDomainBlock_of_unknown h (Nat.le_of_eq hl.symm) hf),
        yields_of_run rfl (Dev.devDomainEnd_of_unknown h hl hf), yields_of_run rfl (Dev.devDomainAbort_of_unknown h hl hf)⟩
    · exact yields_of_run rfl (Dev.devDomainOpen_of_refused h (Dev.openSays_of_object hl hd hst) hst)
    · exact yields_of_run rfl (Dev.devDomainOpen_of_refused h (Dev.openSays_of_full hl hd hst hfull) (by decide))
    · intro hl hd hst hfree hall id x
      have hsays : e.openSays n pl = Status.ok :=
        Dev.openSays_of_room hl (Nat.le_of_eq hd) (by rw [show fieldBE pl 3 1 = 1 from hd]; exact hst) hfree hall
      have hopen := Dev.devDomainOpen_of_ok (m := s.mem) h hsays
      rw [Dev.openBytes_write hd, Dev.transferNew_write hd, Dev.openTotal_write hd, show fieldBE pl 3 1 = 1 from hd] at hopen
      exact yields_of_run rfl hopen
    · intro hl hd hst hfree hall r id x
      have hsays : e.openSays n pl = Status.ok :=
        Dev.openSays_of_room hl (by rw [show fieldBE pl 3 1 = 0 from hd]; decide)
          (by rw [show fieldBE pl 3 1 = 0 from hd]; exact hst) hfree hall
      have hopen := Dev.devDomainOpen_of_ok (m := s.mem) h hsays
      rw [Dev.openBytes_read hd, Dev.transferNew_read hd, Dev.openTotal_read hd, show fieldBE pl 3 1 = 0 from hd] at hopen
      exact yields_of_run rfl hopen
    · intro x hf hw hlen b last y
      have hblock := Dev.devDomainBlock_write (m := s.mem) h (by omega) hf hw hlen
      exact ⟨fun hb => yields_of_run rfl (hblock.trans (Dev.writeBlock_of_long hb)),
        fun hb hoff hlast => yields_of_run rfl (hblock.trans (Dev.writeBlock_of_misplaced hb hoff hlast)),
        fun hb hp ht => yields_of_run rfl (hblock.trans (Dev.writeBlock_of_beyond hb hp ht)),
        fun hb hp ht => yields_of_run rfl (hblock.trans (Dev.writeBlock_of_taken hb hp ht))⟩
    · intro x hf hw hlen all b
      have hblock := Dev.devDomainBlock_read (m := s.mem) h (Nat.le_of_eq hlen.symm) hf hw hlen
      exact ⟨fun hb => yields_of_run rfl (hblock.trans (if_pos hb)),
        fun hb ho => yields_of_run rfl (hblock.trans ((if_neg (Nat.not_lt.mpr hb)).trans (if_pos ho))),
        fun hb ho => yields_of_run rfl (hblock.trans ((if_neg (Nat.not_lt.mpr hb)).trans (if_neg (Nat.not_lt.mpr ho))))⟩
    · intro x hf hl f
      have hend := Dev.devDomainEnd_of_known h hl hf
      have hwrite (hw : x.isWrite = true) : ¬ x.isWrite = false := fun hn => Bool.eq_false_iff.mp hn hw
      refine ⟨yields_of_run rfl (Dev.devDomainAbort_of_known h hl hf), fun hw => yields_of_run rfl (hend.trans (if_pos hw)),
        fun hw hbad => yields_of_run rfl (hend.trans ((if_neg (hwrite hw)).trans (if_pos hbad))), fun hw ht hcrc => ?_⟩
      exact yields_of_run rfl (hend.trans ((if_neg (hwrite hw)).trans (if_neg fun hn =>
        hn.elim (Nat.not_lt.mpr ht) (· hcrc))))
  · intro id due
    exact ⟨fun h => yields_of_run rfl (if_pos (Dev.transferPast_iff.mpr h)),
      fun h => yields_of_run rfl (if_neg fun hn => h (Dev.transferPast_iff.mp hn))⟩

end Sys2Proof.Machine

/-! Reception into the raw ring (R206, R373). -/

namespace Sys2Proof.Machine

open Sys2Proof

namespace Dev

variable {d e : Dev} {m : List Host.Cell} {q : Nat} {f : List Byte} {cap : Int} {fcs late dup : Bool}

/-- The descriptor the next frame goes to. -/
def rawNext (e : Dev) : Nat := e.rawDesc Obj.HOST_RAW_RX_BASE e.host.rxHead

/-- A frame the ring does not take: disabled, too short, of another type, or no descriptor owned. -/
def RawRefused (e : Dev) (m : List Host.Cell) (f : List Byte) : Prop :=
  e.on Obj.HOST_RAW_ENABLE = false ∨ f.length < 14
    ∨ (e.getN Obj.HOST_RAW_ETYPE ≠ 0 ∧ natBE ((f.drop 12).take 2) ≠ e.getN Obj.HOST_RAW_ETYPE)
    ∨ (natLE (readBytes m (e.rawNext + 0x0C) 4)).testBit 31 = false

/-- The buffer of that descriptor. -/
def rawBuf (e : Dev) (m : List Host.Cell) : Nat := natLE (readBytes m e.rawNext 4)

/-- The length of that buffer. -/
def rawLen (e : Dev) (m : List Host.Cell) : Nat := natLE (readBytes m (e.rawNext + 4) 2)

theorem devRawReceived_stopped (h : d.tm.timeclk = false) : d.devRawReceived m q f cap fcs late = some ([], d) := if_pos h

section Running

variable (ht : d.tm.timeclk = true) (hp : d.prpCheck f = (dup, e))
include ht hp

theorem devRawReceived_of_duplicate (hd : dup = true) : d.devRawReceived m q f cap fcs late = some ([], e) := by
  unfold devRawReceived
  rw [if_neg (clock_runs ht), hp]
  exact if_pos hd

variable (hd : dup = false)
include hd

theorem devRawReceived_of_refused (h : e.RawRefused m f) :
    d.devRawReceived m q f cap fcs late = some ([], e.inc Obj.HOST_DROPS) := by
  unfold devRawReceived
  rw [if_neg (clock_runs ht), hp]
  exact (if_neg (Bool.eq_false_iff.mp hd)).trans (if_pos h)

variable (h : ¬ e.RawRefused m f)
include h

theorem devRawReceived_of_taken (hs : dmaSpan (e.rawBuf m) (e.rawLen m) = true) : d.devRawReceived m q f cap fcs late
    = some (e.rawStore e.rawNext (e.rawBuf m) (e.rawLen m) q f cap fcs late) := by
  unfold devRawReceived
  rw [if_neg (clock_runs ht), hp]
  exact (if_neg (Bool.eq_false_iff.mp hd)).trans ((if_neg h).trans (if_pos hs))

theorem devRawReceived_of_outside (hs : dmaSpan (e.rawBuf m) (e.rawLen m) = false) :
    d.devRawReceived m q f cap fcs late = none := by
  unfold devRawReceived
  rw [if_neg (clock_runs ht), hp]
  exact (if_neg (Bool.eq_false_iff.mp hd)).trans ((if_neg h).trans (if_neg (Bool.eq_false_iff.mp hs)))

end Running

end Dev

section Command

variable {s : State} {q : Fin 4} {f : List Byte} {cap : Int} {fcs late : Bool}

theorem exec_rawFrameReceived_of_some {r : List MemWrite × Dev}
    (h : s.dev.devRawReceived s.mem q f cap fcs late = some r) :
    exec (.rawFrameReceived q f cap ⟨fcs, late⟩) s = .next (s.close r) := by
  show s.rawReceived q f cap fcs late = _
  unfold State.rawReceived
  rw [h]

theorem exec_rawFrameReceived_of_none (h : s.dev.devRawReceived s.mem q f cap fcs late = none) :
    exec (.rawFrameReceived q f cap ⟨fcs, late⟩) s = .fault .addressOutsideMap := by
  show s.rawReceived q f cap fcs late = _
  unfold State.rawReceived
  rw [h]

end Command

/-- Settles O56: a frame by the clock, the duplicate check, the ring and the descriptor's buffer. -/
theorem rawReception : Obligations.RawReception := by
  refine ⟨fun q f cap fcs late s ht => exec_rawFrameReceived_of_some (Dev.devRawReceived_stopped ht), ?_⟩
  intro q f cap fcs late s ht c p e etype desc refused buf len
  have hp : s.dev.prpCheck f = (p.1, e) := rfl
  refine ⟨fun hd => ?_, fun hd h => ?_, ?_, fun hd h hs => ?_, fun hprp => if_pos hprp⟩
  · exact exec_rawFrameReceived_of_some (Dev.devRawReceived_of_duplicate ht hp hd)
  · exact exec_rawFrameReceived_of_some (Dev.devRawReceived_of_refused ht hp hd h)
  · intro hd h hs steps stamp status g
    exact exec_rawFrameReceived_of_some (Dev.devRawReceived_of_taken ht hp hd h hs)
  · exact exec_rawFrameReceived_of_none (Dev.devRawReceived_of_outside ht hp hd h hs)

end Sys2Proof.Machine

/-! Field channels, the switch-off of the outputs and the load survey (R383–R392). -/

namespace Sys2Proof.Machine

open Sys2Proof

namespace Dev

variable {d : Dev} {c : Nat} {level back : Bool}

/-! A frame of the field die (R383, R384). -/

theorem devFieldDieFrame_of_stopped {levels readback limit : Nat} {v : F32} (h : d.tm.refclk = false) :
    d.devFieldDieFrame levels readback v limit = d := if_pos h

/-- L+ and the link of a frame taken over. -/
def fieldTaken (d : Dev) (v : F32) : Dev := (d.setF Obj.FIO_LPLUS v).setBit Obj.FIO_STATUS FioBit.linkOk true

/-- What a frame says of the channels. -/
def fieldRead (e : Dev) (levels readback limit : Nat) : FioSt :=
  { e.fio with
    raw := levels
    linkAt := e.tm.mono
    limit := mask16 fun c => limit.testBit c && e.fioIsOut c
    dis := mask16 fun c => e.fio.dis.testBit c && (e.fioIsOut c && readback.testBit c != e.fioCommanded c)
    disAt := (List.range 16).filterMap fun c =>
      if (e.fioIsOut c && readback.testBit c != e.fioCommanded c) = true then
        some (c, (e.fio.disAt.lookup c).getD e.tm.mono) else none }

theorem devFieldDieFrame_of_clock {levels readback limit : BitVec 16} {v : F32} (h : d.tm.refclk = true) :
    d.devFieldDieFrame levels.toNat readback.toNat v limit.toNat
      = ((List.range 16).foldl (fun d c => d.fioSample c (levels.toNat.testBit c) (readback.toNat.testBit c))
          ((d.fieldTaken v).setFio ((d.fieldTaken v).fieldRead levels.toNat readback.toNat limit.toNat))).fioDrive.fioFault := by
  have hraw : levels.toNat % 65536 = levels.toNat := Nat.mod_eq_of_lt levels.isLt
  unfold devFieldDieFrame fieldRead
  rw [if_neg (ne_of_eq_of_ne h Bool.noConfusion), hraw]
  rfl

/-! A sample of a channel (R385). -/

theorem fioSample_of_output (h : d.bit Obj.FIO_DIR c = true) : d.fioSample c level back = d.setBit Obj.FIO_IN c back :=
  if_pos h

section Input

variable (hin : d.bit Obj.FIO_DIR c = false)
include hin

theorem not_fioIsOut : ¬ d.fioIsOut c = true := Bool.eq_false_iff.mp hin

theorem fioSample_of_invalid (hv : d.bit Obj.FIO_STATUS FioBit.inValid = false) :
    d.fioSample c level back = d.setBit Obj.FIO_IN c false := (if_neg (not_fioIsOut hin)).trans (if_pos hv)

variable (hv : d.bit Obj.FIO_STATUS FioBit.inValid = true)
include hv

theorem fioSample_of_valid : d.fioSample c level back
    = if level = d.bit Obj.FIO_IN c then d.setFio { d.fio with since := SMap.del d.fio.since c }
      else if d.getN (Obj.FIO_DEBOUNCE c) = 0 then d.fioChange c level d.now96
      else if d.fio.since.any (·.1 = c) then d
      else d.setFio { d.fio with since := SMap.ins d.fio.since c (d.now96, d.tm.mono) } :=
  (if_neg (not_fioIsOut hin)).trans (if_neg (ne_of_eq_of_ne hv Bool.noConfusion))

end Input

/-! An input's debounce (R385). -/

theorem devInputDebounce_of_none (h : d.fio.since.lookup c = none) : d.devInputDebounce c = d := by
  unfold devInputDebounce
  rw [h]

/-- The channel waits for its debounce no longer. -/
def debounced (d : Dev) (c : Nat) : Dev := d.setFio { d.fio with since := SMap.del d.fio.since c }

section Debounce

variable {t : Int} {u : Nat} (h : d.fio.since.lookup c = some (t, u))
include h

theorem devInputDebounce_of_early (hp : d.waited u (d.getN (Obj.FIO_DEBOUNCE c) * 1000 * nsUnit) = false) :
    d.devInputDebounce c = d := by
  unfold devInputDebounce
  rw [h]
  exact if_pos hp

variable (hp : d.waited u (d.getN (Obj.FIO_DEBOUNCE c) * 1000 * nsUnit) = true)
include hp

theorem devInputDebounce_of_past : d.devInputDebounce c
    = if d.fioIsOut c = true ∨ d.bit Obj.FIO_STATUS FioBit.inValid = false ∨ d.fio.raw.testBit c = d.bit Obj.FIO_IN c then
        d.debounced c
      else (d.debounced c).fioChange c (d.fio.raw.testBit c) t := by
  unfold devInputDebounce
  rw [h]
  exact if_neg (ne_of_eq_of_ne hp Bool.noConfusion)

end Debounce

/-! Disagreements, thermal shutdowns and the fault (R387). -/

theorem optionAny_iff {o : Option Nat} {p : Nat → Bool} : o.any p = true ↔ ∃ u, o = some u ∧ p u = true := by
  cases o with
  | none => simp
  | some u => simp

/-- The bit FAULT as the channels stand. -/
def fioFaulty (d : Dev) : Bool :=
  d.fio.dis != 0 || d.fio.limit != 0 || d.fio.thermal != 0 || d.bit Obj.FIO_STATUS FioBit.sag

theorem fioFault_of_same (h : d.fioFaulty = d.bit Obj.FIO_STATUS FioBit.fault) : d.fioFault = d := if_pos h

theorem fioFault_of_new (h : d.fioFaulty = true) (hf : d.bit Obj.FIO_STATUS FioBit.fault = false) : d.fioFault
    = ((d.setBit Obj.FIO_STATUS FioBit.fault d.fioFaulty).inc Obj.FIO_FAULT_COUNT).fioEvent 173 (noSource 173) := by
  unfold fioFault
  extract_lets v e f
  have hv : v = true := h
  have hf' : f = e.inc Obj.FIO_FAULT_COUNT := if_pos hv
  rw [if_neg (fun hn => Bool.false_ne_true (hf.symm.trans (hn.symm.trans hv))), hf']
  rfl

theorem fioFault_of_over (h : d.fioFaulty = false) (hf : d.bit Obj.FIO_STATUS FioBit.fault = true) : d.fioFault
    = (d.setBit Obj.FIO_STATUS FioBit.fault d.fioFaulty).fioEvent 173 (noSource 173) := by
  unfold fioFault
  extract_lets v e f
  have hv : v = false := h
  have hf' : f = e := if_neg (Bool.eq_false_iff.mp hv)
  rw [if_neg (fun hn => Bool.false_ne_true (hv.symm.trans (hn.trans hf))), hf']
  rfl

/-! The switch-off (R388). -/

theorem bit_set_ne {j k b : Nat} (v : Int) (h : j ≠ k) : (d.set k v).bit j b = d.bit j b := by
  unfold bit
  rw [getN_set_ne v h]

/-- The outputs not enabled. -/
def fioDisabled (d : Dev) : Dev := d.set Obj.FIO_OUT_ENABLE 0

theorem latched_fioDisabled : d.fioDisabled.bit Obj.FIO_STATUS FioBit.offLatched = d.bit Obj.FIO_STATUS FioBit.offLatched :=
  bit_set_ne 0 (by decide)

theorem fioLatchOff_of_latched {cause : Nat} (h : d.bit Obj.FIO_STATUS FioBit.offLatched = true) :
    d.fioLatchOff cause = d.fioDisabled.fioDrive := if_pos (latched_fioDisabled.trans h)

theorem fioLatchOff_of_first {cause : Nat} (h : d.bit Obj.FIO_STATUS FioBit.offLatched = false) : d.fioLatchOff cause
    = ((d.fioDisabled.setBit Obj.FIO_STATUS FioBit.offLatched true).setN Obj.FIO_SHUTDOWN_CAUSE cause).fioDrive.fioEvent 175
        cause := if_neg (Bool.eq_false_iff.mp (latched_fioDisabled.trans h))

/-! The load survey (R392). -/

section Survey

variable {before after : F32}

theorem devSurveyChannel_of_none (h : d.fio.survey = none) : d.devSurveyChannel before after = d := by
  unfold devSurveyChannel
  rw [h]

theorem devSurveyAbort_of_none (h : d.fio.survey = none) : d.devSurveyAbort = d := by
  unfold devSurveyAbort
  rw [h]
  rfl

variable (h : d.fio.survey = some c)
include h

theorem devSurveyAbort_of_some : d.devSurveyAbort = d.surveyEnd 3 0x0101 := by
  unfold devSurveyAbort
  rw [h]
  rfl

theorem devSurveyChannel_of_early (hp : d.waited d.fio.surveyAt (5000000 * nsUnit) = false) :
    d.devSurveyChannel before after = d := by
  unfold devSurveyChannel
  rw [h]
  exact if_pos hp

/-- The load of a channel measured and classed. -/
def surveyed (d : Dev) (c : Nat) (before after : F32) : Dev :=
  (d.setF (Obj.FIO_LOAD c) (F32.mul after (F32.ofInt 100))).setN (Obj.FIO_LOAD_CLASS c)
    (surveyClass before (F32.mul after (F32.ofInt 100)))

variable (hp : d.waited d.fio.surveyAt (5000000 * nsUnit) = true)
include hp

theorem devSurveyChannel_of_next {n : Nat} (hn : (d.surveyed c before after).surveyNext (c + 1) = some n) :
    d.devSurveyChannel before after
      = (d.surveyed c before after).setFio { (d.surveyed c before after).fio with
          survey := some n, surveyAt := (d.surveyed c before after).tm.mono } := by
  unfold devSurveyChannel
  rw [h]
  refine (if_neg (ne_of_eq_of_ne hp Bool.noConfusion)).trans ?_
  extract_lets r e
  rw [show e.surveyNext (c + 1) = some n from hn]
  rfl

theorem devSurveyChannel_of_last (hn : (d.surveyed c before after).surveyNext (c + 1) = none) :
    d.devSurveyChannel before after = (d.surveyed c before after).surveyEnd 2 0x0100 := by
  unfold devSurveyChannel
  rw [h]
  refine (if_neg (ne_of_eq_of_ne hp Bool.noConfusion)).trans ?_
  extract_lets r e
  rw [show e.surveyNext (c + 1) = none from hn]
  rfl

end Survey

end Dev

/-- Settles O57: each command of the field channels in the cases of its function. -/
theorem fieldChannels : Obligations.FieldChannels := by
  intro s d
  refine ⟨fun levels readback limit v h => yields_of_run rfl (Dev.devFieldDieFrame_of_stopped h), ?_, fun c level back => ?_,
    ?_, ?_, ?_, ?_, ?_, ?_, ?_, ?_, fun before after h => ⟨?_, ?_⟩, ?_⟩
  · intro levels readback limit v h e differs f
    exact yields_of_run rfl (Dev.devFieldDieFrame_of_clock h)
  · refine ⟨fun h => Dev.fioSample_of_output h, fun h hv => Dev.fioSample_of_invalid h hv, fun h hv hl hd => ?_,
      fun h hv hl hd ha => ?_, fun h hv hl hd ha => ?_, fun h hv hl => ?_⟩
    · exact (Dev.fioSample_of_valid h hv).trans ((if_neg hl).trans (if_pos hd))
    · exact (Dev.fioSample_of_valid h hv).trans ((if_neg hl).trans ((if_neg hd).trans (if_neg (Bool.eq_false_iff.mp ha))))
    · exact (Dev.fioSample_of_valid h hv).trans ((if_neg hl).trans ((if_neg hd).trans (if_pos ha)))
    · exact (Dev.fioSample_of_valid h hv).trans (if_pos hl)
  · intro c level e
    refine ⟨fun h => yields_of_run rfl (Dev.devInputDebounce_of_none h), ?_, ?_, ?_, ?_⟩
    · intro t u h past changes
      refine ⟨fun hp => yields_of_run rfl (Dev.devInputDebounce_of_early h hp), fun hp hc => ?_, fun hp hc => ?_⟩
      · refine yields_of_run rfl ((Dev.devInputDebounce_of_past h hp).trans (if_neg ?_))
        rintro (hn | hn | hn)
        · exact Bool.eq_false_iff.mp hc.1 hn
        · exact Bool.eq_false_iff.mp hn hc.2.1
        · exact hc.2.2 hn
      · refine yields_of_run rfl ((Dev.devInputDebounce_of_past h hp).trans (if_pos ?_))
        by_contra hn
        simp only [not_or] at hn
        exact hc ⟨Bool.eq_false_of_not_eq_true hn.1, Bool.eq_true_of_not_eq_false hn.2.1, hn.2.2⟩
    · intro lasts
      exact ⟨fun h => yields_of_run rfl (if_pos ⟨h.1, Dev.optionAny_iff.mpr h.2⟩),
        fun h => yields_of_run rfl (if_neg fun hn => h ⟨hn.1, Dev.optionAny_iff.mp hn.2⟩)⟩
    · intro hot
      exact ⟨fun h => yields_of_run rfl (if_pos h), fun h => yields_of_run rfl (if_neg h)⟩
    · intro again
      exact ⟨fun h => yields_of_run rfl (if_pos (Dev.optionAny_iff.mpr h)),
        fun h => yields_of_run rfl (if_neg fun hn => h (Dev.optionAny_iff.mp hn))⟩
  · intro v e
    exact ⟨fun h => Dev.fioFault_of_same h, fun h hf => Dev.fioFault_of_new h hf, fun h hf => Dev.fioFault_of_over h hf⟩
  · intro low off
    exact yields_of_run rfl rfl
  · intro past
    exact ⟨fun h => yields_of_run rfl (if_pos h), fun h => yields_of_run rfl (if_neg (Bool.eq_false_iff.mp h))⟩
  · intro past
    exact ⟨fun h => yields_of_run rfl (if_pos h), fun h => yields_of_run rfl (if_neg h)⟩
  · intro cause o
    exact ⟨fun h => Dev.fioLatchOff_of_latched h, fun h => Dev.fioLatchOff_of_first h⟩
  · exact yields_of_run rfl rfl
  · intro e f
    exact yields_of_run rfl rfl
  · exact yields_of_run rfl (Dev.devSurveyChannel_of_none h)
  · exact yields_of_run rfl (Dev.devSurveyAbort_of_none h)
  · intro before after c h r e past
    exact ⟨yields_of_run rfl (Dev.devSurveyAbort_of_some h), fun hp => yields_of_run rfl (Dev.devSurveyChannel_of_early h hp),
      fun n hp hn => yields_of_run rfl (Dev.devSurveyChannel_of_next h hp hn),
      fun hp hn => yields_of_run rfl (Dev.devSurveyChannel_of_last h hp hn)⟩

end Sys2Proof.Machine

/-! PWM timers (R394–R400). -/

namespace Sys2Proof.Machine

open Sys2Proof

namespace Dev

variable {d : Dev} {t u : Nat}

/-- The last tick at which an instant can have come, in 2⁻¹⁶ ns. -/
abbrev pwmCame (d : Dev) (u : Nat) : Prop := u ≤ fracOf d.tm.now + d.tc * nsFrac

theorem instantDue_of_came (h : d.pwmCame u) : d.instantDue u = true := decide_eq_true h

theorem instantDue_of_not_came (h : ¬ d.pwmCame u) : d.instantDue u = false := decide_eq_false h

theorem came_of_instantDue (h : d.instantDue u = true) : d.pwmCame u := of_decide_eq_true h

/-! The start of a period (R394, R395, R397). -/

section PeriodStart

variable {top : Bool}

theorem devPwmPeriodStart_of_stopped (h : (d.timer t).next = none) : d.devPwmPeriodStart t top = d := by
  unfold devPwmPeriodStart
  rw [h]

theorem devPwmPeriodStart_of_disabled (h : d.bit Obj.PWM_ENABLE t = false) : d.devPwmPeriodStart t top = d := by
  unfold devPwmPeriodStart
  cases (d.timer t).next with
  | none => rfl
  | some at_ => exact if_pos (.inr h)

/-- The top of the count is where an enabled centre timer's period event may stand. -/
def pwmTopDue (d : Dev) (t : Nat) : Prop :=
  t < 6 ∧ d.on (Obj.PWM_EV_POINT t) = true ∧ (d.timer t).run = true ∧ d.pwmCame ((d.timer t).start + d.pwmP t * pwmUnit)
    ∧ (d.timer t).starts % max 1 (d.getN (Obj.PWM_PRESCALE t)) = 0

/-- The timer with its shadows transferred where they are due, its period counted and its outputs begun. -/
def pwmStarted (d : Dev) (t at_ : Nat) : Dev :=
  ((if (d.timer t).run = true then d.pwmLoad t else d.pwmTransfer t).inc (Obj.PWM_PERIODS t)).pwmBegin t at_

/-- A pulse removed by the dead time: noted, with its event where the last period had none. -/
def pwmNoteRemoved (b : Dev) (t : Nat) : Dev :=
  let gone := (b.pwmRemoved t).1 || (b.pwmRemoved t).2
  let e := Dev.setTimer t { b.timer t with removed := gone } b
  if gone = true ∧ (b.timer t).removed = false then e.pwmEvent 190 t else e

/-- The removed pulse noted, and the period event where it stands at the period's start and the prescaler lets it. -/
def pwmNotePeriod (b : Dev) (t : Nat) : Dev :=
  let f := b.pwmNoteRemoved t
  if (t < 6 ∧ f.on (Obj.PWM_EV_POINT t) = true) ∨ (b.timer t).starts % max 1 (f.getN (Obj.PWM_PRESCALE t)) ≠ 0 then f
  else f.pwmPeriodEvent t

variable {at_ : Nat} (ht : t < 10) (hb : d.bit Obj.PWM_ENABLE t = true) (h : (d.timer t).next = some at_)
include ht hb h

theorem devPwmPeriodStart_of_enabled : d.devPwmPeriodStart t top
    = if top = true then (if t < 6 ∧ d.on (Obj.PWM_EV_POINT t) = true ∧ (d.timer t).run = true
          ∧ d.instantDue ((d.timer t).start + d.pwmP t * pwmUnit) = true
          ∧ (d.timer t).starts % max 1 (d.getN (Obj.PWM_PRESCALE t)) = 0 then d.pwmPeriodEvent t else d)
      else if d.instantDue at_ = false then d
      else ((d.pwmStarted t at_).pwmNotePeriod t).pwmPins := by
  unfold devPwmPeriodStart
  rw [h]
  refine (if_neg ?_).trans rfl
  rintro (hn | hn)
  · omega
  · exact Bool.false_ne_true (hn.symm.trans hb)

theorem devPwmPeriodStart_of_top (hdue : d.pwmTopDue t) : d.devPwmPeriodStart t true = d.pwmEvent (176 + t) t := by
  obtain ⟨hc, hp, hr, hi, hs⟩ := hdue
  exact (devPwmPeriodStart_of_enabled ht hb h).trans ((if_pos rfl).trans (if_pos ⟨hc, hp, hr, instantDue_of_came hi, hs⟩))

theorem devPwmPeriodStart_of_not_top (hdue : ¬ d.pwmTopDue t) : d.devPwmPeriodStart t true = d := by
  refine (devPwmPeriodStart_of_enabled ht hb h).trans ((if_pos rfl).trans (if_neg ?_))
  rintro ⟨hc, hp, hr, hi, hs⟩
  exact hdue ⟨hc, hp, hr, came_of_instantDue hi, hs⟩

theorem devPwmPeriodStart_of_early (hc : ¬ d.pwmCame at_) : d.devPwmPeriodStart t false = d :=
  (devPwmPeriodStart_of_enabled ht hb h).trans ((if_neg Bool.false_ne_true).trans (if_pos (instantDue_of_not_came hc)))

theorem devPwmPeriodStart_of_came (hc : d.pwmCame at_) : d.devPwmPeriodStart t false
    = ((d.pwmStarted t at_).pwmNotePeriod t).pwmPins :=
  (devPwmPeriodStart_of_enabled ht hb h).trans ((if_neg Bool.false_ne_true).trans
    (if_neg (ne_of_eq_of_ne (instantDue_of_came hc) Bool.noConfusion)))

end PeriodStart

/-! The edges within a period (R394, R396). -/

section Edges

variable {e : Bool}

/-- No edge is placed: the timer does not run, its compare gives none, or its instant cannot have come. -/
abbrev pwmIdle (d : Dev) (t : Nat) (e : Bool) : Prop :=
  (d.timer t).run = false ∨ d.getN (Obj.PWM_CMP_ACT t) = 0 ∨ d.getN (Obj.PWM_CMP_ACT t) = d.pwmP t
    ∨ ¬ d.pwmCame (d.pwmEdgeAt t e)

theorem devPwmCompareEdge_of_idle (h : d.pwmIdle t e) : d.devPwmCompareEdge t e = d := by
  refine if_pos (.inr ?_)
  rcases h with h | h | h | h
  · exact .inl h
  · exact .inr (.inl h)
  · exact .inr (.inr (.inl h))
  · exact .inr (.inr (.inr (instantDue_of_not_came h)))

variable (ht : t < 10)
include ht

theorem devPwmCompareEdge_of_busy (h : ¬ d.pwmIdle t e) : d.devPwmCompareEdge t e
    = if e = true then
        (match (d.timer t).rising with
          | some true => d.setTimer t { d.timer t with b := true, rising := none }
          | some false => d.setTimer t { d.timer t with a := true, rising := none }
          | none => d).pwmPins
      else if 6 ≤ t then (d.setTimer t { d.timer t with a := false, edges := 1 }).pwmPins
      else if (d.timer t).edges = 0 then
        (d.pwmRise t false (d.pwmEdgeAt t e) { d.timer t with b := false, rising := none, edges := 1 }).pwmPins
      else if (d.timer t).edges = 1 then
        (d.pwmRise t true (d.pwmEdgeAt t e) { d.timer t with a := false, rising := none, edges := 2 }).pwmPins
      else d := by
  refine (if_neg ?_).trans rfl
  rintro (hn | hn | hn | hn | hn)
  · omega
  · exact h (.inl hn)
  · exact h (.inr (.inl hn))
  · exact h (.inr (.inr (.inl hn)))
  · exact h (.inr (.inr (.inr fun hc => Bool.false_ne_true (hn.symm.trans (instantDue_of_came hc)))))

section DeadTimeEnd

variable (h : ¬ d.pwmIdle t true)
include h

theorem devPwmCompareEdge_of_rising_b (hr : (d.timer t).rising = some true) :
    d.devPwmCompareEdge t true = (d.setTimer t { d.timer t with b := true, rising := none }).pwmPins := by
  rw [devPwmCompareEdge_of_busy ht h, if_pos rfl, hr]

theorem devPwmCompareEdge_of_rising_a (hr : (d.timer t).rising = some false) :
    d.devPwmCompareEdge t true = (d.setTimer t { d.timer t with a := true, rising := none }).pwmPins := by
  rw [devPwmCompareEdge_of_busy ht h, if_pos rfl, hr]

theorem devPwmCompareEdge_of_none_rising (hr : (d.timer t).rising = none) : d.devPwmCompareEdge t true = d.pwmPins := by
  rw [devPwmCompareEdge_of_busy ht h, if_pos rfl, hr]

end DeadTimeEnd

section Compare

variable (h : ¬ d.pwmIdle t false)
include h

theorem devPwmCompareEdge_of_edgeTimer (h6 : 6 ≤ t) :
    d.devPwmCompareEdge t false = (d.setTimer t { d.timer t with a := false, edges := 1 }).pwmPins :=
  (devPwmCompareEdge_of_busy ht h).trans ((if_neg Bool.false_ne_true).trans (if_pos h6))

theorem devPwmCompareEdge_of_centerTimer (h6 : t < 6) : d.devPwmCompareEdge t false
    = if (d.timer t).edges = 0 then
        (d.pwmRise t false (d.pwmEdgeAt t false) { d.timer t with b := false, rising := none, edges := 1 }).pwmPins
      else if (d.timer t).edges = 1 then
        (d.pwmRise t true (d.pwmEdgeAt t false) { d.timer t with a := false, rising := none, edges := 2 }).pwmPins
      else d :=
  (devPwmCompareEdge_of_busy ht h).trans ((if_neg Bool.false_ne_true).trans (if_neg (Nat.not_le.mpr h6)))

end Compare

end Edges

/-! A dead time before a rise (R396). -/

section Rise

variable {isB : Bool} {at_ : Nat} {y : PwmTimer}

theorem pwmRise_of_removed (h : (if isB = true then (d.pwmRemoved t).2 else (d.pwmRemoved t).1) = true) :
    d.pwmRise t isB at_ y = d.setTimer t y := if_pos h

variable (h : (if isB = true then (d.pwmRemoved t).2 else (d.pwmRemoved t).1) = false)
include h

theorem pwmRise_of_no_deadTime (hd : y.dt = 0) :
    d.pwmRise t isB at_ y = d.setTimer t (if isB then { y with b := true } else { y with a := true }) :=
  (if_neg (Bool.eq_false_iff.mp h)).trans (if_pos hd)

theorem pwmRise_of_deadTime (hd : y.dt ≠ 0) :
    d.pwmRise t isB at_ y = d.setTimer t { y with rising := some isB, riseAt := at_ + y.dt * Dev.pwmUnit } :=
  (if_neg (Bool.eq_false_iff.mp h)).trans (if_neg hd)

end Rise

/-! The trips (R399). -/

theorem pwmTrips_of_same (h : d.pwmSources = d.pwm.active) : d.pwmTrips = d := if_pos h

theorem pwmTrips_of_changed (h : d.pwmSources ≠ d.pwm.active) : d.pwmTrips
    = ((List.range 10).foldl (fun (x : Dev) t =>
        if x.getN (Obj.PWM_TRIP_SRC t) &&& (d.pwmSources &&& (127 - d.pwm.active)) ≠ 0 then x.pwmTripTimer t else x) { d with pwm := { d.pwm with active := d.pwmSources } }).pwmPins := if_neg h

end Dev

/-- Settles O58: each command of the PWM timers in the cases of its function. -/
theorem pwmTimers : Obligations.PwmTimers := by
  intro t s d x c came idle
  refine ⟨fun ht e => ?_, fun h top => ?_, fun ht hb at_ h => ?_, rfl, fun e h => ?_, fun ht h => ?_, fun ht h => ?_,
    fun isB at_ y => ?_, fun pin active => ?_, rfl⟩
  · have hn : ¬ s.dev.tm.timeclk = true := Bool.eq_false_iff.mp ht
    exact ⟨yields_of_run rfl (if_neg hn), yields_of_run rfl (if_neg hn)⟩
  · refine yields_of_timed_unless rfl fun _ => ?_
    rcases h with h | h
    · exact Dev.devPwmPeriodStart_of_disabled h
    · exact Dev.devPwmPeriodStart_of_stopped h
  · intro due a b gone y e f quiet
    refine ⟨fun hd => yields_of_timed ht rfl (Dev.devPwmPeriodStart_of_top t.isLt hb h hd),
      fun hd => yields_of_timed ht rfl (Dev.devPwmPeriodStart_of_not_top t.isLt hb h hd),
      fun hc => yields_of_timed ht rfl (Dev.devPwmPeriodStart_of_early t.isLt hb h hc),
      fun hc hq => yields_of_timed ht rfl ((Dev.devPwmPeriodStart_of_came t.isLt hb h hc).trans ?_),
      fun hc hq => yields_of_timed ht rfl ((Dev.devPwmPeriodStart_of_came t.isLt hb h hc).trans ?_)⟩
    · exact congrArg Dev.pwmPins (if_pos hq)
    · exact congrArg Dev.pwmPins (if_neg hq)
  · exact yields_of_timed_unless rfl fun _ => Dev.devPwmCompareEdge_of_idle h
  · exact ⟨fun hr => yields_of_timed ht rfl (Dev.devPwmCompareEdge_of_rising_b t.isLt h hr),
      fun hr => yields_of_timed ht rfl (Dev.devPwmCompareEdge_of_rising_a t.isLt h hr),
      fun hr => yields_of_timed ht rfl (Dev.devPwmCompareEdge_of_none_rising t.isLt h hr)⟩
  · intro at_
    refine ⟨fun h6 => yields_of_timed ht rfl (Dev.devPwmCompareEdge_of_edgeTimer t.isLt h h6), fun h6 h0 => ?_,
      fun h6 h1 => ?_, fun h6 h2 => ?_⟩
    · exact yields_of_timed ht rfl ((Dev.devPwmCompareEdge_of_centerTimer t.isLt h h6).trans (if_pos h0))
    · have h0 : (s.dev.timer t).edges ≠ 0 := ne_of_eq_of_ne h1 Nat.one_ne_zero
      exact yields_of_timed ht rfl ((Dev.devPwmCompareEdge_of_centerTimer t.isLt h h6).trans ((if_neg h0).trans (if_pos h1)))
    · have h0 : (s.dev.timer t).edges ≠ 0 := Nat.ne_of_gt (Nat.lt_of_lt_of_le Nat.zero_lt_two h2)
      have h1 : (s.dev.timer t).edges ≠ 1 := Nat.ne_of_gt h2
      exact yields_of_timed ht rfl ((Dev.devPwmCompareEdge_of_centerTimer t.isLt h h6).trans ((if_neg h0).trans (if_neg h1)))
  · intro gone
    exact ⟨fun h => Dev.pwmRise_of_removed h, fun h hd => Dev.pwmRise_of_no_deadTime h hd,
      fun h hd => Dev.pwmRise_of_deadTime h hd⟩
  · intro rest e
    exact ⟨fun h => yields_of_run rfl (Dev.pwmTrips_of_same h), fun h => yields_of_run rfl (Dev.pwmTrips_of_changed h)⟩

end Sys2Proof.Machine

/-! CAN FD (R406–R415). -/

namespace Sys2Proof.Machine

open Sys2Proof

section Timed

variable {i : Instr} {s : State} {f : Dev → List MemWrite × Dev} {w : List MemWrite} {e : Dev}
  (ht : s.dev.tm.timeclk = true) (h : exec i s = s.runMem (Dev.timedMem f))
include ht h

/-- A command of the bus that may write a ring acts with TIMECLK running. -/
theorem stores_of_timedMem (hd : f s.dev = (w, e)) : Stores i s w e := stores_of_runMem h ((if_pos ht).trans hd)

theorem yields_of_timedMem (hd : f s.dev = ([], e)) : Yields i s e := yields_of_runMem h ((if_pos ht).trans hd)

end Timed

namespace Dev

variable {d : Dev} {c : Nat}

/-! Objects that the updates of a controller leave. -/

theorem get_canEvent_ne {k e : Nat} (hk : 0x6C1000 ≤ k ∧ k < 0x6D0000) (he : e < 256) (d : Dev) :
    (d.canEvent e c).get k = d.get k :=
  get_signalAt_ne (by unfold Obj.CAN_EVENT_SRC; omega) (by unfold Obj.EVT_COUNT; omega) (by unfold Obj.EVT_LAST; omega)
    (by unfold Obj.EVT_LAST_SRC; omega) d

theorem get_setCan_ne {k : Nat} (x : CanCtl) (hk : k ≠ Obj.CAN_TX_PENDING c) : (d.setCan c x).get k = d.get k :=
  get_setN_ne _ hk

/-! The counters and the state they give (R414). -/

/-- The counters kept in their objects, which are capped. -/
def canCounted (d : Dev) (c t r : Nat) : Dev := (d.setN (Obj.CAN_TEC c) (min 256 t)).setN (Obj.CAN_REC c) (min 128 r)

theorem canCounted_on {t r : Nat} : (d.canCounted c t r).on (Obj.CAN_ENABLE c) = d.on (Obj.CAN_ENABLE c) :=
  (on_set_ne _ (by unfold Obj.CAN_ENABLE Obj.CAN_REC; omega)).trans
    (on_set_ne _ (by unfold Obj.CAN_ENABLE Obj.CAN_TEC; omega))

section Counters

variable {t r : Nat}

theorem canCounters_of_busOff (h : 255 < t) : d.canCounters c t r = (d.canCounted c t r).canBusOff c := if_pos h

theorem canCounters_of_disabled (hon : d.on (Obj.CAN_ENABLE c) = false) (h : t ≤ 255) :
    d.canCounters c t r = d.canCounted c t r :=
  (if_neg (Nat.not_lt.mpr h)).trans (if_neg (Bool.eq_false_iff.mp (canCounted_on.trans hon)))

theorem canCounters_of_enabled (hon : d.on (Obj.CAN_ENABLE c) = true) (h : t ≤ 255) :
    d.canCounters c t r = (d.canCounted c t r).setCanState c (canStateOf t r) :=
  (if_neg (Nat.not_lt.mpr h)).trans (if_pos (canCounted_on.trans hon))

theorem canStateOf_passive (h : 127 < t ∨ 127 < r) : canStateOf t r = CanState.errorPassive := if_pos h

theorem canStateOf_warning (ht : t ≤ 127) (hr : r ≤ 127) (h : 96 ≤ t ∨ 96 ≤ r) : canStateOf t r = CanState.warning :=
  (if_neg (by omega)).trans (if_pos h)

theorem canStateOf_active (ht : t < 96) (hr : r < 96) : canStateOf t r = CanState.errorActive :=
  (if_neg (by omega)).trans (if_neg (by omega))

end Counters

/-! A frame received (R410, R411, R414). -/

/-- REC after a valid frame; from above 127 a free value of 119 to 127. -/
def canRecLowered (d : Dev) (c : Nat) : Nat :=
  if 127 < d.getN (Obj.CAN_REC c) then 119 + d.takeFree.1 % 9 else d.getN (Obj.CAN_REC c) - 1

theorem canRecLowered_of_le (h : d.getN (Obj.CAN_REC c) ≤ 127) : d.canRecLowered c = d.getN (Obj.CAN_REC c) - 1 :=
  if_neg (Nat.not_lt.mpr h)

theorem canRecLowered_of_lt (h : 127 < d.getN (Obj.CAN_REC c)) : 119 ≤ d.canRecLowered c ∧ d.canRecLowered c ≤ 127 := by
  have hv : d.canRecLowered c = 119 + d.takeFree.1 % 9 := if_pos h
  omega

/-- The counters of a controller that took a valid frame. -/
def canReceives (d : Dev) (c : Nat) : Dev :=
  (if 127 < d.getN (Obj.CAN_REC c) then d.takeFree.2 else d).canCounters c (d.getN (Obj.CAN_TEC c)) (d.canRecLowered c)

/-- A frame passed to the stations of the bus that listen to it. -/
def canToStations (d : Dev) (c id flags : Nat) (data : List Byte) : Dev :=
  if flags.testBit 3 then d
  else (List.range 32).foldl (fun (d : Dev) n =>
    if d.on (Obj.STN_ENABLE n) = true ∧ d.getN (Obj.STN_BUS n) = c ∧ d.getN (Obj.STN_ID_IN n) = id then d.stationInput n data
    else d) d

theorem devCanReceived_of_off {t id flags : Nat} {data : List Byte} (h : d.canOn c = false) :
    d.devCanReceived c t id flags data = ([], d) := if_pos h

theorem devCanReceived_of_on {t id flags : Nat} {data : List Byte} (h : d.canOn c = true) :
    d.devCanReceived c t id flags data = ((d.canReceives c).canToStations c id flags data).canStore c
      (((d.canReceives c).canToStations c id flags data).canTime c t) id (flags % 16) data := by
  unfold devCanReceived canReceives canRecLowered
  refine (if_neg (ne_of_eq_of_ne h Bool.noConfusion)).trans ?_
  by_cases hr : 127 < d.getN (Obj.CAN_REC c)
  · simp only [if_pos hr]
    rfl
  · simp only [if_neg hr]
    rfl

/-! The ring (R411). -/

section Ring

variable {time : Int} {id flags : Nat} {data : List Byte}

/-- The write index after the next. -/
abbrev canRingNext (d : Dev) (c : Nat) : Nat := (d.getN (Obj.CAN_RX_WR c) + 1) % max 1 (d.getN (Obj.CAN_RX_LEN c))

/-- No entry of the ring is free. -/
abbrev canRingFull (d : Dev) (c : Nat) : Prop :=
  d.canRingNext c = d.getN (Obj.CAN_RX_RD c) % max 1 (d.getN (Obj.CAN_RX_LEN c))

/-- A frame lost on a full ring, counted. -/
def canLoses (d : Dev) (c : Nat) : Dev :=
  (d.setCan c { d.can c with seq := ((d.can c).seq + 1) % 65536, lost := true }).inc (Obj.CAN_RX_LOST c)

theorem canStore_of_full (h : d.canRingFull c) : d.canStore c time id flags data
    = ([], if (d.can c).lost = true then d.canLoses c else (d.canLoses c).canEvent 170 c) := if_pos h

/-- A frame lost changes of the objects its count, and its event alone. -/
theorem get_canStore_of_full (h : d.canRingFull c) {k : Nat} (hk : 0x6C1000 ≤ k ∧ k < 0x6D0000) :
    (d.canStore c time id flags data).2.get k = (d.canLoses c).get k := by
  rw [canStore_of_full h]
  dsimp only
  split
  · rfl
  · exact get_canEvent_ne hk (by decide) _

theorem get_rxLost_canLoses : (d.canLoses c).get (Obj.CAN_RX_LOST c) = (d.get (Obj.CAN_RX_LOST c) + 1) % 4294967296 := by
  unfold canLoses inc
  rw [get_set_same, get_setCan_ne _ (by unfold Obj.CAN_RX_LOST Obj.CAN_TX_PENDING; omega)]

theorem getN_rxWr_canLoses : (d.canLoses c).getN (Obj.CAN_RX_WR c) = d.getN (Obj.CAN_RX_WR c) := by
  unfold getN canLoses
  rw [get_inc_ne (by unfold Obj.CAN_RX_WR Obj.CAN_RX_LOST; omega),
    get_setCan_ne _ (by unfold Obj.CAN_RX_WR Obj.CAN_TX_PENDING; omega)]

/-- A frame stored: its number taken and the write index moved on. -/
def canStored (d : Dev) (c : Nat) : Dev :=
  (d.setCan c { d.can c with seq := ((d.can c).seq + 1) % 65536, lost := false }).setN (Obj.CAN_RX_WR c) (d.canRingNext c)

/-- The entries unread reach the watermark with this one. -/
abbrev canMarkReached (d : Dev) (c : Nat) : Prop :=
  (d.canStored c).getN (Obj.CAN_RX_WATERMARK c) ≠ 0 ∧ d.canUnread c < (d.canStored c).getN (Obj.CAN_RX_WATERMARK c)
    ∧ (d.canStored c).getN (Obj.CAN_RX_WATERMARK c) ≤ (d.canStored c).canUnread c

/-- A frame stored, with its event where the watermark is reached. -/
def canFiled (d : Dev) (c : Nat) : Dev := if d.canMarkReached c then (d.canStored c).canEvent 170 c else d.canStored c

theorem get_canFiled {k : Nat} (hk : 0x6C1000 ≤ k ∧ k < 0x6D0000) : (d.canFiled c).get k = (d.canStored c).get k := by
  unfold canFiled
  split
  · exact get_canEvent_ne hk (by decide) _
  · rfl

theorem canStore_of_free (h : ¬ d.canRingFull c) : d.canStore c time id flags data
    = ([((d.canFiled c).canEntryAddr c (d.getN (Obj.CAN_RX_WR c)),
        canEntry time id data.length (flags + if (d.can c).lost = true then 32 else 0) (d.can c).seq data)],
      d.canFiled c) := if_neg h

variable (hc : c < 2)
include hc

/-- Storing a frame leaves the ring's place. -/
theorem canEntryAddr_canFiled (i : Nat) : (d.canFiled c).canEntryAddr c i = d.canEntryAddr c i := by
  have hbase : (d.canFiled c).getN (Obj.CAN_RX_BASE c) = d.getN (Obj.CAN_RX_BASE c) := by
    unfold getN
    rw [get_canFiled (by unfold Obj.CAN_RX_BASE; omega), canStored,
      get_setN_ne _ (by unfold Obj.CAN_RX_BASE Obj.CAN_RX_WR; omega),
      get_setCan_ne _ (by unfold Obj.CAN_RX_BASE Obj.CAN_TX_PENDING; omega)]
  rw [canEntryAddr, hbase, canEntryAddr]

theorem writes_canStore_of_free (h : ¬ d.canRingFull c) : (d.canStore c time id flags data).1
    = [(d.canEntryAddr c (d.getN (Obj.CAN_RX_WR c)),
        canEntry time id data.length (flags + if (d.can c).lost = true then 32 else 0) (d.can c).seq data)] := by
  rw [canStore_of_free h, canEntryAddr_canFiled hc]

theorem getN_rxWr_canStore_of_free (h : ¬ d.canRingFull c) :
    (d.canStore c time id flags data).2.getN (Obj.CAN_RX_WR c) = d.canRingNext c := by
  rw [canStore_of_free h]
  exact (congrArg Int.toNat (get_canFiled (by unfold Obj.CAN_RX_WR; omega))).trans (getN_setN_same _)

end Ring

/-! Arbitration (R412). -/

section Arbitration

variable {won : Bool} {t : Nat}

/-- A controller that starts no attempt. -/
abbrev canSilent (d : Dev) (c : Nat) : Prop :=
  d.canOn c = false ∨ (d.can c).attempt.isSome = true ∨ d.getN (Obj.CAN_MODE c) = 1 ∨ d.standby = true

theorem devCanArbitration_of_silent (h : d.canSilent c) : d.devCanArbitration c won t = d := if_pos h

theorem devCanArbitration_of_none (h : (if won = true then d.canNext c else none) = none) :
    d.devCanArbitration c won t = d := by
  unfold devCanArbitration
  dsimp only
  rw [h]
  exact ite_self d

theorem mode_setCan {x : CanCtl} : (d.setCan c x).getN (Obj.CAN_MODE c) = d.getN (Obj.CAN_MODE c) :=
  getN_setN_ne _ (by unfold Obj.CAN_MODE Obj.CAN_TX_PENDING; omega)

variable {r : CanReq} (h : ¬ d.canSilent c) (hr : d.canNext c = some r)
include h hr

theorem devCanArbitration_of_won : d.devCanArbitration c true t
    = if (d.setCan c { d.can c with attempt := some (r.buf, t) }).getN (Obj.CAN_MODE c) = 2 then
        d.setCan c { d.can c with attempt := some (r.buf, t) }
      else (d.setCan c { d.can c with attempt := some (r.buf, t) }).send (.can c r.id r.flags r.data) := by
  unfold devCanArbitration
  refine (if_neg h).trans ?_
  rw [if_pos rfl, hr]

end Arbitration

/-! The end of an attempt (R413, R414). -/

section AttemptEnd

variable {code : Nat} {exempt : Bool} {loop : Option Nat}

theorem devCanAttemptEnd_of_none (h : (d.can c).attempt = none) : d.devCanAttemptEnd c code exempt loop = ([], d) := by
  unfold devCanAttemptEnd
  dsimp only
  rw [h]

variable {b t : Nat} (h : (d.can c).attempt = some (b, t))
include h

theorem devCanAttemptEnd_of_gone (hb : (d.can c).reqs.find? (·.buf == b) = none) :
    d.devCanAttemptEnd c code exempt loop = ([], d.setCan c { d.can c with attempt := none }) := by
  unfold devCanAttemptEnd
  dsimp only
  rw [h]
  dsimp only
  rw [hb]

omit h

/-- The loop delay measured in a frame with a fast data phase. -/
def canDelay (r : CanReq) (loop : Option Nat) : Option Nat := if r.flags % 4 = 3 then loop else none

/-- The frame's error: a loop delay above 127 is a bit error. -/
def canError (r : CanReq) (code : Nat) (loop : Option Nat) : Nat :=
  if (canDelay r loop).any (127 < ·) then 1 else code

/-- The loop delay kept. -/
def canMeasured (d : Dev) (c : Nat) (r : CanReq) (loop : Option Nat) : Dev :=
  match canDelay r loop with
  | some n => d.setN (Obj.CAN_TDC_VALUE c) (min 255 n)
  | none => d

theorem canExempt_iff {m : Dev} {err : Nat} :
    m.canExempt c err = true ↔ err = 2 ∨ (err = 4 ∧ m.canState c = CanState.errorPassive) := by
  simp only [canExempt, Bool.or_eq_true, Bool.and_eq_true, beq_iff_eq]

/-- TEC after an attempt's end, but in the two exempt cases. -/
def canTecAfter (m : Dev) (c err : Nat) (exempt : Bool) : Nat :=
  if err = 0 then m.getN (Obj.CAN_TEC c) - 1
  else if exempt = true ∧ (err = 2 ∨ (err = 4 ∧ m.canState c = CanState.errorPassive)) then m.getN (Obj.CAN_TEC c)
  else m.getN (Obj.CAN_TEC c) + 8

/-- The module with an attempt's completion recorded and the counters' state taken. -/
def canEnded (m : Dev) (c : Nat) (r : CanReq) (t err tec : Nat) : Dev :=
  let e := (m.setN (Obj.CAN_TEC c) (min 256 tec)).canComplete c r (time96 (t * 65536))
    (if err = 0 then 0 else if 255 < tec then 3 else if err = 4 then 1 else 2) err
  (e.canCounters c tec (e.getN (Obj.CAN_REC c))).canStations c

theorem canEnd_of_silent {m : Dev} {r : CanReq} {err tec : Nat}
    (he : err ≠ 0 ∨ (m.canEnded c r t err tec).on (Obj.CAN_RX_ECHO c) = false) :
    m.canEnd c r t err tec = ([], m.canEnded c r t err tec) := by
  refine if_neg ?_
  rintro ⟨h0, hecho⟩
  exact he.elim (fun hn => hn h0) fun hn => Bool.false_ne_true (hn.symm.trans hecho)

theorem canEnd_of_echo {m : Dev} {r : CanReq} {err tec : Nat} (h0 : err = 0)
    (he : (m.canEnded c r t err tec).on (Obj.CAN_RX_ECHO c) = true) :
    m.canEnd c r t err tec = (m.canEnded c r t err tec).canStore c ((m.canEnded c r t err tec).canTime c t) r.id
      ((if r.flags.testBit 0 then 1 else 0) + (if r.flags.testBit 1 then 2 else 0) + 16) r.data := if_pos ⟨h0, he⟩

include h

theorem devCanAttemptEnd_of_pending {r : CanReq} (hb : (d.can c).reqs.find? (·.buf == b) = some r) :
    d.devCanAttemptEnd c code exempt loop = (d.canMeasured c r loop).canEnd c r t (canError r code loop)
      ((d.canMeasured c r loop).canTecAfter c (canError r code loop) exempt) := by
  unfold devCanAttemptEnd canTecAfter
  simp only [← canExempt_iff]
  rw [h]
  dsimp only
  rw [hb]
  rfl

end AttemptEnd

/-! A request that waits too long (R412). -/

section TxTimeout

variable {b : Nat}

theorem devCanTxTimeout_of_none (h : (d.can c).reqs.find? (·.buf == b) = none) : d.devCanTxTimeout c b = d := by
  unfold devCanTxTimeout
  dsimp only
  rw [h]

theorem devCanTxTimeout_of_some {r : CanReq} (h : (d.can c).reqs.find? (·.buf == b) = some r) : d.devCanTxTimeout c b
    = if (d.can c).attempt.map (·.1) = some b ∨ d.waited r.at_ (d.getN (Obj.CAN_TX_TIMEOUT c) * 1000 * nsUnit) = false then d
      else (d.canComplete c r d.now96 4 0).canStations c := by
  unfold devCanTxTimeout
  dsimp only
  rw [h]

end TxTimeout

/-! Errors of frames received (R414). -/

theorem devCanReceiveError_of_off {exception eight : Bool} (h : d.canOn c = false) :
    d.devCanReceiveError c exception eight = d := if_pos h

theorem devCanReceiveError_of_on {exception eight : Bool} (h : d.canOn c = true) : d.devCanReceiveError c exception eight
    = if exception = true then d.setCan c { d.can c with joined := false }
      else d.canCounters c (d.getN (Obj.CAN_TEC c)) (d.getN (Obj.CAN_REC c) + if eight then 8 else 1) :=
  if_neg (ne_of_eq_of_ne h Bool.noConfusion)

end Dev

/-- Settles O59: each command of the CAN controllers in the cases of its function; the indexed keys of a controller differ, so
that its counters leave its enable and its ring's count leaves the indices. -/
theorem canBus : Obligations.CanBus := by
  intro c s ht d x off tec rec0 joins
  refine ⟨fun h => yields_of_timed ht rfl (if_pos h), fun h => yields_of_timed ht rfl (if_neg h), ?_, ?_, ?_, ?_, ?_, ?_, ?_, ?_,
    ?_, ?_, ?_⟩
  · intro t id flags data
    refine ⟨fun h => yields_of_timedMem ht rfl (Dev.devCanReceived_of_off h), fun h => ⟨d.canRecLowered c,
      fun hr => Dev.canRecLowered_of_le hr, fun hr => Dev.canRecLowered_of_lt hr, ?_⟩⟩
    exact stores_of_timedMem ht rfl (Dev.devCanReceived_of_on h)
  · intro time id flags data n wr full r
    refine ⟨fun h => ⟨congrArg Prod.fst (Dev.canStore_of_full h), ?_, ?_⟩,
      fun h => ⟨Dev.writes_canStore_of_free c.isLt h, Dev.getN_rxWr_canStore_of_free c.isLt h⟩⟩
    · exact (Dev.get_canStore_of_full h (by unfold Obj.CAN_RX_LOST; omega)).trans Dev.get_rxLost_canLoses
    · exact (congrArg Int.toNat (Dev.get_canStore_of_full h (by unfold Obj.CAN_RX_WR; omega))).trans
        Dev.getN_rxWr_canLoses
  · intro silent t
    refine ⟨fun h won => yields_of_timed ht rfl (Dev.devCanArbitration_of_silent h),
      yields_of_timed ht rfl (Dev.devCanArbitration_of_none (if_neg Bool.false_ne_true)),
      fun h => yields_of_timed ht rfl (Dev.devCanArbitration_of_none ((if_pos rfl).trans h)), fun r h hr => ?_⟩
    intro e
    exact ⟨fun hm => yields_of_timed ht rfl ((Dev.devCanArbitration_of_won h hr).trans (if_pos (Dev.mode_setCan.trans hm))),
      fun hm => yields_of_timed ht rfl
        ((Dev.devCanArbitration_of_won h hr).trans (if_neg (ne_of_eq_of_ne Dev.mode_setCan hm)))⟩
  · intro code exempt loop
    refine ⟨fun h => yields_of_timedMem ht rfl (Dev.devCanAttemptEnd_of_none h),
      fun b t h hb => yields_of_timedMem ht rfl (Dev.devCanAttemptEnd_of_gone h hb), fun b t r h hb => ?_⟩
    intro delay err m old stays new status e f
    have hf : f = m.canEnded c r t err new := rfl
    have hend : d.devCanAttemptEnd c code exempt loop = m.canEnd c r t err new := Dev.devCanAttemptEnd_of_pending h hb
    clear_value f new m err
    rw [hf]
    refine ⟨fun he => yields_of_timedMem ht rfl (hend.trans (Dev.canEnd_of_silent he)), fun h0 hecho => ?_⟩
    intro bits g
    exact stores_of_timedMem ht rfl (hend.trans ((Dev.canEnd_of_echo h0 hecho).trans (Prod.mk.eta (p := g)).symm))
  · intro b
    refine ⟨fun r h => ?_, fun h => yields_of_timed ht rfl (Dev.devCanTxTimeout_of_none h)⟩
    intro past
    refine ⟨fun hp => yields_of_timed ht rfl ((Dev.devCanTxTimeout_of_some h).trans (if_neg ?_)),
      fun hp => yields_of_timed ht rfl ((Dev.devCanTxTimeout_of_some h).trans (if_pos ?_))⟩
    · rintro (hn | hn)
      · exact hp.1 hn
      · exact Bool.false_ne_true (hn.symm.trans hp.2)
    · by_contra hn
      simp only [not_or] at hn
      exact hp ⟨hn.1, Bool.eq_true_of_not_eq_false hn.2⟩
  · exact fun h ex eight => yields_of_timed ht rfl (Dev.devCanReceiveError_of_off h)
  · intro h
    exact ⟨fun eight => yields_of_timed ht rfl ((Dev.devCanReceiveError_of_on h).trans (if_pos rfl)),
      yields_of_timed ht rfl ((Dev.devCanReceiveError_of_on h).trans (if_neg Bool.false_ne_true)),
      yields_of_timed ht rfl ((Dev.devCanReceiveError_of_on h).trans (if_neg Bool.false_ne_true))⟩
  · intro t r e on
    refine ⟨fun h => Dev.canCounters_of_busOff h, fun hon h => Dev.canCounters_of_disabled hon h, fun hon h hs => ?_,
      fun hon h hr hs => ?_, fun hon h hr => ?_⟩
    · rw [Dev.canCounters_of_enabled hon h, Dev.canStateOf_passive hs]
      rfl
    · rw [Dev.canCounters_of_enabled hon (h.trans (by decide)), Dev.canStateOf_warning h hr hs]
      rfl
    · rw [Dev.canCounters_of_enabled hon (h.le.trans (by decide)), Dev.canStateOf_active h hr]
      rfl
  · exact fun st => ⟨fun h => if_pos h, fun h => if_neg h⟩
  · intro ho hr hon e
    exact yields_of_timed ht rfl (if_pos ⟨ho, hr, hon⟩)
  · intro h
    refine yields_of_timed ht rfl (if_neg ?_)
    rintro ⟨ho, hr, hon⟩
    rcases h with h | h | h
    · exact h ho
    · exact Bool.false_ne_true (h.symm.trans hr)
    · exact Bool.false_ne_true (h.symm.trans hon)

end Sys2Proof.Machine

/-! The end of BOOT, Ethernet links and the loss of clocks (R374, R425, R427, R450, R456). -/

namespace Sys2Proof.Machine

open Sys2Proof

namespace Dev

variable {d e f : Dev} {k n : Nat}

/-! The units' start leaves the status of the running image (R427, R374). -/

/-- The same firmware status. -/
def SameImage (d e : Dev) : Prop := e.get Obj.FW_STATUS = d.get Obj.FW_STATUS

namespace SameImage

theorem refl (d : Dev) : SameImage d d := rfl

theorem ite {c : Prop} [Decidable c] (h : SameImage d e) (h' : SameImage d f) : SameImage d (if c then e else f) := by
  split
  · exact h
  · exact h'

theorem foldl {α : Type} {g : Dev → α → Dev} (hg : ∀ e y, SameImage d e → SameImage d (g e y)) (l : List α)
    (h : SameImage d e) : SameImage d (l.foldl g e) := by
  induction l generalizing e with
  | nil => exact h
  | cons y l ih => exact ih (hg e y h)

theorem upTo {g : Nat → Dev → Dev} (hg : ∀ i e, SameImage d e → SameImage d (g i e)) (h : SameImage d e) :
    SameImage d (upTo n g e) := foldl (fun e i h => hg i e h) _ h

variable (h : SameImage d e)
include h

/-! Objects and events. -/

theorem set {v : Int} (hk : Obj.FW_STATUS ≠ k) : SameImage d (e.set k v) := (get_set_ne v hk).trans h

theorem setN {v : Nat} (hk : Obj.FW_STATUS ≠ k) : SameImage d (e.setN k v) := h.set hk

theorem setF {v : F32} (hk : Obj.FW_STATUS ≠ k) : SameImage d (e.setF k v) := h.set hk

theorem inc (hk : Obj.FW_STATUS ≠ k) : SameImage d (e.inc k) := h.set hk

theorem withFm {x : FmSt} : SameImage d { e with fm := x } := h

theorem withHost {x : HostSt} : SameImage d { e with host := x } := h

theorem withHeld {x : List (Nat × Held)} : SameImage d { e with held := x } := h

theorem withTide {x : TideSt} : SameImage d { e with tide := x } := h

theorem withMeas {x : MeasSt} : SameImage d { e with meas := x } := h

theorem withStb {x : StbSt} : SameImage d { e with stb := x } := h

theorem setLane {x : LaneSt} : SameImage d (e.setLane n x) := h

theorem send {o : Output} : SameImage d (e.send o) := h

theorem signal {src : Nat} : SameImage d (e.signal n src) :=
  (get_signal_ne src e (by unfold Obj.FW_STATUS Obj.EVT_COUNT; omega) (by unfold Obj.FW_STATUS Obj.EVT_LAST; omega)
    (by unfold Obj.FW_STATUS Obj.EVT_LAST_SRC; omega)).trans h

theorem signalAt {src : Nat} (hk : Obj.FW_STATUS ≠ k) : SameImage d (e.signalAt k n src) := by
  unfold Dev.signalAt
  exact (h.setN hk).signal

/-! The fault manager and the log. -/

theorem fmEvent {src : Nat} : SameImage d (e.fmEvent n src) := by
  unfold Dev.fmEvent
  exact h.signalAt (by decide)

theorem armRefresh {a : Nat} : SameImage d (e.armRefresh a) := by
  unfold Dev.armRefresh
  split
  extract_lets d1 d2 d3 d4 lim d5
  have h1 : SameImage d d1 := ite (h.set (by unfold Obj.FW_STATUS Obj.MOD_ARM_ENABLE; omega)) h
  have h2 : SameImage d d2 := h1.setN (by unfold Obj.FW_STATUS Obj.MOD_ARM_STATE; omega)
  have h3 : SameImage d d3 := ite (h2.setN (by unfold Obj.FW_STATUS Obj.MOD_BLOCK_REASON; omega)) h2
  have h4 : SameImage d d4 := ite h3 (h3.set (by unfold Obj.FW_STATUS Obj.MOD_CARRY; omega))
  have h5 : SameImage d d5 := ite (foldl (fun _ _ h => h.setN (by unfold Obj.FW_STATUS Obj.CELL_DWELL; omega)) _ h4) h4
  exact ite h1 h5.signal

theorem fmRefresh {src : Nat} : SameImage d (e.fmRefresh src) := by
  unfold Dev.fmRefresh
  extract_lets q lv arms oldLv oldArms d1 d2 d3 d4 d5
  have h3 : SameImage d d3 := ((h.setN (by decide)).setN (by decide)).setN (by decide)
  have h4 : SameImage d d4 := ite h3 h3.fmEvent
  have h5 : SameImage d d5 := ite h4 h4.fmEvent
  exact ite h5 h5.armRefresh.armRefresh

theorem storeRec {code level arms source detail : Nat} {cause : Bool} :
    SameImage d (e.storeRec code level arms source detail cause) := by
  unfold Dev.storeRec
  extract_lets d1 later before num act lv blocked names applied isFirst r lv' blocked' bump kept
  have h1 : SameImage d d1 := h.inc (by decide)
  split
  · refine fmRefresh (withFm (fmRefresh ?_))
    exact ite h1.withFm.fmEvent.fmEvent h1.withFm.fmEvent
  · refine fmRefresh (fmEvent ?_)
    have h2 : SameImage d (d1.inc Obj.FM_OVERFLOW) := h1.inc (by decide)
    exact ite ((h2.setN (by decide)).setN (by decide)) (h2.setN (by decide))

theorem logPush {r : LogRec} : SameImage d (e.logPush r) := by
  unfold Dev.logPush
  exact ite (ite ((h.withHost.setN (by decide)).withHost.signalAt (by decide)) (h.withHost.setN (by decide)))
    (h.withHost.inc (by decide))

theorem logWrite {org : Origin} {old new : Val} : SameImage d (e.logWrite org k old new) := by
  unfold Dev.logWrite
  exact h.logPush

theorem putVal {x : Val} (hk : Obj.FW_STATUS ≠ k) : SameImage d (e.putVal k x) := by
  cases x with
  | num x => exact h.set hk
  | bytes b => exact h

theorem applyHeld (ks : List Nat) (hks : Obj.FW_STATUS ∉ ks) : SameImage d (e.applyHeld ks) := by
  induction ks generalizing e with
  | nil => exact h
  | cons k ks ih =>
    have hks' : Obj.FW_STATUS ∉ ks := fun hm => hks (List.mem_cons_of_mem k hm)
    unfold Dev.applyHeld
    split
    · exact ih h hks'
    · exact ih (h.withHeld.putVal (List.ne_of_not_mem_cons hks)).logWrite hks'

/-! The units. -/

theorem fillRefresh {l : Nat} : SameImage d (e.fillRefresh l) := by
  unfold Dev.fillRefresh
  exact ite h h.setLane.send

theorem setLaneState {l st : Nat} : SameImage d (e.setLaneState l st) := by
  unfold Dev.setLaneState
  extract_lets d1 s
  have h1 : SameImage d d1 := (h.setN (by unfold Obj.FW_STATUS Obj.LANE_STATE; omega)).setLane.fillRefresh
  exact ite h (ite h1.signal.storeRec h1)

theorem laneRefresh {l : Nat} : SameImage d (e.laneRefresh l) := by
  have hkeys : Obj.FW_STATUS ∉ laneHeldKeys l := by
    unfold laneHeldKeys Obj.FW_STATUS Obj.LANE_TX_SWING Obj.LANE_TX_PREEMPH Obj.LANE_RX_CTLE Obj.LANE_TX_INVERT
    simp only [List.mem_cons, List.not_mem_nil, or_false]
    omega
  unfold Dev.laneRefresh
  refine fillRefresh (ite h.setLaneState (ite ?_ (ite h.setLane.setLaneState (ite h h.setLane))))
  exact (h.applyHeld _ hkeys).setLane.setLaneState

theorem portStates : SameImage d e.portStates := by
  unfold Dev.portStates
  exact foldl (fun _ _ h => h.setN (by unfold Obj.FW_STATUS Obj.PTP_PORT_STATE; omega)) _ h

theorem portLatency {q : Nat} : SameImage d (e.portLatency q) := by
  unfold Dev.portLatency
  exact (h.setF (by unfold Obj.FW_STATUS Obj.PTP_PORT_INT_TX; omega)).setF
    (by unfold Obj.FW_STATUS Obj.PTP_PORT_INT_RX; omega)

theorem startCores : SameImage d e.startCores := by
  unfold Dev.startCores
  exact foldl (fun _ _ h => (h.setN (by unfold Obj.FW_STATUS Obj.CORE_STATE; omega)).withStb) _ h

theorem setDiag {u : Nat} {x : DiagSt} : SameImage d (e.setDiag u x) := by
  unfold Dev.setDiag
  refine setN (ite h.withMeas h.withMeas) ?_
  split <;> decide

theorem diagStart {u : Nat} : SameImage d (e.diagStart u) := by
  unfold Dev.diagStart
  split
  · exact h
  · split
    · exact h
    · exact h.setDiag.setDiag

theorem tpRefresh : SameImage d e.tpRefresh := by
  unfold Dev.tpRefresh
  exact (foldl (fun _ _ h => h.setN (by unfold Obj.FW_STATUS Obj.TP_CAPACITY; omega)) _ h).setN (by decide)

theorem fastCodeOf {c : Nat} {diff : Bool} {v : F32} : SameImage d (e.fastCodeOf c diff v).2 := by
  unfold Dev.fastCodeOf
  extract_lets x q
  split
  · exact h
  · exact h

theorem tpConvert {p c : Nat} : SameImage d (e.tpConvert p c) := by
  unfold Dev.tpConvert
  extract_lets n ch diff
  split
  · exact h
  · exact h.fastCodeOf.fastCodeOf.fastCodeOf.withTide

theorem startUnits : SameImage d e.startUnits := by
  unfold Dev.startUnits
  extract_lets d1 d2 d3
  have h1 : SameImage d d1 := ite h (h.setN (by decide))
  have h2 : SameImage d d2 := (upTo (fun _ _ h => h.laneRefresh) h1).portStates
  have h3 : SameImage d d3 := upTo (fun _ _ h => h.portLatency) h2
  exact upTo (fun _ _ h => h.tpConvert) h3.startCores.diagStart.diagStart.tpRefresh

end SameImage

theorem fwStatus_startUnits (d : Dev) : d.startUnits.getN Obj.FW_STATUS = d.getN Obj.FW_STATUS :=
  congrArg Int.toNat (SameImage.refl d).startUnits

/-! The end of BOOT (R427). -/

section BootComplete

variable {slotOk rtcValid : Bool} {test rtc ms : Nat}

/-- What keeps the module as it is: it is not in BOOT, TEST holds it, or both slots failed twice. -/
abbrev bootStays (d : Dev) : Prop := d.mode ≠ Mode.boot ∨ d.bit Obj.ID_STRAPS 2 = true ∨ 4 ≤ d.host.fwFails

theorem devBootComplete_of_stays (h : d.bootStays) : d.devBootComplete slotOk test rtcValid rtc ms = d := if_pos h

variable (h : ¬ d.bootStays)
include h

theorem devBootComplete_of_fails (hf : slotOk = false ∨ fatalTest (test % 1024) = true) :
    d.devBootComplete slotOk test rtcValid rtc ms = d.bootFails (test % 1024) := (if_neg h).trans (if_pos hf)

omit h

/-- The time of the boot passed, and what was found of the image and the self-test kept. -/
def bootReported (d : Dev) (t ms : Nat) : Dev :=
  let a := d.pass (ms * 1000000 * nsUnit)
  let b : Dev := { a with host := { a.host with fwFails := 0, tFw := a.tm.mono } }
  let e := (b.setN Obj.SYS_SELFTEST t).setN Obj.SYS_BOOT_TIME ms
  let f := e.setBlob Obj.FW_VERSION ((Config.imageText e.fwRunning.image).take 16)
  if t = 0 then f else f.storeRec 0x010A 2 0 (noSource 0x010A) t false

/-- The time base, the stored configuration and the held values taken up. -/
def bootLoaded (d : Dev) (t : Nat) (rtcValid : Bool) (rtc : Nat) : Dev :=
  let g := d.endClock.loadTime rtcValid rtc
  let h := if g.host.stored = true ∧ t.testBit 3 = false then g.loadConfig else g
  h.applyHeld (h.held.map (·.1))

/-- The units started and the start logged. -/
def bootStarted (d : Dev) : Dev := d.startUnits.logNote 5 (d.getN Obj.FW_STATUS) Origin.module

theorem bootStarted_eq (d : Dev) : d.bootStarted = d.startUnits.logNote 5 (d.startUnits.getN Obj.FW_STATUS) Origin.module := by
  rw [fwStatus_startUnits, bootStarted]

include h

theorem devBootComplete_of_ok (hf : ¬ (slotOk = false ∨ fatalTest (test % 1024) = true)) :
    d.devBootComplete slotOk test rtcValid rtc ms
      = (((d.bootReported (test % 1024) ms).bootLoaded (test % 1024) rtcValid rtc).bootStarted).leaveBoot :=
  (if_neg h).trans (if_neg hf)

end BootComplete

/-! A boot that fails (R374, R427). -/

section BootFails

variable {t : Nat}

theorem bootFails_of_first (h : d.host.fwFails = 0 ∨ d.host.fwFails = 2) : d.bootFails t
    = ({ (d.resetDev (d.getN Obj.SYS_RESET_CAUSE)).setN Obj.FW_STATUS (d.getN Obj.FW_STATUS) with
        host := { ((d.resetDev (d.getN Obj.SYS_RESET_CAUSE)).setN Obj.FW_STATUS (d.getN Obj.FW_STATUS)).host with
          fwFails := d.host.fwFails + 1 } } : Dev).setN Obj.SYS_SELFTEST t :=
  (if_neg (by omega)).trans (if_pos (by omega))

/-- The other slot taken after the second failure. -/
def bootOther (d : Dev) : Dev :=
  let r := d.resetDev ResetCause.firmware
  (r.setN Obj.FW_SLOT (1 - r.getN Obj.FW_SLOT)).fwResult 4 (1 - r.getN Obj.FW_SLOT) Origin.module

theorem bootFails_of_second (h : d.host.fwFails = 1) : d.bootFails t
    = ({ d.bootOther with host := { d.bootOther.host with fwFails := 2 } } : Dev).setN Obj.SYS_SELFTEST t := by
  unfold bootFails
  rw [h]
  exact if_pos rfl

end BootFails

/-! Leaving BOOT (R425). -/

section LeaveBoot

/-- Breakwater is latched by more than SELF. -/
abbrev bwHolds (d : Dev) : Prop := d.on Obj.BW_STATE = true ∧ d.getN Obj.BW_LATCHED % 32768 ≠ 0

/-- The pending trip of the boot taken note of. -/
def bootTripTaken (d : Dev) : Dev := { d with fm := { d.fm with bootL4 := false } }

/-- The record of a lock-out kept over the reset. -/
def lockoutNoted (d : Dev) : Dev := d.storeRec 0x010B 4 0 (noSource 0x010B) 0 false

theorem leaveBoot_eq (d : Dev) : d.leaveBoot
    = if d.fm.nvLockout = true ∨ d.fm.bootL4 = true ∨ d.bwHolds then
        (if d.fm.nvLockout = true ∧ d.fm.bootL4 = false then d.lockoutNoted else d).bootTripTaken.enterLockout
      else (if d.fm.nvLockout = true ∧ d.fm.bootL4 = false then d.lockoutNoted else d).bootTripTaken.setMode Mode.config := rfl

theorem leaveBoot_of_clear (hn : d.fm.nvLockout = false) (ht : d.fm.bootL4 = false) (hb : ¬ d.bwHolds) :
    d.leaveBoot = d.bootTripTaken.setMode Mode.config := by
  have hn' : ¬ d.fm.nvLockout = true := Bool.eq_false_iff.mp hn
  rw [leaveBoot_eq, if_neg (not_or.mpr ⟨hn', not_or.mpr ⟨Bool.eq_false_iff.mp ht, hb⟩⟩), if_neg fun h => hn' h.1]

theorem leaveBoot_of_trip (hn : d.fm.nvLockout = false) (h : d.fm.bootL4 = true ∨ d.bwHolds) :
    d.leaveBoot = d.bootTripTaken.enterLockout := by
  rw [leaveBoot_eq, if_pos (.inr h), if_neg fun h => Bool.eq_false_iff.mp hn h.1]

theorem leaveBoot_of_pending_trip (hn : d.fm.nvLockout = true) (ht : d.fm.bootL4 = true) :
    d.leaveBoot = d.bootTripTaken.enterLockout := by
  rw [leaveBoot_eq, if_pos (.inl hn), if_neg fun h => Bool.eq_false_iff.mp h.2 ht]

theorem leaveBoot_of_pending (hn : d.fm.nvLockout = true) (ht : d.fm.bootL4 = false) :
    d.leaveBoot = d.lockoutNoted.bootTripTaken.enterLockout := by
  rw [leaveBoot_eq, if_pos (.inl hn), if_pos ⟨hn, ht⟩]

end LeaveBoot

/-! The clocks (R456). -/

/-- REFCLK gone and the quads unlocked. -/
def quadsUnlocked (d : Dev) : Dev :=
  upTo 8 (fun q d => d.devQuadUnlock q) { d with tm := { d.tm with refclk := false } }

theorem devRefclkLoss_of_running (h : d.tm.refclk = true) : d.devRefclkLoss
    = if d.quadsUnlocked.mode = Mode.boot then d.quadsUnlocked else d.quadsUnlocked.guardCycle true :=
  if_neg (ne_of_eq_of_ne h Bool.noConfusion)

end Dev

/-- Settles O60: each command of the boot, the links and the clocks in the cases of its function; the units' start leaves the
firmware status that is logged after it. -/
theorem bootAndClocks : Obligations.BootAndClocks := by
  intro s d
  refine ⟨fun ok test valid rtc ms => ?_, ?_, fun t h => Dev.bootFails_of_first h, fun t h => Dev.bootFails_of_second h,
    fun q up verified => yields_of_run rfl rfl, fun h => ⟨?_, ?_⟩, fun h => ⟨?_, ?_⟩, fun h => ⟨?_, ?_⟩, fun h => ⟨?_, ?_⟩⟩
  · intro c t stays fails
    refine ⟨fun h => yields_of_run rfl (Dev.devBootComplete_of_stays h),
      fun h hf => yields_of_run rfl (Dev.devBootComplete_of_fails h hf), fun h hf => ?_⟩
    refine yields_of_run rfl ((Dev.devBootComplete_of_ok h hf).trans ?_)
    rw [Dev.bootStarted_eq]
    rfl
  · intro m latched
    exact ⟨fun hn ht hb => Dev.leaveBoot_of_clear hn ht hb, fun hn h => Dev.leaveBoot_of_trip hn h,
      fun hn ht => Dev.leaveBoot_of_pending_trip hn ht, fun hn ht => Dev.leaveBoot_of_pending hn ht⟩
  · exact yields_of_run rfl (if_pos h)
  · exact yields_of_run rfl (if_neg (Bool.eq_false_iff.mp h))
  · exact yields_of_run rfl (if_pos h)
  · intro e
    exact ⟨fun hm => yields_of_run rfl ((Dev.devRefclkLoss_of_running h).trans (if_pos hm)),
      fun hm => yields_of_run rfl ((Dev.devRefclkLoss_of_running h).trans (if_neg hm))⟩
  · exact yields_of_run rfl (if_pos h)
  · exact yields_of_run rfl (if_neg (Bool.eq_false_iff.mp h))
  · exact yields_of_run rfl (if_pos h)
  · exact yields_of_run rfl (if_neg (ne_of_eq_of_ne h Bool.noConfusion))

end Sys2Proof.Machine
